-- ==== Sys2Proof/Word.lean ====
section
/-! DEFINITION. Word.lean: the word types of the part and their plainest arithmetic (02 R34, 03 R78). -/

namespace Sys2Proof

/-- A byte, the unit of every address space (00 R5). -/
abbrev Byte := BitVec 8
/-- One 32-bit slot word of a folio (02 R34). -/
abbrev SlotWord := BitVec 32
/-- A scalar register's 64 bits (04 R105). -/
abbrev Word := BitVec 64

end Sys2Proof
end

