-- ==== Sys2Proof/Config.lean ====
section
/-! DEFINITION. Config.lean: what the spec leaves open. Each is a constant without a body, applied to the counter of
free values that the state holds (log 5), so nothing can be proved of any value. -/

namespace Sys2Proof

/-- A length of time that no rule architects, in cycles: walks (14 R430), instruction fills (04 R133), sampling and
return of a load (05 R150), interposer paths beside those of 11 Table 11.2, engine operand fetch (08 R222), hydration
(09 R271), transfers (08 R244), copies (10 R320), fabric round trips above their floor (13 R390), managed operations
(14 R435, R445). -/
opaque Config.delay : Nat → Nat

/-- A choice among outcomes that the spec lists: placement among equal instances (12 R367), an effect that leaves a
hold during a purge (14 R441). -/
opaque Config.choice : Nat → Nat

/-- The set of an LLC slice that a line belongs to: a hash that no rule gives (01 Table 1.1). -/
opaque Config.llcSet : Nat → Nat

/-- The waiter records that an engine's SRAM and an overflow area of so many MiB hold: no rule gives their size (11 R335). -/
opaque Config.waiters : Nat → Nat

/-- A byte that the spec does not fix: signatures (15 R454), firmware outcomes. -/
opaque Config.byte : Nat → Byte

/-- Whether a firmware image, as staged, carries the signature that the fused key verifies, and its SHAKE-256 digest (15 R453,
R454): which images do is open. -/
opaque Config.signed : List (Nat × Byte) → Bool
opaque Config.digest : List (Nat × Byte) → Nat → Byte

/-- The public key of the part's device identity, byte by byte (15 R454). -/
opaque Config.deviceKey : Nat → Byte

/-- The sensor reading of a stack, or of the dies at 16, in a wall cycle, in whole degrees Celsius (15 R460). -/
opaque Config.temp : Nat → Nat → Byte

end Sys2Proof
end

