-- ==== Sys2Proof/Syntax.lean ====
section
/-! DEFINITION. Syntax.lean: the instructions and events of spec/opcode_table.json, one constructor per row. An
instruction carries the fields of its words as 02 R45 to R47 lay them out; an event carries what it names. -/

namespace Sys2Proof

/-- The fields of a format A first word above LEN and OPC (02 Table 2.2). -/
structure FA where
  fn : BitVec 4
  b : BitVec 6
  a : BitVec 6
  d : BitVec 6
  deriving DecidableEq, Repr

/-- The fields of a format B first word above LEN and OPC (02 Table 2.2). -/
structure FB where
  imm : BitVec 10
  a : BitVec 6
  d : BitVec 6
  deriving DecidableEq, Repr

/-- The fields of a format C first word above LEN and OPC (02 Table 2.2). -/
structure FC where
  imm : BitVec 16
  d : BitVec 6
  deriving DecidableEq, Repr

/-- The fields of a format D first word above LEN and OPC (02 Table 2.2). -/
structure FD where
  disp : BitVec 17
  neg : BitVec 1
  p : BitVec 4
  deriving DecidableEq, Repr

/-- The fields of a format E first word above LEN and OPC (02 Table 2.2). -/
structure FE where
  misc : BitVec 22
  deriving DecidableEq, Repr

/-- The fields of a format V first word above LEN and OPC (02 Table 2.2). -/
structure FV where
  ty : BitVec 4
  vb : BitVec 6
  va : BitVec 6
  vd : BitVec 6
  deriving DecidableEq, Repr

/-- The vector word (02 R47). -/
structure VW where
  tok : BitVec 12
  vc : BitVec 6
  mask : BitVec 4
  ty2 : BitVec 4
  rm : BitVec 3
  sat : BitVec 1
  perm : BitVec 1
  stgen : BitVec 1
  deriving DecidableEq, Repr

/-- The engine word (02 R47). -/
structure EW where
  tok : BitVec 12
  scope : BitVec 3
  cls : BitVec 4
  xop : BitVec 13
  deriving DecidableEq, Repr

/-- The memory word (02 R47). -/
structure MW where
  cls : BitVec 4
  scope : BitVec 3
  land : BitVec 13
  space : BitVec 2
  offext : BitVec 10
  deriving DecidableEq, Repr

/-- The vector word of a 32-bit vector instruction (02 R51). -/
def VW.plain : VW := { tok := 0xFFF, vc := 0, mask := 0, ty2 := 0, rm := 0, sat := 0, perm := 0, stgen := 0 }

/-- The agent that makes a write: its level (14 R413), its DOMAIN, and whether it is the host (15 R450). -/
structure Agent where
  level : BitVec 2
  domain : BitVec 6
  host : Bool
  deriving DecidableEq, Repr

/-- The arithmetic freeze domains of 01 R23. -/
inductive FreezeDomain where
  | core (k : BitVec 7)
  | matrix (q : BitVec 5)
  | stack (s : BitVec 4)
  deriving DecidableEq, Repr

/-- What a fabric request does at its target (13 Table 13.4, R406). -/
inductive FabOp where
  | read (size : Nat)                                   -- PLD
  | write                                               -- PST, block PST, PFENCE flag
  | atomic (op : BitVec 8) (fn : BitVec 4) (cmp : BitVec 64)  -- PFAA, PCAS, PRED as the opcode of Table 11.3
  | counted (acc : Bool) (red : BitVec 4)               -- a collective's counted granule
  deriving DecidableEq, Repr

/-- A fabric request at a port logic (13 R389, R392, R393); `block`: of a piece of a block, the offset and length of the whole
(R396). -/
structure FabReq where
  origin : BitVec 8
  target : BitVec 8
  txn : Nat
  off : BitVec 42
  op : FabOp
  data : List (BitVec 8)
  blots : List Bool                                     -- by 64-byte granule of the data
  block : Option (Nat × Nat) := none
  deriving DecidableEq, Repr

/-- The answer to one of this package's fabric requests (13 R388, R401). -/
inductive FabAns where
  | done (data : List (BitVec 8)) (blot : Bool)
  | refused                                             -- the target's check failed: PERMISSION, remote
  | unreachable                                         -- negative acknowledgement: PEER_UNREACHABLE, remote
  deriving DecidableEq, Repr

structure FabRep where
  target : BitVec 8
  txn : Nat
  ans : FabAns
  deriving DecidableEq, Repr

/-- One constructor per row of spec/opcode_table.json. -/
inductive Instr where
  /-- GROUP_DISPATCH (R44) -/
  | groupDispatch
  /-- ICACHE_FILL (R133) -/
  | icacheFill
  /-- RESULT_WRITE (R62) -/
  | resultWrite
  /-- LANDING (R150) -/
  | landing
  /-- LATE_DATA_FREEZE (R26) -/
  | lateDataFreeze
  /-- LATE_DATA_ARRIVAL (R25) -/
  | lateDataArrival
  /-- STALL (R26) -/
  | lateStall
  /-- M_STALL (R252) -/
  | mStall
  /-- B_STALL (R292) -/
  | bStall
  /-- C_STALL (R326) -/
  | cStall
  /-- EGRESS_RELEASE (R174) -/
  | egressRelease
  /-- SIGNAL_GIVEN (R157) -/
  | signalGiven
  /-- TRAP_DELIVERY (R417) -/
  | trapDelivery
  /-- WFI_TIMEOUT (R426) -/
  | wfiTimeout
  /-- SLOT_CLEAR_DONE (R219) -/
  | slotClearDone
  /-- MATRIX_STEP (R222) -/
  | matrixStep
  /-- ROW_BLOCK_WRITE (R229) -/
  | rowBlockWrite
  /-- DRAIN_START (R235) -/
  | drainStart
  /-- DRAIN_ROW (R235) -/
  | drainRow
  /-- MLOAD_ROW_WRITE (R244) -/
  | mloadRowWrite
  /-- STRIKE_MATRIX (R253) -/
  | strikeMatrix
  /-- COPY_PIECE (R302) -/
  | copyPiece
  /-- COPY_END (R298) -/
  | copyEnd
  /-- GRANULE_LANDING (R322) -/
  | granuleLanding
  /-- MACRO_ARRIVAL (R271) -/
  | macroArrival (stack : BitVec 4)
  /-- MACRO_COMMIT (R271) -/
  | macroCommit (stack : BitVec 4)
  /-- PRODUCT_OUTPUT (R272) -/
  | productOutput
  /-- HYDRATION_COMPLETE (R265) -/
  | hydrationComplete (stack : BitVec 4) (entry : BitVec 8)
  /-- REFRESH (R270) -/
  | refresh (stack : BitVec 4) (lane : BitVec 8)
  /-- REFRESH_PERIOD_CHANGE (R270) -/
  | refreshPeriodChange (stack : BitVec 4)
  /-- STRIKE_LANE (R293) -/
  | strikeLane (stack : BitVec 4)
  /-- LLC_ACCEPT (R146) -/
  | llcAccept
  /-- PAGE_WALK (R428) -/
  | pageWalk
  /-- SYNC_REQUEST_APPLY (R341) -/
  | syncRequestApply
  /-- BARRIER_ARRIVAL (R346) -/
  | barrierArrival
  /-- JOIN_ARRIVAL (R354) -/
  | joinArrival
  /-- QUERY_REPLY (R351) -/
  | queryReply
  /-- POD_PHASE_READY (R412) -/
  | podPhaseReady (pkg : BitVec 8) (b : BitVec 4)
  /-- BCFG_WRITE (R348) -/
  | bcfgWrite (pod : Bool) (b : BitVec 6) (v : BitVec 64)
  /-- BCFG_FLT (R348) -/
  | bcfgFlt (pod : Bool) (b : BitVec 6)
  /-- BCFG_CLR (R348) -/
  | bcfgClr (pod : Bool) (b : BitVec 6)
  /-- SYNC_OVF_WRITE (R335) -/
  | syncOvfWrite (q : BitVec 2) (v : BitVec 64)
  /-- NODE_COMMIT (R365) -/
  | nodeCommit (slot : BitVec 14) (src : Agent)
  /-- NODE_DISPATCH (R369) -/
  | nodeDispatch
  /-- STRAND_START (R30) -/
  | strandStart
  /-- NODE_AGING (R368) -/
  | nodeAging (h : BitVec 14)
  /-- NODE_COMPLETE (R31) -/
  | nodeComplete (h : BitVec 14)
  /-- PREEMPTION_REQUEST (R380) -/
  | preemptionRequest (h : BitVec 14) (strand : BitVec 5)
  /-- PREEMPTION (R381) -/
  | preemption
  /-- STRAND_RESUME (R382) -/
  | strandResume
  /-- SUSPEND_WAKE (R375) -/
  | suspendWake (h : BitVec 14) (strand : BitVec 5)
  /-- STRIKE (R437) -/
  | strikeCore
  /-- CHIPLET_LOSS (R16) -/
  | chipletLoss (socket : BitVec 5)
  /-- DRAWER_RETRAIN (R326) -/
  | drawerRetrain (ch : BitVec 7)
  /-- RETRAIN_DONE (R326) -/
  | retrainDone (ch : BitVec 7)
  /-- DUCTUS_TABLE_WRITE (R320) -/
  | ductusTableWrite (ch : BitVec 7) (s : BitVec 6) (v : BitVec 32)
  /-- FRAME_BOUNDARY (R320) -/
  | frameBoundary (ch : BitVec 7)
  /-- KEY_SLOT_WRITE (R465) -/
  | keySlotWrite (k : BitVec 6) (dw : BitVec 3) (v : BitVec 64)
  /-- FABRIC_REQUEST (R393) -/
  | fabricRequest (r : FabReq)
  /-- FABRIC_REPLY (R397) -/
  | fabricReply (r : FabRep)
  /-- FRAME_REPLAY (R387) -/
  | frameReplay (port : BitVec 4)
  /-- PEER_RETRAIN (R387) -/
  | peerRetrain (port : BitVec 4)
  /-- RUN_START (R404) -/
  | runStart (q : BitVec 2)
  /-- SEND (R405) -/
  | collSend (q : BitVec 2)
  /-- RECV (R405) -/
  | collRecv (q : BitVec 2)
  /-- RRS (R405) -/
  | collRrs (q : BitVec 2)
  /-- COPY (R405) -/
  | collCopy (q : BitVec 2)
  /-- WAIT (R405) -/
  | collWait (q : BitVec 2)
  /-- COLLECTIVE_LOOP (R405) -/
  | collLoop (q : BitVec 2)
  /-- END (R405) -/
  | collEnd (q : BitVec 2)
  /-- COUNTED_WRITE (R406) -/
  | countedWrite (r : FabReq)
  /-- ABORT (R409) -/
  | collAbort (cid : BitVec 16)
  /-- POWER_GOOD (R453) -/
  | powerGood
  /-- SETREADY (R453) -/
  | setready
  /-- PACKAGE_RESET (R33) -/
  | packageReset
  /-- HOST_WRITE (R449) -/
  | hostWrite (bar2 : Bool) (off : BitVec 36) (bytes : List (BitVec 8))
  /-- HOST_READ (R449) -/
  | hostRead (bar2 : Bool) (off : BitVec 36) (size : BitVec 13)
  /-- GO (R455) -/
  | ckptGo
  /-- CHECKPOINT_COMPLETE (R455) -/
  | ckptComplete
  /-- RESTORE (R458) -/
  | ckptRestore
  /-- RESTORE_COMPLETE (R458) -/
  | ckptRestoreComplete
  /-- WAKE_WORD_WRITE (R426) -/
  | wakeWordWrite (core : BitVec 7) (v : BitVec 64)
  /-- FUNC_MODE_WRITE (R452) -/
  | funcModeWrite (v : BitVec 64)
  /-- SERVICE_REPLY (R462) -/
  | serviceReply (seq : BitVec 32) (status : BitVec 8) (res : BitVec 192)
  /-- SERVICE_RING_CONS_WRITE (R462) -/
  | serviceRingConsWrite (v : BitVec 64)
  /-- TRIAGE_TAIL_WRITE (R463) -/
  | triageTailWrite (v : BitVec 64)
  /-- RESET_REPORT_TAIL_WRITE (R464) -/
  | resetReportTailWrite (v : BitVec 64)
  /-- ATTESTATION (R454) -/
  | attestation (nonce : BitVec 256)
  /-- D3HOT_ENTRY (R448) -/
  | d3hotEntry
  /-- D0_ENTRY (R448) -/
  | d0Entry
  /-- SYSTEM_BLOCK_WRITE (R450) -/
  | systemBlockWrite (off : BitVec 28) (v : BitVec 64) (src : Agent)
  /-- FREEZE_ASSERT (R447) -/
  | freezeAssert
  /-- FREEZE_RELEASE (R447) -/
  | freezeRelease
  /-- THROTTLE (R459) -/
  | throttle (dom : FreezeDomain)
  /-- HOT_SET (R460) -/
  | hotSet (stack : BitVec 4)
  /-- HOT_CLEAR (R460) -/
  | hotClear (stack : BitVec 4)
  /-- OVERTEMP_RESET (R460) -/
  | overtempReset
  /-- PEER_PORT_TRAINED (R387) -/
  | peerPortTrained (port : BitVec 4)
  /-- MACRO_END (R271) -/
  | macroEnd (stack : BitVec 4)
  /-- NOP (R128) -/
  | nop (w : FE)
  /-- BR (R124) -/
  | br (w : FD)
  /-- BRC (R124) -/
  | brc (w : FD)
  /-- CALL (R124) -/
  | call (w : FD)
  /-- CALLI (R125) -/
  | calli (w : FA)
  /-- RET (R125) -/
  | ret (w : FE)
  /-- JMPI (R125) -/
  | jmpi (w : FA)
  /-- LOOP (R130) -/
  | loop (w : FD)
  /-- LOOPSET (R129) -/
  | loopset (w : FB)
  /-- EXIT (R373) -/
  | exit (w : FE)
  /-- YIELD (R374) -/
  | yield (w : FE)
  /-- SUSPEND (R375) -/
  | suspend (w : FE)
  /-- SEAL (R376) -/
  | seal (w : FE)
  /-- TRAP (R424) -/
  | trap (w : FE)
  /-- BRK (R424) -/
  | brk (w : FE)
  /-- ADD (R107) -/
  | add (w : FA)
  /-- SUB (R107) -/
  | sub (w : FA)
  /-- MUL (R107) -/
  | mul (w : FA)
  /-- MULH (R107) -/
  | mulh (w : FA)
  /-- MULHN (R107) -/
  | mulhn (w : FA)
  /-- DIV (R110) -/
  | div (w : FA)
  /-- DIVN (R110) -/
  | divn (w : FA)
  /-- REM (R110) -/
  | rem (w : FA)
  /-- REMN (R110) -/
  | remn (w : FA)
  /-- AND (R107) -/
  | and (w : FA)
  /-- OR (R107) -/
  | or (w : FA)
  /-- XOR (R107) -/
  | xor (w : FA)
  /-- ANDN (R107) -/
  | andn (w : FA)
  /-- SHL (R109) -/
  | shl (w : FA)
  /-- SHR (R109) -/
  | shr (w : FA)
  /-- SHA (R109) -/
  | sha (w : FA)
  /-- ROT (R107) -/
  | rot (w : FA)
  /-- MIN (R107) -/
  | min (w : FA)
  /-- MAX (R107) -/
  | max (w : FA)
  /-- MINN (R107) -/
  | minn (w : FA)
  /-- MAXN (R107) -/
  | maxn (w : FA)
  /-- CLZ (R107) -/
  | clz (w : FA)
  /-- CTZ (R107) -/
  | ctz (w : FA)
  /-- POPC (R107) -/
  | popc (w : FA)
  /-- EXT (R111) -/
  | ext (w : FA)
  /-- EXTN (R111) -/
  | extn (w : FA)
  /-- INS (R111) -/
  | ins (w : FA)
  /-- SEL (R112) -/
  | sel (w : FA)
  /-- LEA (R112) -/
  | lea (w : FA)
  /-- CMP (R113) -/
  | cmp (w : FA)
  /-- MOVI (R114) -/
  | movi (w : FC)
  /-- MOVL (R114) -/
  | movl (w : FC) (l : BitVec 32)
  /-- MOVL_HI (R114) -/
  | movlHi (w : FC) (l : BitVec 32)
  /-- MOVHI (R114) -/
  | movhi (w : FC)
  /-- ADDI (R115) -/
  | addi (w : FB)
  /-- MULI (R115) -/
  | muli (w : FB)
  /-- ANDI (R115) -/
  | andi (w : FB)
  /-- ORI (R115) -/
  | ori (w : FB)
  /-- XORI (R115) -/
  | xori (w : FB)
  /-- SHLI (R115) -/
  | shli (w : FB)
  /-- SHRI (R115) -/
  | shri (w : FB)
  /-- SHAI (R115) -/
  | shai (w : FB)
  /-- CMPI (R116) -/
  | cmpi (w : FB)
  /-- PAND (R117) -/
  | pand (w : FA)
  /-- POR (R117) -/
  | por (w : FA)
  /-- PXOR (R117) -/
  | pxor (w : FA)
  /-- MOVP_FROM_P (R118) -/
  | movpFromP (w : FA)
  /-- MOVP_TO_P (R118) -/
  | movpToP (w : FA)
  /-- MOVP_TO_B (R118) -/
  | movpToB (w : FA)
  /-- MOVP_FROM_B (R118) -/
  | movpFromB (w : FA)
  /-- MOVP_TO_K (R118) -/
  | movpToK (w : FA)
  /-- MOVP_FROM_K (R118) -/
  | movpFromK (w : FA)
  /-- MOVP_FROM_LC (R118) -/
  | movpFromLc (w : FA)
  /-- MOVP_K_TO_P (R118) -/
  | movpKToP (w : FA)
  /-- FADD (R119) -/
  | fadd (w : FA)
  /-- FSUB (R119) -/
  | fsub (w : FA)
  /-- FMUL (R119) -/
  | fmul (w : FA)
  /-- FFMA (R119) -/
  | ffma (w : FA)
  /-- FDIV (R119) -/
  | fdiv (w : FA)
  /-- FSQRT (R119) -/
  | fsqrt (w : FA)
  /-- FMIN (R97) -/
  | fmin (w : FA)
  /-- FMAX (R97) -/
  | fmax (w : FA)
  /-- FABS (R120) -/
  | fabs (w : FA)
  /-- FNEG (R120) -/
  | fneg (w : FA)
  /-- FCMP (R121) -/
  | fcmp (w : FA)
  /-- FCVTI (R122) -/
  | fcvti (w : FA)
  /-- ICVTF (R122) -/
  | icvtf (w : FA)
  /-- LD (R154) -/
  | ld (w : FB) (m : MW)
  /-- ST (R154) -/
  | st (w : FB) (m : MW)
  /-- LDS (R154) -/
  | lds (w : FB) (m : MW)
  /-- STS (R154) -/
  | sts (w : FB) (m : MW)
  /-- FENCE (R161) -/
  | fence (w : FC)
  /-- WAITW (R356) -/
  | waitw (w : FB) (m : MW)
  /-- LREC (R310) -/
  | lrec (w : FB) (m : MW)
  /-- TKWAIT (R159) -/
  | tkwait (w : FE)
  /-- TKSIG (R158) -/
  | tksig (w : FE)
  /-- AADD (R341) -/
  | aadd (w : FA) (m : MW)
  /-- AAND (R341) -/
  | aand (w : FA) (m : MW)
  /-- AOR (R341) -/
  | aor (w : FA) (m : MW)
  /-- AXOR (R341) -/
  | axor (w : FA) (m : MW)
  /-- AMIN (R341) -/
  | amin (w : FA) (m : MW)
  /-- AMAX (R341) -/
  | amax (w : FA) (m : MW)
  /-- AMINN (R341) -/
  | aminn (w : FA) (m : MW)
  /-- AMAXN (R341) -/
  | amaxn (w : FA) (m : MW)
  /-- ASWP (R341) -/
  | aswp (w : FA) (m : MW)
  /-- ACAS (R341) -/
  | acas (w : FA) (m : MW)
  /-- AFADD (R342) -/
  | afadd (w : FA) (m : MW)
  /-- AINC (R341) -/
  | ainc (w : FA) (m : MW)
  /-- RADD (R344) -/
  | radd (w : FA) (m : MW)
  /-- RAND (R344) -/
  | rand (w : FA) (m : MW)
  /-- ROR (R344) -/
  | ror (w : FA) (m : MW)
  /-- RXOR (R344) -/
  | rxor (w : FA) (m : MW)
  /-- RMIN (R344) -/
  | rmin (w : FA) (m : MW)
  /-- RMAX (R344) -/
  | rmax (w : FA) (m : MW)
  /-- RFADD (R342) -/
  | rfadd (w : FA) (m : MW)
  /-- RBFADD (R342) -/
  | rbfadd (w : FA) (m : MW)
  /-- BAR (R352) -/
  | bar (w : FA)
  /-- BARV (R350) -/
  | barv (w : FA)
  /-- BWAIT (R351) -/
  | bwait (w : FA)
  /-- TRIG (R377) -/
  | trig (w : FA)
  /-- GWAIT (R378) -/
  | gwait (w : FA)
  /-- SPAWN (R379) -/
  | spawn (w : FA)
  /-- NSUB (R379) -/
  | nsub (w : FA)
  /-- PRIO (R379) -/
  | prio (w : FA)
  /-- JARV (R354) -/
  | jarv (w : FA)
  /-- JWAIT (R355) -/
  | jwait (w : FA)
  /-- WATCH (R357) -/
  | watch (w : FA)
  /-- UNWATCH (R359) -/
  | unwatch (w : FA)
  /-- PLD (R397) -/
  | pld (w : FA) (m : MW)
  /-- PST (R397) -/
  | pst (w : FA) (m : MW)
  /-- PST_BLOCK (R396) -/
  | pstBlock (w : FA) (m : MW)
  /-- PFAA (R395) -/
  | pfaa (w : FA) (m : MW)
  /-- PCAS (R395) -/
  | pcas (w : FA) (m : MW)
  /-- PRED (R395) -/
  | pred (w : FA) (m : MW)
  /-- PFENCE (R398) -/
  | pfence (w : FA) (m : MW)
  /-- CLRUN (R410) -/
  | clrun (w : FA) (m : MW)
  /-- CLWAIT (R410) -/
  | clwait (w : FA) (m : MW)
  /-- MFS (R415) -/
  | mfs (w : FC)
  /-- MTS (R415) -/
  | mts (w : FC)
  /-- SVC (R424) -/
  | svc (w : FE)
  /-- RFT_RESUME (R425) -/
  | rftResume (w : FE)
  /-- RFT_SKIP (R425) -/
  | rftSkip (w : FE)
  /-- RFT_PARK (R425) -/
  | rftPark (w : FE)
  /-- RFT_RESTART (R425) -/
  | rftRestart (w : FE)
  /-- TLBI (R431) -/
  | tlbi (w : FA)
  /-- TLBIA (R432) -/
  | tlbia (w : FE)
  /-- LLCOP_CARVE (R435) -/
  | llcopCarve (w : FA) (m : MW)
  /-- LLCOP_UNCARVE (R435) -/
  | llcopUncarve (w : FA) (m : MW)
  /-- LLCOP_CLEAN (R435) -/
  | llcopClean (w : FA) (m : MW)
  /-- LLCOP_FLUSH (R435) -/
  | llcopFlush (w : FA) (m : MW)
  /-- PURGE (R442) -/
  | purge (w : FA)
  /-- CHIPOP_STATUS (R443) -/
  | chipopStatus (w : FB)
  /-- CHIPOP_FENCE (R444) -/
  | chipopFence (w : FB)
  /-- CHIPOP_RESET (R445) -/
  | chipopReset (w : FB)
  /-- CHIPOP_CLEARLOST (R445) -/
  | chipopClearlost (w : FB)
  /-- WFI (R426) -/
  | wfi (w : FE)
  /-- VNOP (R192) -/
  | vnop (w : FV)
  /-- VVIEW (R185) -/
  | vview (w : FV) (v : VW) (l : BitVec 32)
  /-- TVIEW (R184) -/
  | tview (w : FV) (v : VW) (l : BitVec 32)
  /-- VMOV_32 (R192) -/
  | vmov32 (w : FV)
  /-- VMOV_64 (R192) -/
  | vmov64 (w : FV) (v : VW)
  /-- VXMOV_32 (R193) -/
  | vxmov32 (w : FV)
  /-- VXMOV_64 (R193) -/
  | vxmov64 (w : FV) (v : VW)
  /-- VBCAST_32 (R192) -/
  | vbcast32 (w : FV)
  /-- VBCAST_64 (R192) -/
  | vbcast64 (w : FV) (v : VW)
  /-- VTOS_32 (R194) -/
  | vtos32 (w : FV)
  /-- VTOS_64 (R194) -/
  | vtos64 (w : FV) (v : VW)
  /-- VMSET_32 (R192) -/
  | vmset32 (w : FV)
  /-- VMSET_64 (R192) -/
  | vmset64 (w : FV) (v : VW)
  /-- VMAND_32 (R192) -/
  | vmand32 (w : FV)
  /-- VMAND_64 (R192) -/
  | vmand64 (w : FV) (v : VW)
  /-- VMOR_32 (R192) -/
  | vmor32 (w : FV)
  /-- VMOR_64 (R192) -/
  | vmor64 (w : FV) (v : VW)
  /-- VMXOR_32 (R192) -/
  | vmxor32 (w : FV)
  /-- VMXOR_64 (R192) -/
  | vmxor64 (w : FV) (v : VW)
  /-- VMPOP_32 (R192) -/
  | vmpop32 (w : FV)
  /-- VMPOP_64 (R192) -/
  | vmpop64 (w : FV) (v : VW)
  /-- VTKW (R195) -/
  | vtkw (w : FV)
  /-- VTKS (R195) -/
  | vtks (w : FV)
  /-- VADD_32 (R196) -/
  | vadd32 (w : FV)
  /-- VADD_64 (R196) -/
  | vadd64 (w : FV) (v : VW)
  /-- VSUB_32 (R196) -/
  | vsub32 (w : FV)
  /-- VSUB_64 (R196) -/
  | vsub64 (w : FV) (v : VW)
  /-- VADDS_32 (R196) -/
  | vadds32 (w : FV)
  /-- VADDS_64 (R196) -/
  | vadds64 (w : FV) (v : VW)
  /-- VSUBS_32 (R196) -/
  | vsubs32 (w : FV)
  /-- VSUBS_64 (R196) -/
  | vsubs64 (w : FV) (v : VW)
  /-- VMUL_32 (R196) -/
  | vmul32 (w : FV)
  /-- VMUL_64 (R196) -/
  | vmul64 (w : FV) (v : VW)
  /-- VMULH_32 (R196) -/
  | vmulh32 (w : FV)
  /-- VMULH_64 (R196) -/
  | vmulh64 (w : FV) (v : VW)
  /-- VMULW_32 (R197) -/
  | vmulw32 (w : FV)
  /-- VMULW_64 (R197) -/
  | vmulw64 (w : FV) (v : VW)
  /-- VMAC (R196) -/
  | vmac (w : FV) (v : VW)
  /-- VMACW (R197) -/
  | vmacw (w : FV) (v : VW)
  /-- VDOT4 (R198) -/
  | vdot4 (w : FV) (v : VW)
  /-- VAND_32 (R196) -/
  | vand32 (w : FV)
  /-- VAND_64 (R196) -/
  | vand64 (w : FV) (v : VW)
  /-- VOR_32 (R196) -/
  | vor32 (w : FV)
  /-- VOR_64 (R196) -/
  | vor64 (w : FV) (v : VW)
  /-- VXOR_32 (R196) -/
  | vxor32 (w : FV)
  /-- VXOR_64 (R196) -/
  | vxor64 (w : FV) (v : VW)
  /-- VSHL_32 (R196) -/
  | vshl32 (w : FV)
  /-- VSHL_64 (R196) -/
  | vshl64 (w : FV) (v : VW)
  /-- VSHR_32 (R196) -/
  | vshr32 (w : FV)
  /-- VSHR_64 (R196) -/
  | vshr64 (w : FV) (v : VW)
  /-- VSHA_32 (R196) -/
  | vsha32 (w : FV)
  /-- VSHA_64 (R196) -/
  | vsha64 (w : FV) (v : VW)
  /-- VMIN_32 (R196) -/
  | vmin32 (w : FV)
  /-- VMIN_64 (R196) -/
  | vmin64 (w : FV) (v : VW)
  /-- VMAX_32 (R196) -/
  | vmax32 (w : FV)
  /-- VMAX_64 (R196) -/
  | vmax64 (w : FV) (v : VW)
  /-- VABS_32 (R196) -/
  | vabs32 (w : FV)
  /-- VABS_64 (R196) -/
  | vabs64 (w : FV) (v : VW)
  /-- VNEG_32 (R196) -/
  | vneg32 (w : FV)
  /-- VNEG_64 (R196) -/
  | vneg64 (w : FV) (v : VW)
  /-- VCMP_32 (R199) -/
  | vcmp32 (w : FV)
  /-- VCMP_64 (R199) -/
  | vcmp64 (w : FV) (v : VW)
  /-- VSEL (R199) -/
  | vsel (w : FV) (v : VW)
  /-- VADDMIN (R196) -/
  | vaddmin (w : FV) (v : VW)
  /-- VADDMAX (R196) -/
  | vaddmax (w : FV) (v : VW)
  /-- VCLZ_32 (R196) -/
  | vclz32 (w : FV)
  /-- VCLZ_64 (R196) -/
  | vclz64 (w : FV) (v : VW)
  /-- VPOPC_32 (R196) -/
  | vpopc32 (w : FV)
  /-- VPOPC_64 (R196) -/
  | vpopc64 (w : FV) (v : VW)
  /-- VFADD_32 (R200) -/
  | vfadd32 (w : FV)
  /-- VFADD_64 (R200) -/
  | vfadd64 (w : FV) (v : VW)
  /-- VFSUB_32 (R200) -/
  | vfsub32 (w : FV)
  /-- VFSUB_64 (R200) -/
  | vfsub64 (w : FV) (v : VW)
  /-- VFMUL_32 (R200) -/
  | vfmul32 (w : FV)
  /-- VFMUL_64 (R200) -/
  | vfmul64 (w : FV) (v : VW)
  /-- VFMA (R200) -/
  | vfma (w : FV) (v : VW)
  /-- VFMS (R200) -/
  | vfms (w : FV) (v : VW)
  /-- VFNMA (R200) -/
  | vfnma (w : FV) (v : VW)
  /-- VFMIN_32 (R97) -/
  | vfmin32 (w : FV)
  /-- VFMIN_64 (R97) -/
  | vfmin64 (w : FV) (v : VW)
  /-- VFMAX_32 (R97) -/
  | vfmax32 (w : FV)
  /-- VFMAX_64 (R97) -/
  | vfmax64 (w : FV) (v : VW)
  /-- VFABS_32 (R200) -/
  | vfabs32 (w : FV)
  /-- VFABS_64 (R200) -/
  | vfabs64 (w : FV) (v : VW)
  /-- VFNEG_32 (R200) -/
  | vfneg32 (w : FV)
  /-- VFNEG_64 (R200) -/
  | vfneg64 (w : FV) (v : VW)
  /-- VFCMP_32 (R202) -/
  | vfcmp32 (w : FV)
  /-- VFCMP_64 (R202) -/
  | vfcmp64 (w : FV) (v : VW)
  /-- VFDIV_32 (R200) -/
  | vfdiv32 (w : FV)
  /-- VFDIV_64 (R200) -/
  | vfdiv64 (w : FV) (v : VW)
  /-- VFSQRT_32 (R200) -/
  | vfsqrt32 (w : FV)
  /-- VFSQRT_64 (R200) -/
  | vfsqrt64 (w : FV) (v : VW)
  /-- VSFN_32 (R218) -/
  | vsfn32 (w : FV)
  /-- VSFN_64 (R218) -/
  | vsfn64 (w : FV) (v : VW)
  /-- VCVT (R215) -/
  | vcvt (w : FV) (v : VW)
  /-- VQNT (R217) -/
  | vqnt (w : FV) (v : VW)
  /-- VDQNT (R217) -/
  | vdqnt (w : FV) (v : VW)
  /-- VSHUP_32 (R206) -/
  | vshup32 (w : FV)
  /-- VSHUP_64 (R206) -/
  | vshup64 (w : FV) (v : VW)
  /-- VSHDN_32 (R206) -/
  | vshdn32 (w : FV)
  /-- VSHDN_64 (R206) -/
  | vshdn64 (w : FV) (v : VW)
  /-- VROT_32 (R206) -/
  | vrot32 (w : FV)
  /-- VROT_64 (R206) -/
  | vrot64 (w : FV) (v : VW)
  /-- VPERM (R207) -/
  | vperm (w : FV) (v : VW)
  /-- VRED_32 (R213) -/
  | vred32 (w : FV)
  /-- VRED_64 (R213) -/
  | vred64 (w : FV) (v : VW)
  /-- VSCAN_32 (R214) -/
  | vscan32 (w : FV)
  /-- VSCAN_64 (R214) -/
  | vscan64 (w : FV) (v : VW)
  /-- VZIP_32 (R208) -/
  | vzip32 (w : FV)
  /-- VZIP_64 (R208) -/
  | vzip64 (w : FV) (v : VW)
  /-- VUZP_32 (R208) -/
  | vuzp32 (w : FV)
  /-- VUZP_64 (R208) -/
  | vuzp64 (w : FV) (v : VW)
  /-- VEXT_32 (R206) -/
  | vext32 (w : FV)
  /-- VEXT_64 (R206) -/
  | vext64 (w : FV) (v : VW)
  /-- VCOMPR_32 (R209) -/
  | vcompr32 (w : FV)
  /-- VCOMPR_64 (R209) -/
  | vcompr64 (w : FV) (v : VW)
  /-- VEXPD_32 (R209) -/
  | vexpd32 (w : FV)
  /-- VEXPD_64 (R209) -/
  | vexpd64 (w : FV) (v : VW)
  /-- VTRN_32 (R208) -/
  | vtrn32 (w : FV)
  /-- VTRN_64 (R208) -/
  | vtrn64 (w : FV) (v : VW)
  /-- VIOTA_32 (R210) -/
  | viota32 (w : FV)
  /-- VIOTA_64 (R210) -/
  | viota64 (w : FV) (v : VW)
  /-- VLD (R163) -/
  | vld (w : FV) (v : VW) (m : MW)
  /-- VST (R163) -/
  | vst (w : FV) (v : VW) (m : MW)
  /-- VLDSD (R164) -/
  | vldsd (w : FV) (v : VW) (m : MW)
  /-- VSTSD (R164) -/
  | vstsd (w : FV) (v : VW) (m : MW)
  /-- VLDX (R165) -/
  | vldx (w : FV) (v : VW) (m : MW)
  /-- VSTX (R165) -/
  | vstx (w : FV) (v : VW) (m : MW)
  /-- VLDT (R166) -/
  | vldt (w : FV) (v : VW) (m : MW)
  /-- VSTT (R166) -/
  | vstt (w : FV) (v : VW) (m : MW)
  /-- VLDB (R167) -/
  | vldb (w : FV) (v : VW) (m : MW)
  /-- MNOP (R238) -/
  | mnop (w : FE)
  /-- MCFG (R239) -/
  | mcfg (w : FC) (e : EW) (l : BitVec 32)
  /-- MCFGV (R240) -/
  | mcfgv (w : FB) (e : EW)
  /-- MGO (R241) -/
  | mgo (w : FE) (e : EW)
  /-- MPIN (R242) -/
  | mpin (w : FE) (e : EW)
  /-- MUNPIN (R242) -/
  | munpin (w : FE) (e : EW)
  /-- MDRAIN (R243) -/
  | mdrain (w : FE) (e : EW)
  /-- MSAVE (R244) -/
  | msave (w : FB) (e : EW)
  /-- MLOAD (R244) -/
  | mload (w : FB) (e : EW)
  /-- MSTAT (R245) -/
  | mstat (w : FE) (e : EW)
  /-- MFENCE (R246) -/
  | mfence (w : FE) (e : EW)
  /-- CNOP (R318) -/
  | cnop (w : FE)
  /-- CPY (R305) -/
  | cpy (w : FA) (e : EW)
  /-- CPY2 (R305) -/
  | cpy2 (w : FA) (e : EW)
  /-- CPYT (R307) -/
  | cpyt (w : FA) (e : EW)
  /-- CPYX_CAST (R312) -/
  | cpyxCast (w : FA) (e : EW)
  /-- CPYX_SCALE (R312) -/
  | cpyxScale (w : FA) (e : EW)
  /-- CPYX_ADD (R312) -/
  | cpyxAdd (w : FA) (e : EW)
  /-- CPYX_REDUCE (R313) -/
  | cpyxReduce (w : FA) (e : EW)
  /-- CFILL (R315) -/
  | cfill (w : FA) (e : EW)
  /-- CSIG (R327) -/
  | csig (w : FA) (e : EW)
  /-- CPREF (R316) -/
  | cpref (w : FA) (e : EW)
  /-- CFLUSH_CLEAN (R317) -/
  | cflushClean (w : FA) (e : EW)
  /-- CFLUSH_INVAL (R317) -/
  | cflushInval (w : FA) (e : EW)
  /-- CFLUSH_DISCARD (R317) -/
  | cflushDiscard (w : FA) (e : EW)
  /-- CFENCE (R328) -/
  | cfence (w : FE) (e : EW)
  /-- BNOP (R276) -/
  | bnop (w : FE)
  /-- BACT (R277) -/
  | bact (w : FA) (e : EW)
  /-- BMV (R280) -/
  | bmv (w : FA) (e : EW)
  /-- BMVC (R280) -/
  | bmvc (w : FA) (e : EW)
  /-- BVM (R280) -/
  | bvm (w : FA) (e : EW)
  /-- BAPP (R282) -/
  | bapp (w : FA) (e : EW)
  /-- BROWCP (R286) -/
  | browcp (w : FA) (e : EW)
  /-- BROWZ (R286) -/
  | browz (w : FA) (e : EW)
  /-- BBUFCP (R286) -/
  | bbufcp (w : FA) (e : EW)
  /-- BLOAD (R283) -/
  | bload (w : FA) (e : EW)
  /-- BDROP (R284) -/
  | bdrop (w : FA) (e : EW)
  /-- BJOIN (R290) -/
  | bjoin (w : FA) (e : EW)
  /-- BFENCE (R291) -/
  | bfence (w : FE) (e : EW)
  deriving DecidableEq, Repr

end Sys2Proof
end

