-- ==== Sys2Proof/Machine/Checks.lean ====
section
/-! DEFINITION. Checks.lean: the properties that an encoding fixes (02 R46 to R56), for the S and vector streams. A
check lists its defects as (present, sub-code of 02 Table 2.6); the slot's defect is the lowest sub-code (R57). -/

namespace Sys2Proof.Machine

/-- A decode sub-code of 02 Table 2.6, plus 256 times the word of its instruction that holds the defect, so that the
least one names the first slot and there the lowest sub-code (02 R57). -/
abbrev SubCode := Nat

def lowest2 : Option SubCode → Option SubCode → Option SubCode
  | none, b => b
  | a, none => a
  | some a, some b => some (min a b)

/-- The lowest sub-code among the defects present. -/
def pickDefect : List (Bool × SubCode) → Option SubCode
  | [] => none
  | (true, c) :: r => lowest2 (some c) (pickDefect r)
  | (false, _) :: r => pickDefect r

/-- The defects found in word `k` of an instruction (02 R57). -/
def inWord (k : Nat) (cs : List (Bool × SubCode)) : List (Bool × SubCode) := cs.map fun x => (x.1, x.2 + 256 * k)

/-- A field that must be 0 and is not: sub-code 0x0D (02 R46). -/
def nz {n : Nat} (x : BitVec n) : Bool × SubCode := (x != 0, 0x0D)
/-- A field of which only the low `k` bits name a register. -/
def above {n : Nat} (x : BitVec n) (k : Nat) : Bool × SubCode := (decide (2 ^ k ≤ x.toNat), 0x0D)
/-- A scope field of 5, 6 or 7 (01 R27). -/
def badScope {n : Nat} (x : BitVec n) : Bool × SubCode := (decide (5 ≤ x.toNat), 0x0C)
/-- A rounding field of 6 or 7 (02 R54). -/
def badRm {n : Nat} (x : BitVec n) : Bool × SubCode := (decide (6 ≤ x.toNat), 0x0C)
/-- A rounding field of an instruction that does not round: 6 and 7 stay unassigned codes, 1 to 5 must be 0. -/
def noRm {n : Nat} (x : BitVec n) : Bool × SubCode := if 6 ≤ x.toNat then (true, 0x0C) else (x != 0, 0x0D)
def badType (t : BitVec 4) (ok : List Nat) : Bool × SubCode := (!ok.contains t.toNat, 0x0C)

/-- Token field `i` (0 SIG, 1 to 3 the waits) of a token word (02 R52). -/
def tokField (tok : BitVec 12) (i : Nat) : Nat := (tok.toNat / 8 ^ i) % 8

/-- A token field that holds 6 or names its own stream (02 R52). -/
def badTok (st : Nat) (tok : BitVec 12) : Bool × SubCode :=
  ([0, 1, 2, 3].any (fun i => tokField tok i == 6 || tokField tok i == st), 0x0B)

/-! ### Stream S -/

def chkE0 (w : FE) : List (Bool × SubCode) := [nz w.misc]
def chkBr (w : FD) : List (Bool × SubCode) := [nz w.neg, nz w.p]
def chkJmp (w : FA) : List (Bool × SubCode) := [nz w.d, nz w.b, nz w.fn]
/-- LOOPSET (04 R129): imm10 bits 9:8 and every mask bit at or above st are 0. -/
def chkLoopset (w : FB) : List (Bool × SubCode) := [(decide (2 ^ (w.d.toNat / 8 + 1) ≤ w.imm.toNat), 0x0D)]
def chkSuspend (w : FE) : List (Bool × SubCode) :=
  [(decide (6 ≤ (w.misc.toNat / 2 ^ 12) % 8), 0x0D), above w.misc 16]
def chkInt (w : FA) : List (Bool × SubCode) := [above w.fn 3]
def chkInt1 (w : FA) : List (Bool × SubCode) := [above w.fn 3, nz w.b]
def chkFn0 (w : FA) : List (Bool × SubCode) := [nz w.fn]
def chkCmp (w : FA) : List (Bool × SubCode) := [above w.d 4, (decide (10 ≤ w.fn.toNat), 0x0D)]
def chkMovl (h : Nat) (w : FC) : List (Bool × SubCode) := [(w.imm.toNat != h, 0x0D)]
def chkShi (w : FB) : List (Bool × SubCode) := [above w.imm 6]
def chkPlog (w : FA) : List (Bool × SubCode) := [above w.d 4, above w.a 4, above w.b 4, above w.fn 2]
def chkMovp (fn dBits aBits : Nat) (w : FA) : List (Bool × SubCode) :=
  [(w.fn.toNat != fn, 0x0D), above w.d dBits, above w.a aBits, nz w.b]
def fnRm (fn : BitVec 4) : Bool × SubCode := (decide (6 ≤ fn.toNat % 8), 0x0C)
def chkFp (w : FA) : List (Bool × SubCode) := [fnRm w.fn, above w.fn 3]
def chkFp1 (w : FA) : List (Bool × SubCode) := [fnRm w.fn, above w.fn 3, nz w.b]
def chkSign (w : FA) : List (Bool × SubCode) := [nz w.fn, nz w.b]
def chkFcmp (w : FA) : List (Bool × SubCode) := [above w.d 4, above w.fn 3]
def chkFcvt (w : FA) : List (Bool × SubCode) := [fnRm w.fn, nz w.b]

/-- LAND of a load (02 R49): `dflt` 8 or 12. -/
def badLand (load : Bool) (dflt : Nat) (m : MW) : Bool × SubCode :=
  (if load then (if m.space = 0 then m.land == 0 else m.land != 0 && decide (m.land.toNat < dflt)) else m.land != 0, 0x0E)

/-- The memory word of a load or store, word `k` of its instruction (02 R49, R55, 05 R140). -/
def chkMem (k : Nat) (load : Bool) (dflt : Nat) (m : MW) : List (Bool × SubCode) :=
  inWord k [badScope m.scope, (m.space == 3, 0x0C), (m.space == 1 && m.scope != 0, 0x0D), badLand load dflt m]

def chkFence (w : FC) : List (Bool × SubCode) := [(decide (5 ≤ w.d.toNat % 8), 0x0C), above w.d 3]

/-- TKWAIT (05 R159): waits from streams 1 to 5, or 7. -/
def chkTkwait (w : FE) : List (Bool × SubCode) :=
  [([0, 1, 2].any (fun i => let f := (w.misc.toNat / 8 ^ i) % 8; f == 0 || f == 6), 0x0B), above w.misc 9]
/-- TKSIG (05 R158). -/
def chkTksig (w : FE) : List (Bool × SubCode) :=
  [(let c := w.misc.toNat % 8; c == 0 || c == 6 || c == 7, 0x0B), (decide (5 ≤ (w.misc.toNat / 8) % 8), 0x0C)]

/-- WAITW (11 R356): COND, W32 in the LAND bits; CLASS 0; space 0 or 1. -/
def chkWaitw (m : MW) : List (Bool × SubCode) :=
  inWord 1 [badScope m.scope, (m.space == 3, 0x0C), (m.space == 2, 0x0D), (m.space == 1 && m.scope != 0, 0x0D), nz m.cls,
    (decide (6 ≤ m.land.toNat % 8), 0x0D), above m.land 4]

/-- Atomics and reductions (11 R340): the fn set of Table 11.3. -/
def chkAmo (ret : Bool) (fns : List Nat) (w : FA) (m : MW) : List (Bool × SubCode) :=
  [(!fns.contains w.fn.toNat, 0x0D), (!ret && w.d != 0, 0x0D)] ++
    inWord 1 [badScope m.scope, (m.space == 3, 0x0C), (m.space == 1 || m.space == 2, 0x0D),
      (if ret then m.land == 0 else m.land != 0, 0x0E)]

/-- A barrier instruction's scope and id (11 R349, Table 11.7). -/
def chkBar (wait : Bool) (w : FA) : List (Bool × SubCode) :=
  let sc := w.fn.toNat % 8
  [(decide (5 ≤ sc), 0x0C), (sc == 0, 0x0D), above w.fn 3, (!wait && w.a != 0, 0x0D),
   ((sc == 1 && decide (4 ≤ w.b.toNat)) || ((sc == 2 || sc == 4) && decide (16 ≤ w.b.toNat)), 0x0D)]
def chkJarv (w : FA) : List (Bool × SubCode) := [nz w.d, above w.fn 1, (w.fn.toNat % 2 == 0 && w.b != 0, 0x0D)]
def chkDA (w : FA) : List (Bool × SubCode) := [nz w.b, nz w.fn]
def chkWatch (w : FA) : List (Bool × SubCode) := [(w.b == 63, 0x0D), (decide (6 ≤ w.fn.toNat % 8), 0x0D)]
def chkTrig (w : FA) : List (Bool × SubCode) := [nz w.fn, nz w.b, nz w.a, nz w.d]
def chkGwait (w : FA) : List (Bool × SubCode) := [nz w.fn, nz w.b, nz w.a]
/-- LREC (10 R309): a layout register is named by 4 bits. -/
def chkLrec (w : FB) (m : MW) : List (Bool × SubCode) := above w.d 4 :: chkMem 1 true 8 m

/-- Fabric instructions (13 R394, Table 13.4). -/
def chkFab (ret : Bool) (fns : List Nat) (w : FA) (m : MW) : List (Bool × SubCode) :=
  (!fns.contains w.fn.toNat, 0x0D) ::
    inWord 1 [badScope m.scope, (m.space == 3, 0x0C), (m.space == 1 || m.space == 2, 0x0D), (decide (m.scope.toNat < 4), 0x0D),
      (if ret then m.land == 0 else m.land != 0, 0x0E)]
/-- The fn values a PRED operation allows (13 R395). -/
def predFns (op : Nat) : List Nat := if op ≤ 3 then [0, 1] else if op ≤ 5 then [0, 1, 4, 5] else if op = 6 then [1] else [2]
/-- CLRUN and CLWAIT (13 R410): only OFFEXT may be non-zero. -/
def chkClMem (m : MW) : List (Bool × SubCode) :=
  inWord 1 [badScope m.scope, (m.space == 3, 0x0C), nz m.scope, nz m.space, nz m.cls, nz m.land]

/-- The system registers of 14 Table 14.2: number, read level, write level (3: none). -/
def sysRegs : List (Nat × Nat × Nat) :=
  [(0x00, 0, 3), (0x01, 0, 3), (0x02, 0, 3), (0x03, 0, 3), (0x04, 0, 3), (0x05, 0, 3), (0x10, 0, 0), (0x11, 0, 0), (0x12, 0, 0),
   (0x13, 0, 0), (0x14, 0, 0), (0x15, 0, 0), (0x16, 0, 0), (0x20, 1, 3), (0x21, 1, 3), (0x22, 1, 1), (0x23, 1, 3), (0x24, 1, 3),
   (0x25, 1, 3), (0x26, 1, 3), (0x27, 1, 2), (0x30, 0, 3), (0x31, 1, 3), (0x40, 0, 1), (0x41, 0, 3), (0x42, 0, 3), (0x50, 2, 2),
   (0x51, 2, 2), (0x52, 0, 1), (0x53, 0, 1)] ++
  [(0x100, 1, 1), (0x101, 1, 1), (0x102, 1, 1), (0x103, 1, 1), (0x104, 1, 1), (0x105, 1, 1), (0x106, 1, 1), (0x107, 1, 1), (0x108, 1, 1)]
def chkMfs (w : FC) : List (Bool × SubCode) := [(!sysRegs.any (fun r => r.1 == w.imm.toNat), 0x0D)]
def chkMts (w : FC) : List (Bool × SubCode) := [(!sysRegs.any (fun r => r.1 == w.imm.toNat && r.2.2 != 3), 0x0D)]
/-- A TLB scope: 0 or 3; 1, 2 and 4 raise 0x0D, 5 to 7 raise 0x0C (14 R431). -/
def tlbScope (sc : Nat) : List (Bool × SubCode) := [(decide (5 ≤ sc), 0x0C), (sc == 1 || sc == 2 || sc == 4, 0x0D)]
def chkLlcop (op : Nat) (w : FA) (m : MW) : List (Bool × SubCode) :=
  [(w.fn.toNat != op, 0x0D), (decide (2 ≤ op) && (w.a != 0 || w.b != 0), 0x0D), nz w.d] ++
    inWord 1 [badScope m.scope, (m.space == 3, 0x0C), nz m.space, nz m.cls, nz m.land, (m.scope != 3, 0x0D),
      (decide (2 ≤ op) && m.offext != 0, 0x0D)]

/-! ### The vector streams (02 R47, R51 to R55, 04 R132) -/

/-- What a vector instruction leaves unused in its vector word. -/
structure VUse where
  vc : Bool := false
  mask : Bool := true
  rm : Bool := false
  sat : Bool := false
  perm : Bool := false
  ty2 : Bool := false

/-- A vector word against its use (02 R46, R52, R54; the mask field under a stage gate, 04 R132). -/
def chkVW (st : Nat) (u : VUse) (v : VW) : List (Bool × SubCode) :=
  inWord 1 [badTok st v.tok, (!u.vc && v.vc != 0, 0x0D), (!u.ty2 && v.ty2 != 0, 0x0D), if u.rm then badRm v.rm else noRm v.rm,
    (!u.sat && v.sat != 0, 0x0D), (!u.perm && v.perm != 0, 0x0D),
    (if v.stgen = 1 then decide (8 ≤ v.mask.toNat) else !u.mask && v.mask != 0, 0x0D)]

def tInt : List Nat := [0, 1, 2, 3, 4, 5, 6, 7]
def tFp : List Nat := [8, 9, 10]
def tAll : List Nat := [0, 1, 2, 3, 4, 5, 6, 7, 8, 9, 10, 11, 12, 13, 14, 15]
/-- Every type but the 4-bit ones (05 Table 5.11). -/
def tByte : List Nat := [0, 1, 2, 3, 4, 5, 8, 9, 10, 11, 12, 14, 15]

def chkV0 (w : FV) : List (Bool × SubCode) := [nz w.ty, nz w.vb, nz w.va, nz w.vd]
def chkVview (st : Nat) (w : FV) (v : VW) (l : BitVec 32) : List (Bool × SubCode) :=
  chkV0 w ++ chkVW st { mask := false } v ++ inWord 2 [(l.toNat % 512 != 0 || decide (2 ^ 17 ≤ l.toNat), 0x0D)]
def chkTview (st : Nat) (w : FV) (v : VW) (l : BitVec 32) : List (Bool × SubCode) :=
  [nz w.vb, nz w.va, above w.vd 3] ++ chkVW st { mask := false } v
    ++ inWord 2 [([6, 7, 13].contains w.ty.toNat && (l.toNat / 2 ^ 22 + 1) % 2 == 1, 0x0C)]
/-- One source in va, vb 0. -/
def chkV1 (st : Nat) (tys : List Nat) (u : VUse) (w : FV) (v : VW) : List (Bool × SubCode) :=
  badType w.ty tys :: nz w.vb :: chkVW st u v
def chkV2 (st : Nat) (tys : List Nat) (u : VUse) (w : FV) (v : VW) : List (Bool × SubCode) :=
  badType w.ty tys :: chkVW st u v
/-- VTOS and VMPOP: the signal field holds 7 (06 R190). -/
def chkToS (v : VW) : Bool × SubCode := (tokField v.tok 0 != 7, 0x0B)
def chkVtos (st : Nat) (w : FV) (v : VW) : List (Bool × SubCode) :=
  inWord 1 [chkToS v] ++ chkV2 st tAll { mask := false } w v
def chkVmpop (st : Nat) (w : FV) (v : VW) : List (Bool × SubCode) :=
  inWord 1 [chkToS v] ++ above w.va 4 :: chkV1 st tAll { mask := false } w v
def chkVmset (st : Nat) (w : FV) (v : VW) : List (Bool × SubCode) :=
  [nz w.ty, nz w.vb, above w.vd 4] ++ chkVW st { mask := false } v
def chkVmlog (st : Nat) (w : FV) (v : VW) : List (Bool × SubCode) :=
  [nz w.ty, above w.vb 4, above w.va 4, above w.vd 4] ++ chkVW st { mask := false } v
/-- VTKW (06 R195): waits in the low bits of vd, va and vb. -/
def chkVtkw (st : Nat) (w : FV) : List (Bool × SubCode) :=
  [nz w.ty, above w.vd 3, above w.va 3, above w.vb 3,
   ([w.vd, w.va, w.vb].any (fun f => f.toNat % 8 == 6 || f.toNat % 8 == st), 0x0B)]
def chkVtks (st : Nat) (w : FV) : List (Bool × SubCode) :=
  [(let c := w.vd.toNat % 8; c == 6 || c == 7 || c == st, 0x0B), (decide (5 ≤ w.vd.toNat / 8), 0x0C)]
def chkVdot4 (st : Nat) (w : FV) (v : VW) : List (Bool × SubCode) :=
  let t := w.ty.toNat
  let u := v.ty2.toNat
  badType w.ty [0, 1, 6, 7] :: inWord 1 [(!((t ≤ 1 && u ≤ 1) || ((t == 6 || t == 7) && (u == 6 || u == 7))), 0x0C)] ++ chkVW st { vc := true, ty2 := true, sat := true } v
def chkVsel (st : Nat) (w : FV) (v : VW) : List (Bool × SubCode) := inWord 1 [above v.vc 4] ++ chkV2 st tInt { vc := true } w v
def chkVsfn (st : Nat) (w : FV) (v : VW) : List (Bool × SubCode) :=
  (decide (10 ≤ w.vb.toNat), 0x0D) :: chkV2 st tFp {} w v
/-- Element bits that a type counts for in VCVT (07 R215). -/
def cvtBits (t : Nat) : Nat :=
  if [6, 7, 13].contains t then 4 else if [0, 1, 11, 12, 14, 15].contains t then 8 else if [2, 3, 9, 10].contains t then 16 else 32
def chkVcvt (st : Nat) (w : FV) (v : VW) : List (Bool × SubCode) :=
  let a := cvtBits w.ty.toNat
  let b := cvtBits v.ty2.toNat
  nz w.vb :: inWord 1 [(w.ty == v.ty2 || decide (4 * a < b) || decide (4 * b < a), 0x0C)] ++
    chkVW st { rm := true, sat := true, ty2 := true } v
/-- VQNT and VDQNT (07 R216): the types that ty and ty2 may name, of the block and of the float side. -/
def tBlk : List Nat := [11, 12, 14, 13, 0]
def chkQnt (st : Nat) (tys ty2s : List Nat) (w : FV) (v : VW) : List (Bool × SubCode) :=
  badType w.ty tys :: inWord 1 [badType v.ty2 ty2s] ++ chkVW st { vc := true, rm := true, ty2 := true } v
def chkVperm (st : Nat) (w : FV) (v : VW) : List (Bool × SubCode) :=
  inWord 1 [badType v.ty2 [1, 3]] ++ chkV2 st tAll { perm := true, ty2 := true } w v
/-- VRED and VSCAN (07 R211, R212): operation in vb. -/
def chkRed (st : Nat) (w : FV) (v : VW) : List (Bool × SubCode) :=
  let op := w.vb.toNat
  let fl := [8, 9, 10].contains w.ty.toNat
  [badType w.ty [0, 1, 2, 3, 4, 5, 6, 7, 8, 9, 10], (decide (6 ≤ op), 0x0D), (fl && decide (3 ≤ op % 8), 0x0C)] ++
    inWord 1 [(v.rm == 5, 0x0C), (!(fl && op == 0) && v.rm != 0, 0x0D), (op != 0 && v.sat != 0, 0x0D)] ++
    chkVW st { rm := true, sat := true, ty2 := true } v
/-- VRED's second type (07 R213). -/
def chkVred (st : Nat) (w : FV) (v : VW) : List (Bool × SubCode) :=
  let t := w.ty.toNat
  let t2 := v.ty2.toNat
  inWord 1 [(!(t2 == 0 || t2 == t || (w.vb == 0 && ((t2 == 4 && [0, 2, 4, 6].contains t) || (t2 == 5 && [1, 3, 5, 7].contains t)))), 0x0C)]
    ++ chkRed st w v
def chkVscan (st : Nat) (w : FV) (v : VW) : List (Bool × SubCode) := inWord 1 [nz v.ty2] ++ chkRed st w v
/-- The vector memory block (05 R162, Table 5.11). -/
def chkVmem (st : Nat) (load tile vb0 : Bool) (tys : List Nat) (idx : Bool) (w : FV) (v : VW) (m : MW) : List (Bool × SubCode) :=
  [badType w.ty tys, (vb0 && w.vb != 0, 0x0D), (tile && decide (8 ≤ w.vd.toNat), 0x0D)] ++
    inWord 1 (if idx then [badType v.ty2 [2, 3, 4, 5]] else []) ++
    chkVW st { mask := !tile, vc := tile, ty2 := idx } v ++ chkMem 2 load 12 m

end Sys2Proof.Machine
end

