-- ==== Sys2Proof/Machine/Flags.lean ====
section
/-! DEFINITION. Flags.lean: number formats, the one rounding of 03 R92 with its status bits, conversions, sums and
special functions (03 R78 to R104). Status bits stand in FPSTAT order: IV 1, DZ 2, OF 4, UF 8, NX 16 (R88). -/

namespace Sys2Proof.Machine

/-- FPSTAT bits (03 Table 3.5). -/
abbrev Fp := BitVec 5
def fIV : Fp := 1
def fDZ : Fp := 2
def fOF : Fp := 4
def fUF : Fp := 8
def fNX : Fp := 16

/-- A floating-point format of 03 Table 3.2: exponent and mantissa widths, bias, the encoding of the largest finite
magnitude, and which special encodings it has (R83, R96). -/
structure Fmt where
  eb : Nat
  mb : Nat
  bias : Nat
  top : Nat
  inf : Bool
  nan : Nat
  deriving DecidableEq, Repr

def Fmt.width (f : Fmt) : Nat := 1 + f.eb + f.mb
def fp32 : Fmt := ⟨8, 23, 127, 0x7F7FFFFF, true, 0x7FC00000⟩
def fp16 : Fmt := ⟨5, 10, 15, 0x7BFF, true, 0x7E00⟩
def bf16 : Fmt := ⟨8, 7, 127, 0x7F7F, true, 0x7FC0⟩
def fp8a : Fmt := ⟨4, 3, 7, 0x7E, false, 0x7F⟩
def fp8b : Fmt := ⟨5, 2, 15, 0x7B, true, 0x7E⟩
/-- fp6 and fp4 have no NaN: `nan` 0 (03 R83). -/
def fp6 : Fmt := ⟨3, 2, 3, 0x1F, false, 0⟩
def fp4 : Fmt := ⟨2, 1, 1, 0x7, false, 0⟩

/-- The float format of a type code (02 Table 2.4). -/
def fmtOf : Nat → Option Fmt
  | 8 => some fp32 | 9 => some fp16 | 10 => some bf16 | 11 => some fp8a | 12 => some fp8b | 13 => some fp4
  | 14 => some fp6 | _ => none

/-- Width in bits and signedness of an integer type code (02 Table 2.4, 03 R78). -/
def intOf : Nat → Option (Nat × Bool)
  | 0 => some (8, true) | 1 => some (8, false) | 2 => some (16, true) | 3 => some (16, false)
  | 4 => some (32, true) | 5 => some (32, false) | 6 => some (4, true) | 7 => some (4, false) | _ => none

/-- Bits of a type code's element in register space (03 R79: fp6 takes a byte). -/
def tyBits (t : Nat) : Nat :=
  match t with
  | 0 | 1 | 11 | 12 | 14 | 15 => 8
  | 2 | 3 | 9 | 10 => 16
  | 4 | 5 | 8 => 32
  | _ => 4

/-- An exact value: NaN, an infinity, or (−1)^neg × m × 2^e; with `st` the magnitude lies strictly between m × 2^e and
(m + 1) × 2^e, for quotients, roots and special functions (03 R92). -/
inductive Num where
  | nan
  | inf (neg : Bool)
  | fin (neg : Bool) (m : Nat) (e : Int) (st : Bool)
  deriving DecidableEq, Repr

def Num.zero (neg : Bool) : Num := .fin neg 0 0 false
def Num.ofInt (i : Int) : Num := .fin (decide (i < 0)) i.natAbs 0 false
def Num.neg : Num → Num
  | .nan => .nan | .inf n => .inf (!n) | .fin n m e s => .fin (!n) m e s
def Num.abs : Num → Num
  | .nan => .nan | .inf _ => .inf false | .fin _ m e s => .fin false m e s
def Num.isNan : Num → Bool
  | .nan => true | _ => false
def Num.isZero : Num → Bool
  | .fin _ m _ s => m == 0 && !s | _ => false

/-- The value of an encoding (03 R81, R83). -/
def Fmt.value (f : Fmt) (bits : Nat) : Num :=
  let n := bits.testBit (f.eb + f.mb)
  let mag := bits % 2 ^ (f.eb + f.mb)
  let ex := mag / 2 ^ f.mb
  let mn := mag % 2 ^ f.mb
  if f.top < mag then (if f.inf && mn == 0 then .inf n else .nan)
  else if ex = 0 then .fin n mn (1 - (f.bias : Int) - f.mb) false
  else .fin n (mn + 2 ^ f.mb) ((ex : Int) - f.bias - f.mb) false

/-- The value of an sx8 byte (03 R84). -/
def sx8Value (b : Nat) : Num := if b = 255 then .nan else .fin false 1 ((b : Int) - 127) false

/-- Encoding bits with a sign. -/
def Fmt.enc (f : Fmt) (neg : Bool) (mag : Nat) : Nat := mag + (if neg then 2 ^ (f.eb + f.mb) else 0)

def Fmt.infBits (f : Fmt) : Nat := (2 ^ f.eb - 1) * 2 ^ f.mb

/-- mix64 of 03 R94. -/
def mix64 (z0 : Word) : Word :=
  let z1 := (z0 ^^^ (z0 >>> 30)) * 0xBF58476D1CE4E5B9#64
  let z2 := (z1 ^^^ (z1 >>> 27)) * 0x94D049BB133111EB#64
  z2 ^^^ (z2 >>> 31)

/-- The decision of one rounding: `lo` even or odd, the discarded part is rem / 2^sh, `st` more beyond (03 R92, R94). -/
def roundUp (rm : Nat) (neg : Bool) (lo rem sh : Nat) (st : Bool) (key : Word) : Bool :=
  let half := 2 ^ sh
  match rm with
  | 0 => decide (half < 2 * rem) || (decide (2 * rem = half) && (st || lo % 2 == 1))
  | 1 => false
  | 2 => !neg
  | 3 => neg
  | 4 => decide (half ≤ 2 * rem)
  | _ => decide ((mix64 key).toNat / 2 ^ 32 < rem * 2 ^ 32 / 2 ^ sh)

/-- A result that overflows (03 Table 3.6 with R93 and Table 3.8). -/
def Fmt.overflow (f : Fmt) (neg : Bool) (rm : Nat) (sat away : Bool) : Nat :=
  let toInf := match rm with
    | 1 => false
    | 2 => !neg
    | 3 => neg
    | 5 => away
    | _ => true
  if !toInf then f.enc neg f.top
  else if f.inf then f.enc neg f.infBits
  else if f.nan = 0 || sat then f.enc neg f.top
  else f.nan

/-- round_to of 03 R92. The grid below the smallest normal is the format's own subnormal grid; only its upper range is
unbounded (log 16). -/
def roundTo (f : Fmt) (x : Num) (rm : Nat) (sat : Bool) (key : Word) : Nat × Fp :=
  match x with
  | .nan => if f.nan = 0 then (0, fIV) else if !f.inf && sat then (0, fIV) else (f.nan, 0)
  | .inf n =>
    if f.inf then (f.enc n f.infBits, 0)
    else if f.nan = 0 || sat then (f.enc n f.top, fIV) else (f.nan, 0)
  | .fin n m e st =>
    if m = 0 then (f.enc n 0, 0) else
    let qmin : Int := 1 - (f.bias : Int) - f.mb
    let q : Int := max ((m.log2 : Int) + e - f.mb) qmin
    let sh := (q - e).toNat
    let lo := m * 2 ^ (e - q).toNat / 2 ^ sh
    let rem := m % 2 ^ sh
    let base := (q - qmin).toNat * 2 ^ f.mb
    if rem = 0 && !st then
      if base + lo ≤ f.top then (f.enc n (base + lo), 0)
      else (f.overflow n rm sat true, fOF ||| fNX)
    else
      let up := roundUp rm n lo rem sh st key
      let mag := base + lo + (if up then 1 else 0)
      if f.top < mag then (f.overflow n rm sat up, fOF ||| fNX)
      else (f.enc n mag, if mag ≠ 0 && mag < 2 ^ f.mb then fNX ||| fUF else fNX)

/-- Rounding to fp32 by RNE, the rounding of sums and special functions. -/
def rne32 (x : Num) : Nat × Fp := roundTo fp32 x 0 false 0

/-- Rounding an exact value to an integer by rm (03 Table 3.8). -/
def roundInt (n : Bool) (m : Nat) (e : Int) (st : Bool) (rm : Nat) (key : Word) : Int × Bool :=
  let sh := (-e).toNat
  let lo := m * 2 ^ e.toNat / 2 ^ sh
  let rem := m % 2 ^ sh
  let inexact := rem != 0 || st
  let mag := if inexact && roundUp rm n lo rem sh st key then lo + 1 else lo
  (if n then -(mag : Int) else mag, inexact)

/-- Float to integer of width `w` (03 Table 3.8): the value, and its flags. -/
def toInt (x : Num) (w : Nat) (signed : Bool) (rm : Nat) (key : Word) : Int × Fp :=
  let lo : Int := if signed then -(2 ^ (w - 1) : Nat) else 0
  let hi : Int := if signed then (2 ^ (w - 1) : Nat) - 1 else (2 ^ w : Nat) - 1
  match x with
  | .nan => (0, fIV)
  | .inf n => (if n then lo else hi, fIV)
  | .fin n m e st =>
    let r := roundInt n m e st rm key
    if r.1 < lo then (lo, fIV) else if hi < r.1 then (hi, fIV) else (r.1, if r.2 then fNX else 0)

/-- A finite value, an infinity or NaN to sx8 (03 R84). -/
def toSx8 (x : Num) : Nat × Fp :=
  match x with
  | .nan => (255, fIV)
  | .inf n => if n then (255, fIV) else (254, fIV)
  | .fin n m e st =>
    if n || m = 0 then (255, fIV) else
    let lg : Int := (m.log2 : Int) + e + 127
    if 254 < lg then (254, fOF ||| fNX)
    else if lg < 0 then (0, fUF ||| fNX)
    else (lg.toNat, if m = 2 ^ m.log2 && !st then 0 else fNX)

/-- Exact signed sum of two finite values: mantissa at the lower exponent. -/
def addFin (n1 : Bool) (m1 : Nat) (e1 : Int) (n2 : Bool) (m2 : Nat) (e2 : Int) : Int × Int :=
  let e := min e1 e2
  let a : Int := (m1 * 2 ^ (e1 - e).toNat : Nat)
  let b : Int := (m2 * 2 ^ (e2 - e).toNat : Nat)
  ((if n1 then -a else a) + (if n2 then -b else b), e)

/-- The exact sum, with the zero signs of 03 R92. -/
def Num.add (rm : Nat) : Num → Num → Num × Fp
  | .nan, _ => (.nan, 0)
  | _, .nan => (.nan, 0)
  | .inf a, .inf b => if a = b then (.inf a, 0) else (.nan, fIV)
  | .inf a, _ => (.inf a, 0)
  | _, .inf b => (.inf b, 0)
  | .fin n1 m1 e1 _, .fin n2 m2 e2 _ =>
    if m1 = 0 ∧ m2 = 0 then (.zero (if n1 = n2 then n1 else rm == 3), 0) else
    let r := addFin n1 m1 e1 n2 m2 e2
    if r.1 = 0 then (.zero (rm == 3), 0) else (.fin (decide (r.1 < 0)) r.1.natAbs r.2 false, 0)

def Num.sub (rm : Nat) (a b : Num) : Num × Fp := Num.add rm a b.neg

/-- The exact product (03 R92, R89). -/
def Num.mul : Num → Num → Num × Fp
  | .nan, _ => (.nan, 0)
  | _, .nan => (.nan, 0)
  | .inf a, .inf b => (.inf (a != b), 0)
  | .inf a, .fin n m _ _ => if m = 0 then (.nan, fIV) else (.inf (a != n), 0)
  | .fin n m _ _, .inf b => if m = 0 then (.nan, fIV) else (.inf (n != b), 0)
  | .fin n1 m1 e1 _, .fin n2 m2 e2 _ => (.fin (n1 != n2) (m1 * m2) (e1 + e2) false, 0)

/-- a × b + c before its one rounding: an operand NaN raises nothing (03 R89). -/
def Num.fma (rm : Nat) (a b c : Num) : Num × Fp :=
  let p := a.mul b
  let r := Num.add rm p.1 c
  (r.1, if a.isNan || b.isNan || c.isNan then 0 else p.2 ||| r.2)

/-- The exact quotient, to 72 bits and a sticky bit (04 R120). -/
def Num.div : Num → Num → Num × Fp
  | .nan, _ => (.nan, 0)
  | _, .nan => (.nan, 0)
  | .inf _, .inf _ => (.nan, fIV)
  | .inf a, .fin n _ _ _ => (.inf (a != n), 0)
  | .fin n _ _ _, .inf b => (.zero (n != b), 0)
  | .fin n1 m1 e1 _, .fin n2 m2 e2 _ =>
    if m2 = 0 then (if m1 = 0 then (.nan, fIV) else (.inf (n1 != n2), fDZ))
    else if m1 = 0 then (.zero (n1 != n2), 0)
    else
      let k := 72 + m2.log2 - m1.log2
      let q := m1 * 2 ^ k / m2
      (.fin (n1 != n2) q (e1 - e2 - k) (m1 * 2 ^ k % m2 != 0), 0)

/-- The integer square root, bit by bit from bit `k`. -/
def isqrtFrom (n : Nat) : Nat → Nat → Nat
  | 0, r => if (r + 1) * (r + 1) ≤ n then r + 1 else r
  | k + 1, r => isqrtFrom n k (if (r + 2 ^ (k + 1)) * (r + 2 ^ (k + 1)) ≤ n then r + 2 ^ (k + 1) else r)

def isqrt (n : Nat) : Nat := isqrtFrom n (n.log2 / 2 + 1) 0

/-- The square root, to at least 72 bits and a sticky bit (04 R120). -/
def Num.sqrt : Num → Num × Fp
  | .nan => (.nan, 0)
  | .inf n => if n then (.nan, fIV) else (.inf false, 0)
  | .fin n m e _ =>
    if m = 0 then (.zero n, 0) else if n then (.nan, fIV) else
    let m1 := if e % 2 = 0 then m else 2 * m
    let e1 := if e % 2 = 0 then e else e - 1
    let v := m1 * 2 ^ 152
    let r := isqrt v
    (.fin false r (e1 / 2 - 76) (r * r != v), 0)

/-- Order of two values that are no NaN: the sign of a − b, with −0 equal to +0. -/
def Num.cmp : Num → Num → Int
  | .inf a, .inf b => if a = b then 0 else if a then -1 else 1
  | .inf a, _ => if a then -1 else 1
  | _, .inf b => if b then 1 else -1
  | .fin n1 m1 e1 _, .fin n2 m2 e2 _ => (addFin n1 m1 e1 (!n2) m2 e2).1.sign
  | _, _ => 0

def Num.isNeg : Num → Bool
  | .nan => false | .inf n => n | .fin n _ _ _ => n

/-- minimumNumber and maximumNumber of 03 R97. -/
def Num.minmax (wantMax : Bool) (a b : Num) : Num :=
  if a.isNan then b else if b.isNan then a else
  let c := a.cmp b
  let aLess := if c = 0 then a.isNeg && !b.isNeg else decide (c < 0)
  if aLess = wantMax then b else a

/-- The FCMP conditions of 04 R121. -/
def Num.test (cond : Nat) (a b : Num) : Bool :=
  let un := a.isNan || b.isNan
  let c := a.cmp b
  match cond with
  | 0 => !un && c == 0
  | 1 => un || c != 0
  | 2 => !un && decide (c < 0)
  | 3 => !un && decide (c ≤ 0)
  | 4 => !un && decide (0 < c)
  | 5 => !un && decide (0 ≤ c)
  | 6 => un
  | _ => !un

/-- The value a result bit pattern of fp32 stands for. -/
def v32 (bits : Nat) : Num := fp32.value bits

/-- One fp32 operation: exact value, one rounding, all flags. -/
def fop32 (rm : Nat) (key : Word) (x : Num × Fp) : Nat × Fp :=
  let r := roundTo fp32 x.1 rm false key
  (r.1, x.2 ||| r.2)

/-- acc + x in fp32 by RNE, the step of every ordered sum (03 R98, R100). -/
def add32 (a b : Nat) : Nat × Fp := fop32 0 0 (Num.add 0 (v32 a) (v32 b))

/-- The exact sum of one chunk of products (03 R98). -/
def chunkExact (ps : List Num) : Num × Fp :=
  if ps.any Num.isNan then (.nan, 0) else
  let pos := ps.any (· == .inf false)
  let neg := ps.any (· == .inf true)
  if pos && neg then (.nan, fIV) else if pos then (.inf false, 0) else if neg then (.inf true, 0) else
  let s := ps.foldl (fun (a : Int × Int) p => match p with
    | .fin n m e _ => if m = 0 then a else addFin (decide (a.1 < 0)) a.1.natAbs a.2 n m e
    | _ => a) (0, 0)
  if s.1 = 0 then (.zero (!ps.isEmpty && ps.all (fun p => p.isZero && p.isNeg)), 0)
  else (.fin (decide (s.1 < 0)) s.1.natAbs s.2 false, 0)

/-- Multiply by a power of two, exactly. -/
def Num.scale (k : Int) : Num → Num
  | .fin n m e s => .fin n m (e + k) s
  | x => x

/-- tree_sum's pairing (03 R100), over any operation; `fuel` levels. -/
def treePairs {α : Type} (op : α → α → α) : List α → List α
  | a :: b :: r => op a b :: treePairs op r
  | l => l
def treeFold {α : Type} (op : α → α → α) : Nat → List α → List α
  | 0, l => l
  | k + 1, l => treeFold op k (treePairs op l)

/-- One pass of scan at distance `d` (03 R101): element i ≥ d becomes op v[i−d] v[i], all from before the pass. -/
def scanPass {α : Type} (op : α → α → α) (d : Nat) (v : List α) : List α :=
  v.take d ++ (v.zip (v.drop d)).map (fun p => op p.1 p.2)
/-- The inclusive scan of 03 R101; `k` passes at distances d, 2d, … -/
def scanFrom {α : Type} (op : α → α → α) : Nat → Nat → List α → List α
  | 0, _, v => v
  | k + 1, d, v => if v.length ≤ d then v else scanFrom op k (2 * d) (scanPass op d v)

/-- ln 2 × 2^256. -/
def ln2P : Nat := 0xb17217f7d1cf79abc9e3b39803f2f6af40f343267298b62d8a0d175b8baafa2b

/-- Taylor terms of exp at 256 fraction bits: sum of t, t·y/k, … -/
def expTerms (y : Nat) : Nat → Nat → Nat → Nat → Nat
  | 0, _, _, acc => acc
  | n + 1, k, t, acc => let t' := t * y / 2 ^ 256 / k; expTerms y n (k + 1) t' (acc + t')

/-- Terms of atanh at 256 fraction bits: t + t·y²/3 + … -/
def atanhTerms (y2 : Nat) : Nat → Nat → Nat → Nat → Nat
  | 0, _, _, acc => acc
  | n + 1, k, t, acc => let t' := t * y2 / 2 ^ 256; atanhTerms y2 n (k + 2) t' (acc + t' / k)

/-- exp2 to 256 bits and a sticky bit (03 R102; precision in log 8). -/
def exp2Num : Num → Num × Fp
  | .nan => (.nan, 0)
  | .inf n => if n then (.zero false, 0) else (.inf false, 0)
  | .fin n m e _ =>
    if m = 0 then (.fin false 1 0 false, 0)
    else if 9 ≤ (m.log2 : Int) + e then (if n then .fin false 1 (-600) true else .fin false 1 600 true, 0)
    else
      -- fixed point at 2^-256; |x| below 512 and at least 2^-149, so the shift loses nothing
      let fx : Int := (m * 2 ^ (e + 256).toNat : Nat)
      let x := if n then -fx else fx
      let one : Int := 2 ^ 256
      let i := x / one
      let fr := (x % one).toNat
      if fr = 0 then (.fin false 1 i false, 0)
      else
        let y := fr * ln2P / 2 ^ 256
        (.fin false (expTerms y 60 1 (2 ^ 256) (2 ^ 256)) (i - 256) true, 0)

/-- log2 to 256 bits and a sticky bit (03 R102; precision in log 8). -/
def log2Num : Num → Num × Fp
  | .nan => (.nan, 0)
  | .inf n => if n then (.nan, fIV) else (.inf false, 0)
  | .fin n m e _ =>
    if m = 0 then (.inf true, fDZ) else if n then (.nan, fIV) else
    let lg := m.log2
    let ex : Int := (lg : Int) + e
    if m = 2 ^ lg then (Num.ofInt ex, 0)
    else
      let t := (m - 2 ^ lg) * 2 ^ 256 / (m + 2 ^ lg)
      let at1 := atanhTerms (t * t / 2 ^ 256) 110 3 t t
      let l : Nat := 2 * at1 * 2 ^ 256 / ln2P
      let v : Int := ex * 2 ^ 256 + (l : Int)
      (.fin (decide (v < 0)) (if v < 0 then v.natAbs - 1 else v.natAbs) (-256) true, 0)

def rcpNum (x : Num) : Num × Fp := Num.div (.fin false 1 0 false) x

/-- rsqrt: the root of the reciprocal at 152 bits (03 R102). -/
def rsqrtNum : Num → Num × Fp
  | .nan => (.nan, 0)
  | .inf n => if n then (.nan, fIV) else (.zero false, 0)
  | .fin n m e _ =>
    if m = 0 then (.inf n, fDZ) else if n then (.nan, fIV) else
    let m1 := if e % 2 = 0 then m else 2 * m
    let e1 := if e % 2 = 0 then e else e - 1
    let k := 304 + 2 * m1.log2
    let q := 2 ^ k / m1
    let r := isqrt q
    (.fin false r (-(e1 / 2) - ((k / 2 : Nat) : Int)) (r * r * m1 != 2 ^ k), 0)

/-- One primitive of 03 R102, rounded once. -/
def prim32 (f : Num → Num × Fp) (x : Nat) : Nat × Fp := fop32 0 0 (f (v32 x))
def mul32 (a b : Nat) : Nat × Fp := fop32 0 0 ((v32 a).mul (v32 b))
def fma32 (a b c : Nat) : Nat × Fp := fop32 0 0 (Num.fma 0 (v32 a) (v32 b) (v32 c))
def neg32 (a : Nat) : Nat := if (v32 a).isNan then 0x7FC00000 else if a.testBit 31 then a - 2 ^ 31 else a + 2 ^ 31

/-- The composite functions of 03 Table 3.9. -/
def exp32 (x : Nat) : Nat × Fp :=
  let p := mul32 x 0x3FB8AA3B
  let r := prim32 exp2Num p.1
  (r.1, p.2 ||| r.2)
def sigmoid32 (x : Nat) : Nat × Fp :=
  let e := exp32 (neg32 x)
  let d := add32 0x3F800000 e.1
  let r := prim32 rcpNum d.1
  (r.1, e.2 ||| d.2 ||| r.2)
def tanh32 (x : Nat) : Nat × Fp :=
  let a := mul32 0x40000000 x
  let t := sigmoid32 a.1
  let r := fma32 0x40000000 t.1 0xBF800000
  (r.1, a.2 ||| t.2 ||| r.2)
def silu32 (x : Nat) : Nat × Fp :=
  let g := sigmoid32 x
  let r := mul32 x g.1
  (r.1, g.2 ||| r.2)
def gelu32 (x : Nat) : Nat × Fp :=
  let x2 := mul32 x x
  let a := mul32 0x3D372713 x2.1
  let b := fma32 a.1 x x
  let c := mul32 0x3F4C422A b.1
  let t := tanh32 c.1
  let h := mul32 0x3F000000 x
  let r := fma32 h.1 t.1 h.1
  (r.1, x2.2 ||| a.2 ||| b.2 ||| c.2 ||| t.2 ||| h.2 ||| r.2)

/-- The positions a seeded-sparse block keeps (03 R104); mode 1 is 2:4, mode 2 is 1:4. -/
def sparseKept (seed : Word) (mode row block : Nat) : List Nat :=
  let h := (mix64 (seed ^^^ (BitVec.ofNat 64 (row * 2 ^ 32)) ^^^ BitVec.ofNat 64 block)).toNat
  if mode = 1 then
    match h % 6 with
    | 0 => [0, 1] | 1 => [0, 2] | 2 => [0, 3] | 3 => [1, 2] | 4 => [1, 3] | _ => [2, 3]
  else [h % 4]

/-- The integer value of an integer type's bits. -/
def intVal (w : Nat) (signed : Bool) (bits : Nat) : Int :=
  if signed && decide (2 ^ (w - 1) ≤ bits) then (bits : Int) - (2 ^ w : Nat) else bits

/-- The low `w` bits of an integer's two's complement form. -/
def intBits (w : Nat) (i : Int) : Nat := (i % (2 ^ w : Nat)).toNat

/-- Clamp to an integer type's range (03 R80). -/
def clampInt (w : Nat) (signed : Bool) (i : Int) : Int :=
  let lo : Int := if signed then -(2 ^ (w - 1) : Nat) else 0
  let hi : Int := if signed then (2 ^ (w - 1) : Nat) - 1 else (2 ^ w : Nat) - 1
  if i < lo then lo else if hi < i then hi else i

/-- The value of an element of any type code: floats, sx8, integers (02 Table 2.4). -/
def tyValue (t bits : Nat) : Num :=
  match fmtOf t, intOf t with
  | some f, _ => f.value (bits % 2 ^ f.width)
  | none, some (w, sg) => Num.ofInt (intVal w sg (bits % 2 ^ w))
  | none, none => sx8Value bits

/-- One conversion from type `a` to type `b` (03 Table 3.8): result bits and flags. -/
def convert (a b : Nat) (rm : Nat) (sat : Bool) (key : Word) (bits : Nat) : Nat × Fp :=
  match fmtOf b, intOf b with
  | some f, _ => roundTo f (tyValue a bits) rm sat key
  | none, some (w, sg) =>
    (match intOf a with
     | some (wa, sa) =>
       let v := intVal wa sa (bits % 2 ^ wa)
       (intBits w (if sat then clampInt w sg v else v), if clampInt w sg v = v then 0 else fIV)
     | none => let r := toInt (tyValue a bits) w sg rm key; (intBits w r.1, r.2))
  | none, none => toSx8 (tyValue a bits)

/-- An exact value and its flags converted to a type, saturating (10 R312, 03 R91). -/
def toTy (d rm : Nat) (key : Word) (x : Num × Fp) : Nat × Fp :=
  match fmtOf d, intOf d with
  | some f, _ => let r := roundTo f x.1 rm true key; (r.1, x.2 ||| r.2)
  | none, some (w, sg) => let r := toInt x.1 w sg rm key; (intBits w r.1, x.2 ||| r.2)
  | none, none => let r := toSx8 x.1; (r.1, x.2 ||| r.2)

/-- The value a reduce leaves in place of `old` (10 R312): integers modulo their width, floats rounded once. -/
def reduceVal (ty rm : Nat) (key : Word) (old x : Nat) : Nat × Fp :=
  match intOf ty with
  | some (w, _) => ((old + x) % 2 ^ w, 0)
  | none => toTy ty rm key (Num.add rm (tyValue ty old) (tyValue ty x))

end Sys2Proof.Machine
end

