-- ==== Sys2Proof/Machine/Store.lean ====
section
/-! DEFINITION. Store.lean: sparse data by address or number in one canonical form (keys strictly rising, no entry
equal to what an unlisted key reads as), and the byte memory of the part built on it. -/

namespace Sys2Proof.Machine

/-- Sparse data: key and value pairs, keys strictly rising, no entry equal to the default. -/
abbrev Store (α : Type) := List (Nat × α)

/-- The value at key `k`; an unlisted key reads the default. -/
def Store.get {α : Type} [Inhabited α] : Store α → Nat → α
  | [], _ => default
  | (j, v) :: r, k => if j = k then v else if k < j then default else Store.get r k

/-- Put `v` at key `k`; writing the default removes the entry. -/
def Store.set {α : Type} [Inhabited α] [DecidableEq α] : Store α → Nat → α → Store α
  | [], k, v => if v = default then [] else [(k, v)]
  | (j, w) :: r, k, v =>
    if k < j then (if v = default then (j, w) :: r else (k, v) :: (j, w) :: r)
    else if j = k then (if v = default then r else (k, v) :: r)
    else (j, w) :: Store.set r k v

/-- The canonical form: keys strictly rising above `lo`, no default entry. -/
def Store.wfFrom {α : Type} [Inhabited α] [DecidableEq α] : Nat → Store α → Bool
  | _, [] => true
  | lo, (k, v) :: r => decide (lo ≤ k) && decide (v ≠ default) && Store.wfFrom (k + 1) r

def Store.wf {α : Type} [Inhabited α] [DecidableEq α] (m : Store α) : Bool := Store.wfFrom 0 m

/-- Put the values `vs` at `k`, `k + 1`, … -/
def Store.setRun {α : Type} [Inhabited α] [DecidableEq α] (m : Store α) : Nat → List α → Store α
  | _, [] => m
  | k, v :: vs => Store.setRun (m.set k v) (k + 1) vs

/-- The `n` values at `k`, `k + 1`, … -/
def Store.getRun {α : Type} [Inhabited α] (m : Store α) (k : Nat) : Nat → List α
  | 0 => []
  | n + 1 => m.get k :: Store.getRun m (k + 1) n

/-- Memory: bytes by address; the cells of Host.Core in canonical form. An unlisted byte reads 0 (log 3). -/
abbrev Memory := List Host.Cell

/-- Reading one byte. -/
def Memory.read (m : Memory) (a : Nat) : Byte := Store.get m a
/-- Writing one byte. -/
def Memory.write (m : Memory) (a : Nat) (b : Byte) : Memory := Store.set m a b
/-- The canonical form of a memory. -/
def Memory.wf (m : Memory) : Bool := Store.wf (α := Byte) m
/-- The `n` bytes at `a`. -/
def Memory.readRun (m : Memory) (a n : Nat) : List Byte := Store.getRun (α := Byte) m a n
/-- Write the bytes `bs` at `a`. -/
def Memory.writeRun (m : Memory) (a : Nat) (bs : List Byte) : Memory := Store.setRun (α := Byte) m a bs

/-- The little-endian number of a run of bytes (00 R5). -/
def leNat : List Byte → Nat
  | [] => 0
  | b :: r => b.toNat + 256 * leNat r

/-- The `n` little-endian bytes of a number (00 R5). -/
def natLe : Nat → Nat → List Byte
  | 0, _ => []
  | n + 1, v => BitVec.ofNat 8 v :: natLe n (v / 256)

/-- The first position of a list that satisfies `f`, and the list without it. -/
def takeFirst {α : Type} (f : α → Bool) : List α → Option (α × List α)
  | [] => none
  | x :: r => if f x then some (x, r) else
    match takeFirst f r with
    | some (y, r') => some (y, x :: r')
    | none => none

end Sys2Proof.Machine
end

