-- ==== Sys2Proof/Machine/Xts.lean ====
section
/-! DEFINITION. Xts.lean: AES-256-XTS as the drawer ports apply it to a 64-byte line (01 R17, 10 R325, 15 R465; IEEE 1619
and FIPS 197, which those rules name). -/

namespace Sys2Proof.Machine

/-! ### AES-256 -/

/-- Multiplication in GF(2^8) modulo x^8 + x^4 + x^3 + x + 1. -/
def gMul (a b : Byte) : Byte :=
  ((List.range 8).foldl (fun (r : Byte × Byte) i =>
    (if b.getLsbD i then r.1 ^^^ r.2 else r.1, (r.2 <<< 1) ^^^ (if r.2.getLsbD 7 then 0x1B else 0))) (0, a)).1
/-- The inverse, a^254; 0 stays 0. -/
def gInv (a : Byte) : Byte :=
  ((List.range 7).foldl (fun (r : Byte × Byte) _ => let q := gMul r.2 r.2; (gMul r.1 q, q)) (1, a)).1
def subByte (a : Byte) : Byte :=
  let i := gInv a
  i ^^^ i.rotateLeft 1 ^^^ i.rotateLeft 2 ^^^ i.rotateLeft 3 ^^^ i.rotateLeft 4 ^^^ 0x63
def subByteInv (b : Byte) : Byte := gInv (b.rotateLeft 1 ^^^ b.rotateLeft 3 ^^^ b.rotateLeft 6 ^^^ 0x05)

def xorBytes (a b : List Byte) : List Byte := a.zipWith (· ^^^ ·) b
/-- Row `r` of column `c` of the new state is that of column `c + r`, or for decryption `c − r`. -/
def shiftRows (inv : Bool) (x : List Byte) : List Byte :=
  (List.range 16).map fun i => x.getD (4 * ((i / 4 + (if inv then 4 - i % 4 else i % 4)) % 4) + i % 4) 0
def mixCols (inv : Bool) (x : List Byte) : List Byte :=
  let k : List Byte := if inv then [14, 11, 13, 9] else [2, 3, 1, 1]
  (List.range 16).map fun i =>
    (List.range 4).foldl (fun s j => s ^^^ gMul (k.getD ((j + 4 - i % 4) % 4) 0) (x.getD (i / 4 * 4 + j) 0)) 0

/-- The next word of the key schedule behind the words so far. -/
def nextWord (w : List (List Byte)) (rcon : Byte) (i : Nat) : List Byte :=
  let t := w.getD (i - 1) []
  let t := if i % 8 = 0 then ((t.drop 1 ++ t.take 1).map subByte).zipWith (· ^^^ ·) [rcon, 0, 0, 0]
    else if i % 8 = 4 then t.map subByte else t
  xorBytes (w.getD (i - 8) []) t
/-- The 15 round keys. -/
def roundKeys (key : List Byte) : List (List Byte) :=
  let w := (List.range 52).foldl (fun (w : List (List Byte) × Byte) i =>
      (w.1 ++ [nextWord w.1 w.2 (i + 8)], if i % 8 = 0 then gMul w.2 2 else w.2))
    ((List.range 8).map fun i => (key.drop (4 * i)).take 4, 1)
  (List.range 15).map fun r => ((w.1.drop (4 * r)).take 4).flatten

def aesEnc (rk : List (List Byte)) (x : List Byte) : List Byte :=
  let x := (List.range 13).foldl (fun x r => xorBytes (mixCols false (shiftRows false (x.map subByte))) (rk.getD (r + 1) [])) (xorBytes x (rk.getD 0 []))
  xorBytes (shiftRows false (x.map subByte)) (rk.getD 14 [])
def aesDec (rk : List (List Byte)) (x : List Byte) : List Byte :=
  let x := (List.range 13).foldl (fun x r => mixCols true (xorBytes ((shiftRows true x).map subByteInv) (rk.getD (13 - r) []))) (xorBytes x (rk.getD 14 []))
  xorBytes ((shiftRows true x).map subByteInv) (rk.getD 0 [])

/-! ### XTS over a line -/

/-- The tweaks of the line's four blocks: the encrypted line number, then times x in GF(2^128) each. -/
def xtsTweaks (key : BitVec 512) (line : Nat) : List (List Byte) :=
  let t := leNat (aesEnc (roundKeys (natLe 32 (key.extractLsb' 256 256).toNat)) (natLe 16 line))
  ((List.range 3).foldl (fun (ts : List Nat × Nat) _ =>
    let n := (2 * ts.2 % 2 ^ 128) ^^^ (if 2 ^ 127 ≤ ts.2 then 0x87 else 0)
    (ts.1 ++ [n], n)) ([t], t)).1.map (natLe 16)
/-- Encrypt, or with `inv` decrypt, the 64 bytes of a line under a key slot's contents (15 R465); physical address bits
51:6 are the tweak. -/
def xtsLine (inv : Bool) (key : BitVec 512) (line : Nat) (bs : List Byte) : List Byte :=
  let rk := roundKeys (natLe 32 (key.extractLsb' 0 256).toNat)
  (xtsTweaks key line).zipIdx.flatMap fun t =>
    let b := xorBytes ((bs.drop (16 * t.2)).take 16) t.1
    xorBytes (if inv then aesDec rk b else aesEnc rk b) t.1

end Sys2Proof.Machine
end

