-- ==== Sys2Proof/Machine/State.lean ====
section
/-! DEFINITION. State.lean: everything the spec gives the machine, as plain data, unit by unit; what a step can stop
with; and the machine right after reset. Numbers that count or index are Nat; what software sees as a word is a bit
vector. A memory location is a physical address plus 2^52 times its KEY (05 R149). -/

namespace Sys2Proof.Machine

/-! ### Faults as the spec records them (14 Table 14.4) -/

/-- A fault recorded for delivery: TRAP_CAUSE fields, TRAP_PC and TRAP_INFO (14 R416, R418). `op` names the engine
instruction it is reported against (its program-order number), `running` a fault found after its issue (14 R478). -/
structure Trap where
  cause : Nat
  stream : Nat
  slot : Nat
  pc : Word
  i0 : Word := 0
  i1 : Word := 0
  i2 : Word := 0
  i3 : Word := 0
  late : Bool := false
  op : Nat := 0
  running : Bool := false
  deriving DecidableEq, Repr

/-- What the meaning of an instruction came to: it took effect; it waits and changes nothing but its own query; it
raises a fault precise to itself (14 R417). -/
inductive Out where
  | done
  | hold
  | trap (t : Trap)
  deriving DecidableEq, Repr

/-! ### Core: scalar state (04 R105, 03 R87 to R95, 05 R141, R153, 14 R413) -/

/-- The S registers. Index 64 to 71 of `s` and 16 to 19 of `p` hold the handler bank (14 R419). -/
structure Scalar where
  s : Store Word := []
  p : Store Bool := []
  b : Store (BitVec 32) := []
  k : Store Bool := []
  lc : Word := 0
  n : Nat := 1
  st : Nat := 1
  lrec : Store (BitVec 512) := []
  satcvt : Bool := false
  fpstat : Fp := 0
  srseed : Word := 0
  srcnt : Store (BitVec 44) := []
  chkEarly : Bool := false
  carve : BitVec 22 := 0
  ovf : Word := 0
  priv : BitVec 2 := 0
  deriving DecidableEq, Repr

/-- A tile descriptor (06 R184). -/
structure Tile where
  base : Nat := 0
  rows : Nat := 1
  cols : Nat := 1
  ty : Nat := 0
  deriving DecidableEq, Repr

/-- One vector cluster (06 Table 6.1); `mask` by register, `blots` by 64-byte granule (05 R477). -/
structure Cluster where
  reg : Memory := []
  blots : Store Bool := []
  size : Nat := 0
  vbase : Nat := 0
  tiles : Store (Option Tile) := []
  masks : Store (BitVec 1024) := []
  deriving DecidableEq, Repr

/-- The scratchpad (05 R138, R477). -/
structure Scratch where
  bytes : Memory := []
  blots : Store Bool := []
  deriving DecidableEq, Repr

/-- One byte of a write: its place, which of its bits are written, their values, whether it carries a blot, and whether it
belongs to an element of less than 64 bytes of a copy, whose writes clear no blot (14 R439). -/
structure Cell where
  at_ : Nat
  mask : Byte
  val : Byte
  blot : Bool
  part : Bool := false
  deriving DecidableEq, Repr

/-- The bytes of a write; where two name one place the later one wins. -/
abbrev LBytes := List Cell

/-- A register write that falls due (02 R62, R63). -/
inductive Wr where
  | s (r : Nat) (v : Word)
  | link (r : Nat) (v : Word)
  | p (r : Nat) (v : Bool)
  | b (r : Nat) (v : BitVec 32)
  | k (r : Nat) (v : Bool)
  | loop (lc : Word) (n st : Nat)
  | reg (y : Bool) (bytes : LBytes)
  | mask (y : Bool) (r : Nat) (care v : BitVec 1024)
  | tile (y : Bool) (n : Nat) (t : Tile)
  | vbase (y : Bool) (v : Nat)
  | fpset (f : Fp)
  | fpclr (f : Fp)
  | sys (num : Nat) (v : Word)
  | nest (id : Nat) (v : BitVec 32)
  | pin (p : Nat) (on zero : Bool)
  deriving DecidableEq, Repr

/-- A pending write: due in strand cycles, or handler cycles if `hand`; `rank` 0 before 1 in a cycle (03 R90), then
program order `seq` (02 R63); `stream` issued it. -/
structure Pend where
  due : Nat
  rank : Nat
  seq : Nat
  stream : Nat
  hand : Bool
  wr : Wr
  deriving DecidableEq, Repr

/-- Where a load lands. -/
inductive LandDest where
  | s (r : Nat) (size : Nat) (sign : Bool)
  | v (y : Bool) (cells : List (Nat × Byte))   -- offset and the bits written
  | l (r : Nat)
  deriving DecidableEq, Repr

/-- What a landing entry waits for. -/
inductive LandSrc where
  | mem (parts : List (Nat × Nat))      -- sampled from memory: locations and lengths
  | reply                               -- a synchronisation or fabric reply
  deriving DecidableEq, Repr

/-- A load, returning atomic or returning fabric access in flight (05 R150, R151, 11 R343, 13 R397). `addr` is what a fault
names, `vas` the addresses of a vector load's bytes as runs. It samples after every access in `waitFor`; `soft` holds the
earlier accesses not performed yet before which it is ordered for agents of their core, quad or die alone, with that
scope, and with 5 loads that it follows for every agent and samples after: until they are performed its value can still
change (05 R169). `fix` holds the bytes, by position, that a spill access takes
from the carve part at its issue, and `fixBlot` the first of them that carries a blot with the granule (05 R141, R477); `mark` is the number of the next effect as it sampled;
`eng` the engine that an atomic's reply comes from. -/
structure Land where
  id : Nat
  seq : Nat
  stream : Nat
  slot : Nat
  pc : Word
  cls : Nat
  scope : Nat
  hand : Bool
  entry : Bool
  due : Nat
  dest : LandDest
  src : LandSrc
  addr : Word
  vas : List (Nat × Nat) := []
  sampleAt : Nat
  waitFor : List Nat
  soft : List (Nat × Nat) := []
  fix : List (Nat × Byte) := []
  fixBlot : Option (Nat × Word) := none
  eng : Option Nat := none
  mark : Nat := 0
  data : Option (List Byte × Bool)
  fault : Option Trap
  readyAt : Nat
  fabric : Bool := false
  pld : Bool := false
  deriving DecidableEq, Repr

/-- The operations of 11 Table 11.3 and what each effect carries when it leaves the hold. -/
inductive EffKind where
  | store (parts : List (Nat × List Byte)) (blot : Bool)
  | atomic (loc width : Nat) (op : Nat) (v c : Word) (sign : Bool) (land : Option Nat)
  | barrier (scope inst bar node : Nat) (held : Option Nat)
  | join (loc : Nat) (flt : Bool) (p : Word)
  | watch (loc cond : Nat) (w32 : Bool) (v : Word) (recLoc : Nat) (held : Nat)
  | unwatch (h : Word) (held : Nat)
  | trig
  | spawn (record : BitVec 512) (held : Nat)
  | nsub (record : BitVec 1024) (level : Nat) (held : Nat)
  | prio (level : Nat) (held : Nat)
  | purge (tag : Nat) (dom : Nat) (held : Nat)
  | bwait (scope inst bar node t held : Nat)
  | jwait (loc held : Nat)
  | waitw (loc cond : Nat) (w32 : Bool) (v : Word) (held : Nat)
  | suspend (loc cond : Nat) (w32 : Bool) (v : Word)
  | fire (dom recLoc : Nat)
  | reply (held : Nat) (v : Word) (fault : Option Trap)
  | clrun (q : Nat) (va : Word) (held : Nat)
  | fabric (req : FabReq) (target : Nat) (land : Option Nat) (t : Trap)
  | reduce (ty rm : Nat) (key : Word) (items : List (Nat × Nat × Nat × Bool))
  | cells (bytes : LBytes)
  | inCore (space : Nat) (bytes : LBytes)
  deriving DecidableEq, Repr

/-- An effect in an egress hold (05 R174): it leaves when the count of its unit reaches `leave`; `clk` names the unit, 0
the core, 1 its matrix engine, 2 + n stack n, 18 + n the core's running cycles for what goes to stack n (09 R271); `owner` is its strand, 32 × node + index. It is applied after every effect in `after` is performed (05 R170), or, of a store, before those in
`narrow`, which it follows for agents of its quad (1) or die (2) alone (05 R169);
`unc`: its bytes in uncached drawer pages (05 R145). -/
structure Eff where
  id : Nat
  owner : Nat
  src : Agent
  clk : Nat
  leave : Nat
  stream : Nat
  cls : Nat
  scope : Nat
  seq : Nat
  after : List Nat
  narrow : List (Nat × Nat) := []
  unc : List (Nat × Nat) := []
  kind : EffKind
  deriving DecidableEq, Repr

/-- A message on the interposer: an effect that has left its hold, or a query; `core` is the core that its reply goes to,
`source` and `txn` its source id and number at an engine (11 R337), `clk` the unit whose hold it left,
`back` of a reply the engine that it comes from. -/
structure Msg where
  id : Nat
  owner : Nat
  core : Nat
  at_ : Nat
  seq : Nat
  stream : Nat
  cls : Nat
  scope : Nat
  after : List Nat
  narrow : List (Nat × Nat) := []
  unc : List (Nat × Nat) := []
  src : Agent
  txn : Nat
  source : Nat := 0
  clk : Nat := 0
  back : Option Nat := none
  kind : EffKind
  deriving DecidableEq, Repr

/-- A signal added as pending (05 R157): given in the first cycle at or after `cyc` in which the effects `perf` are
performed, the landings `lands` are over and, with `ended`, its engine operation has ended, and with `outs` every
effect of that operation is performed. -/
structure Sig where
  prod : Nat
  cons : Nat
  hand : Bool
  cyc : Nat
  perf : List Nat
  lands : List Nat
  ended : Option Nat
  outs : Bool := false
  deriving DecidableEq, Repr

/-- An engine queue entry with its captured operands (04 R132, R135, 02 R62). -/
structure QEnt where
  seq : Nat
  folio : Word
  slot : Nat
  words : List SlotWord
  a : Word
  b : Word
  b1 : Word
  d : Word
  c : Word
  brel : BitVec 32
  gate : Option Bool
  la : BitVec 512
  lb : BitVec 512
  deriving DecidableEq, Repr

/-- A query or request that a held group has outstanding (11 R360, 12 R379): the slot of its instruction, a number, a
progress stage and the reply. -/
structure Held where
  folio : Word
  slot : Nat
  id : Nat
  stage : Nat
  v : Word
  reply : Option (Word × Option Trap)
  deriving DecidableEq, Repr

/-- A leaf in the TLB (14 R428): the page and its attributes; `bad`: its parity is wrong (R429). -/
structure TlbEnt where
  dom : Nat
  va : Nat
  size : Nat
  pa : Nat
  w : Bool
  x : Bool
  app : Bool
  cache : Nat
  key : Nat
  owner : Nat
  bad : Bool := false
  deriving DecidableEq, Repr

/-- A walk in progress (14 R430) and a walk that ended in a fault: cause and its two fields. -/
structure Walk where
  dom : Nat
  va : Word
  doneAt : Nat
  ticket : Option Nat
  deriving DecidableEq, Repr

structure WalkFault where
  dom : Nat
  va : Word
  cause : Nat
  i1 : Word
  i2 : Word
  deriving DecidableEq, Repr

/-- A 256-byte block of the instruction cache (04 R133). -/
structure IBlock where
  tag : Nat
  data : List Byte
  deriving DecidableEq, Repr

/-- An instruction fill requested: block address, the level that asked, the cycle of its next step, its location once
translated, or its fault: cause and two fields (04 R133, R134). -/
structure Fill where
  va : Nat
  level : Nat
  doneAt : Nat
  loc : Option Nat
  fault : Option (Nat × Word × Word) := none
  deriving DecidableEq, Repr

/-- How a branch came to its target (02 R36), checked when the target would dispatch; `link`: the register that CALLI's
link stands in and the value it would hold without it, and whether the link has been written (04 R125). -/
structure Arrive where
  folio : Word
  slot : Nat
  link : Option (Nat × Word) := none
  landed : Bool := false
  deriving DecidableEq, Repr

/-- The program counter: folio address and slot, with the entry check a control transfer owes (02 R36, R40). -/
structure Pc where
  folio : Word := 0
  slot : Nat := 1
  entry : Option Arrive := none
  deriving DecidableEq, Repr

/-- The trap registers of 14 Table 14.3 and R416; `back` is the strand's point, with the entry check it still owes. -/
structure TrapRegs where
  code : Nat := 0
  stream : Nat := 0
  slot : Nat := 0
  ppriv : BitVec 2 := 0
  active : Bool := false
  late : Bool := false
  pc : Word := 0
  resume : Word := 0
  i0 : Word := 0
  i1 : Word := 0
  i2 : Word := 0
  i3 : Word := 0
  vec : Word := 0
  op : Nat := 0
  running : Bool := false
  seq0 : Nat := 0
  back : Pc := {}
  deriving DecidableEq, Repr

/-- The strand on a core (12 R362, R371; 09 R259). Instance: scope code and index (01 R28); `ccb`: the copies of its node's
copy control block precede its start (12 R369). -/
structure Strand where
  node : Nat
  idx : Nat
  dom : Nat
  tag : Nat
  restart : Bool
  group : Option (Nat × Nat)
  scope : Nat
  inst : Nat
  spneed : Nat
  ready : Nat
  ccb : Bool := false
  started : Bool := false
  triggered : Bool := false
  preempt : Bool := false
  dormant : Bool := false
  waitRuns : Nat := 0
  save : Option (Nat × Nat) := none
  shorted : Bool := false
  parked : Bool := false
  waitCh : Option Nat := none
  deriving DecidableEq, Repr

/-- The counters and flow control of a core: running cycles, the count of its egress hold (log 41), the count of its fabric round
trips (log 41), strand cycles, handler cycles (01 R23, 05 R175, 14 R419); the
next cycle in which a group may dispatch (04 R126); program order; what this wall cycle still holds. -/
structure Flow where
  run : Nat := 0
  conf : Nat := 0
  dom : Nat := 0
  cycle : Nat := 0
  hcycle : Nat := 0
  next : Nat := 0
  seq : Nat := 0
  begun : Bool := false
  frozen : Bool := false
  stall : Nat := 0
  throttled : Bool := false
  dispatched : Bool := false
  issued : List Nat := []
  occ : Store Nat := []
  fresh : Store Nat := []
  wfi : Option Nat := none
  wake : Bool := false
  deriving DecidableEq, Repr

/-- The instruction a meaning is being asked for: its place, stream, program-order number, that of its group's first
instruction, words and captured operands of a queue entry. -/
structure Cur where
  folio : Word := 0
  slot : Nat := 1
  stream : Nat := 0
  seq : Nat := 0
  first : Nat := 0
  words : List SlotWord := []
  a : Word := 0
  b : Word := 0
  b1 : Word := 0
  d : Word := 0
  c : Word := 0
  brel : BitVec 32 := 0
  gate : Option Bool := none
  la : BitVec 512 := 0
  lb : BitVec 512 := 0
  nextFolio : Word := 0
  nextSlot : Nat := 1
  deriving DecidableEq, Repr

/-! ### Core: the matrix context (08 R219) -/

/-- How a nest targets its slots (08 R232). -/
inductive NestMode where
  | head (h0 f : Nat)
  | keep (slot : Nat)
  | pin (slot : Nat)
  deriving DecidableEq, Repr

/-- What an engine operation waits for: engine cycles so far, the address, and its source code (08 R251, R252). -/
structure Wait where
  n : Nat := 0
  va : Word := 0
  src : Nat := 0
  deriving DecidableEq, Repr

structure Nest where
  seq : Nat
  cls : Nat
  scope : Nat
  mode : NestMode
  zero : Bool
  count : Nat
  faulted : Bool := false
  folio : Word
  slot : Nat
  wait : Wait := {}
  deriving DecidableEq, Repr

/-- A drain (08 R235): fields taken at issue, the next row; in engine cycles its issue, the earliest start its reads
allow, and when its next row is produced. -/
structure Drain where
  seq : Nat
  slot : Nat
  pinned : Bool
  o : Word
  v : Word
  fields : Store (BitVec 32)
  row : Nat := 0
  issued : Nat
  floor : Nat := 0
  due : Nat := 0
  started : Bool := false
  faulted : Bool := false
  cls : Nat
  scope : Nat
  key : Word
  folio : Word
  qslot : Nat
  wait : Wait := {}
  deriving DecidableEq, Repr

/-- An MSAVE or MLOAD (08 R244); `ent` the queue entry it was, here as in a copy and a macro. -/
structure Xfer where
  ent : Option QEnt := none
  seq : Nat
  save : Bool
  slot : Nat
  addr : Word
  row : Nat := 0
  readyAt : Nat
  faulted : Bool := false
  cls : Nat
  scope : Nat
  folio : Word
  qslot : Nat
  wait : Wait := {}
  deriving DecidableEq, Repr

/-- A core's context (08 R219, R231); `clear`: one more than the cycles left of the slot clear; `ring` the slots that OCC counts, in the order of their completion. -/
structure MatCtx where
  shadow : Store (BitVec 32) := []
  active : Store (BitVec 32) := []
  rb : Nat := 0
  step : Nat := 0
  valid : Bool := false
  size : Nat := 16
  h : Nat := 0
  t : Nat := 0
  res : Nat := 0
  occ : Nat := 0
  ring : List Nat := []
  bnd : Nat := 0
  pinMask : BitVec 16 := 0
  slots : Store (BitVec 32) := []
  poison : Store Bool := []
  flags : Fp := 0
  clear : Nat := 0
  nest : Option Nest := none
  drains : List Drain := []
  xfers : List Xfer := []
  deriving DecidableEq, Repr

/-! ### Core: the copy engine (10 R298) -/

/-- An element map of a copy: space, address of element 0, dimensions as count and byte stride, dimension 0 first. -/
structure EMap where
  space : Nat
  base : Word
  dims : List (Nat × Int)
  deriving DecidableEq, Repr

/-- What a C instruction in progress does: a plain copy, CPYX with its types, rounding and key, CFILL, CPREF, CFLUSH by
mode, CSIG with its covered classes. -/
inductive CopyKind where
  | plain
  | x (fn sty dty rm : Nat) (f : BitVec 32) (key : Word)
  | fill (v : Word)
  | pref
  | flush (mode : Nat)
  | sig (v : Word) (st wide : Bool)
  deriving DecidableEq, Repr

/-- The bytes that a timed copy reads of one location of 8 bytes: their place and address, sampling cycle (wall) and, once sampled, the
cycle its data is here; landing in strand cycles; the destinations of each byte (10 R322). -/
structure Gran where
  loc : Nat
  va : Word := 0
  len : Nat
  ch : Nat
  due : Nat
  readyAt : Nat
  dst : List (List Nat)
  data : Option (List Byte × List Bool) := none
  deriving DecidableEq, Repr

/-- A C instruction in progress: `n` elements of `e` bytes (`se` at the source), of which `prog` are done; `unit` elements
of a 4-bit type per byte; `pieceAt` the wall cycle of its next piece; `born` the number of the next effect as a timed copy
captured its locations. -/
structure Copy where
  ent : Option QEnt := none
  seq : Nat
  kind : CopyKind
  e : Nat
  se : Nat
  n : Nat
  unit : Nat := 1
  src : EMap
  dst : EMap
  timed : Bool := false
  cls : Nat
  scope : Nat
  prog : Nat := 0
  pieceAt : Nat
  faulted : Bool := false
  grans : List Gran := []
  born : Nat := 0
  folio : Word
  slot : Nat
  wait : Wait := {}
  deriving DecidableEq, Repr

structure CopyCtx where
  copies : List Copy := []
  flags : BitVec 6 := 0
  last : Option (Nat × Nat) := none
  deriving DecidableEq, Repr

/-! ### Core: bank macros of its B stream (09) -/

/-- What a macro does, with what its issue captured: BACT's source bytes with their blots; a product (0 BMV, 1 BMVC, 2 BVM)
with KEY, control word, destination space, address, locations by slot and SR key; BAPP's rows with their home locations and
bytes; BLOAD's residency entry; an in-DRAM copy (0 BROWCP, 1 BROWZ, 2 BBUFCP) with its destination and units: position, destination and source
offsets; BFENCE's scratchpad address. -/
inductive MacroKind where
  | bact (slot slice : Nat) (data : List (Byte × Bool))
  | product (which : Nat) (key ctl : Word) (space : Nat) (dst : Word) (parts : List (List (Nat × Nat))) (sr : Word)
  | bapp (key : Word) (row0 : Nat) (rows : List (List (Nat × Nat) × List (Byte × Bool)))
  | bload (e : BitVec 512)
  | bdrop (key : Word)
  | units (which : Nat) (d : Word) (us : List (Nat × Nat × Nat))
  | bfence (addr : Nat)
  deriving DecidableEq, Repr

/-- A macro's part in one stack of its group: what has happened to it there; the windows that each lane still works and
their greatest number; units still to move, banks in the second of a unit's two windows, units still to read and those
read with their bytes; its end in stack cycles; per slot and output element, the fp32 sum and whether it carries a blot;
`begun`: its rows or units stand in these fields, so that it goes on with them when it starts again (R292, R294); `kept` the lane inputs
that a stopped product keeps (R293, log 64). -/
structure MPos where
  arrived : Bool := false
  committed : Bool := false
  started : Bool := false
  begun : Bool := false
  ended : Bool := false
  kept : Option (Memory × Store Bool) := none
  left : Store Nat := []
  span : Nat := 0
  todo : List (Nat × Nat × Nat) := []
  half : List Nat := []
  reads : List (Nat × Nat × Nat) := []
  buf : List ((Nat × Nat × Nat) × List (Byte × Bool)) := []
  endAt : Option Nat := none
  vals : List (Nat × Nat × Bool) := []
  deriving DecidableEq, Repr

/-- A B instruction in progress on the `g` stacks from `g0`; `issue` in the core's running cycles and `at_` in wall cycles,
`born` the number of the next effect then; `outAt` the cycle Pr of its first stack; `prog` its progress word (09 R292); `produced`: it has ended, its outputs still in their
hold. -/
structure Macro where
  ent : Option QEnt := none
  seq : Nat
  kind : MacroKind
  cls : Nat
  scope : Nat
  g0 : Nat
  g : Nat
  issue : Nat
  at_ : Nat
  born : Nat := 0
  pos : List MPos
  prog : Nat := 0
  outAt : Option Nat := none
  produced : Bool := false
  faulted : Bool := false
  wait : Wait := {}
  folio : Word
  slot : Nat
  deriving DecidableEq, Repr

/-- One instruction of a group as decoded: folio, lead slot, stream (02 R38 to R40). -/
structure GSlot where
  folio : Word
  slot : Nat
  stream : Nat
  words : List SlotWord
  deriving DecidableEq, Repr

/-- A group assembled by the decoder, and the point after it (02 R40, R44). -/
structure Group where
  slots : List GSlot
  ahead : Option Word := none
  nextFolio : Word
  nextSlot : Nat
  deriving DecidableEq, Repr

/-- One core: everything of 01 R28 to R30 that is its own; `fences`: the accesses of a FENCE's own group that it orders, by
class mask, with its scope (05 R161). -/
structure Core where
  strand : Option Strand := none
  pc : Pc := {}
  sc : Scalar := {}
  x : Cluster := {}
  y : Cluster := {}
  scr : Scratch := {}
  scrNext : List LBytes := []
  pend : List Pend := []
  lands : List Land := []
  fences : List (BitVec 16 × Nat × List Nat) := []
  given : Store Nat := []
  pendTok : Store Nat := []
  sigs : List Sig := []
  queues : Store (List QEnt) := []
  hold : List Eff := []
  helds : List Held := []
  flow : Flow := {}
  cur : Cur := {}
  out : Out := .done
  trap : TrapRegs := {}
  recs : List Trap := []
  dbl : Option (Option Trap × Nat) := none
  strike : BitVec 48 := 0
  tlbStat : BitVec 48 := 0
  icache : Store (Option IBlock) := []
  fills : List Fill := []
  tlb : List TlbEnt := []
  walks : List Walk := []
  wfaults : List WalkFault := []
  group : Option Group := none
  early : List (Nat × Nat × Nat × Nat) := []
  mat : MatCtx := {}
  cpy : CopyCtx := {}
  macros : List Macro := []
  lastDom : Option Nat := none
  deriving DecidableEq, Repr

/-! ### Package units -/

/-- A stack-local location that an in-DRAM copy has written in the array, and of which a line cache may still hold the old bytes
for loads (09 R258, R287): what the array holds, its blot, and whether its granule loses an old one. -/
structure Ahead where
  loc : Nat
  bs : List Byte
  blot : Bool
  clear : Bool
  deriving DecidableEq, Repr

/-- The byte stores behind physical addresses: the drawer, carve window and stack-local bytes, a drawer line as the key
that last wrote it back reads it; the LLC's dirty bytes over the drawer (05 R145); blots by 64-byte granule (14 R439) and, of a dirty line,
`under`, the blot of the drawer's line (10 R317);
`keyed`: by drawer line, the key id and the key it was last written back under, none while it never was (05 R149); the keys
loaded (15 R465); `kept` the clean bytes of lines that the LLC held when their key was loaded, as they were (R465); `ahead` the array's bytes of locations that loads may still see as they were. -/
structure Mem where
  base : Memory := []
  dirty : Store (Option Byte) := []
  under : Store (Option Bool) := []
  keyed : Store (Option (Nat × BitVec 512)) := []
  keys : Store (BitVec 512) := []
  kept : Store (Option Byte) := []
  blots : Store Bool := []
  ahead : List Ahead := []
  carved : List Nat := []
  installed : Nat := 2 ^ 51
  tiles : Store Nat := []
  deriving DecidableEq, Repr

/-- The step an engine runs (08 R222): its core and nest; whether its row block has begun, the engine cycles left of it
and what it will write; else the wall cycle at which the block's operands are at hand. -/
structure QStep where
  core : Nat
  seq : Nat
  begun : Bool := false
  left : Nat := 0
  readyAt : Nat := 0
  writes : List (Nat × BitVec 32) := []
  poison : List Nat := []
  flags : Fp := 0
  deriving DecidableEq, Repr

/-- A matrix engine (08 R222, R235): running cycles, last core served, the step in progress, the epilogue order (core,
drain) and the end of its last drain, the ends and lengths of unconfirmed row blocks (R253), and the removed cycle. -/
structure Quad where
  cyc : Nat := 0
  last : Nat := 3
  cur : Option QStep := none
  epi : List (Nat × Nat) := []
  epiEnd : Nat := 0
  undo : List (Nat × Nat) := []
  throttled : Bool := false
  deriving DecidableEq, Repr

/-- A hydration under way (09 R265, R268, R297): table entry, the wall cycle at which it is done, the BLOAD it belongs to
(strand and number) if one does, the host's service request, if the host carries it out, and the rows done. -/
structure Hyd where
  entry : Nat
  due : Nat
  origin : Option (Nat × Nat) := none
  ticket : Option Nat := none
  rows : Nat := 0
  deriving DecidableEq, Repr

/-- A bank stack (09 R256 to R271): residency table; activation bytes at 32768 × lane + 4096 × slot + byte; accumulators at
8192 × lane + 1024 × slot + element; running cycles; HOT and the refresh period in force; macros in service order (strand,
number); lanes in a refresh window; products not confirmed yet (strand and number, the windows of each lane) and what is being
repeated of them, in order, an entry without a product being the rest of the window in which the strike came (R293). -/
structure Stack where
  table : Store (BitVec 512) := []
  act : Memory := []
  actBlot : Store Bool := []
  acc : Store (BitVec 32) := []
  cyc : Nat := 0
  hot : Bool := false
  fast : Bool := false
  pool : Word := 0
  order : List (Nat × Nat) := []
  refreshing : List Nat := []
  undo : List ((Nat × Nat) × Store Nat) := []
  again : List (Option (Nat × Nat) × Store Nat) := []
  lost : Bool := false
  resetSince : Bool := false
  throttled : Bool := false
  hydrate : List Hyd := []
  deriving DecidableEq, Repr

/-- A waiter at an engine (11 R355, R356, 12 R375): core and its query with the request's number, or a suspended strand. -/
structure Waiter where
  core : Nat
  id : Nat
  loc : Nat
  kind : Nat
  cond : Nat
  w32 : Bool
  v : Word
  node : Nat
  idx : Nat
  txn : Nat
  deriving DecidableEq, Repr

/-- An armed watch entry; the node record stands at `recLoc` (11 R357). -/
structure Watch where
  loc : Nat
  cond : Nat
  w32 : Bool
  v : Word
  recLoc : Nat
  dom : Nat
  deriving DecidableEq, Repr

/-- A barrier counter (11 R346): phase, arrivals, expected count, FAULTED, owner domain of a package or pod barrier,
waiters (core, query, token, request number), and for a pod barrier the readies held (13 R412). -/
structure Bar where
  p : Nat := 0
  a : Nat := 0
  exp : Nat := 0
  faulted : Bool := false
  dom : Nat := 0
  waiters : List (Nat × Nat × Nat × Nat) := []
  own : Bool := false
  ready : List Nat := []
  deriving DecidableEq, Repr

/-- The synchronisation engines: overflow areas, barriers by scope, instance, id and node, waiters, watch table,
transaction numbers and cached replies (11 R333 to R338). -/
structure Sync where
  ovf : Store Word := []
  bars : List ((Nat × Nat × Nat × Nat) × Bar) := []
  waiters : List Waiter := []
  watch : Store (Option Watch) := []
  txn : Store Nat := []
  cache : List (Nat × Nat × Word × Bool) := []
  lines : List Nat := []
  deriving DecidableEq, Repr

/-- A node in the pool (12 R362 to R369). `phase`: 0 waiting, 1 ready, 2 placed, 3 completing; `spare`, of a pinned node: the
cores, and 128 + the stacks, that were free when it was pinned and have not been taken since (12 R368); `moved`: its instance was lost with its die, and it is
placed again elsewhere with the strands `again` (11 R347). -/
structure Node where
  record : BitVec 1024
  phase : Nat
  preds : Nat
  early : Nat
  level : Nat
  pass : Nat
  pinned : Bool
  succ : List Nat
  ccb : List (Word × Word × Word)
  scope : Nat := 0
  inst : Nat := 0
  group : Option (Nat × Nat) := none
  status : Nat := 0
  trig : BitVec 32 := 0
  exited : BitVec 32 := 0
  live : BitVec 32 := 0
  issued : Bool := false
  auto : Option Bool := none
  predHandles : List Nat := []
  faultPred : Bool := false
  spawned : BitVec 32 := 0
  placedAt : Nat := 0
  spare : List Nat := []
  moved : Bool := false
  again : BitVec 32 := 0
  deriving DecidableEq, Repr

/-- A written-back strand: its core's state, or its record alone (12 R371, R381). -/
structure Saved where
  core : Option Core
  parked : Bool := false
  waitCh : Option Nat := none
  area : Nat × Nat := (0, 0)
  deriving DecidableEq, Repr

/-- The ready pool: aperture bytes, nodes by handle, FIFOs of level 0 to 3 (a node, or a strand that returned), records
and images (12 R365 to R371, R383). -/
structure Sched where
  aperture : Memory := []
  nodes : Store (Option Node) := []
  fifo : Store (List (Nat × Option Nat)) := []
  records : Store (BitVec 512) := []
  saved : Store (Option Saved) := []
  woken : List (Nat × Nat) := []
  deriving DecidableEq, Repr

/-- A fabric request outstanding at its origin (13 R400): its strand (32 × node + index, or `none` for a collective
engine), its core, its landing, the fault it would bring, the count of the core's round trips, or for an engine the wall cycle, before which
no reply comes (13 R390), and the requests it is performed after (13 R398). -/
structure FabOut where
  id : Nat
  owner : Option Nat
  core : Nat
  cls : Nat
  target : Nat
  txn : Nat
  land : Option Nat
  req : FabReq
  floor : Nat
  after : List Nat
  trap : Trap
  deriving DecidableEq, Repr

/-- A collective run (13 R402 to R409), in the DOMAIN and at the level of the strand that started it. -/
structure Run where
  ticket : Nat
  core : Nat
  dom : Nat
  level : Nat := 1
  tag : Nat
  va : Word
  header : BitVec 512
  steps : List (BitVec 128) := []
  rtab : List Nat := []
  started : Bool := false
  step : Nat := 0
  ctr : List Nat := []
  chunk : Nat := 0
  blots : Nat := 0
  firstBlot : Word := -1
  unacked : List (Nat × Nat) := []
  aborted : Bool := false
  flt : Option Nat := none
  illegal : Bool := false
  deriving DecidableEq, Repr

structure Coll where
  runs : List Run := []
  count : BitVec 32 := 0
  deriving DecidableEq, Repr

/-- The fabric: POD_ID, route and export tables, requests out, ABORTs sent (package, CID), phase-ready messages sent (package, barrier), transaction numbers, replies cached for peers, port
training (13 R386 to R400). -/
structure Fabric where
  podId : Word := 0
  routes : Store Word := []
  exports : Store (BitVec 256) := []
  out : List FabOut := []
  aborts : List (Nat × Nat) := []
  readies : List (Nat × Nat) := []
  txn : Store Nat := []
  cache : List ((Nat × Nat) × FabAns) := []
  portUp : BitVec 16 := 0
  retrain : BitVec 16 := 0
  replay : Store Nat := []
  coll : Store (Option Coll) := []
  deriving DecidableEq, Repr

/-- The drawer ports (10 R319 to R326, 15 R465). -/
structure Drawer where
  ductus : Store (BitVec 32) := []
  written : Store (Option (BitVec 32)) := []
  retrain : List Nat := []
  dead : List Nat := []
  loaded : List Nat := []
  keyBuf : Store (BitVec 512) := []
  keyNext : Store Nat := []
  deriving DecidableEq, Repr

/-- A request in the host service ring and its requester (15 R462). -/
structure SvcReq where
  id : Nat
  seq : Option Nat
  func : Nat
  core : Nat
  req : List Byte
  deriving DecidableEq, Repr

/-- Bytes of a home that a replica follows (09 R265): `len` bytes at `loc` stand in stack `stack`, in the replica whose
footprint starts at `base`, in lane `lane` from lane byte `lb`. -/
structure HomeRun where
  stack : Nat
  base : Nat
  loc : Nat
  len : Nat
  lane : Nat
  lb : Nat
  deriving DecidableEq, Repr

/-- The host-visible part of the interposer (15). -/
structure HostPart where
  boot : Word := 0
  funcMode : BitVec 7 := 0x68
  hwin : Word := 0
  imagePool : Word := 0
  ckptCtl : BitVec 5 := 0
  ckptBase : Word := 0
  wakes : Store Word := []
  roots : Store Word := []
  poolUsed : Nat := 0
  svcProd : BitVec 32 := 0
  svcCons : BitVec 32 := 0
  svcRing : Memory := []
  svcWait : List SvcReq := []
  svcFresh : List Nat := []
  nonceFresh : Bool := false
  restoring : Bool := false
  ckptWant : Option Bool := none
  ckptLost : BitVec 32 := 0
  triHead : BitVec 32 := 0
  triTail : Word := 0
  triLost : BitVec 64 := 0
  triage : Store (BitVec 512) := []
  rstHead : BitVec 32 := 0
  rstTail : Word := 0
  rstLost : BitVec 64 := 0
  reset : Store (BitVec 256) := []
  staging : Memory := []
  bootDue : Option Nat := none
  image : Memory := []
  mlog : Memory := []
  mailbox : Memory := []
  msix : BitVec 8 := 0
  d3hot : Bool := false
  freeze : Bool := false
  lastRead : Option (List Byte × Bool) := none
  heldCommits : List (Nat × BitVec 1024 × Agent) := []
  deriving DecidableEq, Repr

/-- The package registers of 14 R414 and the sockets' states (14 Table 14.11: 0 running, 1 fenced, 2 resetting). -/
structure Pkg where
  aithr : BitVec 16 := 0x0400
  injAddr : Word := 0
  injCtl : BitVec 4 := 0
  sockets : Store Nat := []
  impl : BitVec 32 := 0
  cuts : List (Nat × Nat) := []
  deriving DecidableEq, Repr

/-- What the firmware controller does beside writes of the system block (15 R453): it reads and writes drawer memory, resets a
fenced chiplet with FUNC_MODE.CRST 0, takes a link out of service with TRAIN 0 (kind and index as 15 Table 15.12). -/
inductive FwAct where
  | read (pa n : Nat)
  | write (pa : Nat) (bytes : List Byte)
  | reset (socket : Nat)
  | drop (kind ix : Nat)
  deriving DecidableEq, Repr

/-- An outside event and the wall cycle at which it arrives, with the core it concerns; `fw`: an act of the firmware controller
in place of the event (log 1). -/
structure Input where
  at_ : Nat
  core : Nat
  ev : Instr
  fw : Option FwAct := none
  deriving DecidableEq, Repr

/-- What a checkpoint saves and its sections have no place for (01 Table 1.11): pod barriers with their readies, the blots of
lane buffers by stack, and those of carve and stack-local granules, collective runs by quadrant, and the nodes. -/
structure Beside where
  bars : List ((Nat × Nat × Nat × Nat) × Bar) := []
  lanes : Store (Store Bool) := []
  blots : Store Bool := []
  runs : List (Nat × Run) := []
  nodes : List (Nat × Node) := []
  deriving DecidableEq, Repr

/-- The whole package. `core` is the core whose turn it is (number `id`); `cores` holds every other core that has left
its reset state; `images` the context images inside a checkpoint image, by its address and their strand, `beside` what else goes with it (log 40);
`ticked` those that finished this wall cycle; `begun`: the clocks have moved in it; `llc` the drawer lines that the LLC holds,
newest first, each its location ÷ 64 (01 R7, 05 R145); `veiled` the stores accepted before others that they follow for a narrow
scope alone (05 R169). `freeCtr` numbers the free values (log 5). -/
structure State where
  id : Nat := 0
  core : Core := {}
  cores : Store (Option Core) := []
  ticked : List Nat := []
  begun : Bool := false
  wall : Nat := 0
  mem : Mem := {}
  llc : List Nat := []
  net : List Msg := []
  veiled : List Msg := []
  homes : List HomeRun := []
  quads : Store (Option Quad) := []
  bstacks : Store (Option Stack) := []
  sync : Sync := {}
  sched : Sched := {}
  fab : Fabric := {}
  drawer : Drawer := {}
  host : HostPart := {}
  pkg : Pkg := {}
  images : List (Nat × Nat × Saved) := []
  beside : List (Nat × Beside) := []
  inputs : List Input := []
  nextId : Nat := 0
  freeCtr : Nat := 0
  deriving DecidableEq, Repr

/-- How the model itself can stop a step. Every architected fault is a trap and a next state; these are not. -/
inductive Fault where
  /-- Bring-up failed, the part halted with BOOT_STATUS.ERR set (15 R453) and no input is left that could reset it: raised
  by step in such a package, and by nothing else. Safe. -/
  | bringUpHalted
  deriving DecidableEq, Repr

/-- How the model itself can refuse an instruction. -/
inductive Refusal where
  /-- No meaning yet; only the arms of exec answer it. Safe. -/
  | notModelled (mnemonic : String)
  deriving DecidableEq, Repr

/-- The machine right after reset: no strand, nothing pending, every field at the value the spec or the log names. -/
def State.reset : State := {}

end Sys2Proof.Machine
end

