-- ==== Sys2Proof/Machine/Ops.lean ====
section
/-! DEFINITION. Ops.lean: the named operations on registers, pending results, tokens, effects and memory that every
meaning is written with, and taking and leaving a trap. -/

namespace Sys2Proof.Machine

/-- What a meaning answers. -/
abbrev Result := Host.Outcome State Fault Refusal

/-! ### Registers (04 R105; 14 R419 for the handler bank) -/

/-- Where s[n] stands: in trap state s56 to s63 name the handler bank. -/
def Core.sIx (c : Core) (n : Nat) : Nat := if c.trap.active && decide (56 ≤ n) then n + 8 else n
/-- Where p[n] stands: in trap state p12 to p15 name the handler bank. -/
def Core.pIx (c : Core) (n : Nat) : Nat := if c.trap.active && decide (12 ≤ n) then n + 4 else n

/-- Reading a scalar register: s0 is 0. -/
def Core.rs (c : Core) (n : Nat) : Word := if n = 0 then 0 else c.sc.s.get (c.sIx n)
/-- Reading a predicate: p0 is 1. -/
def Core.rp (c : Core) (n : Nat) : Bool := if n = 0 then true else c.sc.p.get (c.pIx n)

/-- The strand's clock, or the handler's in trap state (14 R419). -/
def Core.now (c : Core) : Nat := if c.trap.active then c.flow.hcycle else c.flow.cycle

/-- The level at which an instruction runs (14 R413). -/
def Core.level (c : Core) : BitVec 2 := if c.trap.active then (if c.trap.ppriv = 2 then 2 else 1) else c.sc.priv

/-- The DOMAIN of the core's strand. -/
def Core.dom (c : Core) : Nat := match c.strand with
  | some t => t.dom
  | none => 0

/-- A pre-emption is requested of the strand; in trap state the request waits for RFT (12 R380, 14 R422). -/
def Core.preempting (c : Core) : Bool := !c.trap.active && (match c.strand with
  | some t => t.preempt
  | none => false)

/-- Post a register write `lat` cycles from now (02 R62). -/
def Core.post (c : Core) (lat rank : Nat) (wr : Wr) : Core :=
  { c with pend := c.pend ++ [{ due := c.now + lat, rank := rank, seq := c.cur.seq, stream := c.cur.stream, hand := c.trap.active, wr := wr }] }

/-- The write of s[d]; s0 ignores it (04 R105). -/
def Core.postS (c : Core) (lat : Nat) (d : Nat) (v : Word) : Core := if d = 0 then c else c.post lat 0 (.s (c.sIx d) v)
/-- The write of p[d]; p0 ignores it (04 R105). -/
def Core.postP (c : Core) (lat : Nat) (d : Nat) (v : Bool) : Core := if d = 0 then c else c.post lat 0 (.p (c.pIx d) v)
/-- FPSTAT bits set in the cycle of the result (03 R90). -/
def Core.postF (c : Core) (lat : Nat) (f : Fp) : Core := if f = 0 then c else c.post lat 1 (.fpset f)

def State.rs (s : State) (n : Nat) : Word := s.core.rs n
def State.rp (s : State) (n : Nat) : Bool := s.core.rp n
def State.mapCore (s : State) (f : Core → Core) : State := { s with core := f s.core }
def State.postS (s : State) (lat d : Nat) (v : Word) : State := s.mapCore fun c => c.postS lat d v
def State.postP (s : State) (lat d : Nat) (v : Bool) : State := s.mapCore fun c => c.postP lat d v
def State.postF (s : State) (lat : Nat) (f : Fp) : State := s.mapCore fun c => c.postF lat f
def State.post (s : State) (lat : Nat) (wr : Wr) : State := s.mapCore fun c => c.post lat 0 wr

/-- Writing a list of bytes into core-local storage. DESIGN CHOICE: a 4-bit element writes its own half of its byte alone, so two
results of one cycle that write the two halves of one byte both stand (02 R63, 06 R185; log 91). -/
def setBytes (m : Memory) (bs : LBytes) : Memory :=
  bs.foldl (fun m b => m.write b.at_ ((m.read b.at_ &&& ~~~b.mask) ||| (b.val &&& b.mask))) m
/-- A write without a blot covers a granule in one access: every bit of its 64 bytes (14 R439). -/
def wholeGran (bs : LBytes) (g : Nat) : Bool :=
  (List.range 64).all fun i => (bs.foldl (fun m b => if b.at_ = 64 * g + i ∧ !b.part then m ||| b.mask else m) (0 : Byte)) == 0xFF
/-- The blot of a granule after a write (05 R477, 14 R439). -/
def granBlot (bs : LBytes) (g : Nat) (old : Bool) : Bool :=
  let mine := bs.filter fun b => b.at_ / 64 == g
  mine.any (·.blot) || (old && !(decide (64 ≤ mine.length) && wholeGran mine g))
/-- Their blots. -/
def setBlots (bl : Store Bool) (bs : LBytes) : Store Bool :=
  ((bs.map fun b => b.at_ / 64).eraseDups).foldl (fun m g => m.set g (granBlot bs g (m.get g))) bl
def Scratch.put (x : Scratch) (bs : LBytes) : Scratch := { bytes := setBytes x.bytes bs, blots := setBlots x.blots bs }
def Cluster.put (x : Cluster) (bs : LBytes) : Cluster := { x with reg := setBytes x.reg bs, blots := setBlots x.blots bs }
/-- Whole bytes at `a`. -/
def plainBytes (a : Nat) (bs : List Byte) (blot : Bool) : LBytes := bs.mapIdx fun i b => ⟨a + i, 0xFF, b, blot, false⟩

/-- The cluster of a stream: X for VX. -/
def Core.cluster (c : Core) (y : Bool) : Cluster := if y then c.y else c.x
def Core.setCluster (c : Core) (y : Bool) (v : Cluster) : Core := if y then { c with y := v } else { c with x := v }

/-- A register that a CALLI's link stands in is written again: the link is gone (04 R125, R127). A write before the link's is no such one. -/
def Pc.unlink (p : Pc) (r : Nat) : Pc :=
  { p with entry := p.entry.map fun a => if a.landed ∧ (a.link.map (·.1)) = some r then { a with link := none } else a }
/-- Register `r` takes a value. -/
def Core.setS (c : Core) (r : Nat) (v : Word) : Core :=
  { c with
    sc := { c.sc with s := c.sc.s.set r v }
    pc := c.pc.unlink r
    trap := { c.trap with back := c.trap.back.unlink r } }
/-- The link of a CALLI lands; the entry check of its target keeps what it overwrites (04 R125). -/
def Core.setLink (c : Core) (r : Nat) (v : Word) : Core :=
  let old := c.sc.s.get r
  let note (p : Pc) : Pc := { p with entry := p.entry.map fun a => if (a.link.map (·.1)) = some r then { a with link := some (r, old), landed := true } else a }
  { c with
    sc := { c.sc with s := c.sc.s.set r v }
    pc := note c.pc
    trap := { c.trap with back := note c.trap.back } }

/-- The write of a system register of the strand, in its pending cycle (14 R415). -/
def Core.setSys (c : Core) (num : Nat) (v : Word) : Core :=
  match num with
  | 0x10 => { c with sc := { c.sc with priv := v.setWidth 2 } }
  | 0x11 => { c with sc := { c.sc with satcvt := v.getLsbD 0 } }
  | 0x13 => { c with sc := { c.sc with srseed := v, srcnt := [] } }
  | 0x14 => { c with sc := { c.sc with chkEarly := v.getLsbD 0 }, early := if v.getLsbD 0 then c.early else [] }
  | 0x15 => { c with sc := { c.sc with carve := v.setWidth 22 } }
  | 0x16 => { c with sc := { c.sc with ovf := v &&& 0x00FFFFFFFFFFFFFF } }
  | 0x22 => { c with trap := { c.trap with resume := v &&& 0x00FFFFFFFFFFFFE7 } }
  | 0x27 => { c with trap := { c.trap with vec := v &&& 0x00FFFFFFFFFFFFE1 } }
  | 0x52 => { c with strike := v.setWidth 48 }
  | 0x53 => { c with tlbStat := v.setWidth 48 }
  | 0x108 => { c with sc := { c.sc with p := ([12, 13, 14, 15].foldl (fun m n => m.set n (v.getLsbD (n - 12))) c.sc.p) } }
  | n => if 0x100 ≤ n ∧ n ≤ 0x107 then c.setS (n - 0x100 + 56) v else c

/-- Zero an accumulator slot and its poison bits (08 R233, R242). Element (m, n) of slot p stands at 16384 p + 128 m + n,
its granules at 1024 p + 8 m + n ÷ 16. -/
def MatCtx.clearSlot (m : MatCtx) (p : Nat) : MatCtx :=
  { m with slots := m.slots.filter fun e => e.1 / 16384 != p, poison := m.poison.filter fun e => e.1 / 1024 != p }

/-- A pending write takes effect. -/
def Core.apply (c : Core) : Wr → Core
  | .s r v => c.setS r v
  | .link r v => c.setLink r v
  | .p r v => { c with sc := { c.sc with p := c.sc.p.set r v } }
  | .b r v => { c with sc := { c.sc with b := c.sc.b.set r v } }
  | .k r v => { c with sc := { c.sc with k := c.sc.k.set r v } }
  | .loop lc n st => { c with sc := { c.sc with lc := lc, n := n, st := st } }
  | .reg y bs => c.setCluster y ((c.cluster y).put bs)
  | .mask y r m v => c.setCluster y { c.cluster y with masks := (c.cluster y).masks.set r (((c.cluster y).masks.get r &&& ~~~m) ||| (v &&& m)) }
  | .tile y n t => c.setCluster y { c.cluster y with tiles := (c.cluster y).tiles.set n (some t) }
  | .vbase y v => c.setCluster y { c.cluster y with vbase := v }
  | .fpset f => { c with sc := { c.sc with fpstat := c.sc.fpstat ||| f } }
  | .fpclr f => { c with sc := { c.sc with fpstat := c.sc.fpstat &&& ~~~f } }
  | .sys n v => c.setSys n v
  | .nest id v => { c with mat := { c.mat with shadow := c.mat.shadow.set id v } }
  | .pin p on zero =>
    let bit : BitVec 16 := 1 <<< p
    let m := { c.mat with pinMask := if on then c.mat.pinMask ||| bit else c.mat.pinMask &&& ~~~bit }
    { c with mat := if zero then m.clearSlot p else m }

/-! ### Outcomes of a meaning -/

def State.setOut (s : State) (o : Out) : State := s.mapCore fun c => { c with out := o }
/-- The instruction has its effect. -/
def State.done (s : State) : State := s.setOut .done
/-- The instruction waits: nothing but its own query has changed. -/
def State.hold (s : State) : State := s.setOut .hold
/-- The fault an instruction raises against itself (14 R417, Table 14.4). -/
def Core.fault (c : Core) (cause : Nat) (i0 i1 i2 : Word) : Trap :=
  { cause := cause, stream := c.cur.stream, slot := c.cur.slot, pc := c.cur.folio, i0 := i0, i1 := i1, i2 := i2, op := c.cur.seq }
def State.raise (s : State) (cause : Nat) (i0 : Word := 0) (i1 : Word := 0) (i2 : Word := 0) : State :=
  s.setOut (.trap (s.core.fault cause i0 i1 i2))
def State.raiseT (s : State) (t : Trap) : State := s.setOut (.trap t)

/-- Record a fault for delivery at the trap point (14 R417); in trap state it makes a double fault (14 R421). -/
def Core.record (c : Core) (t : Trap) : Core :=
  if c.trap.active then { c with dbl := some (c.dbl.getD (some t, 1)) } else { c with recs := c.recs ++ [t] }
def State.record (s : State) (t : Trap) : State := s.mapCore fun c => c.record t

/-- `a / b`, rounded up. -/
def ceilDiv (a b : Nat) : Nat := (a + b - 1) / b
/-- The next free value's number (log 5). -/
def State.bump (s : State) (n : Nat := 1) : State := { s with freeCtr := s.freeCtr + n }

/-- 64-bit sign extension of a canonical address's low 56 bits. -/
def canon (v : Word) : Word := (v.setWidth 56).signExtend 64
def canonical (v : Word) : Bool := canon v == v

/-! ### Taking a trap and returning from one (14 R416 to R425) -/

/-- The fields of a point in the program: folio and slot as TRAP_RESUME holds them. -/
def pointWord (folio : Word) (slot : Nat) : Word := (folio &&& 0x00FFFFFFFFFFFFE0) ||| BitVec.ofNat 64 (slot % 8)
def pointPc (w : Word) : Pc := { folio := canon (w &&& 0x00FFFFFFFFFFFFE0), slot := (w &&& 7).toNat }

/-- What stays of the held instructions when their group leaves dispatch: queries are discarded, effects are not sent
again (11 R360). -/
def pauseHelds (hs : List Held) : List Held :=
  (hs.filter fun h => h.stage != 0).map fun h => if h.stage = 1 then { h with stage := 2 } else if h.stage = 4 then { h with stage := 3 } else h

/-- The queries that held instructions have out: they are discarded with them. -/
def Core.queries (c : Core) : List Nat := (c.helds.filter fun h => h.stage == 0 || h.stage == 4).map (·.id)
/-- The held instruction that a query or a reply belongs to. -/
def EffKind.asker : EffKind → Option Nat
  | .bwait _ _ _ _ _ h => some h
  | .jwait _ h => some h
  | .waitw _ _ _ _ h => some h
  | .reply h _ _ => some h
  | _ => none
/-- Discard queries: on their way, at their engine or counter, and their replies (11 R360). -/
def State.dropQueries (s : State) (ids : List Nat) : State :=
  if ids.isEmpty then s else
  { s with
    net := s.net.filter fun m => !(m.kind.asker.map ids.contains).getD false
    sync := { s.sync with
      waiters := s.sync.waiters.filter fun w => w.kind == 2 || !ids.contains w.id
      bars := s.sync.bars.map fun e => (e.1, { e.2 with waiters := e.2.waiters.filter fun w => !ids.contains w.2.1 }) } }

/-- TAKING A TRAP: at the trap point the registers of 14 Table 14.3 save the cause, place, level and resume point, the
handler's bank reads 0, and the handler's first group stands at TRAP_VEC, three cycles on (14 R418, R419). -/
def Core.takeTrap (c : Core) (t : Trap) (resume : Word) : Core :=
  { c with
    sc := { c.sc with
      s := [64, 65, 66, 67, 68, 69, 70, 71].foldl (fun m n => m.set n 0) c.sc.s
      p := [16, 17, 18, 19].foldl (fun m n => m.set n false) c.sc.p }
    trap := { code := t.cause, stream := t.stream, slot := t.slot, ppriv := c.sc.priv, active := true, late := t.late,
              pc := t.pc, resume := resume, i0 := t.i0, i1 := t.i1, i2 := t.i2, i3 := t.i3, vec := c.trap.vec,
              op := t.op, running := t.running, seq0 := c.flow.seq, back := c.pc }
    helds := pauseHelds c.helds
    group := none
    pc := { folio := canon (c.trap.vec &&& 0x00FFFFFFFFFFFFE0), slot := 1 }
    flow := { c.flow with next := c.flow.hcycle + 3, wfi := none } }

/-- RETURNING: the strand continues at TRAP_RESUME, at PRIV, its next group 3 cycles on; its first running cycle counts
as t + 1 (14 R420, R425). What the RFT's own group wrote falls due in the strand's cycles. -/
def Core.returnTrap (c : Core) : Core :=
  let due (d : Nat) : Nat := c.flow.cycle + (d - c.flow.hcycle)
  { c with
    pend := c.pend.map fun p => if p.hand then { p with hand := false, due := due p.due } else p
    lands := c.lands.map fun l => if l.hand then { l with hand := false, due := due l.due } else l
    trap := { vec := c.trap.vec }
    helds := pauseHelds c.helds
    group := none
    pc := if pointWord c.trap.back.folio c.trap.back.slot = c.trap.resume then c.trap.back else pointPc c.trap.resume
    flow := { c.flow with next := c.flow.cycle + 3, wfi := none } }

/-- The recorded fault that is delivered next: the lowest stream, within S the lowest slot (14 R417). -/
def firstRec : List Trap → Option Trap
  | [] => none
  | t :: r => match firstRec r with
    | none => some t
    | some u => if u.stream < t.stream || (u.stream == t.stream && decide (u.slot < t.slot)) then some u else some t

/-- TRAP_CAUSE (14 Table 14.3); PEND is read from the faults still recorded. -/
def Core.trapCause (c : Core) : Word :=
  if c.trap.active then
    BitVec.ofNat 64 (c.trap.code + c.trap.stream * 2 ^ 8 + c.trap.slot * 2 ^ 12
      + ([0, 1, 2, 3, 4, 5].foldl (fun a st => if c.recs.any (·.stream == st) then a + 2 ^ (16 + st) else a) 0)
      + c.trap.ppriv.toNat * 2 ^ 22 + 2 ^ 24 + (if c.trap.late then 2 ^ 25 else 0))
  else 0

/-! ### Tokens (05 R156 to R159) -/

def tokKey (p c : Nat) : Nat := p * 6 + c
/-- Given tokens that can be consumed: those given before this cycle. -/
def Core.tokens (c : Core) (p q : Nat) : Nat := c.given.get (tokKey p q) - c.flow.fresh.get (tokKey p q)
/-- Every wait field has its token; a repeated field counts as often as it stands (02 R52). -/
def Core.tokReady (c : Core) (q : Nat) (ws : List Nat) : Bool :=
  ws.all fun p => p == 7 || decide ((ws.filter (· == p)).length ≤ c.tokens p q)
def Core.tokTake (c : Core) (q : Nat) (ws : List Nat) : Core :=
  ws.foldl (fun c p => if p = 7 then c else
    { c with given := c.given.set (tokKey p q) (c.given.get (tokKey p q) - 1) }) c
/-- A pair's counter is full (05 R156). -/
def Core.tokFull (c : Core) (p q : Nat) : Bool := decide (15 ≤ c.given.get (tokKey p q) + c.pendTok.get (tokKey p q))
/-- One more pending token, given when `sg` comes true. -/
def Core.addSig (c : Core) (sg : Sig) : Core :=
  { c with pendTok := c.pendTok.set (tokKey sg.prod sg.cons) (c.pendTok.get (tokKey sg.prod sg.cons) + 1), sigs := c.sigs ++ [sg] }

/-! ### Locations (05 R142, R149) -/

/-- A location is a physical address plus its KEY times 2^52 (05 R149). -/
def paOf (loc : Nat) : Nat := loc % 2 ^ 52
def keyOf (loc : Nat) : Nat := loc / 2 ^ 52

inductive Range where
  | drawer | carve | stack (n : Nat) | sys | peer | hole
  deriving DecidableEq, Repr

/-- The range of a physical address (05 Table 5.4). -/
def rangeOf (pa : Nat) : Range :=
  if pa < 0x8000000000000 then .drawer
  else if pa < 0x8000040000000 then .carve
  else if 0x9000000000000 ≤ pa ∧ pa < 0x9000000000000 + 16 * 2 ^ 40 ∧ (pa - 0x9000000000000) % 2 ^ 40 < 2 ^ 37 then .stack ((pa - 0x9000000000000) / 2 ^ 40)
  else if 0xB000000000000 ≤ pa ∧ pa < 0xB000010000000 then .sys
  else if 0xC000000000000 ≤ pa then .peer
  else .hole

/-- The home quadrant of a location: drawer interleave, carve bank, else its low line bits (11 R333, 05 R142). -/
def homeQuad (loc : Nat) : Nat :=
  let pa := paOf loc
  match rangeOf pa with
  | .carve => (pa - 0x8000000000000) / 2 ^ 28 % 4
  | _ => ((pa / 2 ^ 6) % 4) ^^^ ((pa / 2 ^ 14) % 4) ^^^ ((pa / 2 ^ 22) % 4) ^^^ ((pa / 2 ^ 30) % 4)
/-- A page that maps this drawer byte is uncached for the core (log 62). -/
def State.uncached (s : State) (loc : Nat) : Bool :=
  s.core.tlb.any fun e => e.cache == 1 && e.key == keyOf loc && decide (e.pa ≤ paOf loc) && decide (paOf loc < e.pa + e.size)

/-! ### Effects, their performance and order (05 R146, R169, R170, R174) -/

/-- The strand on a core, as 32 × node + index. -/
def Core.owner (c : Core) : Nat := match c.strand with
  | some t => t.node * 32 + t.idx
  | none => 0

/-- The agent a core's accesses are made as (12 R365, 15 R450). -/
def Core.agent (c : Core) : Agent := { level := c.level, domain := BitVec.ofNat 6 c.dom, host := false }

/-- The 8-byte units that an effect writes, as start and length. -/
def EffKind.spans : EffKind → List (Nat × Nat)
  | .store ps _ => ps.map fun p => (p.1, p.2.length)
  | .cells bs => bs.map fun b => (b.at_, 1)
  | .reduce ty _ _ items => items.map fun i => (i.1, tyBits ty / 8)
  | .atomic loc w _ _ _ _ _ => [(loc, w)]
  | .join loc _ _ => [(loc, 64)]
  | .watch .. => []
  | _ => []
def overlap (a b : List (Nat × Nat)) : Bool := a.any fun x => b.any fun y => decide (x.1 < y.1 + y.2) && decide (y.1 < x.1 + x.2)

/-- Its bytes in uncached drawer pages (05 R145). -/
def State.uncSpans (s : State) (k : EffKind) : List (Nat × Nat) :=
  if s.core.tlb.any (·.cache == 1) then k.spans.filter fun p => rangeOf (paOf p.1) == .drawer && s.uncached p.1 else []

/-- Put an effect into a hold: it leaves 320 cycles on. Its number is the old `nextId`. -/
def State.emit (s : State) (clk now : Nat) (cls scope : Nat) (after : List Nat) (k : EffKind) (narrow : List (Nat × Nat) := []) : State :=
  { s with
    nextId := s.nextId + 1
    core := { s.core with hold := s.core.hold ++
      [{ id := s.nextId, owner := s.core.owner, src := s.core.agent, clk := clk, leave := now + 320, stream := s.core.cur.stream, cls := cls, scope := scope,
         seq := s.core.cur.seq, after := after, narrow := narrow, unc := s.uncSpans k, kind := k }] } }

/-- A load is performed: the value it returns can no longer change (00 R4). What waits for a reply is performed as its
effect is. -/
def Land.settled (l : Land) : Bool := l.fault.isSome || (match l.src with
  | .mem _ => l.data.isSome && l.soft.isEmpty
  | .reply => true)
/-- A core has this effect in its hold, or this load not performed yet. -/
def Core.unperformed (c : Core) (id : Nat) : Bool := c.hold.any (·.id == id) || c.lands.any fun l => l.id == id && !l.settled
/-- An effect or a load that is not performed yet, or a store accepted before one that it follows. -/
def State.unperformed (s : State) (id : Nat) : Bool :=
  s.net.any (·.id == id) || s.veiled.any (·.id == id) || s.fab.out.any (·.id == id) || s.core.unperformed id
    || s.cores.any (fun kc => match kc.2 with
      | some c => c.unperformed id
      | none => false)
def State.performed (s : State) (ids : List Nat) : Bool := ids.all fun i => !s.unperformed i

/-- A message that changes nothing (11 R339). -/
def EffKind.query : EffKind → Bool
  | .bwait .. | .jwait .. | .waitw .. | .suspend .. | .fire .. | .reply .. => true
  | _ => false

/-- The queue entry that the instruction at hand is. -/
def Cur.ent (c : Cur) : QEnt :=
  { seq := c.seq, folio := c.folio, slot := c.slot, words := c.words, a := c.a, b := c.b, b1 := c.b1, d := c.d, c := c.c, brel := c.brel, gate := c.gate,
    la := c.la, lb := c.lb }
/-- What stays of a macro's part in a stack when it stops (09 R294): of a transfer what it has still to do. -/
def MPos.stopped (q : MPos) : MPos :=
  { begun := q.begun, todo := q.todo, reads := q.buf.map (·.1) ++ q.reads, left := if q.begun then q.left else [], endAt := if q.begun then q.endAt else none, kept := q.kept }
/-- A copy of a stack has a unit in progress (09 R294). -/
def MPos.midUnit (q : MPos) : Bool := q.started && !q.ended && (!q.half.isEmpty || !q.buf.isEmpty)
/-- A stack repeats this product: its outputs are not confirmed (09 R293). -/
def State.redoing (s : State) (x : Nat × Nat) : Bool := s.bstacks.any fun k => (k.2.getD {}).again.any fun a => a.1 == some x
/-- The source id of an effect in a hold: its core, or the stack that its clock names (11 R337). -/
def State.holdSource (s : State) (e : Eff) : Nat := if e.clk < 2 then s.id else if e.clk < 18 then 126 + e.clk else 110 + e.clk

/-- An agent of core `me` is inside the instance of an order that core `w` makes at a scope (05 R169). -/
def nearBy (w me : Nat) (scope : Nat) : Bool :=
  if scope = 0 then w == me else if scope = 1 then w / 4 == me / 4 else scope == 2 && w / 16 == me / 16
/-- Bytes of a store that an agent of core `me` does not read or write yet: it was accepted before another that it follows for that
agent (05 R169, R172). -/
def State.veils (s : State) (me : Nat) (sp : List (Nat × Nat)) : Bool :=
  s.veiled.any fun v => v.narrow.any (fun x => nearBy v.core me x.2) && overlap v.kind.spans sp
/-- Stores whose forerunners are performed by now are plain stores again. -/
def State.unveil (s : State) : State :=
  if s.veiled.isEmpty then s else
  { s with veiled := (s.veiled.map fun v => { v with narrow := v.narrow.filter fun x => s.unperformed x.1 }).filter fun v => !v.narrow.isEmpty }

/-- An effect of this strand not performed yet: number, stream, class, scope, program order, what it follows, kind. -/
structure Own where
  id : Nat
  stream : Nat
  cls : Nat
  scope : Nat
  seq : Nat
  after : List Nat
  narrow : List (Nat × Nat)
  kind : EffKind
def Msg.asOwn (m : Msg) : Own := ⟨m.id, m.stream, m.cls, m.scope, m.seq, m.after, m.narrow, m.kind⟩
def State.own (s : State) : List Own :=
  (s.net.filter fun m => m.owner == s.core.owner && !m.kind.query).map Msg.asOwn
    ++ (s.core.hold.filter (·.owner == s.core.owner)).map fun e => ⟨e.id, e.stream, e.cls, e.scope, e.seq, e.after, e.narrow, e.kind⟩
/-- Those, and its stores accepted before others that they follow. -/
def State.ownOrder (s : State) : List Own := (s.veiled.filter fun m => m.owner == s.core.owner).map Msg.asOwn ++ s.own
def EffKind.returns : EffKind → Bool
  | .atomic _ _ _ _ _ _ (some _) => true
  | _ => false
/-- A plain store, performed at core scope as it issues (05 R174). -/
def EffKind.isStore : EffKind → Bool
  | .store .. | .cells .. => true
  | _ => false
/-- An atomic or a reduction, performed at every scope when it is applied (11 R344). -/
def EffKind.isRmw : EffKind → Bool
  | .atomic .. | .reduce .. => true
  | _ => false

def EffKind.isJoin : EffKind → Bool
  | .join .. => true
  | _ => false
/-- A request to a peer, unordered with local accesses (13 R398), or an output for the core's own storage. -/
def EffKind.isFabric : EffKind → Bool
  | .fabric .. => true
  | .inCore .. => true
  | _ => false

/-- Arrivals at join objects that the S stream has sent and no engine has applied: they write the object, and carry no class
(11 R346, R354). -/
def State.arrivals (s : State) (upto : Nat) : List Nat :=
  (s.own.filter fun e => e.stream == 0 && decide (e.seq < upto) && e.kind.isJoin).map (·.id)
/-- The FENCEs whose own group held accesses of an access's class: what it follows, and at which scope (05 R161, R170 item
3). -/
def State.fenced (s : State) (cls : Nat) : List (Nat × Nat) :=
  if s.core.cur.stream = 0 then s.core.fences.flatMap fun f => if f.1.getLsbD cls then (f.2.2.filter s.unperformed).map fun i => (i, f.2.1) else [] else []

/-- What is ordered before an access, directly or through a store that is: the accesses of its strand that are not
performed yet. -/
def State.closure (s : State) (own : List Own) (ids : List Nat) : List Nat :=
  (ids ++ (own.filter fun e => e.kind.isStore && ids.contains e.id).flatMap fun e => e.after.filter s.unperformed).eraseDups

/-- The earlier accesses of its strand after which a store or an atomic is performed (05 R170): items 2 to 6, and item 1
for one that touches its bytes. Between plain stores the order is as wide as the narrower scope; at core scope they are
performed as they issue. -/
def State.before (s : State) (cls scope : Nat) (ret : Bool) (sp : List (Nat × Nat)) : List Nat :=
  let st := s.core.cur.stream
  let own := s.ownOrder
  s.closure own (((own.filter fun e => (e.kind.isStore || e.kind.isRmw) && (
      (e.stream == st && e.cls == cls && (e.kind.isRmw || decide (1 ≤ e.scope) && decide (1 ≤ scope)))
      || (e.stream == st && cls == 15 && (e.kind.isRmw || decide (1 ≤ scope)))
      || (e.stream == 0 && st == 0 && ret && (e.kind.isRmw || decide (1 ≤ scope)))
      || (e.stream == 0 && st == 0 && e.kind.returns)
      || overlap e.kind.spans sp)).map (·.id))
  ++ (if ret && st == 0 then s.arrivals (2 ^ 64) else [])
  ++ ((s.core.lands.filter fun l => !l.settled && !l.fabric && l.stream == st &&
      (l.cls == cls || l.cls == 15 || cls == 15 || (ret && st == 0)
        || (match l.src with
          | .mem ps => overlap ps sp
          | .reply => false))).map (·.id))
  ++ (s.fenced cls).map (·.1))

/-- The scope at which an earlier store of the strand is directly before a store: 3 where they share a byte (05 R168, R170). -/
def State.storeOrder (s : State) (cls scope : Nat) (sp : List (Nat × Nat)) (e : Own) : Nat :=
  if overlap e.kind.spans sp then 3 else
  let own := if e.stream != s.core.cur.stream then 0 else if cls = 15 then scope else if e.cls = cls then min e.scope scope else 0
  (s.fenced cls).foldl (fun m f => if f.1 = e.id then max m f.2 else m) own
/-- Those of a store's forerunners that are plain stores and come before it for agents of its quad or die alone, each with the
widest such scope, directly or through another (05 R169, R171). -/
def State.narrow (s : State) (cls scope : Nat) (sp : List (Nat × Nat)) (after : List Nat) : List (Nat × Nat) :=
  if after.isEmpty then [] else
  let own := s.ownOrder.filter fun e => e.kind.isStore && after.contains e.id
  own.filterMap fun e =>
    let sc := own.foldl (fun m f => if f.after.contains e.id then max m (min (s.storeOrder cls scope sp f) ((f.narrow.lookup e.id).getD 3)) else m)
      (s.storeOrder cls scope sp e)
    if 1 ≤ sc ∧ sc < 3 then some (e.id, sc) else none

/-- The earlier accesses of its stream that are ordered before a load, each with the scope at which (05 R170, R175): a
load after a plain store only from quad scope on, and at core scope after what that store follows (R171); item 1 holds for every
observer of the location order (R168). -/
def State.loadOrder (s : State) (cls scope : Nat) (sp : List (Nat × Nat)) : List (Nat × Nat) :=
  let st := s.core.cur.stream
  let own := s.ownOrder
  (own.flatMap fun e =>
    let touch := overlap e.kind.spans sp
    if e.stream != st || !(e.kind.isStore || e.kind.isRmw) then []
    else if touch && e.kind.isRmw then [(e.id, 3)]
    else if st == 0 && e.kind.returns then [(e.id, e.scope)]
    else if e.cls = cls && (e.kind.isRmw || decide (1 ≤ min e.scope scope)) then [(e.id, min e.scope scope)]
    else if e.cls = cls || touch then
      (e.after.filter fun i => s.unperformed i && !own.any fun x => x.id == i && x.kind.isStore).map fun i => (i, 0)
    else [])
  ++ (s.core.lands.flatMap fun l =>
    let touch := match l.src with
      | .mem ps => overlap ps sp
      | .reply => false
    if l.stream != st || l.settled || l.fabric then []
    else if touch then [(l.id, 3)]
    else if l.cls = 15 then [(l.id, l.scope)]
    else if l.cls = cls then [(l.id, min l.scope scope)]
    else [])
  ++ (s.fenced cls).filter fun x => decide (1 ≤ x.2) || !own.any fun e => e.id == x.1 && e.kind.isStore
/-- What a load waits for before it samples: every store or atomic ordered before it at quad scope or wider (05 R175). -/
def State.loadHard (s : State) (o : List (Nat × Nat)) : List Nat :=
  (o.filter fun x => decide (1 ≤ x.2) && !s.core.lands.any (·.id == x.1)).map (·.1)
/-- The loads ordered before it, and what comes before it at core scope; a load that it follows for every agent counts as 5, and
brings what it follows itself (05 R171). -/
def State.loadSoft (s : State) (o : List (Nat × Nat)) : List (Nat × Nat) :=
  ((o.filter fun x => !(s.loadHard o).contains x.1).flatMap fun x => match s.core.lands.find? fun l => l.id == x.1 with
    | some l => (x.1, if 3 ≤ x.2 then 5 else x.2) :: (l.soft.filter fun y => decide (y.2 < 3)).map fun y => (y.1, min x.2 y.2)
    | none => [x]).eraseDups

/-- The accesses of stream `st` and of the classes in `mask`, before program order `upto`, that are not performed at a
scope (05 R157, R161): at core scope the loads, atomics and reductions, and what a plain store still follows of them; at
pod scope also the fabric accesses without their reply (13 R398). -/
def State.openAt (s : State) (st : Nat) (mask : Nat → Bool) (scope upto : Nat) : List Nat :=
  let own := s.own
  (own.flatMap fun e =>
    if !(e.stream == st && mask e.cls && decide (e.seq < upto)) then []
    else if e.kind.isRmw then [e.id]
    else if e.kind.isStore then (if scope = 0 then e.after.filter fun i => s.unperformed i && !own.any (fun x => x.id == i && x.kind.isStore) else [e.id])
    else if scope = 4 && e.kind.isFabric then [e.id] else [])
  ++ ((s.core.lands.filter fun l => l.stream == st && mask l.cls && decide (l.seq < upto) && !l.settled && !l.fabric).map (·.id))
  ++ (if st = 0 ∧ scope = 4 then (s.fab.out.filter fun f => f.owner == some s.core.owner && mask f.cls).map (·.id) else [])
/-- The same of everything that its stream has issued. -/
def State.openOf (s : State) (st : Nat) (mask : Nat → Bool) (scope : Nat) : List Nat := s.openAt st mask scope (2 ^ 64)

/-- Bytes in which another agent of the instance has written after a load sampled, before every access ordered before it
for that agent was performed: it samples again (05 R169, R172). `w` is the core that writes, `me` the one that loads. -/
def Land.squash (w me : Nat) (sp : List (Nat × Nat)) (l : Land) : Land :=
  match l.src with
  | .mem ps => if l.data.isSome && l.soft.any (fun x => nearBy w me x.2) && overlap ps sp then { l with data := none } else l
  | .reply => l
/-- A load that samples after another one does so again where that one does. -/
def resample (ls : List Land) : List Land :=
  ls.foldl (fun done l => done ++ [if l.soft.any fun x => x.2 == 5 && done.any fun d => d.id == x.1 && !d.settled && d.data.isNone then { l with data := none } else l]) []
/-- The same on every core. -/
def State.squash (s : State) (w : Nat) (sp : List (Nat × Nat)) : State :=
  let f (me : Nat) (c : Core) : Core := if c.lands.any (fun l => !l.soft.isEmpty) then { c with lands := resample (c.lands.map (Land.squash w me sp)) } else c
  { s with
    core := f s.id s.core
    cores := s.cores.map fun e => (e.1, e.2.map (f e.1)) }

/-! ### The byte stores behind physical addresses (05 R142 to R149) -/

/-- An access to a faulting part of the map (05 Table 5.4). -/
def Mem.hole (m : Mem) (pa : Nat) : Bool :=
  match rangeOf pa with
  | .drawer => decide (m.installed ≤ pa)
  | .carve => !m.carved.contains ((pa - 0x8000000000000) / 2 ^ 26)
  | .stack _ => false
  | .sys => false
  | .peer => true
  | .hole => true

/-- A byte of a drawer line that another key last wrote back: the line's ciphertext, deciphered under the location's key (05
R149, 10 R325). -/
def Mem.crossByte (m : Mem) (loc k0 : Nat) (key0 : BitVec 512) : Byte :=
  let line := paOf loc / 64
  let plain := m.base.readRun (line * 64 + k0 * 2 ^ 52) 64
  let cipher := if k0 = 0 then plain else xtsLine false key0 line plain
  (if keyOf loc = 0 then cipher else xtsLine true (m.keys.get (keyOf loc)) line cipher).getD (loc % 64) 0
/-- One byte of a location: the LLC's copy if it holds one dirty, or from before its key was loaded, else what stands behind it
(05 R146, R149, 15 R465). -/
def Mem.byte (m : Mem) (loc : Nat) : Byte :=
  match m.dirty.get loc with
  | some b => b
  | none => match m.keyed.get (paOf loc / 64) with
    | none => m.base.read loc
    | some r => match m.kept.get loc with
      | some b => b
      | none => if r = (keyOf loc, m.keys.get (keyOf loc)) then m.base.read loc else m.crossByte loc r.1 r.2
def Mem.bytes (m : Mem) (loc n : Nat) : List Byte := (List.range n).map fun i => m.byte (loc + i)
/-- A granule of the span carries a blot. -/
def Mem.blotted (m : Mem) (loc n : Nat) : Bool := m.blots.any fun g => g.2 && decide (loc < (g.1 + 1) * 64) && decide (g.1 * 64 < loc + n)

/-- The LLC accepts bytes: cacheable drawer lines turn dirty, any other byte is written behind (05 R145 to R147). -/
def Mem.putByte (m : Mem) (loc : Nat) (b : Byte) : Mem :=
  if rangeOf (paOf loc) = .drawer then { m with dirty := m.dirty.set loc (some b) } else { m with base := m.base.write loc b }
def Mem.putRun (m : Mem) : Nat → List Byte → Mem
  | _, [] => m
  | a, b :: r => (m.putByte a b).putRun (a + 1) r
/-- The blots of the granules of a write of `n` bytes at `loc`; `part`: it clears none (14 R439). -/
def Mem.putBlots (m : Mem) (loc n : Nat) (blot part : Bool) : Mem :=
  (List.range ((loc + n + 63) / 64 - loc / 64)).foldl (fun m i =>
    let g := loc / 64 + i
    let whole := !part && decide (loc ≤ g * 64) && decide (g * 64 + 64 ≤ loc + n)
    { m with
      blots := m.blots.set g (blot || (m.blots.get g && !whole))
      under := if rangeOf (paOf (64 * g)) = .drawer ∧ m.under.get g = none then m.under.set g (some (m.blots.get g)) else m.under }) m
/-- Loads see what the array holds of a location from now on. -/
def Mem.show (m : Mem) (a : Ahead) : Mem :=
  let rest := m.ahead.erase a
  let old := m.blots.get (a.loc / 64) && !(a.clear && rest.all fun b => b.loc / 64 != a.loc / 64)
  { m with
    base := m.base.writeRun a.loc a.bs
    blots := m.blots.set (a.loc / 64) (a.blot || old)
    ahead := rest }
def Mem.showAll (m : Mem) (p : Ahead → Bool) : Mem := (m.ahead.filter p).foldl Mem.show m
def Ahead.meets (loc n : Nat) (a : Ahead) : Bool := decide (a.loc < loc + n) && decide (loc < a.loc + a.bs.length)
/-- A write comes after the copy's write of the locations that it touches (09 R287); its blot stays. -/
def Mem.overtake (m : Mem) (loc n : Nat) (blot : Bool) : Mem :=
  if m.ahead.isEmpty then m else
  let m := m.showAll (Ahead.meets loc n)
  { m with ahead := m.ahead.map fun a => if blot && decide (loc / 64 ≤ a.loc / 64) && decide (a.loc / 64 ≤ (loc + n - 1) / 64) then { a with clear := false } else a }
/-- A write of `bs` at `loc`, with the blots of its granules. -/
def Mem.put (m : Mem) (loc : Nat) (bs : List Byte) (blot : Bool) (part : Bool := false) : Mem :=
  ((m.overtake loc bs.length blot).putRun loc bs).putBlots loc bs.length blot part

/-- The dirty bytes without those of the 64 from `a`. -/
def dropDirty (d : Store (Option Byte)) (a : Nat) : Store (Option Byte) := (List.range 64).foldl (fun d i => d.set (a + i) none) d
/-- The LLC holds bytes of a line that the drawer does not. -/
def Mem.dirtyLine (m : Mem) (loc : Nat) : Bool := (List.range 64).any fun i => (m.dirty.get (loc / 64 * 64 + i)).isSome
/-- Write back the line of a location if the LLC holds it dirty: the drawer then holds all of it, under its key (05 R145,
R149). -/
def Mem.cleanLine (m : Mem) (loc : Nat) : Mem :=
  let a := loc / 64 * 64
  if m.dirtyLine loc then
    { m with
      base := m.base.writeRun a (m.bytes a 64)
      dirty := dropDirty m.dirty a
      kept := dropDirty m.kept a
      under := m.under.set (loc / 64) none
      keyed := m.keyed.set (paOf a / 64) (some (keyOf a, m.keys.get (keyOf a))) }
  else m
/-- Drop the LLC's copy of a dirty line: the drawer's bytes and blot stand again (10 R317). -/
def Mem.discardLine (m : Mem) (loc : Nat) : Mem :=
  { m with
    dirty := dropDirty m.dirty (loc / 64 * 64)
    kept := dropDirty m.kept (loc / 64 * 64)
    blots := m.blots.set (loc / 64) ((m.under.get (loc / 64)).getD (m.blots.get (loc / 64)))
    under := m.under.set (loc / 64) none }
/-- The line leaves the LLC, written back if dirty. -/
def Mem.evict (m : Mem) (loc : Nat) : Mem :=
  let m := m.cleanLine loc
  { m with kept := dropDirty m.kept (loc / 64 * 64) }
/-- The LLC keeps the bytes of lines that it holds, whatever key is loaded then (15 R465). -/
def Mem.keep (m : Mem) (ls : List Nat) : Mem :=
  { m with kept := (ls.flatMap fun l => (List.range 64).map (64 * l + ·)).foldl (fun t a => t.set a (some (m.byte a))) m.kept }
/-- Write every dirty line back (05 R145, 14 Table 14.8). -/
def Mem.writeBack (m : Mem) : Mem := ((m.dirty.map fun e => e.1 / 64).eraseDups).foldl (fun m l => m.cleanLine (64 * l)) m

/-! ### The LLC's lines (01 Table 1.1, 05 R145) -/

/-- The set of a line: its home slice, and in it one of the 524,288 sets of 16 ways, by a hash that no rule gives. -/
def llcSet (l : Nat) : Nat × Nat := (homeQuad (64 * l), Config.llcSet (paOf (64 * l) / 64) % 524288)
/-- The ways of a quadrant's slice that are left to lines: each carved unit takes 2 of its 16 (14 R435). -/
def Mem.ways (m : Mem) (q : Nat) : Nat := 16 - 2 * (m.carved.filter fun u => u / 4 % 4 == q).length
/-- The LLC holds a line: where its set is full, one of the others leaves, written back if dirty. -/
def State.allocLine (s : State) (l : Nat) : State :=
  let rest := s.llc.filter (· != l)
  let ways := s.mem.ways (homeQuad (64 * l))
  let same := if rest.length < ways then [] else rest.filter fun x => llcSet x == llcSet l
  if same.length < ways then { s with llc := l :: rest } else
    let v := same.getD (Config.choice s.freeCtr % same.length) 0
    State.bump { s with mem := s.mem.evict (64 * v), llc := l :: rest.filter (· != v) }
/-- The lines that the ways left hold, the newest of each set; the others are written back and dropped (14 R435). -/
def State.trimLlc (s : State) : State :=
  let r := s.llc.foldl (fun (a : List Nat × List Nat) l =>
    let ways := s.mem.ways (homeQuad (64 * l))
    let same := if a.1.length < ways then [] else a.1.filter fun x => llcSet x == llcSet l
    if same.length < ways then (a.1 ++ [l], a.2) else (a.1, a.2 ++ [l])) ([], [])
  { s with
    llc := r.1
    mem := r.2.foldl (fun m l => m.evict (64 * l)) s.mem }
/-- The drawer lines of a span. -/
def drawerLines (loc n : Nat) : List Nat :=
  ((List.range ((loc + n + 63) / 64 - loc / 64)).map fun i => loc / 64 + i).filter fun l => rangeOf (paOf (64 * l)) == .drawer
/-- The retraining channel on which bytes of drawer memory travel (10 R319, R326). -/
def State.chanLate (s : State) (loc n : Nat) : Option Nat :=
  s.drawer.retrain.find? fun ch => (drawerLines loc n).any fun l => l / 4 % 128 == ch
/-- The retraining channel that a read of `n` bytes at `loc` waits for: a granule of drawer memory on it (10 R319, R326),
with a line that the LLC does not hold. -/
def State.lateChan (s : State) (loc n : Nat) : Option Nat :=
  s.drawer.retrain.find? fun ch => (List.range ((loc + n + 255) / 256 - loc / 256)).any fun i =>
    let g := loc / 256 + i
    g % 128 == ch && rangeOf (paOf (g * 256)) == .drawer &&
      (drawerLines loc n).any fun l => l / 4 == g && !s.llc.contains l
/-- After a write: its lines are in the LLC, or, of an uncached page, in the drawer. -/
def State.settleLines (s : State) (loc n : Nat) (unc : Bool) : State :=
  (drawerLines loc n).foldl (fun s l => if unc then { s with mem := s.mem.cleanLine (64 * l) } else s.allocLine l) s
/-- After a read: the LLC holds the lines of a cacheable page. -/
def State.fetchLines (s : State) (loc n : Nat) : State :=
  (drawerLines loc n).foldl (fun s l => if s.llc.contains l || s.uncached (64 * l) then s else s.allocLine l) s

/-- An access that the engine applies to resident lines makes them its most recent ones (11 R334). -/
def Sync.recent (y : Sync) (loc n : Nat) : Sync :=
  if y.lines.isEmpty then y else
  let hit (l : Nat) : Bool := decide (64 * l < loc + n) && decide (loc < 64 * l + 64)
  { y with lines := y.lines.filter hit ++ y.lines.filter fun l => !hit l }
/-- A load of locations that an in-DRAM copy has written returns, for each, the old or the new value; which is free, and from a new
one on it stays new (05 R168, 09 R287). -/
def State.loadAhead (s : State) (loc n : Nat) : State :=
  (s.mem.ahead.filter (Ahead.meets loc n)).foldl (fun s a =>
    State.bump (if Config.choice s.freeCtr % 2 = 0 then { s with mem := s.mem.show a } else s)) s
/-- The armed error of 14 R446 fires on its granule. -/
def State.strikeRead (s : State) (loc n : Nat) (walk : Bool) : State :=
  let g := s.pkg.injAddr.toNat / 64
  if s.pkg.injCtl.getLsbD 0 && decide (paOf loc / 64 ≤ g) && decide (g * 64 < paOf loc + n) && (walk || (s.pkg.injCtl >>> 1) &&& 3 != 2) then
    { s with
      pkg := { s.pkg with injCtl := (s.pkg.injCtl &&& 6) ||| 8 }
      mem := if (s.pkg.injCtl >>> 1) &&& 3 = 1 then { s.mem with blots := s.mem.blots.set (keyOf loc * 2 ^ 46 + g) true } else s.mem }
  else s
/-- A read reaches memory: its lines are in the LLC, and the armed error of 14 R446 fires on its granule. -/
def State.inject (s : State) (loc n : Nat) (walk : Bool) : State :=
  (State.loadAhead { s.fetchLines loc n with sync := s.sync.recent loc n } loc n).strikeRead loc n walk

/-! ### Translation as an access sees it (05 R139, R142, R152, 14 R428) -/

/-- What an access is for. -/
inductive Use where
  | read | write | fetch
  deriving DecidableEq, Repr

/-- The outcome of resolving an address: a location, a walk still to come, or a fault of 05 Table 5.8. -/
inductive Loc where
  | ok (loc : Nat)
  | miss (va : Word)
  | bad (cause : Nat) (i0 i1 : Word)
  deriving DecidableEq, Repr

def tlbFind (dom va : Nat) : List TlbEnt → Option TlbEnt
  | [] => none
  | e :: r => if e.dom = dom ∧ e.va ≤ va ∧ va < e.va + e.size ∧ e.bad = false then some e else tlbFind dom va r

/-- The level a system-block store needs (15 R450); filled in by Mmio.lean's table through this argument. -/
abbrev SysLevel := Nat → Nat

/-- The checks that follow a leaf, in the order of 05 Table 5.8. DESIGN CHOICE: PRIVILEGE names address 0, as 14 Table 14.4 has it,
and not the effective address of 05 R155 (log 73). -/
def leafCheck (m : Mem) (lost : Nat → Bool) (sysLevel : SysLevel) (level : Nat) (u : Use) (va : Word) (e : TlbEnt) (keyOk : Bool) : Loc :=
  let pa := e.pa + (va.toNat - e.va)
  if e.owner ≠ e.dom then .bad 0x08 va (BitVec.ofNat 64 e.owner) else
  let bits := (if u = .write ∧ !e.w then 1 else 0) + (if u = .fetch ∧ !e.x then 2 else 0)
    + (if level = 0 ∧ !e.app then 4 else 0) + (if m.hole pa then 8 else 0) + (if keyOk then 0 else 16)
  if bits ≠ 0 then .bad 0x06 va (BitVec.ofNat 64 bits) else
  match rangeOf pa with
  | .sys => if u = .write ∧ level < sysLevel (pa - 0xB000000000000) then .bad 0x04 0 (BitVec.ofNat 64 (sysLevel (pa - 0xB000000000000))) else .ok pa
  | .stack n => if lost n then .bad 0x0E va (BitVec.ofNat 64 n) else .ok pa
  | _ => .ok (pa + e.key * 2 ^ 52)

/-- The walk that is under way for an address, or the fault it ended with. -/
def Core.walkFault (c : Core) (dom : Nat) (va : Word) : Option WalkFault :=
  c.wfaults.find? fun w => w.dom == dom && (w.va >>> 12) == (va >>> 12)

/-- The engine operation numbered `seq` of a stream is still at work. -/
def Core.working (c : Core) (st seq : Nat) : Bool :=
  if st = 3 then (c.mat.nest.map fun n => n.seq == seq).getD false || c.mat.drains.any (·.seq == seq) || c.mat.xfers.any (·.seq == seq)
  else if st = 4 then c.cpy.copies.any (·.seq == seq)
  else c.macros.any fun m => m.seq == seq && !m.produced

/-- One pending token of the pair is given; it can be consumed from the next cycle on (R156). -/
def Core.give (c : Core) (g : Sig) : Core :=
  let k := tokKey g.prod g.cons
  { c with
    sigs := c.sigs.erase g
    given := c.given.set k (c.given.get k + 1)
    pendTok := c.pendTok.set k (c.pendTok.get k - 1)
    flow := { c.flow with fresh := c.flow.fresh.set k (c.flow.fresh.get k + 1) } }

end Sys2Proof.Machine
end

