-- ==== Sys2Proof/Machine/Mmio.lean ====
section
/-! DEFINITION. Mmio.lean: what the system block reads, and the level a write to it needs (15 Tables 15.3 and 15.4),
and resolving a global or spill address for an access (05 R139 to R142, R152). -/

namespace Sys2Proof.Machine

/-- Doubleword `i` of a wide value. -/
def dwOf {n : Nat} (v : BitVec n) (i : Nat) : Word := v.extractLsb' (64 * i) 64

/-- A barrier counter by scope, instance, id and node (11 R346). -/
def Sync.bar (y : Sync) (k : Nat × Nat × Nat × Nat) : Bar := ((y.bars.find? fun e => e.1 == k).map (·.2)).getD {}
def Sync.setBar (y : Sync) (k : Nat × Nat × Nat × Nat) (b : Bar) : Sync :=
  { y with bars := if y.bars.any (fun e => e.1 == k) then y.bars.map fun e => if e.1 == k then (k, b) else e else y.bars ++ [(k, b)] }
/-- A package or pod barrier's key: they belong to no node. -/
def barKey (pod : Bool) (b : Nat) : Nat × Nat × Nat × Nat := (if pod then 4 else 3, 0, b, 0)
/-- BCFG as it reads (11 Table 11.8). -/
def Bar.word (b : Bar) : Word :=
  BitVec.ofNat 64 (b.exp + b.dom * 2 ^ 16 + (if b.faulted then 2 ^ 24 else 0) + (b.p % 2 ^ 16) * 2 ^ 32 + (b.a % 2 ^ 16) * 2 ^ 48)

/-- A route entry with its live bits (13 Table 13.2). -/
def Fabric.route (f : Fabric) (t : Nat) : Word :=
  let r := f.routes.get t
  let live (p : Nat) : Bool := f.portUp.getLsbD p
  (r &&& 0xFFFF03FF) ||| (if live ((r &&& 15).toNat) then 0x400 else 0) ||| (if live (((r >>> 4) &&& 15).toNat) then 0x800 else 0)
/-- The port that traffic of package `t` comes by: that of the live route to it (13 R389; log 70). -/
def Fabric.portOf (f : Fabric) (t : Nat) : Nat :=
  let r := f.route t
  if r.getLsbD 8 && r.getLsbD 10 then (r.extractLsb' 0 4).toNat else (r.extractLsb' 4 4).toNat

def stackOf (s : State) (n : Nat) : Stack := (s.bstacks.get n).getD {}
def State.setStack (s : State) (n : Nat) (k : Stack) : State := { s with bstacks := s.bstacks.set n (if k = {} then none else some k) }
def quadOf (s : State) (q : Nat) : Quad := (s.quads.get q).getD {}
def State.setQuad (s : State) (n : Nat) (q : Quad) : State := { s with quads := s.quads.set n (if q = {} then none else some q) }

/-- The doubleword at byte offset 8 × i of a byte store. -/
def Memory.dword (m : Memory) (off : Nat) : Word := BitVec.ofNat 64 (leNat (m.readRun off 8))

/-- THERM (15 Table 15.15). The readings are free, one at each wall cycle (log 5): a die above 110 °C would have reset the
package, a stack at HOT has not come below 80 °C, another has not reached 85 °C (R460). -/
def State.therm (s : State) : Word :=
  let read (k : Nat) : Nat := (Config.temp k s.wall).toNat
  let stack (n : Nat) : Nat := if (stackOf s n).hot then max 80 (min 110 (read n)) else min 84 (read n)
  let hot := ((List.range 16).map fun n => if (stackOf s n).hot then 2 ^ (16 + n) else 0).sum
  if s.host.boot = 0 then BitVec.ofNat 64 hot else
  BitVec.ofNat 64 (min 110 (read 16) + 2 ^ 8 * ((List.range 16).map stack).foldl max 0 + hot)

/-- The aligned doubleword at a system-block offset; what no row of Table 15.3 assigns reads 0 (15 R450). -/
def sysDword (s : State) (o : Nat) : Word :=
  if o < 0x10000 then
    match o with
    | 0x00 => s.host.boot
    | 0x08 => s.host.funcMode.setWidth 64
    | 0x10 => s.host.hwin
    | 0x18 => s.host.imagePool
    | 0x20 => s.host.ckptCtl.setWidth 64
    | 0x28 => s.host.ckptBase
    | 0x30 => s.therm
    | _ => if 0x8000 ≤ o then s.host.staging.dword (o - 0x8000) else 0
  else if o < 0x10400 then s.host.wakes.get ((o - 0x10000) / 8)
  else if 0x100000 ≤ o ∧ o < 0x100200 then s.host.roots.get ((o - 0x100000) / 8)
  else if 0x400000 ≤ o ∧ o < 0x2400000 then
    dwOf (s.sched.records.get ((o - 0x400000) / 64)) ((o / 8) % 8)
  else if 0x3000000 ≤ o ∧ o < 0x3000020 then s.sync.ovf.get ((o - 0x3000000) / 8)
  else if 0x3001000 ≤ o ∧ o < 0x3001200 then (s.sync.bar (barKey false ((o - 0x3001000) / 8))).word
  else if 0x3001200 ≤ o ∧ o < 0x3001280 then (s.sync.bar (barKey true ((o - 0x3001200) / 8))).word
  else if o = 0x3010000 then s.fab.podId
  else if 0x3011000 ≤ o ∧ o < 0x3011800 then s.fab.route ((o - 0x3011000) / 8)
  else if 0x3012000 ≤ o ∧ o < 0x3012800 then dwOf (s.fab.exports.get ((o - 0x3012000) / 32)) ((o / 8) % 4)
  else if 0x4000000 ≤ o ∧ o < 0x4008000 then
    let k := (o - 0x4000000) / 4
    let e (j : Nat) : BitVec 32 := (s.drawer.written.get j).getD (s.drawer.ductus.get j)
    (e (k + 1)) ++ (e k)
  else if 0x5000000 ≤ o ∧ o < 0x5100000 then
    let k := stackOf s ((o - 0x5000000) / 0x10000)
    let r := (o - 0x5000000) % 0x10000
    if r < 0x4000 then dwOf (k.table.get (r / 64)) ((r / 8) % 8) else if r = 0x8000 then k.pool else 0
  else if 0x6000000 ≤ o ∧ o < 0x6080000 then
    let r := o - 0x6000000
    if r = 0 then s.host.triHead.setWidth 64 else if r = 8 then s.host.triTail else if r = 16 then s.host.triLost
    else if 0x1000 ≤ r then dwOf (s.host.triage.get ((r - 0x1000) / 64)) ((r / 8) % 8) else 0
  else if 0x6080000 ≤ o ∧ o < 0x6100000 then
    let r := o - 0x6080000
    if r = 0 then s.host.rstHead.setWidth 64 else if r = 8 then s.host.rstTail else if r = 16 then s.host.rstLost
    else if 0x1000 ≤ r then dwOf (s.host.reset.get ((r - 0x1000) / 32)) ((r / 8) % 4) else 0
  else if 0x7000000 ≤ o ∧ o < 0x7100000 then
    let r := o - 0x7000000
    if r = 0 then s.host.svcProd.setWidth 64 else if r = 8 then s.host.svcCons.setWidth 64
    else if 0x1000 ≤ r then s.host.svcRing.dword (r - 0x1000) else 0
  else if 0x8000000 ≤ o ∧ o < 0x8080000 then s.host.mlog.dword (o - 0x8000000)
  else if 0x8080000 ≤ o ∧ o < 0x8100000 then s.host.mailbox.dword (o - 0x8080000)
  else 0

/-- The level a write at a system-block offset needs (15 Tables 15.3 and 15.4); 0 where a write is discarded silently,
and 3 where only the host writes. -/
def sysWriteLevel (o : Nat) : Nat :=
  if o < 0x10000 then (if o / 8 = 0 ∨ o / 8 = 6 then 0 else if o / 8 = 2 then 3 else 2)
  else if o < 0x10400 then 1
  else if 0x100000 ≤ o ∧ o < 0x100200 then 2
  else if 0x3000000 ≤ o ∧ o < 0x3002000 then (if 0x3001000 ≤ o ∧ o < 0x3001280 then 1 else 2)
  else if 0x3010000 ≤ o ∧ o < 0x3013000 then (if 0x3012000 ≤ o ∧ o < 0x3012800 then 1 else 2)
  else if 0x4000000 ≤ o ∧ o < 0x4020000 then 2
  else if 0x5000000 ≤ o ∧ o < 0x5100000 then (if o % 0x10000 < 0x4000 then 0 else 2)
  else if o / 8 = 0xC00001 ∨ o / 8 = 0xC10001 then 1
  else if 0x7000000 ≤ o ∧ o < 0x7100000 then 3
  else if 0x8000000 ≤ o ∧ o < 0x8100000 then 3
  else 0

/-- One byte as an agent reads it: the system block's registers, else the byte store (05 Table 5.4). -/
def State.byteAt (s : State) (loc : Nat) : Byte :=
  if rangeOf (paOf loc) = .sys then
    let o := paOf loc - 0xB000000000000
    ((sysDword s (o / 8 * 8)) >>> (8 * (o % 8))).setWidth 8
  else s.mem.byte loc
def State.bytesAt (s : State) (loc n : Nat) : List Byte := (List.range n).map fun i => s.byteAt (loc + i)

/-- A stack whose local region is in the lost state (05 R143). -/
def State.lost (s : State) (n : Nat) : Bool := (stackOf s n).lost

/-- A key id is usable: 0, or loaded (10 R325). -/
def State.keyOk (s : State) (k : Nat) : Bool := k == 0 || s.drawer.loaded.contains k

/-- Resolve a virtual address for one access that lies in one page: canonical form, TLB, leaf checks. -/
def State.xlate (s : State) (dom level : Nat) (u : Use) (va : Word) : Loc :=
  if !canonical va then .bad 0x05 va 1 else
  match tlbFind dom va.toNat s.core.tlb with
  | some e => leafCheck s.mem s.lost sysWriteLevel level u va e (s.keyOk e.key)
  | none => match s.core.walkFault dom va with
    | some w => .bad w.cause va w.i1
    | none => .miss va

/-- The walk's fault is used up by the access that raises it: a retry walks again. -/
def State.dropWalkFault (s : State) : State := s.mapCore fun c => { c with wfaults := [] }

/-- Raise the fault of a failed resolve. A walk's machine check holds its entry's address in the record's third field. -/
def State.raiseLoc (s : State) (cause : Nat) (i0 i1 : Word) : State :=
  let i2 : Word := match s.core.walkFault s.core.dom i0 with
    | some w => if cause = w.cause then w.i2 else 0
    | none => 0
  s.dropWalkFault.raise cause i0 i1 i2

/-! ### Where an access goes (05 R138 to R141) -/

/-- The place of a memory access: core-local scratchpad offset, global address, or its fault. -/
inductive Place where
  | scr (off : Nat)
  | glob (va : Word)
  | bad (cause : Nat) (i0 : Word)
  deriving DecidableEq, Repr

/-- Resolve space, address, alignment and size (05 R140, R141); `o` is s[a] + offset. -/
def Core.place (c : Core) (space : Nat) (o : Word) (brel : Word) (align size : Nat) : Place :=
  match space with
  | 0 => if o.toNat % align ≠ 0 then .bad 0x07 o else .glob o
  | 1 => let a := o + brel
    if a.toNat % align ≠ 0 then .bad 0x07 a else if 2 ^ 21 < a.toNat + size then .bad 0x02 a else .scr a.toNat
  | _ =>
    let carve := c.sc.carve.toNat
    let limit := (c.sc.ovf &&& 0xFFF).toNat
    let base := canon ((c.sc.ovf >>> 12) <<< 12)
    if o.toNat % align ≠ 0 then .bad 0x07 o
    else if o.toNat + size ≤ carve then .scr (2 ^ 21 - carve + o.toNat)
    else if o.toNat < carve then .bad 0x07 o
    else if limit * 65536 < o.toNat + size - carve then .bad 0x15 o
    else .glob (base + o - BitVec.ofNat 64 carve)

/-- The base register a space-1 access adds (05 R140). -/
def Core.brel (c : Core) (space : Nat) (cls : BitVec 4) : Word :=
  if space = 1 ∧ cls.getLsbD 3 then (c.sc.b.get (cls.toNat % 8)).setWidth 64 else 0

/-- A timed copy's destination that a read touches before its landing (05 R153). A record is its space (1 scratchpad,
2 and 3 the clusters), offset, length and landing cycle. -/
def Core.earlyRead (c : Core) (space off n : Nat) : Bool :=
  c.sc.chkEarly && c.early.any fun e =>
    e.1 == space && decide (off < e.2.1 + e.2.2.1) && decide (e.2.1 < off + n) && decide (c.flow.cycle < e.2.2.2)

/-! ### Places that synchronisation touches (11 R345, R356) -/

/-- Uncached drawer memory, stack-local memory or MMIO, under a translation the TLB holds. -/
def State.badKind (s : State) (va : Word) : Bool :=
  match tlbFind s.core.dom va.toNat s.core.tlb with
  | none => false
  | some e => match rangeOf (e.pa + (va.toNat - e.va)) with
    | .stack _ => true
    | .sys => true
    | .drawer => e.cache == 1
    | _ => false

/-- Such a page raises PERMISSION with the map-range bit, before PRIVILEGE and CHIPLET_LOST (05 Table 5.8);
BJOIN resolves its join object in the same way (09 R290). -/
def State.syncLoc (s : State) (va : Word) (align : Nat) (u : Use) (level : Nat := s.core.level.toNat) : Loc :=
  if va.toNat % align ≠ 0 then .bad 0x07 va 0 else
  let k := s.badKind va
  match s.xlate s.core.dom level u va with
  | .ok loc => if k then .bad 0x06 va 8 else .ok loc
  | .bad 0x06 v b => .bad 0x06 v (if k then b ||| 8 else b)
  | .bad 0x04 v b => if k then .bad 0x06 va 8 else .bad 0x04 v b
  | .bad 0x0E v b => if k then .bad 0x06 va 8 else .bad 0x0E v b
  | r => r

end Sys2Proof.Machine
end

