-- ==== Sys2Proof/Machine/Image.lean ====
section
/-! DEFINITION. Image.lean: the bytes of a context image (12 Table 12.6) and where images and checkpoint sections go in
memory, and what a core reads from them. What its records do not hold stays with the image as data (log 40). -/

namespace Sys2Proof.Machine

/-! ### Chunks: a length, and the bytes by offset that are not 0 -/

abbrev Chunk := Nat × Memory

def chunk (bs : List Byte) : Chunk := (bs.length, Memory.writeRun [] 0 bs)
/-- Padded with zeros to a multiple of `k` bytes. -/
def Chunk.pad (c : Chunk) (k : Nat) : Chunk := (ceilDiv c.1 k * k, c.2)
/-- One after the other. -/
def chunkJoin : List Chunk → Chunk
  | [] => (0, [])
  | c :: r => let t := chunkJoin r; (c.1 + t.1, c.2 ++ t.2.map fun x => (c.1 + x.1, x.2))
/-- The part of a byte store from `lo`, `n` bytes long. -/
def Memory.slice (m : Memory) (lo n : Nat) : Chunk :=
  (n, (m.filter fun (c : Host.Cell) => decide (lo ≤ c.1) && decide (c.1 < lo + n)).map fun c => (c.1 - lo, c.2))
/-- 32-bit entries `lo` to `lo + n - 1` of a table, 4 bytes each. -/
def wordsChunk (t : Store (BitVec 32)) (lo n : Nat) : Chunk :=
  (4 * n, ((t.filter fun e => decide (lo ≤ e.1) && decide (e.1 < lo + n)).flatMap fun e =>
    ((natLe 4 e.2.toNat).mapIdx fun i b => (4 * (e.1 - lo) + i, b)).filter fun c => c.2 != 0))

/-- The drawer as key id 0 reads it, with every dirty line written back (05 R149). -/
def Mem.raw (m : Mem) : Memory :=
  let m := m.writeBack
  m.keyed.foldl (fun b e => match e.2 with
    | some r => if r.1 = 0 then b else b.writeRun (64 * e.1) (m.bytes (64 * e.1) 64)
    | none => b) m.base
/-- Put a chunk at a physical address of the drawer, below `top`, under key id 0: it overwrites what stood there, and its
granules carry the blots of `bl`, offsets in granules. -/
def Mem.putChunk (m : Mem) (pa : Nat) (c : Chunk) (top : Nat) (bl : List Nat := []) : Mem :=
  let hi := min (pa + c.1) top
  let out (a : Nat) : Bool := decide (a < pa) || decide (hi ≤ a)
  let m := if hi % 64 = 0 then m else { m with base := m.base.writeRun (hi / 64 * 64) (m.bytes (hi / 64 * 64) 64), dirty := dropDirty m.dirty (hi / 64 * 64) }
  let lines := (List.range ((hi + 63) / 64 - pa / 64)).map (pa / 64 + ·)
  { m with
    base := (c.2.filter fun (x : Host.Cell) => decide (pa + x.1 < hi)).foldl (fun (b : Memory) x => b.write (pa + x.1) x.2) (m.base.filter fun (x : Host.Cell) => out x.1)
    dirty := m.dirty.filter fun x => out x.1
    under := m.under.filter fun x => out (64 * x.1)
    keyed := if m.keyed.isEmpty then [] else lines.foldl (fun k l => k.set l (some (0, m.keys.get 0))) m.keyed
    blots := bl.foldl (fun b g => if pa + 64 * g < hi then b.set (pa / 64 + g) true else b) (m.blots.filter fun g => out (64 * g.1)) }

/-! ### Words of the matrix context (08 Tables 8.5 and 8.6) -/

/-- The status word of 08 Table 8.5. -/
def MatCtx.status (m : MatCtx) : Word :=
  BitVec.ofNat 64 (m.flags.toNat + m.h * 2 ^ 8 + m.t * 2 ^ 12 + m.occ * 2 ^ 16 + m.res * 2 ^ 21 + (m.size - 1) * 2 ^ 28 + m.pinMask.toNat * 2 ^ 32
    + (if m.nest.isSome then 2 ^ 48 else 0) + (if (m.nest.map (·.faulted)).getD false then 2 ^ 49 else 0) + (if m.clear = 0 then 0 else 2 ^ 50) + m.bnd * 2 ^ 51)
/-- MPROG (08 Table 8.6). -/
def MatCtx.mprog (m : MatCtx) : Word := BitVec.ofNat 64 (m.rb + m.step * 8 + (if m.valid then 2 ^ 63 else 0))
/-- The slots that a running nest has reserved: those that a head nest targets (08 R232). -/
def MatCtx.reserved (m : MatCtx) : List Nat := match m.nest with
  | some n => (match n.mode with
    | .head h0 f => (List.range (min f m.size)).map fun i => (h0 + i) % m.size
    | _ => [])
  | none => []
/-- The slots that an image keeps: ring slots in RES or OCC, and pinned slots (08 R254). -/
def MatCtx.kept (m : MatCtx) : List Nat :=
  (List.range 16).filter fun j => m.reserved.contains j || m.ring.contains j || m.pinMask.getLsbD j
/-- A drain is done with its ring slot: OCC and BND fall by one (08 R243, R251). -/
def MatCtx.releaseSlot (m : MatCtx) (d : Drain) : MatCtx :=
  if d.pinned then m else
  { m with occ := m.occ - 1, bnd := m.bnd - 1, ring := if m.ring.contains d.slot then m.ring.erase d.slot else m.ring.drop 1 }

/-- The matrix section (08 Table 8.8). -/
def MatCtx.chunk (m : MatCtx) : Chunk :=
  let drain (d : Drain) : List Byte := natLe 8 d.slot ++ natLe 8 d.o.toNat ++ natLe 8 d.v.toNat
  let first := match m.drains with
    | d :: _ => drain d
    | [] => natLe 24 0
  chunkJoin ([wordsChunk m.shadow 0 42, wordsChunk m.active 0 42,
      Machine.chunk (natLe 8 m.mprog.toNat ++ natLe 8 m.status.toNat ++ first)]
    ++ ((m.drains.drop 1).map fun d => Machine.chunk (drain d))
    ++ m.kept.flatMap fun j => [wordsChunk m.slots (16384 * j) 16384,
        Machine.chunk (natLe 128 ((List.range 1024).foldl (fun a i => if m.poison.get (1024 * j + i) then a + 2 ^ i else a) 0))])

/-! ### Pending and landing records (12 R384) -/

/-- A record: file code, index, remaining count, and the bytes that it writes with their values; the rest is 0. -/
structure ImgRec where
  file : Nat
  index : Nat
  count : Nat
  data : List (Option Byte)
  deriving DecidableEq, Repr

def ImgRec.chunk (r : ImgRec) : Chunk :=
  let mask := (r.data.mapIdx fun i b => if b.isSome then 2 ^ i else 0).sum
  Chunk.pad (Machine.chunk (natLe 4 (r.file + r.index * 256) ++ natLe 4 r.count ++ natLe 4 r.data.length ++ natLe 52 0 ++ natLe 64 mask
    ++ r.data.map fun b => b.getD 0)) 64

def whole (n v : Nat) : List (Option Byte) := (natLe n v).map some
/-- Register-space bytes as records of the registers that the view names them by. -/
def regRecs (vbase : Nat) (y : Bool) (count : Nat) (cs : List (Nat × Byte)) : List ImgRec :=
  (List.range 64).filterMap fun r =>
    let lo := vbase + 512 * r
    let mine := cs.filter fun c => decide (lo ≤ c.1) && decide (c.1 < lo + 512)
    if mine.isEmpty then none else
    some { file := if y then 6 else 5, index := r, count := count,
           data := (List.range 512).map fun i => (mine.reverse.find? fun c => c.1 == lo + i).map (·.2) }

/-- A tile descriptor as an image holds it: the TVIEW literal and the type (06 Table 6.3). -/
def Tile.word (t : Tile) : Nat := t.base / 32 % 4096 + (t.rows - 1) * 2 ^ 12 + (t.cols - 1) * 2 ^ 22 + t.ty * 2 ^ 32

/-- The records of a pending write; a write to no file of R42 is in no record. -/
def Core.pendRecs (c : Core) (p : Pend) : List ImgRec :=
  let m := p.due - c.flow.cycle
  let one (f i : Nat) (d : List (Option Byte)) : List ImgRec := [{ file := f, index := i, count := m, data := d }]
  match p.wr with
  | .link r v => one 0 r (whole 8 v.toNat)
  | .s r v => one 0 r (whole 8 v.toNat)
  | .p r v => one 1 r (whole 1 (if v then 1 else 0))
  | .b r v => one 2 r (whole 4 v.toNat)
  | .k r v => one 3 r (whole 1 (if v then 1 else 0))
  | .loop lc _ _ => one 10 0 (whole 8 lc.toNat)
  | .reg y bs => regRecs (c.cluster y).vbase y m (bs.map fun b => (b.at_, b.val))
  | .mask y r care v => one (if y then 8 else 7) r ((List.range 128).map fun i =>
      if care.extractLsb' (8 * i) 8 = (0 : BitVec 8) then none else some (v.extractLsb' (8 * i) 8))
  | .tile y n t => one 9 (n + if y then 8 else 0) (whole 8 t.word)
  | .fpset _ => []
  | .fpclr _ => []
  | .vbase _ _ => []
  | .sys _ _ => []
  | .nest _ _ => []
  | .pin _ _ _ => []
/-- The bytes that a landing-buffer entry writes, whose data has arrived (12 R381); zeros of its size stand for data still to
come. -/
def Land.bytes (l : Land) : List Byte :=
  let n := match l.dest with
    | .s _ k _ => k
    | .l _ => 64
    | .v _ cells => cells.length
  let bs := (l.data.map (·.1)).getD []
  let bs := (bs ++ List.replicate (n - bs.length) 0).take n
  match l.dest with
  | .s _ k sign => natLe 8 (if sign then ((BitVec.ofNat (8 * k) (leNat bs)).signExtend 64 : Word) else BitVec.ofNat 64 (leNat bs)).toNat
  | _ => bs
/-- The records of a landing-buffer entry. -/
def Core.landRecs (c : Core) (l : Land) : List ImgRec :=
  let m := l.due - c.flow.cycle
  match l.dest with
  | .s r _ _ => [{ file := 0, index := r, count := m, data := l.bytes.map some }]
  | .l r => [{ file := 4, index := r, count := m, data := l.bytes.map some }]
  | .v y cells => regRecs (c.cluster y).vbase y m ((cells.zip l.bytes).map fun x => (x.1.1, x.2))

/-! ### The image -/

/-- A queue record: stream, folio and slot, words, captured operands, progress word; the order of its fields is the model's (log 40). -/
def QEnt.record (q : QEnt) (st prog : Nat) : List Byte :=
  let gate := match q.gate with
    | none => 0
    | some b => if b then 3 else 2
  natLe 1 st ++ natLe 1 q.slot ++ natLe 1 q.words.length ++ natLe 1 gate ++ natLe 4 q.brel.toNat ++ natLe 8 q.folio.toNat
    ++ natLe 12 ((q.words.mapIdx fun i w => w.toNat * 2 ^ (32 * i)).sum) ++ natLe 8 q.a.toNat ++ natLe 8 q.b.toNat ++ natLe 8 q.d.toNat
    ++ natLe 8 (if st ≤ 2 then q.c else q.b1).toNat ++ natLe 4 prog
/-- The operations in progress of a stream that have a queue record, with their progress. -/
def Core.working? (c : Core) (st : Nat) : List (QEnt × Nat) := match st with
  | 3 => c.mat.xfers.filterMap fun x => x.ent.map fun q => (q, 0)
  | 4 => c.cpy.copies.filterMap fun k => k.ent.map fun q => (q, k.prog)
  | 5 => c.macros.filterMap fun m => m.ent.map fun q => (q, match m.kind with
    | .product .. => 0
    | _ => m.prog)
  | _ => []
/-- The queue records: in stream order, of each stream those in progress and those still queued. -/
def Core.queueBytes (c : Core) : List Byte := [1, 2, 3, 4, 5].flatMap fun st =>
  (c.working? st).flatMap (fun x => x.1.record st x.2) ++ (c.queues.get st).flatMap fun q => q.record st 0
def Core.queueRecs (c : Core) : Nat := ([1, 2, 3, 4, 5].map fun st => (c.working? st).length + (c.queues.get st).length).sum

/-- The fixed part from 0x40 to 0x1800. -/
def Core.fixedPart (c : Core) : List Chunk :=
  let words (n w : Nat) (f : Nat → Nat) : Chunk := chunk ((List.range n).flatMap fun i => natLe w (f i))
  let flags (n : Nat) (f : Nat → Bool) : Nat := ((List.range n).map fun i => if f i then 2 ^ i else 0).sum
  let view (x : Cluster) : Chunk := chunk (natLe 8 x.vbase ++ (List.range 8).flatMap fun n => natLe 8 ((x.tiles.get n).getD {}).word)
  let pairs := (List.range 6).flatMap fun p => ((List.range 6).filter (· != p)).map fun q => (p, q)
  [words 64 8 fun r => (c.sc.s.get r).toNat,
   words 16 64 fun r => (c.sc.lrec.get r).toNat,
   words 8 4 fun r => (c.sc.b.get r).toNat,
   chunk (natLe 8 c.sc.lc.toNat),
   chunk (natLe 8 (flags 16 (fun i => i == 0 || c.sc.p.get i) + flags 8 c.sc.k.get * 2 ^ 16 + (c.sc.n - 1) * 2 ^ 24 + (c.sc.st - 1) * 2 ^ 28)),
   chunk (natLe 8 (if c.sc.satcvt then 1 else 0) ++ natLe 8 c.sc.fpstat.toNat ++ natLe 8 c.sc.srseed.toNat),
   words 6 8 fun st => (c.sc.srcnt.get st).toNat,
   chunk ((pairs.map fun x => BitVec.ofNat 8 (c.given.get (tokKey x.1 x.2) + c.pendTok.get (tokKey x.1 x.2))) ++ [0, 0]),
   chunk (natLe 8 c.sc.carve.toNat ++ natLe 8 c.sc.ovf.toNat ++ natLe 8 (if c.sc.chkEarly then 1 else 0)),
   chunk (natLe 16 c.cpy.flags.toNat),
   view c.x, view c.y,
   chunk (natLe 8 c.sc.priv.toNat), (104, []),
   words 16 128 fun r => (c.x.masks.get r).toNat,
   words 16 128 fun r => (c.y.masks.get r).toNat]

/-- The image of a core as its strand leaves it, resuming at the point where it stands. -/
def Core.imageChunk (c : Core) : Chunk :=
  let spneed := ((c.strand.map (·.spneed)).getD 0) * 1024
  let carve := c.sc.carve.toNat
  let pend := c.pend.flatMap c.pendRecs
  let lands := c.lands.flatMap c.landRecs
  let q := c.queueRecs
  let mat := c.mat.chunk
  let body := chunkJoin (c.fixedPart ++ [c.x.reg.slice 0 c.x.size, c.y.reg.slice 0 c.y.size, c.scr.bytes.slice 0 spneed,
    c.scr.bytes.slice (2 ^ 21 - carve) carve] ++ pend.map ImgRec.chunk ++ lands.map ImgRec.chunk ++ [chunk c.queueBytes, mat])
  chunkJoin [chunk (natLe 8 1 ++ natLe 8 c.pc.folio.toNat ++ natLe 8 (c.pc.slot % 8 + pend.length % 65536 * 2 ^ 8 + lands.length % 256 * 2 ^ 24 + q % 65536 * 2 ^ 32)
      ++ natLe 8 (0x40 + body.1) ++ natLe 8 (c.x.size + c.y.size * 2 ^ 32) ++ natLe 8 (spneed + carve * 2 ^ 32) ++ natLe 8 mat.1 ++ natLe 8 0), body]

/-- The granules of the image that its blotted core-local granules go to (05 R477). -/
def Core.imageBlots (c : Core) : List Nat :=
  let spneed := ((c.strand.map (·.spneed)).getD 0) * 1024
  let carve := c.sc.carve.toNat
  let part (bl : Store Bool) (lo n at_ : Nat) : List Nat :=
    bl.filterMap fun g => if g.2 && decide (lo ≤ 64 * g.1) && decide (64 * g.1 < lo + n) then some ((at_ + 64 * g.1 - lo) / 64) else none
  let x := 0x1800
  let y := x + c.x.size
  let s := y + c.y.size
  part c.x.blots 0 c.x.size x ++ part c.y.blots 0 c.y.size y ++ part c.scr.blots 0 spneed s ++ part c.scr.blots (2 ^ 21 - carve) carve (s + spneed)

/-! ### Reading an image (12 R381, 15 R458) -/

/-- The number in `n` bytes of an image. -/
def imgNum (b : Memory) (off n : Nat) : Nat := leNat (b.readRun off n)
/-- The records from `off`, and the offset after them. -/
def readRecs (b : Memory) : Nat → Nat → List ImgRec × Nat
  | 0, off => ([], off)
  | k + 1, off =>
    let n := imgNum b (off + 8) 4
    let mask := imgNum b (off + 64) 64
    let r : ImgRec := { file := imgNum b off 1, index := imgNum b (off + 1) 1, count := imgNum b (off + 4) 4,
                        data := (List.range n).map fun i => if mask.testBit i then some (b.read (off + 128 + i)) else none }
    let rest := readRecs b k (off + 128 + ceilDiv n 64 * 64)
    (r :: rest.1, rest.2)
def ImgRec.num (r : ImgRec) : Nat := leNat (r.data.map fun b => b.getD 0)
/-- The tile that a literal and its type name. -/
def Tile.ofWord (w : Nat) : Tile := { base := w % 4096 * 32, rows := w / 2 ^ 12 % 1024 + 1, cols := w / 2 ^ 22 % 1024 + 1, ty := w / 2 ^ 32 % 16 }
/-- The write that a record describes, for a core whose views and loop it falls due in. -/
def ImgRec.wr (c : Core) (r : ImgRec) : Option Wr :=
  let y := r.file == 6 || r.file == 8
  match r.file with
  | 0 => some (.s r.index (BitVec.ofNat 64 r.num))
  | 1 => some (.p r.index (r.num != 0))
  | 2 => some (.b r.index (BitVec.ofNat 32 r.num))
  | 3 => some (.k r.index (r.num != 0))
  | 10 => some (.loop (BitVec.ofNat 64 r.num) c.sc.n c.sc.st)
  | 9 => some (.tile (decide (8 ≤ r.index)) (r.index % 8) (Tile.ofWord r.num))
  | _ =>
    if r.file = 5 ∨ r.file = 6 then
      some (.reg y ((r.data.mapIdx fun i b => b.map fun v => (⟨(c.cluster y).vbase + 512 * r.index + i, 0xFF, v, false, false⟩ : Cell)).filterMap id))
    else if r.file = 7 ∨ r.file = 8 then
      some (.mask y r.index (BitVec.ofNat 1024 (leNat (r.data.map fun b => if b.isSome then 0xFF else 0))) (BitVec.ofNat 1024 r.num))
    else none
/-- The landing that a record describes: its data is here. -/
def ImgRec.land (c : Core) (r : ImgRec) : Land :=
  let dest : LandDest := if r.file = 4 then .l r.index else if r.file = 0 then .s r.index 8 false else
    .v (r.file == 6) ((List.range r.data.length).filterMap fun i => if (r.data.getD i none).isSome then some ((c.cluster (r.file == 6)).vbase + 512 * r.index + i, 0xFF) else none)
  { id := 0, seq := 0, stream := 0, slot := 0, pc := 0, cls := 0, scope := 0, hand := false, entry := true, due := c.flow.cycle + r.count, dest := dest,
    src := .mem [], addr := 0, sampleAt := 0, waitFor := [], data := some (r.data.filterMap id, false), fault := none, readyAt := 0 }
/-- A queue entry as its record gives it; the layout records that it captured are not in it. -/
def QEnt.ofRecord (b : Memory) (off seq : Nat) : Nat × QEnt :=
  let st := imgNum b off 1
  let w (o n : Nat) : Nat := imgNum b (off + o) n
  let x : Word := BitVec.ofNat 64 (w 52 8)
  let gate := w 3 1
  (st, { seq := seq, folio := BitVec.ofNat 64 (w 8 8), slot := w 1 1, words := (List.range (w 2 1 % 4)).map fun i => BitVec.ofNat 32 (w (16 + 4 * i) 4),
         a := BitVec.ofNat 64 (w 28 8), b := BitVec.ofNat 64 (w 36 8), d := BitVec.ofNat 64 (w 44 8), c := if st ≤ 2 then x else 0, b1 := if st ≤ 2 then 0 else x,
         brel := BitVec.ofNat 32 (w 4 4), gate := if gate < 2 then none else some (gate == 3), la := 0, lb := 0 })

/-- The matrix section from `off`, `n` bytes long: what a nest, a drain or a transfer has captured beside it stays as `m` has it. -/
def MatCtx.ofImage (m : MatCtx) (b : Memory) (off n : Nat) : MatCtx :=
  let table (o : Nat) : Store (BitVec 32) := (List.range 42).foldl (fun t i => t.set i (BitVec.ofNat 32 (imgNum b (o + 4 * i) 4))) []
  let prog := imgNum b (off + 336) 8
  let st := imgNum b (off + 344) 8
  let size := st / 2 ^ 28 % 16 + 1
  let occ := st / 2 ^ 16 % 32
  let res := st / 2 ^ 21 % 128
  let t := st / 2 ^ 12 % 16
  let bnd := st / 2 ^ 51 % 32
  let pins : BitVec 16 := BitVec.ofNat 16 (st / 2 ^ 32)
  let kept := (List.range 16).filter fun j => pins.getLsbD j || (List.range (min 16 (occ + res))).any fun i => (t + 16 * size - bnd + i) % size == j
  let o := off + n - 65664 * kept.length
  let vals := kept.mapIdx fun i j => ((List.range 16384).filterMap fun k =>
    let v := imgNum b (o + 65664 * i + 4 * k) 4
    if v = 0 then none else some (16384 * j + k, BitVec.ofNat 32 v))
  let poison := kept.mapIdx fun i j => let p := imgNum b (o + 65664 * i + 65536) 128
                                       ((List.range 1024).filter p.testBit).map fun k => (1024 * j + k, true)
  { m with
    shadow := table off
    active := table (off + 168)
    rb := prog % 8
    step := prog / 8 % 2 ^ 60 % 2 ^ 48
    valid := prog / 2 ^ 63 % 2 == 1
    flags := BitVec.ofNat 5 st
    h := st / 2 ^ 8 % 16
    t := t
    occ := occ
    res := res
    size := size
    pinMask := pins
    bnd := bnd
    ring := if m.ring.length = occ then m.ring else (List.range occ).map fun i => (t + 16 * size - bnd + i) % size
    slots := vals.flatten
    poison := poison.flatten
    drains := m.drains.mapIdx fun i d => let a := off + 352 + 24 * i
                                         { d with slot := imgNum b a 8 % 16, o := BitVec.ofNat 64 (imgNum b (a + 8) 8), v := BitVec.ofNat 64 (imgNum b (a + 16) 8) } }

/-- What the bytes of an image say, over what stands beside it as `c`; `bl` the granules of the image that carry a blot. -/
def Core.ofImage (c : Core) (b : Memory) (bl : List Nat) : Core :=
  let w (off n : Nat) : Nat := imgNum b off n
  let word (off : Nat) : Word := BitVec.ofNat 64 (w off 8)
  let table {α : Type} [Inhabited α] [DecidableEq α] (n : Nat) (f : Nat → α) : Store α := (List.range n).foldl (fun t i => t.set i (f i)) []
  let xs := w 0x20 4 % 2 ^ 18
  let ys := w 0x24 4 % 2 ^ 18
  let spn := w 0x28 4 % 2 ^ 22
  let carve := w 0x2C 4 % 2 ^ 22
  let xo := 0x1800
  let yo := xo + xs
  let so := yo + ys
  let co := so + spn
  let blots (lo n at_ : Nat) : Store Bool := (bl.filter fun g => decide (lo ≤ 64 * g) && decide (64 * g < lo + n)).map fun g => ((64 * g - lo + at_) / 64, true)
  let part (lo n at_ : Nat) : Memory := (b.slice lo n).2.map fun x => (x.1 + at_, x.2)
  let flags := w 0x668 8
  let cluster (x : Cluster) (lo n view masks : Nat) : Cluster :=
    { reg := part lo n 0, blots := blots lo n 0, size := n, vbase := w view 8
      tiles := table 8 fun i => let t := Tile.ofWord (w (view + 8 + 8 * i) 8)
                                if t = (x.tiles.get i).getD {} then x.tiles.get i else some t
      masks := table 16 fun i => BitVec.ofNat 1024 (w (masks + 128 * i) 128) }
  let pairs := (List.range 6).flatMap fun p => ((List.range 6).filter (· != p)).map fun q => (p, q)
  let c := { c with
    pc := { c.pc with folio := word 8, slot := w 0x10 8 % 8 }
    sc := { c.sc with
      s := (List.range 64).foldl (fun t i => t.set i (word (0x40 + 8 * i))) c.sc.s
      lrec := table 16 fun i => BitVec.ofNat 512 (w (0x240 + 64 * i) 64)
      b := table 8 fun i => BitVec.ofNat 32 (w (0x640 + 4 * i) 4)
      lc := word 0x660
      p := (List.range 16).foldl (fun t i => t.set i (decide (i ≠ 0) && flags.testBit i)) c.sc.p
      k := table 8 fun i => flags.testBit (16 + i)
      n := flags / 2 ^ 24 % 8 + 1
      st := flags / 2 ^ 28 % 8 + 1
      satcvt := w 0x670 8 % 2 == 1
      fpstat := BitVec.ofNat 5 (w 0x678 8)
      srseed := word 0x680
      srcnt := table 6 fun i => BitVec.ofNat 44 (w (0x688 + 8 * i) 8)
      carve := BitVec.ofNat 22 (w 0x6D8 8)
      ovf := word 0x6E0
      chkEarly := w 0x6E8 8 % 2 == 1
      priv := BitVec.ofNat 2 (w 0x790 8) }
    given := (pairs.mapIdx fun i (x : Nat × Nat) => (tokKey x.1 x.2, w (0x6B8 + i) 1 - c.pendTok.get (tokKey x.1 x.2))).foldl (fun (t : Store Nat) (x : Nat × Nat) => t.set x.1 x.2) []
    cpy := { c.cpy with flags := BitVec.ofNat 6 (w 0x6F0 1) }
    x := cluster c.x xo xs 0x700 0x800
    y := cluster c.y yo ys 0x748 0x1000
    scr := { bytes := part so spn 0 ++ part co carve (2 ^ 21 - carve), blots := blots so spn 0 ++ blots co carve (2 ^ 21 - carve) } }
  let pend := readRecs b (w 0x11 2) (co + carve)
  let land := readRecs b (w 0x13 1) pend.2
  let nq := w 0x14 2
  let qs : List (Nat × QEnt) := (List.range nq).map fun i => QEnt.ofRecord b (land.2 + 64 * i) i
  let old : List (Pend × ImgRec) := c.pend.flatMap fun p => (c.pendRecs p).map fun r => (p, r)
  { c with
    pend := (c.pend.filter fun p => (c.pendRecs p).isEmpty) ++ (pend.1.mapIdx fun i r => (ImgRec.wr c r).map fun wr =>
      ({ due := c.flow.cycle + r.count, rank := 0, seq := ((old[i]?).map fun (x : Pend × ImgRec) => x.1.seq).getD i, stream := ((old[i]?).map fun (x : Pend × ImgRec) => x.1.stream).getD 0, hand := false, wr := wr } : Pend)).filterMap id
    lands := land.1.map (ImgRec.land c)
    queues := [1, 2, 3, 4, 5].foldl (fun (t : Store (List QEnt)) st =>
      let mine := ((qs.filter fun (q : Nat × QEnt) => q.1 == st).map fun (q : Nat × QEnt) => q.2).drop (c.working? st).length
      let was := c.queues.get st
      t.set st (mine.mapIdx fun i q => match was[i]? with
        | some o => { q with seq := o.seq, la := o.la, lb := o.lb }
        | none => q)) []
    mat := c.mat.ofImage b (land.2 + 64 * nq) (w 0x30 8) }
/-- A core's state as a strand that resumes finds it at `pa`, `n` bytes long: what was written there, or, where those bytes have
changed since, what they say. -/
def Core.loadImage (c : Core) (m : Mem) (pa n : Nat) : Core :=
  let at_ (n : Nat) : Memory := (m.raw.slice pa n).2
  let bl (n : Nat) : List Nat := (m.blots.filter fun g => g.2 && decide (pa ≤ 64 * g.1) && decide (64 * g.1 < pa + n)).map fun g => g.1 - pa / 64
  let own := c.imageChunk
  if at_ own.1 = own.2 ∧ bl own.1 = c.imageBlots then c else c.ofImage (at_ n) (bl n)

end Sys2Proof.Machine
end

