-- ==== Sys2Proof/Machine/Report.lean ====
section
/-! DEFINITION. Report.lean: what the part reports to the host: the service ring, error triage and the reset report
(15 R462 to R464). -/

namespace Sys2Proof.Machine

/-- A little-endian structure from its fields: byte offset and value. -/
def packAt (n : Nat) (fs : List (Nat × Nat)) : BitVec n := BitVec.ofNat n ((fs.map fun f => f.2 * 2 ^ (8 * f.1)).sum)
/-- The bytes of a wide value. -/
def bvBytes {n : Nat} (v : BitVec n) : List Byte := natLe (n / 8) v.toNat

/-! ### The host service ring (15 R462) -/

/-- Requests the ring holds room for: n − CONS < 16,320. -/
def HostPart.ringRoom (h : HostPart) : Bool := decide ((h.svcProd - h.svcCons).toNat < 16320)

/-- Post one request: the request half of its entry, PROD, MSI-X vector 1. -/
def HostPart.postOne (h : HostPart) (r : SvcReq) : HostPart :=
  { h with
    svcRing := h.svcRing.writeRun (64 * (h.svcProd.toNat % 16320))
      ([BitVec.ofNat 8 r.func, 0, 0, 0] ++ natLe 4 h.svcProd.toNat ++ (List.range 24).map fun i => r.req.getD i 0)
    svcProd := h.svcProd + 1
    msix := h.msix ||| 2 }

/-- Post the waiting requests, oldest first, as far as the ring has room. -/
def HostPart.postAll : List SvcReq → HostPart → HostPart
  | [], h => h
  | r :: rs, h =>
    if r.seq.isSome then HostPart.postAll rs h
    else if h.ringRoom then
      HostPart.postAll rs { h.postOne r with svcWait := h.svcWait.map fun x => if x.id == r.id then { x with seq := some h.svcProd.toNat } else x }
    else h

/-- A request to the host, numbered `nextId`: it waits in the part until its reply. `ops` are bytes 8 to 31. -/
def State.service (s : State) (func core : Nat) (ops : List Byte) : State :=
  { s with
    nextId := s.nextId + 1
    host :=
      let h := { s.host with svcWait := s.host.svcWait ++ [{ id := s.nextId, seq := none, func := func, core := core, req := ops }] }
      HostPart.postAll h.svcWait h }

/-- A walker of the core's quadrant is free, of 8 (01 Table 1.1). -/
def State.walkerFree (s : State) : Bool :=
  let others := (s.cores.filter fun e => e.1 / 32 == s.id / 32).flatMap fun e => (e.2.getD {}).walks
  decide (((s.core.walks ++ others).filter fun w => w.ticket.isNone).length < 8)
/-- One more event in the field of TLB_STAT at bit `k`, saturating (14 Table 14.7; log 87). -/
def Core.countStat (c : Core) (k : Nat) : Core :=
  { c with tlbStat := if c.tlbStat.extractLsb' k 16 = 0xFFFF then c.tlbStat else c.tlbStat + 2 ^ k }
/-- A lookup drops the entries that it finds with a parity error (14 R429). -/
def Core.parity (c : Core) (dom : Nat) (va : Word) : Core :=
  let hit (e : TlbEnt) : Bool := e.bad && e.dom == dom && decide (e.va ≤ va.toNat) && decide (va.toNat < e.va + e.size)
  if c.tlb.any hit then { c with tlb := c.tlb.filter fun e => !hit e }.countStat 0 else c

/-- Start the walk that an access waits for, once a walker is free (14 R430): its end is a free time, or the host's reply with
FUNC_MODE.WALK. -/
def State.wantWalk (s : State) (dom : Nat) (va : Word) (u : Use := .read) : State :=
  let s := s.mapCore fun c => c.parity dom va
  if s.core.walks.any (fun w => w.dom == dom && (w.va >>> 12) == (va >>> 12)) then s else
  let host := s.host.funcMode.getLsbD 0
  if !host && !s.walkerFree then s else
  let t := (s.mapCore fun c => { c with walks := c.walks ++
    [Walk.mk dom va (s.wall + 1 + Config.delay s.freeCtr) (if host then some s.nextId else none)] }).bump
  if host then t.service 0 s.id (natLe 8 dom ++ natLe 8 va.toNat ++ natLe 8 (match u with
    | .read => 0
    | .write => 1
    | .fetch => 2)) else t

/-! ### Error triage (15 R463) -/

/-- An error-triage entry's fields (15 Table 15.13). -/
structure Report where
  kind : Nat
  cause : Nat := 0
  socket : Nat := 0xFF
  second : Nat := 0
  pc : Word := 0
  i0 : Word := 0
  i1 : Word := 0
  i2 : Word := 0
  i3 : Word := 0
  node : Nat := 0
  strand : Nat := 0
  dom : Nat := 0
  tag : Nat := 0
  reason : Nat := 0
  deriving DecidableEq, Repr

def Report.entry (r : Report) (seq : Nat) : BitVec 512 :=
  packAt 512 [(0, r.kind), (1, r.cause), (2, r.socket), (3, r.second), (4, seq), (8, r.pc.toNat), (16, r.i0.toNat), (24, r.i1.toNat),
    (32, r.i2.toNat), (40, r.i3.toNat), (48, r.node), (50, r.strand), (51, r.dom), (52, r.tag), (54, r.reason)]

def satInc (v : BitVec 64) : BitVec 64 := if v = -1 then v else v + 1

/-- Append to the error-triage log; with FUNC_MODE.TRIAGE a request tells the host. -/
def State.triage (s : State) (r : Report) : State :=
  let h := s.host
  if (h.triHead - h.triTail.setWidth 32).toNat = 8128 then { s with host := { h with triLost := satInc h.triLost } } else
  let s := { s with host := { h with
    triage := h.triage.set (h.triHead.toNat % 8128) (r.entry h.triHead.toNat)
    triHead := h.triHead + 1 } }
  if h.funcMode.getLsbD 5 then s.service 5 s.id (natLe 4 h.triHead.toNat) else s

/-- The triage fields of a strand. -/
def Strand.report (t : Strand) (kind : Nat) : Report := { kind := kind, node := t.node, strand := t.idx, dom := t.dom, tag := t.tag }
/-- A strand ended by a fault (14 R423, R421). -/
def Trap.report (f : Trap) (t : Strand) (kind second reason : Nat) : Report :=
  { t.report kind with cause := f.cause, second := second, pc := f.pc, i0 := f.i0, i1 := f.i1, i2 := f.i2, i3 := f.i3, reason := reason }

/-! ### The reset report (15 R464) -/

/-- Append an entry of 15 Table 15.14. -/
def State.resetEntry (s : State) (kind socket op disp node strand dom tag count : Nat) : State :=
  let h := s.host
  if (h.rstHead - h.rstTail.setWidth 32).toNat = 16256 then { s with host := { h with rstLost := satInc h.rstLost } } else
  { s with host := { h with
    reset := h.reset.set (h.rstHead.toNat % 16256)
      (packAt 256 [(0, kind), (1, socket), (2, op), (3, disp), (4, h.rstHead.toNat), (8, node), (10, strand), (11, dom), (12, tag), (16, count)])
    rstHead := h.rstHead + 1 } }

end Sys2Proof.Machine
end

