-- ==== Sys2Proof/Machine/Walk.lean ====
section
/-! DEFINITION. Walk.lean: page-table walks (14 R427 to R430), the reads and writes that the part itself makes in a
domain (12 R363, R364), and the event PAGE_WALK. -/

namespace Sys2Proof.Machine

/-- How a walk ends: a leaf, or a fault with its two fields. -/
inductive WalkEnd where
  | leaf (e : TlbEnt)
  | fault (cause : Nat) (i1 i2 : Word)
  deriving DecidableEq, Repr

/-- The walker reads an entry: its value and 0, or the error kind of TRAP_INFO2 (14 R429, R446). -/
def State.pteRead (s : State) (pa : Nat) : State × Word × Nat :=
  let t := s.inject pa 8 true
  let fired := s.pkg.injCtl.getLsbD 0 && !t.pkg.injCtl.getLsbD 0 && (s.pkg.injCtl >>> 1) &&& 3 != 0
  (t, BitVec.ofNat 64 (leNat (s.bytesAt pa 8)), if fired then 1 else if s.mem.blotted pa 8 then 3 else 0)

/-- TLB_STAT.UNC counts a walk that met an uncorrectable entry or a blot (14 Table 14.7). -/
def Core.countUnc (c : Core) : Core := c.countStat 32
/-- A CRIT leaf is read twice: the values differ where a read went wrong, which is free (14 R429; log 87). -/
def State.doubleRead (s : State) (pa : Nat) (e : Word) (r : WalkEnd) : State × WalkEnd :=
  match r with
  | .fault .. => (s, r)
  | .leaf _ =>
    if !e.getLsbD 5 then (s, r)
    else if Config.choice s.freeCtr = 0 then (s.bump.mapCore fun c => c.countStat 16, .fault 0x17 (BitVec.ofNat 64 pa) 2)
    else (s.bump, r)

/-- R428's checks of a leaf at level 1 or 2: the TLB entry, or reason 5. -/
def leafEntry (dom : Nat) (va e : Word) (level : Nat) : WalkEnd :=
  let run := (e.extractLsb' 8 4).toNat
  let size := (if level = 1 then 4096 else 2 ^ 21) * 2 ^ run
  let pa := (e.extractLsb' 12 40).toNat * 4096
  let key := (e.extractLsb' 52 6).toNat
  if (level = 1 ∧ 8 < run) ∨ (level = 2 ∧ 6 < run) ∨ e.extractLsb' 6 2 = 3 ∨ pa % size ≠ 0 ∨ (key ≠ 0 ∧ rangeOf pa ≠ .drawer) then
    .fault 0x05 (BitVec.ofNat 64 (5 + 16 * level)) 0
  else .leaf { dom := dom, va := va.toNat / size * size, size := size, pa := pa, w := e.getLsbD 1, x := e.getLsbD 2, app := e.getLsbD 4,
               cache := (e.extractLsb' 6 2).toNat, key := key, owner := (e.extractLsb' 58 6).toNat }

/-- The index of an address at a table level, 4 to 1. -/
def tableIndex (va : Word) (level : Nat) : Nat := (va.toNat / 2 ^ (12 + 9 * (level - 1))) % 512

/-- The loop of R428 from the entry at `pa`, at table level `level`, 5 for the root array. -/
def State.walkFrom (dom : Nat) (va : Word) : Nat → Nat → State → State × WalkEnd
  | 0, _, s => (s, .fault 0x05 3 0)
  | l + 1, pa, s =>
    let r := s.pteRead pa
    let e := r.2.1
    if r.2.2 ≠ 0 then (r.1.mapCore Core.countUnc, .fault 0x17 (BitVec.ofNat 64 pa) (BitVec.ofNat 64 r.2.2))
    else if !e.getLsbD 0 then (r.1, .fault 0x05 (BitVec.ofNat 64 (2 + 16 * (l + 1))) 0)
    else if !e.getLsbD 3 then
      if l = 0 ∨ e &&& 0xFFF0000000000FF6 ≠ 0 then (r.1, .fault 0x05 (BitVec.ofNat 64 (3 + 16 * (l + 1))) 0)
      else State.walkFrom dom va l ((e.extractLsb' 12 40).toNat * 4096 + 8 * tableIndex va l) r.1
    else if 2 ≤ l then (r.1, .fault 0x05 (BitVec.ofNat 64 (4 + 16 * (l + 1))) 0)
    else r.1.doubleRead pa e (leafEntry dom va e (l + 1))

/-- walk(D, va) (14 R428). -/
def State.walk (s : State) (dom : Nat) (va : Word) : State × WalkEnd :=
  if !canonical va then (s, .fault 0x05 1 0) else
  let r := s.host.roots.get dom
  if !r.getLsbD 0 then (s, .fault 0x05 0x52 0)
  else if r &&& 0xFFF00000000007FE ≠ 0 then (s, .fault 0x05 0x53 0)
  else State.walkFrom dom va 5 ((r.extractLsb' 11 41).toNat * 2048 + 8 * (va.extractLsb' 48 8).toNat) s

/-! ### Accesses that the part makes in a domain, outside any strand's instruction (log 17) -/

/-- A fault of such an access: its cause, TRAP_INFO1 and 2, and the address. -/
abbrev PartFault := Nat × Word × Word × Word
/-- Resolve an address now, walking the tables. -/
def State.resolve (s : State) (dom : Nat) (u : Use) (va : Word) (level : Nat := 1) : State × (Nat ⊕ PartFault) :=
  match s.walk dom va with
  | (s, .fault c i1 i2) => (s, .inr (c, i1, i2, va))
  | (s, .leaf e) => match leafCheck s.mem s.lost sysWriteLevel level u va e (s.keyOk e.key) with
    | .ok loc => (s, .inl loc)
    | .miss _ => (s, .inr (0x05, 2, 0, va))
    | .bad c _ i1 => (s, .inr (c, i1, 0, va))

/-- Read `n` bytes in a domain at a level, page by page: bytes and blot, or the first fault. `fuel` counts pages. -/
def State.readAt (dom level : Nat) : Nat → Word → Nat → State → State × (List Byte × Bool ⊕ PartFault)
  | 0, _, _, s => (s, .inl ([], false))
  | fuel + 1, va, n, s =>
    if n = 0 then (s, .inl ([], false)) else
    let k := min n (4096 - va.toNat % 4096)
    match s.resolve dom .read va level with
    | (s, .inr f) => (s, .inr f)
    | (s, .inl loc) =>
      let s := s.inject loc k false
      let blot := s.mem.blotted loc k
      match State.readAt dom level fuel (va + BitVec.ofNat 64 k) (n - k) s with
      | (t, .inr f) => (t, .inr f)
      | (t, .inl (bs, b)) => (t, .inl (s.bytesAt loc k ++ bs, blot || b))
/-- The same at level SUP, as the part's own reads are (log 17). -/
def State.readDom (dom fuel : Nat) (va : Word) (n : Nat) (s : State) : State × (List Byte × Bool ⊕ PartFault) := State.readAt dom 1 fuel va n s

/-! ### Walks of a core -/

/-- The first walk of the current core whose time has come. -/
def State.dueWalk (s : State) : Option Walk := s.core.walks.find? fun w => decide (w.doneAt ≤ s.wall) && w.ticket.isNone

/-- A walk ends: a TLB entry, or the fault that the access will raise. -/
def State.endWalk (s : State) (w : Walk) (r : WalkEnd) : State :=
  s.mapCore fun c =>
    let c := { c with walks := c.walks.filter (· != w) }
    match r with
    | .leaf e => { c with tlb := c.tlb ++ [e] }
    | .fault cause i1 i2 => { c with wfaults := c.wfaults ++ [⟨w.dom, w.va, cause, i1, i2⟩] }

/-- PAGE_WALK: the walk reads its entries and its result stands for the waiting access (14 R428). -/
def execPageWalk (s : State) : Result :=
  .next (match s.dueWalk with
    | none => s
    | some w => let r := s.walk w.dom w.va; r.1.endWalk w r.2)

end Sys2Proof.Machine
end

