-- ==== Sys2Proof/Machine/Nodes.lean ====
section
/-! DEFINITION. Nodes.lean: node records, their check, commit and the ready pool's queues (12 R362 to R368), and
continuation records (12 R371). -/

namespace Sys2Proof.Machine

/-- A field of a node record (12 Table 12.1). -/
def recF (r : BitVec 1024) (lo n : Nat) : Nat := (r.extractLsb' lo n).toNat
def recW (r : BitVec 1024) (lo : Nat) : Word := r.extractLsb' lo 64
def recWidth (r : BitVec 1024) : Nat := recF r 128 5 + 1
def recPlace (r : BitVec 1024) : Nat := recF r 133 2
def recGlog (r : BitVec 1024) : Nat := recF r 135 3
def recDom (r : BitVec 1024) : Nat := recF r 142 6
def recTag (r : BitVec 1024) : Nat := recF r 148 16
def recCarve (r : BitVec 1024) : Nat := recF r 256 22
def recSpneed (r : BitVec 1024) : Nat := recF r 224 12

/-- The commit source may not name this DOMAIN (12 R365). -/
def badOwner (src : Agent) (dom : Nat) : Bool :=
  !src.host && ((src.level == 0 && dom != src.domain.toNat) || (src.level == 1 && dom == 0))

/-- An entry address that fails R363. -/
def badEntry (w : Word) : Bool := !canonical w || w.toNat % 32 != 0

/-- The conditions of R363 that the record alone decides. -/
def badRecord (r : BitVec 1024) : Bool :=
  recF r 180 12 != 0 || recF r 236 4 != 0 || recF r 278 42 != 0
  || badEntry (recW r 0) || badEntry (recW r 64)
  || (recPlace r == 3) != (recW r 64 != 0)
  || decide (5 < recGlog r) || (recGlog r == 0 && decide (2 ≤ recPlace r)) || (recGlog r != 0 && recPlace r == 1)
  || decide (128 < recF r 200 8) || decide (128 < recF r 216 8)
  || recCarve r % 64 != 0 || decide (2 ^ 21 < recSpneed r * 1024 + recCarve r)
  || !canonical (recW r 832) || recF r 832 64 % 8 != 0 || recF r 952 8 != 0

/-- A counted list of the record in entries of `size` bytes, or the fault that its read meets, of cause 0 where it holds too
many entries. -/
def State.readList (s : State) (dom : Nat) (va : Word) (top size : Nat) : State × (List Nat ⊕ PartFault) :=
  if va = 0 then (s, .inl []) else
  match State.readDom dom 2 va 8 s with
  | (s, .inr f) => (s, .inr f)
  | (s, .inl (bs, blot)) =>
    let n := leNat bs
    if blot then (s, .inr (0x09, 0, 0, (va >>> 6) <<< 6)) else if top < n then (s, .inr (0, 0, 0, 0)) else
    match State.readDom dom 3 (va + 8) (n * size) s with
    | (s, .inr f) => (s, .inr f)
    | (s, .inl (bs, blot)) => (s, if blot then .inr (0x09, 0, 0, va) else .inl ((List.range n).map fun i => leNat ((bs.drop (i * size)).take size)))

/-- Append to a level's FIFO (12 R367). -/
def Sched.push (k : Sched) (level : Nat) (x : Nat × Option Nat) : Sched := { k with fifo := k.fifo.set level (k.fifo.get level ++ [x]) }
def State.node (s : State) (h : Nat) : Option Node := s.sched.nodes.get h
def State.setNode (s : State) (h : Nat) (n : Option Node) : State := { s with sched := { s.sched with nodes := s.sched.nodes.set h n } }
def State.mapNode (s : State) (h : Nat) (f : Node → Node) : State := match s.node h with
  | some n => s.setNode h (some (f n))
  | none => s

/-- A waiting node that has become ready joins its level's FIFO (12 R366). -/
def State.checkReady (s : State) (h : Nat) : State :=
  match s.node h with
  | some n =>
    if n.phase = 0 ∧ (n.preds = 0 ∨ (n.record.getLsbD 138 ∧ n.early = 0)) then
      let s := s.setNode h (some { n with phase := 1 })
      { s with sched := s.sched.push n.level (h, none) }
    else s
  | none => s

/-- A completed (or rejected) node counts for its successors, after its completion word (12 R366). -/
def State.countSucc (h : Nat) (faulted started : Bool) : List Nat → State → State
  | [], s => s
  | q :: r, s =>
    State.countSucc h faulted started r ((s.mapNode q fun n =>
      { n with preds := n.preds - 1, early := if started then n.early else n.early - 1, predHandles := n.predHandles.erase h,
               faultPred := n.faultPred || faulted }).checkReady q)

/-- A record is committed into a free slot (12 R363 to R366): the node waits or is ready; a record that fails its check
stays only to write its completion word. -/
def State.commitRecord (s : State) (h : Nat) (r : BitVec 1024) (src : Agent) (kind : Nat := 3) : State :=
  let dom := recDom r
  let own := badOwner src dom
  let a := s.readList dom (recW r 384) 64 2
  let b := a.1.readList dom (recW r 768) 8 24
  let s := b.1
  let lists : Option PartFault := match a.2, b.2 with
    | .inr f, _ => some f
    | _, .inr f => some f
    | _, _ => none
  let succ : List Nat := match a.2 with
    | .inl l => l
    | .inr _ => []
  let n : Node := { record := r, phase := 0, preds := recF r 164 16, early := recF r 164 16, level := recF r 140 2, pass := 0,
                    pinned := false, succ := succ, ccb := [] }
  if own || badRecord r || lists.isSome || succ.any (fun x => decide (16383 < x)) then
    (s.setNode h (some { n with phase := 3, status := 2, succ := n.succ.filter fun x => decide (x ≤ 16383) })).triage
      (if own then { kind := kind, cause := 0x08, node := h, dom := dom, tag := recTag r } else
        let f := lists.getD (0, 0, 0, 0)
        { kind := kind, cause := f.1, i0 := f.2.2.2, i1 := f.2.1, i2 := f.2.2.1, node := h, dom := dom, tag := recTag r })
  else
    let n := { n with ccb := (match b.2 with
      | .inl l => l
      | .inr _ => []).map fun d =>
      (BitVec.ofNat 64 d, BitVec.ofNat 64 (d / 2 ^ 64), BitVec.ofNat 64 (d / 2 ^ 128)) }
    let s := n.succ.foldl (fun s q => s.mapNode q fun m => { m with predHandles := m.predHandles ++ [h] }) s
    (s.setNode h (some n)).checkReady h

/-- Commits are discarded before READY and held while a checkpoint is BUSY (15 R453, R455). -/
def State.ready (s : State) : Bool := s.host.boot.getLsbD 8

/-- A slot in use: from its commit until its completion word is written (12 R365). -/
def State.slotUsed (s : State) (h : Nat) : Bool := (s.node h).isSome || s.host.heldCommits.any (·.1 == h)
/-- The lowest slot that is not in use. -/
def State.freeSlot (s : State) : Option Nat := (List.range 16384).find? fun h => !s.slotUsed h
/-- NODE_COMMIT: the write of 1 to an aperture slot's COMMIT word commits the whole record at once (12 R365). -/
def State.nodeCommit (s : State) (h : Nat) (src : Agent) : State :=
  let r : BitVec 1024 := BitVec.ofNat 1024 (leNat (s.sched.aperture.readRun (128 * h) 128))
  if !s.ready || s.slotUsed h then s
  else if s.host.ckptCtl.getLsbD 2 then { s with host := { s.host with heldCommits := s.host.heldCommits ++ [(h, r, src)] } }
  else s.commitRecord h r src

def execNodeCommit (slot : BitVec 14) (src : Agent) (s : State) : Result := .next (s.nodeCommit slot.toNat src)

/-- A write to the submission aperture: discarded in a slot in use (12 R365). -/
def State.apertureWrite (s : State) (off : Nat) (bs : List Byte) : State :=
  if s.slotUsed (off / 128) then s else { s with sched := { s.sched with aperture := s.sched.aperture.writeRun off bs } }

/-! ### Continuation records (12 Table 12.2) -/

def recordKey (h i : Nat) : Nat := 32 * h + i
def State.contRec (s : State) (h i : Nat) : BitVec 512 := s.sched.records.get (recordKey h i)
def State.setRec (s : State) (h i : Nat) (r : BitVec 512) : State :=
  { s with sched := { s.sched with records := s.sched.records.set (recordKey h i) r } }

/-- A record: RESTART, EARLY, IMAGE, RESUME, STATE, FP, ISIZE, SAVE, TAG, NODE, STRAND, ARGs. -/
def makeRec (restart early image : Bool) (resume : Word) (state : Nat) (fp : Word) (isize save tag h i : Nat) (args : List Word) : BitVec 512 :=
  let b (x : Bool) : Nat := if x then 1 else 0
  BitVec.ofNat 512 (b restart + 2 * b early + 4 * b image + (resume &&& 0x00FFFFFFFFFFFFE0).toNat + state * 2 ^ 56 + fp.toNat * 2 ^ 64
    + isize % 4096 * 2 ^ 128 + (save / 4096 % 2 ^ 44) * 2 ^ 140 + tag * 2 ^ 192 + h * 2 ^ 208 + i * 2 ^ 222
    + ((List.range 4).map fun j => (args.getD j 0).toNat * 2 ^ (256 + 64 * j)).sum)
def recState (r : BitVec 512) (v : Nat) : BitVec 512 :=
  (r &&& ~~~((0xF : BitVec 512) <<< 56)) ||| (BitVec.ofNat 512 v <<< 56)
def recResume (r : BitVec 512) : Word := canon ((r.extractLsb' 0 56).setWidth 64 &&& 0x00FFFFFFFFFFFFE0)

end Sys2Proof.Machine
end

