-- ==== Sys2Proof/Machine/Barrier.lean ====
section
/-! DEFINITION. Barrier.lean: path times, replies to held groups, phase barriers, BCFG and pod barriers (11 R333, R339,
R346 to R352; 13 R412). -/

namespace Sys2Proof.Machine

/-! ### Paths (11 R333, Table 11.2) -/

/-- Core to the engine of quadrant `q`, one way. -/
def enginePath (core q : Nat) : Nat := if core / 32 = q then 24 else 32
/-- The engine that holds a barrier. -/
def barQuad (scope bar : Nat) : Nat := if scope = 4 then bar / 4 else bar / 16
/-- Core to a barrier's network or engine, one way. -/
def barPath (core scope bar : Nat) : Nat := if scope = 1 then 8 else if scope = 2 then 16 else enginePath core (barQuad scope bar)

/-- The synchronisation engine that applies a kind, if one does (11 R333, R335). -/
def EffKind.engine : EffKind → Option Nat
  | .atomic loc .. => some (homeQuad loc)
  | .join loc .. => some (homeQuad loc)
  | .watch loc .. => some (homeQuad loc)
  | .unwatch h _ => some ((h.toNat / 64) % 4)
  | .jwait loc _ => some (homeQuad loc)
  | .waitw loc .. => some (homeQuad loc)
  | .suspend loc .. => some (homeQuad loc)
  | .barrier 3 _ b _ _ => some (barQuad 3 b)
  | .bwait 3 _ b _ _ _ => some (barQuad 3 b)
  | _ => none
/-- SYNC_OVF.EN of an engine. -/
def Sync.enabled (y : Sync) (q : Nat) : Bool := (y.ovf.get q).getLsbD 63

/-- Where a request arrives: an engine, or the network of a quad, a die or the pod (11 Table 11.2). -/
def EffKind.unit (k : EffKind) : Option (Nat × Nat) := match k with
  | .barrier 1 i _ _ _ => some (1, i)
  | .barrier 2 i _ _ _ => some (2, i)
  | .barrier 4 _ b _ _ => some (4, b / 4)
  | .bwait 1 i _ _ _ _ => some (1, i)
  | .bwait 2 i _ _ _ _ => some (2, i)
  | .bwait 4 _ b _ _ _ => some (4, b / 4)
  | k => k.engine.map fun q => (0, q)
def EffKind.isReply : EffKind → Bool
  | .reply .. => true
  | _ => false
/-- The contention of a path: none while nothing else is on its way to the unit, or, for a reply, to the core (R339); a path that
Table 11.2 does not give takes a free time. -/
def State.contend (s : State) (k : EffKind) (core t : Nat) : Nat :=
  let same (m : Msg) : Bool := if k.isReply then m.kind.isReply && m.core == core else !m.kind.isReply && m.kind.unit == k.unit
  if t = 0 ∨ s.net.any same then Config.delay s.freeCtr else 0

/-- Request numbers and the cached replies of a source at an engine (11 R337, R338). -/
def txnKey (src q : Nat) : Nat := src * 4 + q
def Sync.cacheReply (y : Sync) (k txn : Nat) (v : Word) (blot : Bool := false) : Sync :=
  let mine := (y.cache.filter fun e => e.1 == k).take 4095
  { y with cache := (k, txn, v, blot) :: mine ++ y.cache.filter fun e => e.1 != k }
/-- The reply to a request that repeats one of the last 4096, and whether it is blotted. -/
def Sync.cached (y : Sync) (k txn : Nat) : Option (Word × Bool) := (y.cache.find? fun e => e.1 == k && e.2.1 == txn).map fun e => e.2.2
/-- The request number that a source gives an engine's next request (R337). -/
def State.takeTxn (s : State) (src : Nat) (k : EffKind) : State × Nat := match k.engine with
  | none => (s, 0)
  | some q =>
    let n := s.sync.txn.get (txnKey src q)
    ({ s with sync := { s.sync with txn := s.sync.txn.set (txnKey src q) ((n + 1) % 65536) } }, n)

/-- A message that nothing holds in a unit: it arrives `t` cycles on, or later by the contention of its path (R339). -/
def State.send (s : State) (core owner t : Nat) (src : Agent) (k : EffKind) (source : Nat := core) (back : Option Nat := none) : State :=
  let x := s.takeTxn source k
  State.bump
    { x.1 with
      nextId := s.nextId + 1
      net := s.net ++ [{ id := s.nextId, owner := owner, core := core, at_ := s.wall + t + s.contend k core t, seq := 0, stream := 0,
                         cls := 0, scope := 0, after := [], src := src, txn := x.2, source := source, back := back, kind := k }] }

/-- A reply to a held group; `back`: the engine that it comes from. -/
def State.reply (s : State) (core t held : Nat) (v : Word) (fault : Option Trap) (back : Option Nat := none) : State :=
  s.send core 0 t { level := 0, domain := 0, host := false } (.reply held v fault) core back

/-! ### Phases (11 R346) -/

/-- The status word of R349. -/
def Bar.status (b : Bar) (stale : Bool) : Word :=
  BitVec.ofNat 64 (b.p % 2 ^ 16 + (if stale then 2 ^ 16 else 0) + (if b.faulted then 2 ^ 17 else 0))

abbrev BarKey := Nat × Nat × Nat × Nat

/-- The engine of a package barrier. -/
def barEngine (k : BarKey) : Option Nat := if k.1 = 3 then some (barQuad 3 k.2.2.1) else none
/-- The engine of a package barrier keeps the reply (R338). -/
def State.cacheBar (s : State) (k : BarKey) (core txn : Nat) (v : Word) : State :=
  if k.1 = 3 then { s with sync := s.sync.cacheReply (txnKey core (barQuad 3 k.2.2.1)) txn v } else s
/-- Release every waiter of a barrier with its status as it now stands. -/
def State.releaseBar (s : State) (k : BarKey) (ws : List (Nat × Nat × Nat × Nat)) (v : Word) : State :=
  ws.foldl (fun s w => (s.cacheBar k w.1 w.2.2.2 v).reply w.1 (barPath w.1 k.1 k.2.2.1) w.2.1 v none (barEngine k)) s

/-- The phase completes: P + 1, A ← 0, the waiters on the old phase are released. -/
def State.completeBar (s : State) (k : BarKey) (b : Bar) : State :=
  let b' := { b with p := (b.p + 1) % 2 ^ 16, a := 0, waiters := [], own := false }
  State.releaseBar { s with sync := s.sync.setBar k b' } k b.waiters (b'.status false)

/-- Take one ready of each of the packages `ps`, if all are held. -/
def takeReady : List Nat → List Nat → Option (List Nat)
  | [], held => some held
  | p :: ps, held => if held.contains p then takeReady ps (held.erase p) else none
/-- The other packages of the pod (13 R386). -/
def Fabric.others (f : Fabric) : List Nat :=
  (List.range ((f.podId >>> 8).toNat % 256 + 1)).filter fun i => i != f.podId.toNat % 256

/-- The phase-ready messages of a pod barrier whose own arrivals have reached EXP (13 R412). -/
def State.sendReady (s : State) (k : BarKey) (b : Bar) : State :=
  if b.own && !(s.sync.bar k).own then { s with fab := { s.fab with readies := s.fab.readies ++ s.fab.others.map fun p => (p, k.2.2.1) } } else s
/-- A phase completes when its arrivals reach EXP, a pod barrier's when every package is ready too (13 R412). -/
def State.checkBar (s : State) (k : BarKey) (b : Bar) : State :=
  if k.1 = 4 then
    let s := s.sendReady k b
    match takeReady s.fab.others b.ready with
    | some left => if b.own then s.completeBar k { b with ready := left } else { s with sync := s.sync.setBar k b }
    | none => { s with sync := s.sync.setBar k b }
  else if b.exp ≠ 0 ∧ b.exp ≤ b.a then s.completeBar k b else { s with sync := s.sync.setBar k b }

/-- One arrival (11 R346). -/
def State.arriveBar (s : State) (k : BarKey) : State :=
  let b := s.sync.bar k
  s.checkBar k { b with a := b.a + 1, own := b.own || (k.1 == 4 && b.exp != 0 && decide (b.exp ≤ b.a + 1)) }

/-- Complete with FAULTED set (11 R347, R348). -/
def State.faultBar (s : State) (k : BarKey) : State := s.completeBar k { s.sync.bar k with faulted := true }

/-- A strand leaves its node's counters (11 R347): EXP falls by 1; a loss sets FAULTED and completes the phase. -/
def State.leaveBar (s : State) (k : BarKey) (lost : Bool) : State :=
  let b := s.sync.bar k
  let b := { b with exp := b.exp - 1 }
  if lost then s.completeBar k { b with faulted := true }
  else if 1 ≤ b.a ∧ b.a = b.exp then s.completeBar k b
  else { s with sync := s.sync.setBar k b }
/-- The counters that belong to node `h`. -/
def State.nodeBars (s : State) (h : Nat) : List BarKey := (s.sync.bars.filter fun e => e.1.2.2.2 == h && decide (e.1.1 ≤ 2)).map (·.1)
def State.leaveBars (s : State) (h : Nat) (lost : Bool) : State := (s.nodeBars h).foldl (fun s k => s.leaveBar k lost) s

/-- A query arrives at its counter (11 R351). -/
def State.queryBar (s : State) (k : BarKey) (core t held txn : Nat) (future : Trap) : State :=
  let b := s.sync.bar k
  let d := (b.p + 2 ^ 16 - t % 2 ^ 16) % 2 ^ 16
  let back := barPath core k.1 k.2.2.1
  if 32768 ≤ d then s.reply core back held 0 (some { future with i1 := BitVec.ofNat 64 (b.p % 2 ^ 16) }) (barEngine k)
  else if 1 ≤ d then (s.cacheBar k core txn (b.status true)).reply core back held (b.status true) none (barEngine k)
  else { s with sync := s.sync.setBar k { b with waiters := b.waiters ++ [(core, held, t, txn)] } }

/-! ### BCFG (11 R348) -/

/-- FLT: set FAULTED, complete the current phase, release its waiters. -/
def State.bcfgFlt (s : State) (pod : Bool) (b : Nat) : State := s.faultBar (barKey pod b)
/-- CLR: P, A and FAULTED ← 0; waiters are released with FAULTED set. -/
def State.bcfgClr (s : State) (pod : Bool) (b : Nat) : State :=
  let k := barKey pod b
  let r := s.sync.bar k
  let r' := { r with p := 0, a := 0, faulted := false, waiters := [], own := false }
  State.releaseBar { s with sync := s.sync.setBar k r' } k r.waiters ({ r' with faulted := true }.status false)
/-- A write of BCFG: EXP and DOMAIN, then FLT and CLR; an EXP already reached completes the phase. -/
def State.bcfgWrite (s : State) (pod : Bool) (b : Nat) (v : Word) : State :=
  let k := barKey pod b
  let r := { s.sync.bar k with exp := v.toNat % 2 ^ 16, dom := v.toNat / 2 ^ 16 % 64 }
  let r := { r with own := r.own || (pod && r.exp != 0 && decide (r.exp ≤ r.a)) }
  let s := s.checkBar k r
  let s := if v.getLsbD 25 then s.bcfgFlt pod b else s
  if v.getLsbD 26 then s.bcfgClr pod b else s

def execBcfgWrite (pod : Bool) (b : BitVec 6) (v : BitVec 64) (s : State) : Result := .next (s.bcfgWrite pod b.toNat v)
def execBcfgFlt (pod : Bool) (b : BitVec 6) (s : State) : Result := .next (s.bcfgFlt pod b.toNat)
def execBcfgClr (pod : Bool) (b : BitVec 6) (s : State) : Result := .next (s.bcfgClr pod b.toNat)

/-- POD_PHASE_READY: another package's ready for pod barrier `b` (13 R412). -/
def execPodPhaseReady (pkg : BitVec 8) (b : BitVec 4) (s : State) : Result :=
  let k := barKey true b.toNat
  let r := s.sync.bar k
  .next (s.checkBar k { r with ready := r.ready ++ [pkg.toNat] })

end Sys2Proof.Machine
end

