-- ==== Sys2Proof/Machine/Replica.lean ====
section
/-! DEFINITION. Replica.lean: stack-local addresses, residency entries and the forwarding of accepted stores to
replicas (09 R256, R261 to R268; 05 R148). -/

namespace Sys2Proof.Machine

/-- The location of a stack-local offset (05 Table 5.4). -/
def stackLoc (st off : Nat) : Nat := 0x9000000000000 + st * 2 ^ 40 + off
/-- Lane byte `j` of a lane (09 R264). -/
def laneOff (base lane j : Nat) : Nat := base + 2 ^ 20 * (j / 4096) + lane / 16 * 65536 + lane % 16 * 4096 + j % 4096

/-! ### Residency entries (09 Table 9.2) -/

abbrev Entry := BitVec 512
def Entry.f (e : Entry) (lo n : Nat) : Nat := (e.extractLsb' lo n).toNat
def Entry.key (e : Entry) : Word := e.extractLsb' 0 64
def Entry.valid (e : Entry) : Bool := e.getLsbD 64
def Entry.state (e : Entry) : Nat := e.f 65 2
def Entry.setState (e : Entry) (v : Nat) : Entry := (e &&& ~~~((3 : BitVec 512) <<< 65)) ||| (BitVec.ofNat 512 v <<< 65)
def Entry.isLocal (e : Entry) : Bool := e.getLsbD 67
def Entry.cols (e : Entry) : Bool := e.getLsbD 68
def Entry.smode (e : Entry) : Nat := e.f 69 2
def Entry.mx (e : Entry) : Bool := e.getLsbD 71
def Entry.wtype (e : Entry) : Nat := e.f 72 4
def Entry.glog (e : Entry) : Nat := e.f 76 3
def Entry.gpos (e : Entry) : Nat := e.f 79 4
def Entry.dom (e : Entry) : Nat := e.f 83 6
def Entry.o (e : Entry) : Nat := e.f 128 16 + 1
def Entry.k (e : Entry) : Nat := e.f 144 16 + 1
def Entry.ks (e : Entry) : Nat := e.f 160 16
def Entry.rb (e : Entry) : Nat := e.f 192 32
def Entry.rstride (e : Entry) : Nat := e.f 256 64
def Entry.sbase (e : Entry) : Nat := e.f 320 64
def Entry.base (e : Entry) : Nat := e.f 384 64
def Entry.seed (e : Entry) : Word := e.extractLsb' 448 64

/-- Stored elements of `n` columns: all, a half or a quarter (03 R104). -/
def kept (smode n : Nat) : Nat := if smode = 1 then n / 2 else if smode = 2 then n / 4 else n
def wBits (wtype : Nat) : Nat := if wtype = 10 then 16 else if wtype = 13 then 4 else 8
/-- Bytes of `n` stored elements of a weight type. -/
def wBytes (wtype n : Nat) : Nat := (n * wBits wtype + 7) / 8
/-- Column slices of a column-split replica (09 R263). -/
def Entry.slices (e : Entry) : Nat := if e.ks = 0 then 0 else ceilDiv e.k e.ks
/-- The largest lane byte count of the group (09 R264). -/
def Entry.lb (e : Entry) : Nat := if e.cols then e.o * e.rb else ceilDiv e.o (256 * 2 ^ e.glog) * e.rb
/-- 1 MiB units of the footprint. -/
def Entry.units (e : Entry) : Nat := ceilDiv e.lb 4096
def Entry.covers (e : Entry) (off n : Nat) : Bool := e.valid && decide (e.base < off + n) && decide (off < e.base + 2 ^ 20 * e.units)

/-! ### Forwarding (05 R148) -/

/-- Write consecutive lane bytes, split where the lane's storage jumps. `fuel` counts the splits. -/
def Mem.putLane (st base lane : Nat) (blot part : Bool) : Nat → Nat → List Byte → Mem → Mem
  | 0, _, _, m => m
  | fuel + 1, j, bs, m =>
    if bs.isEmpty then m else
    let k := 4096 - j % 4096
    Mem.putLane st base lane blot part fuel (j + k) (bs.drop k) (m.put (stackLoc st (laneOff base lane j)) (bs.take k) blot part)

/-- An accepted store reaches every replica that follows its bytes. -/
def Mem.forward (m : Mem) (homes : List HomeRun) (loc : Nat) (bs : List Byte) (blot : Bool) (part : Bool := false) : Mem :=
  homes.foldl (fun m h =>
    if h.loc < loc + bs.length ∧ loc < h.loc + h.len then
      let from_ := max loc h.loc
      let piece := (bs.drop (from_ - loc)).take (h.loc + h.len - from_)
      m.putLane h.stack h.base h.lane blot part (piece.length / 4096 + 2) (h.lb + (from_ - h.loc)) piece
    else m) m

/-! ### Placement (09 R262 to R264) -/

/-- The columns that a lane holds of each of its rows: the first and their number. -/
def Entry.share (e : Entry) (p l : Nat) : Nat × Nat :=
  if e.cols then (let q := 256 * p + l; if q < e.slices then (q * e.ks, min e.k (q * e.ks + e.ks) - q * e.ks) else (0, 0)) else (0, e.k)
/-- The lane of position `p` holds row `o`, or its slice. -/
def Entry.holds (e : Entry) (p l o : Nat) : Bool :=
  if e.cols then decide (256 * p + l < e.slices) else o / 256 % 2 ^ e.glog == p && o % 256 == l
/-- The lane byte at which row `o` starts, and its local row number. -/
def Entry.rowIx (e : Entry) (o : Nat) : Nat := if e.cols then o else o / (256 * 2 ^ e.glog)
def Entry.laneByte (e : Entry) (o : Nat) : Nat := e.rowIx o * e.rb
def Entry.elemBytes (e : Entry) (n : Nat) : Nat := wBytes e.wtype (kept e.smode n)
/-- What a lane holds of a row: scales or elements, the offset in the home row or its scales, length, and lane byte. -/
def Entry.parts (e : Entry) (p l o : Nat) : List (Bool × Nat × Nat × Nat) :=
  let sh := e.share p l
  let b := e.elemBytes sh.2
  (false, e.elemBytes sh.1, b, e.laneByte o) :: (if e.mx then [(true, sh.1 / 32, sh.2 / 32, e.laneByte o + b)] else [])
/-- The home address of a part. -/
def Entry.homeVa (e : Entry) (o : Nat) (x : Bool × Nat × Nat × Nat) : Word :=
  if x.1 then BitVec.ofNat 64 (e.sbase + o * (e.k / 32) + x.2.1) else e.key + BitVec.ofNat 64 (o * e.rstride + x.2.1)
/-- Bytes that a lane holds of each of its rows. -/
def Entry.stored (e : Entry) (p l : Nat) : Nat := ((e.parts p l 0).map (·.2.2.1)).sum
/-- The rows of a range that a lane holds. -/
def Entry.rowsIn (e : Entry) (p l row0 n : Nat) : List Nat := ((List.range n).map (row0 + ·)).filter (e.holds p l)

/-- The places of `n` lane bytes from byte `j`. `fuel` counts the 4 KiB pieces. -/
def laneLocs (st base l : Nat) : Nat → Nat → Nat → List (Nat × Nat)
  | 0, _, _ => []
  | fuel + 1, j, n =>
    if n = 0 then [] else
    let k := min n (4096 - j % 4096)
    (stackLoc st (laneOff base l j), k) :: laneLocs st base l fuel (j + k) (n - k)
def Entry.locs (e : Entry) (st l j n : Nat) : List (Nat × Nat) := laneLocs st e.base l (n / 4096 + 2) j n

/-- The places that a product reads in stack `n`. -/
def Entry.reads (e : Entry) (n p row0 cnt : Nat) : List (Nat × Nat) :=
  (List.range 256).flatMap fun l => (e.rowsIn p l row0 cnt).flatMap fun o => e.locs n l (e.laneByte o) (e.stored p l)

/-- Distinct 2 KiB runs of lane storage that a lane's part of the rows touches (R272). -/
def Entry.windows (e : Entry) (p l row0 n : Nat) : Nat :=
  let b := e.stored p l
  if b = 0 then 0 else
  (((e.rowsIn p l row0 n).flatMap fun o => (List.range ((e.laneByte o + b - 1) / 2048 - e.laneByte o / 2048 + 1)).map (e.laneByte o / 2048 + ·)).eraseDups).length

/-! ### Macros in their stacks (09 R271, R294) -/

/-- A macro's part in stack `n`. -/
def Macro.at (m : Macro) (n : Nat) : MPos := m.pos.getD (n - m.g0) {}
def Macro.in (m : Macro) (n : Nat) : Bool := decide (m.g0 ≤ n) && decide (n < m.g0 + m.g)
/-- The kinds that wait for their commit cycle (R271). -/
def MacroKind.commits : MacroKind → Bool
  | .product .. => false
  | .bfence _ => false
  | _ => true
/-- The kinds that start at a window boundary: products, copies, and a LOCAL append. -/
def MacroKind.dram : MacroKind → Bool
  | .product .. => true
  | .units .. => true
  | .bapp _ _ rows => rows.all fun r => r.1.isEmpty
  | _ => false
def MacroKind.isProduct : MacroKind → Bool
  | .product .. => true
  | _ => false
/-- The group's entry for a KEY as stack `n` holds it. -/
def State.entryFor (s : State) (n : Nat) (m : Macro) (key : Word) : Option Entry :=
  ((stackOf s n).table.map (·.2)).find? fun e => Entry.valid e && Entry.key e == key && 2 ^ Entry.glog e == m.g && Entry.gpos e == n - m.g0
/-- Of `n` rows from `row0`, with `c` windows left, the first `i + 1` are through in a lane. -/
def Entry.rowDone (e : Entry) (p l row0 n i c : Nat) : Bool := decide (e.windows p l row0 (i + 1) + c ≤ e.windows p l row0 n)
/-- The lane is in the midst of a row. -/
def Entry.midRow (e : Entry) (p l row0 n c : Nat) : Bool := (List.range n).any fun i =>
  e.holds p l (row0 + i) && decide (e.windows p l row0 i + c < e.windows p l row0 n) && !e.rowDone p l row0 n i c

/-- A macro that a stack goes on with although its strand has stopped: a BACT past its commit, a transfer in the midst of a unit or
row (R294). -/
def State.past (s : State) (n : Nat) (m : Macro) : Bool := match m.kind with
  | .bact .. => (m.at n).committed
  | .units .. => (m.at n).midUnit
  | .bapp key row0 rs => m.kind.dram && (m.at n).started && ((s.entryFor n m key).map fun e =>
      (m.at n).left.any fun x => e.midRow (n - m.g0) x.1 row0 rs.length x.2).getD false
  | _ => false
/-- A macro of a strand that has stopped is still at work in one of its stacks, and no earlier one of the strand with a fault holds it
(09 R292, R294). -/
def State.bankBusy (s : State) : Bool := s.core.macros.any fun m => !m.faulted && (List.range m.g).any fun p =>
  !(m.pos.getD p {}).ended && s.past (m.g0 + p) m && !s.core.macros.any fun j => decide (j.seq < m.seq) && j.faulted && !(m.pos.getD p {}).started

end Sys2Proof.Machine
end

