-- ==== Sys2Proof/Machine/SysWrite.lean ====
section
/-! DEFINITION. SysWrite.lean: what a write to the system block does (15 R450 to R465), and the events that are such
writes. -/

namespace Sys2Proof.Machine

/-- SYNC_OVF of a quadrant (11 Table 11.1). -/
def State.syncOvfWrite (s : State) (q : Nat) (v : Word) : State :=
  { s with sync := { s.sync with ovf := s.sync.ovf.set q (v &&& 0x800FFFFFFFFF0FFF) } }
def execSyncOvfWrite (q : BitVec 2) (v : BitVec 64) (s : State) : Result := .next (s.syncOvfWrite q.toNat v)

/-- A ductus-table entry: it takes effect at the channel's next frame boundary (10 R320). The host writes it with FUNC_MODE.DUCT 1,
FW with DUCT 0 (15 R462). -/
def State.ductusWrite (s : State) (ch sl : Nat) (v : BitVec 32) : State :=
  { s with drawer := { s.drawer with written := s.drawer.written.set (64 * ch + sl) (some (v &&& 0x1FFFF)) } }
def execDuctusTableWrite (ch : BitVec 7) (sl : BitVec 6) (v : BitVec 32) (s : State) : Result := .next (s.ductusWrite ch.toNat sl.toNat v)
/-- FRAME_BOUNDARY: a channel's written entries take effect (10 R320). -/
def Drawer.takeWritten (d : Drawer) (k : Nat) : Drawer := match d.written.get k with
  | some v => { d with ductus := d.ductus.set k v, written := d.written.set k none }
  | none => d
def execFrameBoundary (ch : BitVec 7) (s : State) : Result :=
  .next { s with drawer := (List.range 64).foldl (fun d i => d.takeWritten (64 * ch.toNat + i)) s.drawer }

/-- Such a slot unloads its key id: the data key is zero or equals the tweak key (15 R465). -/
def badKey (buf : BitVec 512) : Bool := buf.extractLsb' 0 256 == 0 || buf.extractLsb' 0 256 == buf.extractLsb' 256 256
/-- One doubleword of a key slot (15 R465). -/
def Drawer.keyWrite (d : Drawer) (k i : Nat) (v : Word) : Drawer :=
  if k = 0 then d else
  let seen := d.keyNext.get k
  if i = 7 ∧ seen % 128 ≠ 127 then d else
  let buf := d.keyBuf.get k
  let buf := (buf &&& ~~~(((-1 : BitVec 64).setWidth 512) <<< (64 * i))) ||| (v.setWidth 512 <<< (64 * i))
  if i < 7 then { d with keyBuf := d.keyBuf.set k buf, keyNext := d.keyNext.set k (seen ||| 2 ^ i) } else
  { d with
    keyBuf := d.keyBuf.set k buf
    keyNext := d.keyNext.set k 0
    loaded := if badKey buf then d.loaded.filter (· != k) else if d.loaded.contains k then d.loaded else d.loaded ++ [k] }
/-- Doubleword 7 completes the load: the key for every line access from now on. -/
def State.keyWrite (s : State) (k i : Nat) (v : Word) : State :=
  let d := s.drawer.keyWrite k i v
  let full := k ≠ 0 ∧ i = 7 ∧ s.drawer.keyNext.get k % 128 = 127
  { s with
    drawer := d
    mem := if full then { s.mem.keep (s.llc.filter fun l => keyOf (64 * l) == k) with keys := s.mem.keys.set k (if badKey (d.keyBuf.get k) then 0 else d.keyBuf.get k) } else s.mem }
def execKeySlotWrite (k : BitVec 6) (dw : BitVec 3) (v : BitVec 64) (s : State) : Result := .next (s.keyWrite k.toNat dw.toNat v)

/-- A write of core k's wake word ends its WFI (14 R426). -/
def State.wakeWrite (s : State) (k : Nat) (v : Word) : State :=
  let s := { s with host := { s.host with wakes := s.host.wakes.set k v } }
  let w (c : Core) : Core := { c with flow := { c.flow with wake := true } }
  if s.id = k then s.mapCore w else { s with cores := match s.cores.get k with
    | some c => s.cores.set k (some (w c))
    | none => s.cores }
def execWakeWordWrite (core : BitVec 7) (v : BitVec 64) (s : State) : Result := .next (s.wakeWrite core.toNat v)

/-- FUNC_MODE: it applies to requests that arise later (15 R452). -/
def State.funcModeWrite (s : State) (v : Word) : State := { s with host := { s.host with funcMode := v.setWidth 7 } }
def execFuncModeWrite (v : BitVec 64) (s : State) : Result := .next (s.funcModeWrite v)

/-- CONS of the service ring: entries are free again, and waiting requests are posted (15 R462). -/
def State.consWrite (s : State) (v : Word) : State :=
  { s with host := let h := { s.host with svcCons := v.setWidth 32 }; HostPart.postAll h.svcWait h }
def execServiceRingConsWrite (v : BitVec 64) (s : State) : Result := .next (s.consWrite v)
/-- TAIL of the triage log clears LOST (15 R463). -/
def State.triTailWrite (s : State) (v : Word) : State := { s with host := { s.host with triTail := v, triLost := 0 } }
def execTriageTailWrite (v : BitVec 64) (s : State) : Result := .next (s.triTailWrite v)
/-- TAIL of the reset report (15 R464). -/
def State.rstTailWrite (s : State) (v : Word) : State := { s with host := { s.host with rstTail := v, rstLost := 0 } }
def execResetReportTailWrite (v : BitVec 64) (s : State) : Result := .next (s.rstTailWrite v)

/-- SETREADY: ignored while bring-up or a RESTORE runs and once READY is 1 (15 R453). -/
def State.setready (s : State) : State :=
  if s.ready || s.host.restoring || s.host.bootDue.isSome then s else { s with host := { s.host with boot := (s.host.boot &&& ~~~(0xF : Word)) ||| 0x107 } }
def execSetready (s : State) : Result := .next s.setready

/-- A write of GO or RESTORE starts its operation unless BUSY (15 R455); DONE and FAILED clear where 1 is written. -/
def State.ckptWrite (s : State) (v : Word) : State :=
  let c := s.host.ckptCtl
  let c := c &&& ~~~(v.setWidth 5 &&& 0x18)
  let s := { s with host := { s.host with ckptCtl := c } }
  if c.getLsbD 2 then s
  else if v.getLsbD 0 then { s with host := { s.host with ckptWant := some false, ckptCtl := c ||| 4, ckptLost := 0 } }
  else if v.getLsbD 1 then { s with host := { s.host with ckptWant := some true, ckptCtl := c ||| 4 } }
  else s

/-- The doubleword at an aligned offset takes `v` in the bits of `m`: the register keeps its other bits. A write below
the level of 15 Table 15.3 is discarded; the host writes what the table lets it, and the aperture (R450). -/
def hostMay (o : Nat) : Bool :=
  (decide (o < 0x10000) && decide (o ≠ 0x18) && decide (o ≠ 0x38)) || (decide (0x4000000 ≤ o) && decide (o < 0x4020000))
    || (decide (0x7000000 ≤ o) && decide (o < 0x7100000)) || (decide (0x8000000 ≤ o) && decide (o < 0x8100000))
def mayWrite (src : Agent) (o : Nat) : Bool := if src.host then hostMay o else decide (sysWriteLevel o ≤ src.level.toNat)

/-- Merge of the written bits. -/
def merge64 (old m v : Word) : Word := (old &&& ~~~m) ||| (v &&& m)

def exportMask (w : Nat) : Word := if w = 0 then 0x0000FFFF003F3F1F else if w = 1 then 0x3FFFFFFFFFF else if w = 2 then 0xFFFFFFFFFFFFF else 0

def State.sysWriteDw (s : State) (o : Nat) (m v : Word) (src : Agent) : State :=
  if 0x200000 ≤ o ∧ o < 0x400000 then
    let off := o - 0x200000
    let h := off / 128
    let keep := s.sched.aperture.dword off
    let s1 := s.apertureWrite off (natLe 8 (merge64 keep m v).toNat)
    if off % 128 = 120 ∧ m = -1 ∧ v = 1 then s1.nodeCommit h src else s1
  else if !mayWrite src o then s
  else
  let n := merge64 (sysDword s o) m v
  if o < 0x10000 then
    match o with
    | 0x08 => s.funcModeWrite n
    | 0x10 => if src.host then { s with host := { s.host with hwin := n &&& 0x000FFFF000000000 } } else s
    | 0x18 => { s with host := { s.host with imagePool := n &&& 0x000FFFFFFFFFFFFF } }
    | 0x20 => s.ckptWrite (v &&& m)
    | 0x28 => { s with host := { s.host with ckptBase := n &&& 0x000FFFFFFFFFF000 } }
    | 0x38 => if v.getLsbD 0 && m.getLsbD 0 then s.setready else s
    | _ => if 0x8000 ≤ o then { s with host := { s.host with staging := s.host.staging.writeRun (o - 0x8000) (natLe 8 n.toNat) } } else s
  else if o < 0x10400 then s.wakeWrite ((o - 0x10000) / 8) n
  else if 0x100000 ≤ o ∧ o < 0x100200 then { s with host := { s.host with roots := s.host.roots.set ((o - 0x100000) / 8) n } }
  else if 0x3000000 ≤ o ∧ o < 0x3000020 then s.syncOvfWrite ((o - 0x3000000) / 8) n
  else if 0x3001000 ≤ o ∧ o < 0x3001200 then s.bcfgWrite false ((o - 0x3001000) / 8) (merge64 (sysDword s o &&& 0x3FFFFF) m v)
  else if 0x3001200 ≤ o ∧ o < 0x3001280 then s.bcfgWrite true ((o - 0x3001200) / 8) (merge64 (sysDword s o &&& 0x3FFFFF) m v)
  else if o = 0x3010000 then { s with fab := { s.fab with podId := n &&& 0xFFFF } }
  else if 0x3011000 ≤ o ∧ o < 0x3011800 then { s with fab := { s.fab with routes := s.fab.routes.set ((o - 0x3011000) / 8) (n &&& 0xFFFF03FF) } }
  else if 0x3012000 ≤ o ∧ o < 0x3012800 then
    let i := (o - 0x3012000) / 32
    let w := (o / 8) % 4
    let e := s.fab.exports.get i
    let e' := (e &&& ~~~(((-1 : BitVec 64).setWidth 256) <<< (64 * w))) ||| (((n &&& exportMask w).setWidth 256) <<< (64 * w))
    { s with fab := { s.fab with exports := s.fab.exports.set i e' } }
  else if 0x4000000 ≤ o ∧ o < 0x4008000 then
    let k := (o - 0x4000000) / 4
    if src.host != s.host.funcMode.getLsbD 3 then s else
    let s := if m.setWidth 32 = (0 : BitVec 32) then s else s.ductusWrite (k / 64) (k % 64) (n.setWidth 32)
    if m.extractLsb' 32 32 = 0 then s else s.ductusWrite ((k + 1) / 64) ((k + 1) % 64) (n.extractLsb' 32 32)
  else if 0x4010000 ≤ o ∧ o < 0x4011000 then
    if m = -1 then s.keyWrite ((o - 0x4010000) / 64) ((o / 8) % 8) v else s
  else if 0x5000000 ≤ o ∧ o < 0x5100000 then
    if (o - 0x5000000) % 0x10000 = 0x8000 then
      let st := (o - 0x5000000) / 0x10000
      s.setStack st { stackOf s st with pool := n &&& 0x0FFF001FFFF00001 }
    else s
  else if o = 0x6000008 then s.triTailWrite n
  else if o = 0x6080008 then s.rstTailWrite n
  else if o = 0x7000008 then (if src.host then s.consWrite n else s)
  else if 0x7001000 ≤ o ∧ o < 0x7100000 then
    if src.host ∧ 32 ≤ (o - 0x7001000) % 64 then
      { s with host := { s.host with svcRing := s.host.svcRing.writeRun (o - 0x7001000) (natLe 8 n.toNat), svcFresh := if (o - 0x7001000) % 64 = 32 then s.host.svcFresh ++ [(o - 0x7001000) / 64] else s.host.svcFresh } }
    else s
  else if 0x8080000 ≤ o ∧ o < 0x8100000 then
    if src.host then { s with host := { s.host with mailbox := s.host.mailbox.writeRun (o - 0x8080000) (natLe 8 n.toNat), nonceFresh := s.host.nonceFresh || o == 0x8080018 } } else s
  else s

/-- The bits that the bytes of a write cover in the doubleword at `o`, and their values. -/
def dwPart (o off : Nat) (bs : List Byte) : Word × Word :=
  (List.range 8).foldl (fun mv i =>
    if off ≤ o + i ∧ o + i < off + bs.length then
      (mv.1 ||| ((0xFF : Word) <<< (8 * i)), mv.2 ||| ((bs.getD (o + i - off) 0).setWidth 64 <<< (8 * i)))
    else mv) (0, 0)

/-- A write to the system block, in aligned 8-byte units in increasing address order (15 R449). -/
def State.sysWrite (s : State) (off : Nat) (bs : List Byte) (src : Agent) : State :=
  (List.range ((off + bs.length + 7) / 8 - off / 8)).foldl (fun s i =>
    let o := (off / 8 + i) * 8
    let p := dwPart o off bs
    s.sysWriteDw o p.1 p.2 src) s

/-- SYSTEM_BLOCK_WRITE: an agent's whole doubleword (15 R450). -/
def execSystemBlockWrite (off : BitVec 28) (v : BitVec 64) (src : Agent) (s : State) : Result :=
  .next (s.sysWriteDw (off.toNat / 8 * 8) (-1) v src)

end Sys2Proof.Machine
end

