-- ==== Sys2Proof/Machine/Commit.lean ====
section
/-! DEFINITION. Commit.lean: the location order's writes: a write takes effect for every agent at once, reaches replicas,
and wakes waiters and watch entries (05 R146 to R148, R168; 11 R334, R356 to R358); the event LLC_ACCEPT. -/

namespace Sys2Proof.Machine

/-! ### Conditions on a word (11 R356) -/

def wordAt (s : State) (loc : Nat) (w32 : Bool) : Word := BitVec.ofNat 64 (leNat (s.bytesAt loc (if w32 then 4 else 8)))

/-- COND on a word and a value, at 8 bytes or, with W32, 4. -/
def waitCond (cond : Nat) (w32 : Bool) (x v : Word) : Bool :=
  let a := if w32 then (x.setWidth 32).signExtend 64 else x
  let b := if w32 then (v.setWidth 32).signExtend 64 else v
  let an := if w32 then (x.setWidth 32).setWidth 64 else x
  let bn := if w32 then (v.setWidth 32).setWidth 64 else v
  match cond with
  | 0 => a == b
  | 1 => a != b
  | 2 => a.slt b
  | 3 => b.sle a
  | 4 => an.ult bn
  | _ => bn.ule an

/-- A join object is complete or faulted (11 R355). -/
def joinDone (x : Word) : Bool := decide ((x.toNat % 2 ^ 16) ≤ x.toNat / 2 ^ 16 % 2 ^ 16) || x.getLsbD 32
/-- A collective record ended with a ticket (13 R410). -/
def recordDone (x v : Word) : Bool := x.getLsbD 0 && x.extractLsb' 32 32 == v.setWidth 32

/-- What wakes a waiter: 0 WAITW, 1 JWAIT, 2 SUSPEND, 3 CLWAIT; a blot wakes any but a SUSPEND. -/
def Waiter.held (w : Waiter) (s : State) : Bool :=
  let x := wordAt s w.loc w.w32
  match w.kind with
  | 1 => joinDone x
  | 3 => recordDone x w.v
  | _ => waitCond w.cond w.w32 x w.v
def Waiter.size (w : Waiter) : Nat := if w.w32 then 4 else 8
def Waiter.blot (w : Waiter) (s : State) : Bool := w.kind != 2 && s.mem.blotted w.loc w.size
def Waiter.wakes (w : Waiter) (s : State) : Bool := w.held s || w.blot s

/-- The fault of a blotted reply (11 R355, R356). -/
def blotTrap (blot : Bool) : Option Trap := if blot then some { cause := 0x09, stream := 0, slot := 0, pc := 0, i0 := 0 } else none
/-- A strand that SUSPEND parked takes STATE 2 (12 R375): its SUSPEND_WAKE is due. -/
def State.wake (s : State) (w : Waiter) : State :=
  if w.kind = 2 then { s with sched := { s.sched with woken := s.sched.woken ++ [(w.node, w.idx)] } }
  else
    let x := wordAt s w.loc false
    State.reply { s with sync := s.sync.cacheReply (txnKey w.core (homeQuad w.loc)) w.txn x (w.blot s) } w.core (enginePath w.core (homeQuad w.loc)) w.id x
      (blotTrap (w.blot s)) (some (homeQuad w.loc))

/-- Re-examine the waiters on the written bytes. -/
def State.wakeAll (s : State) (loc n : Nat) : State :=
  let hit (w : Waiter) : Bool := decide (w.loc < loc + n) && decide (loc < w.loc + w.size) && w.wakes s
  ((s.sync.waiters.filter hit).foldl State.wake { s with sync := { s.sync with waiters := s.sync.waiters.filter fun w => !hit w } })

/-- Fire the armed entries on the written bytes that hold now, in entry order (11 R358). -/
def State.fireAll (s : State) (loc n : Nat) : State :=
  let at_ := s.wall + Config.delay s.freeCtr
  let t := s.sync.watch.foldl (fun t e => match e.2 with
    | none => t
    | some w =>
      if w.loc < loc + n ∧ loc < w.loc + (if w.w32 then 4 else 8) ∧ waitCond w.cond w.w32 (wordAt s w.loc w.w32) w.v then
        ({ t with sync := { t.sync with watch := t.sync.watch.set e.1 none } }).send 0 0 0 { level := 2, domain := 0, host := false } (.fire w.dom w.recLoc)
      else t) s
  if t.nextId = s.nextId then t else { t with net := t.net.map fun m => if s.nextId ≤ m.id ∧ !m.kind.isReply then { m with at_ := at_ } else m }

/-! ### Writes -/

/-- A write of consecutive bytes at its place in the location order; `part` and `unc` as in 14 R439 and 05 R145. -/
def State.commit (s : State) (loc : Nat) (bs : List Byte) (blot : Bool) (src : Agent) (part : Bool := false) (unc : Bool := false) : State :=
  let s := match rangeOf (paOf loc) with
    | .sys => s.sysWrite (paOf loc - 0xB000000000000) bs src
    | _ => if s.mem.hole (paOf loc) then s
      else { s with mem := (s.mem.put loc bs blot part).forward s.homes loc bs blot part }.settleLines loc bs.length unc
  (State.wakeAll { s with sync := s.sync.recent loc bs.length } loc bs.length).fireAll loc bs.length

/-- Cells of one byte that follow each other, as one: the two nibbles of a 4-bit store (03 R79). -/
def joinCells : Cell → List Cell → List Cell
  | c, [] => [c]
  | c, d :: r =>
    if c.at_ = d.at_ ∧ c.part = d.part then
      joinCells { c with mask := c.mask ||| d.mask, val := (c.val &&& ~~~d.mask) ||| (d.val &&& d.mask), blot := c.blot || d.blot } r
    else c :: joinCells d r
/-- Runs of consecutive bytes of a cell list that agree on blot and kind. -/
def cellRuns : List Cell → List (List Cell)
  | [] => []
  | c :: r => match cellRuns r with
    | (d :: t) :: u => if c.at_ + 1 = d.at_ ∧ c.blot = d.blot ∧ c.part = d.part then (c :: d :: t) :: u else [c] :: (d :: t) :: u
    | u => [c] :: u
/-- The byte that a cell makes of the one that stands there. -/
def State.cellByte (s : State) (c : Cell) : Byte := (s.byteAt c.at_ &&& ~~~c.mask) ||| (c.val &&& c.mask)

/-- A cell at its place by address, over what earlier ones put there. -/
def putCell (c : Cell) : List Cell → List Cell
  | [] => [c]
  | d :: r =>
    if c.at_ < d.at_ then c :: d :: r
    else if c.at_ = d.at_ then
      { d with mask := d.mask ||| c.mask, val := (d.val &&& ~~~c.mask) ||| (c.val &&& c.mask), blot := d.blot || c.blot, part := d.part && c.part } :: r
    else d :: putCell c r
def ascending : List Cell → Bool
  | c :: d :: r => decide (c.at_ ≤ d.at_) && ascending (d :: r)
  | _ => true
/-- The cells of one access in the order of their addresses. -/
def byAddress (cs : LBytes) : LBytes := if ascending cs then cs else cs.foldl (fun l c => putCell c l) []

/-- A write of cells, run by run; `unc` its bytes in uncached pages. -/
def State.commitCells (s : State) (cs : LBytes) (src : Agent) (unc : List (Nat × Nat) := []) : State :=
  match byAddress cs with
  | [] => s
  | c :: r => (cellRuns (joinCells c r)).foldl (fun t run => match run with
    | [] => t
    | c :: _ => t.commit c.at_ (run.map t.cellByte) c.blot src c.part (overlap unc [(c.at_, 1)])) s

/-! ### Messages that arrive -/

/-- The event that applies a kind: 0 LLC_ACCEPT, 1 SYNC_REQUEST_APPLY, 2 BARRIER_ARRIVAL, 3 JOIN_ARRIVAL, 4 QUERY_REPLY. -/
def EffKind.class : EffKind → Nat
  | .store .. => 0
  | .cells .. => 0
  | .reduce .. => 0
  | .barrier .. => 2
  | .join .. => 3
  | .bwait .. => 4
  | .jwait .. => 4
  | .waitw .. => 4
  | .suspend .. => 4
  | .reply .. => 4
  | _ => 1

/-- The words that a message reads where it is applied. -/
def EffKind.looks : EffKind → List (Nat × Nat)
  | .watch loc .. => [(loc, 8)]
  | .waitw loc .. => [(loc, 8)]
  | .suspend loc .. => [(loc, 8)]
  | .jwait loc _ => [(loc, 8)]
  | .fire _ loc => [(loc, 128)]
  | k => k.spans
/-- Bytes of the effects with these numbers. -/
def State.spansOf (s : State) (ids : List Nat) : List (Nat × Nat) :=
  (s.net.filter fun m => ids.contains m.id).flatMap (·.kind.spans)
    ++ (s.core :: s.cores.filterMap (·.2)).flatMap fun c => (c.hold.filter fun e => ids.contains e.id).flatMap (·.kind.spans)
/-- A store may be accepted before those that it follows for a narrow scope alone (05 R169): no engine waits for its bytes, and
neither it nor they meet another such store and what that one follows. -/
def State.mayVeil (s : State) (m : Msg) : Bool :=
  m.kind.isStore && !m.narrow.isEmpty && s.performed (m.after.filter fun i => !m.narrow.any (·.1 == i)) &&
  let sp := m.kind.spans
  let first := s.spansOf (m.narrow.map (·.1))
  !s.sync.waiters.any (fun w => overlap [(w.loc, 8)] sp) && !s.sync.watch.any (fun e => (e.2.map fun w => overlap [(w.loc, 8)] sp).getD false)
    && !s.veiled.any fun v => (v.owner != m.owner || v.stream != m.stream) && (overlap v.kind.spans first || overlap (s.spansOf (v.narrow.map (·.1))) sp)

/-- A message that can be applied now; bytes of an uncached page travel on their channel (10 R326). -/
def State.msgDue (s : State) (m : Msg) : Bool :=
  decide (m.at_ ≤ s.wall) && (s.performed m.after || s.mayVeil m) && !s.veils m.core m.kind.looks && m.unc.all (fun p => (s.chanLate p.1 p.2).isNone)
    && (!m.kind.isRmw || m.kind.spans.all fun p => (s.lateChan p.1 p.2).isNone) && (match m.kind.engine with
    | some q => s.sync.enabled q
    | none => true) && (match m.kind with
    | .nsub .. => s.freeSlot.isSome
    | .fire _ loc => s.freeSlot.isSome || s.mem.blotted loc 128 || loc % 128 != 0
    | _ => true)
def State.firstMsg (s : State) (cl : Nat) : Option Msg := s.net.find? fun m => m.kind.class == cl && s.msgDue m
def State.dropMsg (s : State) (id : Nat) : State := { s with net := s.net.filter (·.id != id) }
/-- A store that is accepted ahead of a forerunner is noted. -/
def State.noteVeil (s : State) (m : Msg) : State :=
  if s.performed m.after then s.unveil else { s.unveil with veiled := s.unveil.veiled ++ [{ m with narrow := m.narrow.filter fun x => s.unperformed x.1 }] }

/-- A change of the strand that made an effect, on its core or in its image. -/
def State.mapOwner (s : State) (o : Nat) (f : Core → Core) : State :=
  let g (c : Core) : Core := if c.strand.isSome && c.owner == o then f c else c
  { s with
    core := g s.core
    cores := s.cores.map fun e => (e.1, e.2.map g)
    sched := { s.sched with saved := s.sched.saved.map fun e => (e.1, e.2.map fun v => { v with core := v.core.map g }) } }
/-- Sticky flags of the strand's C stream, and BLOT (10 R314). -/
def Core.cflags (c : Core) (f : Fp) (blot : Bool) : Core :=
  { c with cpy := { c.cpy with flags := c.cpy.flags ||| f.setWidth 6 ||| (if blot then 0x20 else 0) } }

/-- One reduced element at its place in the location order (10 R312, R313): location, index, source bits and blot. -/
def State.reduceOne (ty rm : Nat) (key : Word) (o : Nat) (src : Agent) (s : State) (it : Nat × Nat × Nat × Bool) : State :=
  let n := tyBits ty / 8
  let s := s.inject it.1 n false
  let r := reduceVal ty rm (key + BitVec.ofNat 64 (it.2.1 % 2 ^ 20)) (leNat (s.bytesAt it.1 n)) it.2.2.1
  let blot := it.2.2.2 || s.mem.blotted it.1 n
  (s.commit it.1 (natLe n r.1) blot src).mapOwner o fun c => c.cflags r.2 blot

/-- LLC_ACCEPT: a store reaches its home slice and is visible to every agent (05 R146). -/
def execLlcAccept (s : State) : Result :=
  .next (match s.firstMsg 0 with
    | none => s
    | some m =>
      let t := (s.dropMsg m.id).noteVeil m
      match m.kind with
      | .store ps blot => (ps.foldl (fun t p => t.commit p.1 p.2 blot m.src false (overlap m.unc [(p.1, 1)])) t).squash m.core m.kind.spans
      | .cells cs => (t.commitCells cs m.src m.unc).squash m.core m.kind.spans
      | .reduce ty rm key items => (items.foldl (State.reduceOne ty rm key m.owner m.src) t).squash m.core m.kind.spans
      | _ => t)

end Sys2Proof.Machine
end

