-- ==== Sys2Proof/Machine/Layout.lean ====
section
/-! DEFINITION. Layout.lean: layout records and their validity (10 R308 to R310). -/

namespace Sys2Proof.Machine

/-- A field of a layout record. -/
def lay (r : BitVec 512) (lo n : Nat) : Nat := (r.extractLsb' lo n).toNat
def layType (r : BitVec 512) : Nat := lay r 128 4
def layMx (r : BitVec 512) : Bool := r.getLsbD 132
def layPlace (r : BitVec 512) : Nat := lay r 133 2
def layDims (r : BitVec 512) : Nat := lay r 135 3
def layTile (r : BitVec 512) (j : Nat) : Nat := lay r (144 + 16 * j) 16
/-- The count of dimension `j`. -/
def layCount (r : BitVec 512) (j : Nat) : Nat := lay r (192 + 64 * j) 24 + 1
/-- The signed byte stride of dimension `j`. -/
def layStride (r : BitVec 512) (j : Nat) : Int := (r.extractLsb' (216 + 64 * j) 40).toInt
def layBase (r : BitVec 512) : Word := r.extractLsb' 0 64
def laySbase (r : BitVec 512) : Word := r.extractLsb' 64 64
/-- Dimension 0 is packed (10 R308). -/
def layPacked (r : BitVec 512) : Bool := if tyBits (layType r) = 4 then layStride r 0 == 0 else layStride r 0 == (tyBits (layType r) / 8 : Nat)

/-- The lowest dimension at which the product of the counts passes 2^40 (10 R310). -/
def layOver (r : BitVec 512) : Option Nat :=
  (List.range (min (layDims r) 5)).find? fun j => decide (2 ^ 40 < ((List.range (j + 1)).map (layCount r)).foldl (· * ·) 1)

/-- The conditions of 10 R309 in order: what fails, and the lowest bit of its field. -/
def layChecks (r : BitVec 512) : List (Bool × Nat) :=
  let nd := min (layDims r) 5
  let four := tyBits (layType r) == 4
  let es : Int := (max 1 (tyBits (layType r) / 8) : Nat)
  let dims := List.range nd
  [(lay r 138 6 != 0, 138), (lay r 176 16 != 0, 176), (layPlace r == 3, 133)]
  ++ [(layDims r == 0 || decide (5 < layDims r), 135)]
  ++ (((List.range 5).filter fun j => decide (nd ≤ j)).flatMap fun j => [(lay r (192 + 64 * j) 24 != 0, 192 + 64 * j), (layStride r j != 0, 216 + 64 * j)])
  ++ [(!canonical (layBase r), 0), (!canonical (laySbase r), 64)]
  ++ (if four then [(layStride r 0 != 0, 216), (layCount r 0 % 2 != 0, 192)] else dims.map fun j => (layStride r j % es != 0, 216 + 64 * j))
  ++ [((layOver r).isSome, 192 + 64 * (layOver r).getD 0)]
  ++ (if layMx r then [(!List.contains [11, 12, 13] (layType r), 128), (!layPacked r, 216), (layCount r 0 % 32 != 0, 192)] else [(laySbase r != 0, 64)])
  ++ (if layPlace r = 1 then [(layDims r != 2, 135), (decide (layType r < 10) || decide (13 < layType r), 128), (!layPacked r, 216), (decide (layStride r 1 ≤ 0), 280)] else [])
  ++ (if layPlace r = 2 then [(decide (layDims r < 2), 135), ((layBase r).toNat % 64 != 0, 0)] ++ ((dims.filter (· != 0)).map fun j => (layStride r j % 64 != 0, 216 + 64 * j)) else [])
  ++ [(decide (layCount r 0 < layTile r 0), 144), (decide (2 ≤ layDims r) && decide (layCount r 1 < layTile r 1), 160),
      (layDims r == 1 && layTile r 1 != 0, 160), (four && layTile r 0 % 2 != 0, 144)]

/-- The bit that TRAP_INFO0 names for an invalid record. -/
def layFault (r : BitVec 512) : Option Nat := ((layChecks r).find? (·.1)).map (·.2)

end Sys2Proof.Machine
end

