-- ==== Sys2Proof/Machine/Access.lean ====
section
/-! DEFINITION. Access.lean: loads, stores and their landing, sampling and performance, shared by every stream
(05 R146 to R154, R170 to R177). -/

namespace Sys2Proof.Machine

/-- Landing-buffer entries taken; a handler's loads take those that the strand does not hold (05 R151, 14 R421). -/
def Core.entries (c : Core) : Nat := (c.lands.filter (·.entry)).length

/-- A load enters flight: data is known already for core-local reads, else it samples at a free time (05 R150). -/
def State.addLand (s : State) (dest : LandDest) (src : LandSrc) (addr : Word) (lat : Nat) (cls scope : Nat) (entry : Bool)
    (data : Option (List Byte × Bool)) (vas : List (Nat × Nat) := []) (fix : List (Nat × Byte) := [])
    (fixBlot : Option (Nat × Word) := none) (fabric pld : Bool := false) : State :=
  let order := match src with
    | .mem ps => if data.isSome then [] else s.loadOrder cls scope ps
    | .reply => []
  State.bump
    { s with
      nextId := s.nextId + 1
      core := { s.core with lands := s.core.lands ++
        [{ id := s.nextId, seq := s.core.cur.seq, stream := s.core.cur.stream, slot := s.core.cur.slot, pc := s.core.cur.folio,
           cls := cls, scope := scope, hand := s.core.trap.active, entry := entry, due := s.core.now + lat, dest := dest, src := src,
           addr := addr, vas := vas, sampleAt := s.wall + Config.delay s.freeCtr, waitFor := s.loadHard order,
           soft := s.loadSoft order, fix := fix, fixBlot := fixBlot, data := data, fault := none, fabric := fabric,
           pld := pld, readyAt := s.wall }] } }

/-- A read of core-local scratchpad: bytes and whether a granule carries a blot. -/
def Core.scrRead (c : Core) (off n : Nat) : List Byte × Bool :=
  (c.scr.bytes.readRun off n, (List.range ((off + n + 63) / 64 - off / 64)).any fun i => c.scr.blots.get (off / 64 + i))

/-- A scalar load (05 R154): resolve, check, take an entry, land at issue + LAND or the space's default. -/
def State.scalarLoad (s : State) (dest : LandDest) (o : Word) (m : MW) (size : Nat) : State :=
  let c := s.core
  let lat := if m.land = 0 then 8 else m.land.toNat
  match c.place m.space.toNat o (c.brel m.space.toNat m.cls) size size with
  | .bad cause i0 => s.raise cause i0
  | .scr off =>
    if c.earlyRead 1 off size then s.raise 0x0A (o + c.brel m.space.toNat m.cls)
    else if m.land ≠ 0 ∧ 64 ≤ c.entries then s.hold
    else (s.addLand dest (.mem []) (BitVec.ofNat 64 (off / 64 * 64)) lat 0 0 (m.land != 0) (some (c.scrRead off size))).done
  | .glob va =>
    match s.xlate c.dom c.level.toNat .read va with
    | .bad cause i0 i1 => s.raiseLoc cause i0 i1
    | .miss v => (s.wantWalk c.dom v).hold
    | .ok loc =>
      if 64 ≤ c.entries then s.hold
      else (s.addLand dest (.mem [(loc, size)]) va lat m.cls.toNat m.scope.toNat true none).done

/-- A scalar store of `bs` (05 R154): scratchpad in its issue cycle, anything else through the hold. -/
def State.scalarStore (s : State) (o : Word) (m : MW) (bs : List Byte) : State :=
  let c := s.core
  match c.place m.space.toNat o (c.brel m.space.toNat m.cls) bs.length bs.length with
  | .bad cause i0 => s.raise cause i0
  | .scr off => (s.mapCore fun c => { c with scrNext := c.scrNext ++ [plainBytes off bs false] }).done
  | .glob va =>
    match s.xlate c.dom c.level.toNat .write va with
    | .bad cause i0 i1 => s.raiseLoc cause i0 i1
    | .miss v => (s.wantWalk c.dom v .write).hold
    | .ok loc =>
      let aft := s.before m.cls.toNat m.scope.toNat false [(loc, bs.length)]
      (s.emit 0 c.flow.conf m.cls.toNat m.scope.toNat aft (.store [(loc, bs)] false)
        (s.narrow m.cls.toNat m.scope.toNat [(loc, bs.length)] aft)).done

/-! ### Sampling -/

/-- The effects of its strand that a stream sees before any agent outside the core does: its own, and another stream's
plain store unless that still follows an access not performed (05 R170, R172, R174). -/
def State.visible (s : State) (st : Nat) : List Own :=
  let own := s.own
  own.filter fun e => e.stream == st || !(e.after.any fun i => s.unperformed i && !own.any fun x => x.id == i && x.kind.isStore)
/-- One of them comes before an access in its own stream. -/
def Own.sooner (e : Own) (st seq : Nat) : Bool := e.stream != st || decide (e.seq < seq)

/-- What the core's own stores still on their way make of a byte (05 R174). -/
def overlayByte (es : List Own) (st seq loc : Nat) (b : Byte) : Byte :=
  es.foldl (fun b e =>
    if !e.sooner st seq then b else
    match e.kind with
    | .store ps _ => ps.foldl (fun b p => if p.1 ≤ loc ∧ loc < p.1 + p.2.length then p.2.getD (loc - p.1) 0 else b) b
    | .cells cs => cs.foldl (fun b x => if x.at_ = loc then (b &&& ~~~x.mask) ||| (x.val &&& x.mask) else b) b
    | _ => b) b
/-- What they make of the blot of a granule (05 R477, 14 R439). -/
def overlayBlot (es : List Own) (st seq g : Nat) (b : Bool) : Bool :=
  es.foldl (fun b e =>
    if !e.sooner st seq then b else
    match e.kind with
    | .store ps blot => ps.foldl (fun b p =>
        if p.1 < 64 * g + 64 ∧ 64 * g < p.1 + p.2.length then blot || (b && !(decide (p.1 ≤ 64 * g) && decide (64 * g + 64 ≤ p.1 + p.2.length))) else b) b
    | .cells cs => if cs.any fun x => x.at_ / 64 == g then granBlot cs g b else b
    | _ => b) b

/-- The bytes of a span as a stream of the strand reads them. -/
def State.readOwn (s : State) (st seq loc n : Nat) : List Byte :=
  let es := s.visible st
  (List.range n).map fun i => overlayByte es st seq (loc + i) (s.byteAt (loc + i))
/-- A granule of the span carries a blot, as it reads them. -/
def State.blotOwn (s : State) (st seq loc n : Nat) : Bool :=
  let es := s.visible st
  if s.mem.blots.isEmpty && es.isEmpty then false else
  (List.range ((loc + n + 63) / 64 - loc / 64)).any fun i => overlayBlot es st seq (loc / 64 + i) (s.mem.blots.get (loc / 64 + i))

/-- The address of the `i`-th byte of runs of addresses. -/
def runAt : List (Nat × Nat) → Nat → Option Nat
  | [], _ => none
  | (a, n) :: r, i => if i < n then some (a + i) else runAt r (i - n)
/-- The bytes of a load in order: those at fixed positions, the rest as sampled. -/
def weave : Nat → List (Nat × Byte) → List Byte → List Byte
  | _, [], raw => raw
  | _, fix, [] => fix.map (·.2)
  | i, (j, b) :: fix, r :: raw => if i = j then b :: weave (i + 1) fix (r :: raw) else r :: weave (i + 1) ((j, b) :: fix) raw
/-- The position of the `k`-th sampled byte. -/
def rawPos (fix : List (Nat × Byte)) (k : Nat) : Nat :=
  ((List.range (k + fix.length + 1)).filter fun i => !fix.any (·.1 == i)).getD k 0
/-- The address whose granule a load's POISON names: that of its first byte with a blot (14 Table 14.4). -/
def State.blotAddr (s : State) (l : Land) (ps : List (Nat × Nat)) : Option Word :=
  let k := (ps.flatMap fun p => (List.range p.2).map fun i => p.1 + i).findIdx? fun a => s.blotOwn l.stream l.seq a 1
  let name (k : Nat) : Word := match runAt l.vas k with
    | some a => BitVec.ofNat 64 a
    | none => l.addr
  match k, l.fixBlot with
  | none, none => none
  | some k, none => some (name k)
  | none, some f => some f.2
  | some k, some f => some (if f.1 < rawPos l.fix k then f.2 else name k)

/-- The load's sampling cycle: its bytes and blots, and when they reach the core (05 R150, R25). -/
def State.sampleOne (s : State) (l : Land) : State :=
  match l.src with
  | .reply => s
  | .mem ps =>
    let s := ps.foldl (fun s p => s.inject p.1 p.2 false) s
    let bytes := weave 0 l.fix (ps.flatMap fun p => s.readOwn l.stream l.seq p.1 p.2)
    let blot := s.blotAddr l ps
    let at_ := s.wall + Config.delay s.freeCtr
    (s.mapCore fun c => { c with lands := c.lands.map fun x =>
      if x.id == l.id then { x with data := some (bytes, blot.isSome), mark := s.nextId, readyAt := at_, addr := blot.getD l.addr } else x }).bump


/-- A load that samples in this wall cycle. One that runs ahead of an access ordered before it waits while its strand has
a store to its bytes that it does not see yet. -/
def State.samples (s : State) (l : Land) : Bool :=
  l.data.isNone && l.fault.isNone && decide (l.sampleAt ≤ s.wall) && (match l.src with
    | .mem ps => s.performed l.waitFor && ps.all (fun p => (s.lateChan p.1 p.2).isNone) && !s.veils s.id ps
        && s.core.lands.all (fun x => x.settled || x.data.isSome || !l.soft.contains (x.id, 5))
        && (l.soft.isEmpty || !s.own.any fun e => e.kind.isStore && overlap e.kind.spans ps && !(s.visible l.stream).any (·.id == e.id))
    | .reply => false)
/-- A load takes its sample if its time has come, and forgets the accesses that are performed; one that ran ahead of them
samples again where another stream of the core has stored to its bytes since. -/
def State.sampleStep (s : State) (l : Land) : State :=
  let again : Bool := match l.src with
    | .mem ps => l.data.isSome && s.own.any fun e => e.stream != l.stream && e.kind.isStore && decide (l.mark ≤ e.id) && overlap e.kind.spans ps
    | .reply => false
  let s := if l.soft.isEmpty then s else s.mapCore fun c => { c with lands := resample (c.lands.map fun x =>
    if x.id == l.id then { x with data := if again then none else x.data, soft := x.soft.filter fun y => s.unperformed y.1 } else x) }
  match s.core.lands.find? fun x => x.id == l.id with
  | some x => if s.samples x then s.sampleOne x else s
  | none => s
def State.sampleCore (s : State) : State := s.core.lands.foldl State.sampleStep s

/-- A landing's data is at the core, and final. -/
def State.arrived (s : State) (l : Land) : Bool := (l.data.isSome || l.fault.isSome) && l.soft.isEmpty && decide (l.readyAt ≤ s.wall)

/-- The write of a landing (05 R154, R163). -/
def Core.landWrite (c : Core) (l : Land) (bs : List Byte) : Core :=
  match l.dest with
  | .s r size sign =>
    let v := leNat (bs.take size)
    let w : Word := if sign then (BitVec.ofNat (8 * size) v).signExtend 64 else BitVec.ofNat 64 v
    if r = 0 then c else c.setS r w
  | .v y cs => c.setCluster y ((c.cluster y).put (cs.zipWith (fun o b => ⟨o.1, o.2, b, false, false⟩) bs))
  | .l r => { c with sc := { c.sc with lrec := c.sc.lrec.set r (BitVec.ofNat 512 (leNat bs)) } }

/-- An LREC that brings an invalid record leaves Ln unchanged: the bit that its ILLEGAL_OPERAND names (10 R310). -/
def LandDest.bad (d : LandDest) (bs : List Byte) : Option Nat := match d with
  | .l _ => layFault (BitVec.ofNat 512 (leNat bs))
  | _ => none

/-- A load's landing: the write, or the fault it brings: POISON for a blot, a deferred fault otherwise (05 R152). -/
def State.land (s : State) (l : Land) : State :=
  let s := s.mapCore fun c => { c with lands := c.lands.filter fun x => x.id != l.id }
  match l.fault with
  | some t => s.record { t with late := true }
  | none => match l.data with
    | none => s
    | some (bs, blot) =>
      if blot then s.record { cause := 0x09, stream := l.stream, slot := l.slot, pc := l.pc, i0 := (l.addr >>> 6) <<< 6, late := true, op := l.seq }
      else match l.dest.bad bs with
        | some b => s.record { cause := 0x02, stream := l.stream, slot := l.slot, pc := l.pc, i0 := BitVec.ofNat 64 b, late := true, op := l.seq }
        | none => s.mapCore fun c => c.landWrite l bs

end Sys2Proof.Machine
end

