-- ==== Sys2Proof/Machine/MemS.lean ====
section
/-! DEFINITION. MemS.lean: scalar loads and stores, FENCE, TKWAIT and TKSIG (05 R154 to R161). -/

namespace Sys2Proof.Machine

/-- The 20-bit byte offset OFFEXT ∥ imm10 (02 R48). -/
def off20 (w : FB) (m : MW) : Word := (m.offext ++ w.imm).signExtend 64
/-- The 10-bit byte offset of formats A and V (02 R48). -/
def off10 (m : MW) : Word := m.offext.signExtend 64

/-- The address s[a] + offset of a format B access. -/
def State.eaB (s : State) (w : FB) (m : MW) : Word := s.rs w.a.toNat + off20 w m

def execLd (w : FB) (m : MW) (s : State) : Result :=
  .next (s.scalarLoad (.s (s.core.sIx w.d.toNat) 8 false) (s.eaB w m) m 8)
def execLds (w : FB) (m : MW) (s : State) : Result :=
  .next (s.scalarLoad (.s (s.core.sIx w.d.toNat) 4 false) (s.eaB w m) m 4)
def execSt (w : FB) (m : MW) (s : State) : Result :=
  .next (s.scalarStore (s.eaB w m) m (natLe 8 (s.rs w.d.toNat).toNat))
def execSts (w : FB) (m : MW) (s : State) : Result :=
  .next (s.scalarStore (s.eaB w m) m (natLe 4 (s.rs w.d.toNat).toNat))

/-- LREC (10 R310): a 64-byte load whose record is checked as it lands. -/
def execLrec (w : FB) (m : MW) (s : State) : Result :=
  .next (s.scalarLoad (.l (w.d.toNat % 16)) (s.eaB w m) m 64)

/-- The S accesses issued whose class stands in a mask and that are not performed at a scope yet (05 R161, 13 R398). -/
def State.openS (s : State) (mask : BitVec 16) (scope : Nat) : List Nat := s.openOf 0 mask.getLsbD scope
/-- Those before the group at hand. -/
def State.openBefore (s : State) (mask : BitVec 16) (scope : Nat) : List Nat := s.openAt 0 mask.getLsbD scope s.core.cur.first
/-- A fabric read that has not landed yet. -/
def Core.openFab (c : Core) (mask : BitVec 16) : Bool := c.lands.any fun l => l.fabric && mask.getLsbD l.cls && decide (l.seq < c.cur.first)

/-- The accesses of its own group before a FENCE: nothing waits for them, and later accesses follow them. -/
def State.noteFence (s : State) (mask : BitVec 16) (scope : Nat) : State :=
  let mine := s.openS mask scope
  s.mapCore fun c => { c with
    fences := (c.fences.map fun f => (f.1, f.2.1, f.2.2.filter s.unperformed)).filter (fun f => !f.2.2.isEmpty) ++ (if mine.isEmpty then [] else [(mask, scope, mine)]) }

/-- FENCE (R161): it waits for the accesses of earlier groups. -/
def execFence (w : FC) (s : State) : Result :=
  let sc := w.d.toNat % 8
  .next (if (s.openBefore w.imm sc).isEmpty && !(sc == 4 && s.core.openFab w.imm) then (s.noteFence w.imm sc).done else s.hold)

/-- TKWAIT's wait fields (05 R159). -/
def tkwaitFields (w : FE) : List Nat := [w.misc.toNat % 8, w.misc.toNat / 8 % 8, w.misc.toNat / 64 % 8]
def execTkwait (w : FE) (s : State) : Result :=
  .next (if s.core.tokReady 0 (tkwaitFields w) then (s.mapCore fun c => c.tokTake 0 (tkwaitFields w)).done else s.hold)

/-- TKSIG's consumer, scope and mask (05 R158). -/
def execTksig (w : FE) (s : State) : Result :=
  let cons := w.misc.toNat % 8
  if s.core.tokFull 0 cons then .next (s.raise 0x10 (BitVec.ofNat 64 cons)) else
  .next (s.mapCore fun c => c.addSig
    { prod := 0, cons := cons, hand := c.trap.active, cyc := c.now, perf := s.openS (w.misc.extractLsb' 6 16) (w.misc.toNat / 8 % 8),
      lands := [], ended := none }).done

end Sys2Proof.Machine
end

