-- ==== Sys2Proof/Machine/Sync.lean ====
section
/-! DEFINITION. Sync.lean: atomics and reductions, barriers, joins, waits and watches (11 R340 to R361), and the events
in which the engines apply them. -/

namespace Sys2Proof.Machine

/-- Resolve, then go on with the location. -/
def State.atSync (s : State) (va : Word) (align : Nat) (u : Use) (k : Nat → State) : State :=
  match s.syncLoc va align u with
  | .bad c i0 i1 => s.raiseLoc c i0 i1
  | .miss v => (s.wantWalk s.core.dom v u).hold
  | .ok loc => k loc

/-- Requests of this core that engine `q` has not applied, that wait there, or whose replies are on their way (R337). -/
def State.unanswered (s : State) (q : Nat) : Nat :=
  (s.core.hold.filter fun e => e.kind.engine == some q && s.holdSource e == s.id).length
    + (s.net.filter fun m => (m.source == s.id && m.kind.engine == some q) || (m.core == s.id && m.back == some q)).length
    + (s.core.lands.filter fun l => l.eng == some q && decide (s.wall < l.readyAt)).length
    + (s.sync.waiters.filter fun w => w.core == s.id && w.kind != 2 && homeQuad w.loc == q).length
    + (s.sync.bars.flatMap fun e => if barEngine e.1 = some q then e.2.waiters.filter (·.1 == s.id) else []).length
/-- The engine takes no request, its SYNC_OVF.EN being 0 (R335), or 4096 of this core's have no reply yet (R337): the next one
waits. -/
def State.engineFull (s : State) (q : Nat) : Bool := !s.sync.enabled q || decide (4096 ≤ s.unanswered q)
/-- Space for one more waiter record in an engine's SRAM and overflow area, beside the waits on their way to it (R335). -/
def State.waiterRoom (s : State) (q : Nat) : Bool :=
  let size := (s.sync.ovf.get q).toNat % 4096
  let out := s.net.filter fun m => match m.kind with
    | .jwait loc _ => homeQuad loc == q
    | .waitw loc .. => homeQuad loc == q
    | .suspend loc .. => homeQuad loc == q
    | _ => false
  decide ((s.sync.waiters.filter fun w => homeQuad w.loc == q).length + out.length < Config.waiters (if size < 16 then 0 else size))
/-- A wait may be sent to the engine of a location. -/
def State.canWait (s : State) (loc : Nat) : Bool := !s.engineFull (homeQuad loc) && s.waiterRoom (homeQuad loc)

/-- What a release at package scope waits for: every earlier S access, arrivals at join objects among them (11 R346, R354). -/
def State.releases (s : State) : List Nat := s.openS (-1) 3 ++ s.arrivals (2 ^ 64)

/-! ### Atomics and reductions (11 R340 to R345) -/

def amoBytes (fn : Nat) : Nat := match fn % 4 with
  | 0 => 8
  | 1 => 4
  | _ => 2

/-- The new value of 11 Table 11.3 on `w`-bit values; `none` is no write. `n` reads RMIN and RMAX as unsigned. -/
def amoNew (op : Nat) (n : Bool) (w m v c : Nat) : Option Nat :=
  match op with
  | 0x60 => some ((m + v) % 2 ^ w)
  | 0x61 => some (m &&& v)
  | 0x62 => some (m ||| v)
  | 0x63 => some (m ^^^ v)
  | 0x64 => some (if intVal w true m ≤ intVal w true v then m else v)
  | 0x65 => some (if intVal w true m ≤ intVal w true v then v else m)
  | 0x66 => some (min m v)
  | 0x67 => some (max m v)
  | 0x68 => some v
  | 0x69 => if m = c then some v else none
  | 0x6A => some (add32 m v).1
  | 0x6B => some (if v ≤ m then 0 else m + 1)
  | 0x6C => some ((m + v) % 2 ^ w)
  | 0x6D => some (m &&& v)
  | 0x6E => some (m ||| v)
  | 0x6F => some (m ^^^ v)
  | 0x70 => some (if n then min m v else if intVal w true m ≤ intVal w true v then m else v)
  | 0x71 => some (if n then max m v else if intVal w true m ≤ intVal w true v then v else m)
  | 0x72 => some (add32 m v).1
  | 0x73 => some (roundTo bf16 (Num.add 0 (bf16.value m) (bf16.value v)).1 0 false 0).1
  | _ => none

/-- One atomic step at its place in the location order: the old value and whether the granule carries a blot (R341,
R345). -/
def State.applyAmo (s : State) (loc w op : Nat) (n : Bool) (v c : Word) (src : Agent) : State × Nat × Bool :=
  let s := s.inject loc w false
  let m := leNat (s.bytesAt loc w)
  if s.mem.blotted loc w then (s, m, true) else
  match amoNew op n (8 * w) m (v.toNat % 2 ^ (8 * w)) (c.toNat % 2 ^ (8 * w)) with
  | some x => (s.commit loc (natLe w x) false src, m, false)
  | none => (s, m, false)

/-- Synchronisation waits or watches on a line: it stays resident (R334). -/
def Sync.pinned (y : Sync) (l : Nat) : Bool :=
  y.waiters.any (fun w => w.loc / 64 == l) || y.watch.any fun e => (e.2.map fun w => w.loc / 64 == l).getD false
/-- A line that synchronisation touches becomes its engine's most recent one; of 98,304 the least recent that is free leaves
(R334, R335). -/
def Sync.touch (y : Sync) (loc : Nat) : Sync :=
  let q := homeQuad loc
  let l := loc / 64
  let same := y.lines.filter fun x => homeQuad (x * 64) == q && x != l
  let kept := if same.length < 98304 then same else (same.reverse.eraseP fun x => !y.pinned x).reverse
  { y with lines := l :: kept ++ y.lines.filter fun x => homeQuad (x * 64) != q }
def Sync.resident (y : Sync) (loc : Nat) : Bool := y.lines.contains (loc / 64)
/-- The cycles in which an engine answers a request on a line: 40 more where it takes the line from its slice first (Table
11.2). -/
def State.lineTime (s : State) (loc t : Nat) : Nat := enginePath s.id (homeQuad loc) + t + (if s.sync.resident loc then 0 else 40)

/-- Atomics and reductions: checks, the landing of a returning one, the effect in the hold. -/
def State.amo (s : State) (w : FA) (m : MW) (op : Nat) (ret : Bool) : State :=
  let va := s.rs w.a.toNat + off10 m
  let n := amoBytes w.fn.toNat
  s.atSync va n .write fun loc =>
    if s.engineFull (homeQuad loc) then s.hold
    else if ret && (decide (64 ≤ s.core.entries) || s.core.preempting) then s.hold
    else
      let land := s.nextId
      let aft := s.before m.cls.toNat m.scope.toNat ret [(loc, n)]
      let t := if ret then s.addLand (.s (s.core.sIx w.d.toNat) n (!w.fn.getLsbD 2)) .reply va m.land.toNat m.cls.toNat m.scope.toNat true none
        else s
      (t.emit 0 s.core.flow.conf m.cls.toNat m.scope.toNat aft
        (.atomic loc n op (s.rs w.b.toNat) (s.rs w.d.toNat) (w.fn.getLsbD 2) (if ret then some land else none))).done

def execAadd (w : FA) (m : MW) (s : State) : Result := .next (s.amo w m 0x60 true)
def execAand (w : FA) (m : MW) (s : State) : Result := .next (s.amo w m 0x61 true)
def execAor (w : FA) (m : MW) (s : State) : Result := .next (s.amo w m 0x62 true)
def execAxor (w : FA) (m : MW) (s : State) : Result := .next (s.amo w m 0x63 true)
def execAmin (w : FA) (m : MW) (s : State) : Result := .next (s.amo w m 0x64 true)
def execAmax (w : FA) (m : MW) (s : State) : Result := .next (s.amo w m 0x65 true)
def execAminn (w : FA) (m : MW) (s : State) : Result := .next (s.amo w m 0x66 true)
def execAmaxn (w : FA) (m : MW) (s : State) : Result := .next (s.amo w m 0x67 true)
def execAswp (w : FA) (m : MW) (s : State) : Result := .next (s.amo w m 0x68 true)
def execAcas (w : FA) (m : MW) (s : State) : Result := .next (s.amo w m 0x69 true)
def execAfadd (w : FA) (m : MW) (s : State) : Result := .next (s.amo w m 0x6A true)
def execAinc (w : FA) (m : MW) (s : State) : Result := .next (s.amo w m 0x6B true)
def execRadd (w : FA) (m : MW) (s : State) : Result := .next (s.amo w m 0x6C false)
def execRand (w : FA) (m : MW) (s : State) : Result := .next (s.amo w m 0x6D false)
def execRor (w : FA) (m : MW) (s : State) : Result := .next (s.amo w m 0x6E false)
def execRxor (w : FA) (m : MW) (s : State) : Result := .next (s.amo w m 0x6F false)
def execRmin (w : FA) (m : MW) (s : State) : Result := .next (s.amo w m 0x70 false)
def execRmax (w : FA) (m : MW) (s : State) : Result := .next (s.amo w m 0x71 false)
def execRfadd (w : FA) (m : MW) (s : State) : Result := .next (s.amo w m 0x72 false)
def execRbfadd (w : FA) (m : MW) (s : State) : Result := .next (s.amo w m 0x73 false)

/-! ### Held groups (11 R360): the query or effect a waiting instruction has out, and its reply -/

/-- The entry of the instruction at hand. -/
def State.heldNow (s : State) : Option Held := s.core.helds.find? fun h => h.folio == s.core.cur.folio && h.slot == s.core.cur.slot
def State.addHeld (s : State) (stage : Nat) (v : Word) : State :=
  { s with
    nextId := s.nextId + 1
    core := { s.core with helds := s.core.helds ++
      [{ folio := s.core.cur.folio, slot := s.core.cur.slot, id := s.nextId, stage := stage, v := v, reply := none }] } }
def State.dropHeld (s : State) (id : Nat) : State := s.mapCore fun c => { c with helds := c.helds.filter (·.id != id) }

/-- Wait for the reply to a request: the first time `start` sends it under its number; with the reply the instruction
completes with its value, or raises the fault it brings; POISON names the granule of the word at `va`. `stage` 0 is a query,
5 an effect that is sent once. -/
def State.ask (s : State) (stage : Nat) (start : Nat → State → State) (fin : Word → State → State) (va : Word := 0) : State :=
  match s.heldNow with
  | none => (start s.nextId (s.addHeld stage 0)).hold
  | some h => match h.reply with
    | none => s.hold
    | some (v, none) => (fin v (s.dropHeld h.id)).done
    | some (_, some t) => (s.dropHeld h.id).raise t.cause (if t.cause = 0x09 then (va >>> 6) <<< 6 else t.i0) t.i1 t.i2

/-- A query leaves at once (11 R339). -/
def State.query (s : State) (t : Nat) (k : EffKind) : State := s.send s.id s.core.owner t s.core.agent k
/-- A request that is a release at package scope leaves through the hold. -/
def State.request (s : State) (k : EffKind) : State := s.emit 0 s.core.flow.conf 0 3 s.releases k

/-! ### Barriers (11 R346 to R352) -/

/-- The counter that a barrier instruction names, or its fault. -/
def State.barKeyOf (s : State) (w : FA) : BarKey ⊕ Nat × Word × Word :=
  let sc := w.fn.toNat % 8
  let b := w.b.toNat
  match s.core.strand with
  | none => .inl (sc, 0, b, 0)
  | some t =>
    if sc ≤ 2 then
      if sc < t.scope then .inr (0x02, BitVec.ofNat 64 b, 0)
      else .inl (sc, if sc = 1 then s.id / 4 else s.id / 16, b, t.node)
    else
      let r := s.sync.bar (barKey (sc == 4) b)
      if r.exp = 0 then .inr (0x02, BitVec.ofNat 64 b, 0)
      else if r.dom ≠ t.dom then .inr (0x08, BitVec.ofNat 64 b, BitVec.ofNat 64 r.dom)
      else .inl (barKey (sc == 4) b)

def State.withBar (s : State) (w : FA) (f : BarKey → State) : Result :=
  .next (match s.barKeyOf w with
    | .inr e => s.raise e.1 e.2.1 e.2.2
    | .inl k => f k)
/-- The engine of a package barrier takes no request now. -/
def State.barFull (s : State) (k : BarKey) : Bool := k.1 == 3 && s.engineFull (barQuad 3 k.2.2.1)

def barEff (k : BarKey) (held : Option Nat) : EffKind := .barrier k.1 k.2.1 k.2.2.1 k.2.2.2 held
/-- This strand's arrivals at a counter that it has not counted yet (R350). -/
def State.uncounted (s : State) (k : BarKey) : Nat :=
  (s.own.filter fun e => match e.kind with
    | .barrier a i b n _ => (a, i, b, n) == k
    | _ => false).length

def State.bwaitQuery (s : State) (k : BarKey) (t held : Nat) : State :=
  s.query (barPath s.id k.1 k.2.2.1 + 1) (.bwait k.1 k.2.1 k.2.2.1 k.2.2.2 t held)

def execBarv (w : FA) (s : State) : Result :=
  s.withBar w fun k =>
    if s.barFull k then s.hold else
    let t := ((s.sync.bar k).p + s.uncounted k) % 2 ^ 16
    ((s.request (barEff k none)).postS 1 w.d.toNat (BitVec.ofNat 64 t)).done

def execBwait (w : FA) (s : State) : Result :=
  s.withBar w fun k =>
    if s.heldNow.isNone && s.barFull k then s.hold else
    s.ask 0 (fun id s => s.bwaitQuery k ((s.rs w.a.toNat).toNat % 2 ^ 16) id) fun v s => s.postS 1 w.d.toNat v

/-- BAR: stage 1 its arrival is out, 2 the same after a trap or pre-emption, 3 counted then, 4 counted and waiting. -/
def execBar (w : FA) (s : State) : Result :=
  s.withBar w fun k =>
    match s.heldNow with
    | none => if s.barFull k then s.hold else let id := s.nextId; ((s.addHeld 1 0).request (barEff k (some id))).hold
    | some h =>
      if h.stage = 2 then (s.mapCore fun c => { c with helds := c.helds.map fun x => if x.id == h.id then { x with stage := 1 } else x }).hold
      else if h.stage = 3 then
        ((s.mapCore fun c => { c with helds := c.helds.map fun x => if x.id == h.id then { x with stage := 4 } else x }).bwaitQuery k h.v.toNat h.id).hold
      else s.ask 0 (fun _ s => s) fun v s => s.postS 1 w.d.toNat (v &&& ~~~(0x10000 : Word))

/-! ### Joins (11 R353 to R355) -/

def execJarv (w : FA) (s : State) : Result :=
  .next (s.atSync (s.rs w.a.toNat) 16 .write fun loc =>
    if s.engineFull (homeQuad loc) then s.hold
    else (s.request (.join loc (w.fn.getLsbD 0) (s.rs w.b.toNat))).done)

def execJwait (w : FA) (s : State) : Result :=
  .next (match s.heldNow with
    | some _ => s.ask (va := s.rs w.a.toNat) 0 (fun _ s => s) fun v s => s.postS 1 w.d.toNat v
    | none => s.atSync (s.rs w.a.toNat) 16 .read fun loc =>
      if !s.canWait loc then s.hold else
      s.ask 0 (fun id s => s.query (s.lineTime loc 1) (.jwait loc id)) fun v s => s.postS 1 w.d.toNat v)

/-- jarv(obj, flt, p) (11 R354): a blotted granule stays as it is. -/
def State.joinArrive (s : State) (loc : Nat) (flt : Bool) (p : Word) (src : Agent) : State :=
  let s := s.inject loc 16 false
  if s.mem.blotted loc 16 then s else
  let x := wordAt s loc false
  let count := x.toNat % 2 ^ 16
  let arr := x.toNat / 2 ^ 16 % 2 ^ 16
  let fl := x.getLsbD 32
  let excess := x.getLsbD 33
  let word (arr : Nat) (fl excess : Bool) : Word := BitVec.ofNat 64 (count + arr * 2 ^ 16 + (if fl then 2 ^ 32 else 0) + (if excess then 2 ^ 33 else 0))
  let pr : Word := wordAt s (loc + 8) false
  if flt then s.commit loc (natLe 8 (word arr true excess).toNat ++ natLe 8 (if fl then pr else p).toNat) false src
  else if arr < count then s.commit loc (natLe 8 (word (arr + 1) fl excess).toNat) false src
  else s.commit loc (natLe 8 (word arr fl true).toNat) false src

/-! ### Waiting on a word (11 R356) -/

/-- COND and W32 of the wait control. -/
def waitCtl (m : MW) : Nat × Bool := (m.land.toNat % 8, m.land.getLsbD 3)

/-- WAITW: a blotted word raises POISON as soon as it is seen, whatever COND says, in either space (log 63). -/
def execWaitw (w : FB) (m : MW) (s : State) : Result :=
  let ctl := waitCtl m
  let size := if ctl.2 then 4 else 8
  let v := s.rs w.d.toNat
  .next (if m.space = 1 then
      match s.core.place 1 (s.eaB w m) (s.core.brel 1 m.cls) size size with
      | .bad c i0 => s.raise c i0
      | .glob _ => s.hold
      | .scr off =>
        let r := s.core.scrRead off size
        if s.core.earlyRead 1 off size then s.raise 0x0A (BitVec.ofNat 64 off)
        else if r.2 then s.raise 0x09 (BitVec.ofNat 64 (off / 64 * 64))
        else if waitCond ctl.1 ctl.2 (BitVec.ofNat 64 (leNat r.1)) v then s.done
        else s.hold
    else match s.heldNow with
      | some _ => s.ask (va := s.eaB w m) 0 (fun _ s => s) fun _ s => s
      | none => s.atSync (s.eaB w m) size .read fun loc =>
        if !s.canWait loc then s.hold else
        s.ask 0 (fun id s => s.query (s.lineTime loc 4) (.waitw loc ctl.1 ctl.2 v id)) fun _ s => s)

/-! ### The watch table (11 R357 to R359) -/

/-- WATCH: the effect follows only this strand's own writes of the word (log 63). -/
def execWatch (w : FA) (s : State) : Result :=
  let w32 := w.fn.getLsbD 3
  let size := if w32 then 4 else 8
  let va := s.rs w.a.toNat
  let recVa := s.rs (w.b.toNat + 1)
  .next (match s.heldNow with
    | some _ => s.ask 5 (fun _ s => s) fun v s => s.postS 1 w.d.toNat v
    | none => s.atSync va size .read fun loc =>
      s.atSync recVa size .read fun recLoc =>
        if s.engineFull (homeQuad loc) then s.hold else
        let aft := (s.own.filter fun e => overlap e.kind.spans [(loc, size)]).map (·.id)
        s.ask 5 (fun id s => s.emit 0 s.core.flow.conf 0 3 aft (.watch loc (w.fn.toNat % 8) w32 (s.rs w.b.toNat) recLoc id)) fun v s => s.postS 1 w.d.toNat v)

/-- UNWATCH: the effect follows no access (R359). -/
def execUnwatch (w : FA) (s : State) : Result :=
  let h := s.rs w.a.toNat
  .next (if !h.getLsbD 16 then (s.postS 1 w.d.toNat 0).done
    else if s.heldNow.isNone && s.engineFull (h.toNat / 64 % 4) then s.hold
    else s.ask 5 (fun id s => s.emit 0 s.core.flow.conf 0 3 [] (.unwatch h id)) fun v s => s.postS 1 w.d.toNat v)

/-- The first free entry of an engine's 64. -/
def Sync.freeWatch (y : Sync) (q : Nat) : Option Nat := (List.range 64).find? fun i => (y.watch.get (64 * q + i)).isNone

/-- Arm an entry: the handle, or 0 when the table is full; it fires at once if the word satisfies COND (R357, R358). -/
def State.arm (s : State) (loc cond : Nat) (w32 : Bool) (v : Word) (recLoc dom : Nat) : State × Word :=
  let q := homeQuad loc
  match s.sync.freeWatch q with
  | none => (s, 0)
  | some i =>
    let s := s.inject loc (if w32 then 4 else 8) false
    let s := { s with sync := { s.sync with watch := s.sync.watch.set (64 * q + i) (some ⟨loc, cond, w32, v, recLoc, dom⟩) } }
    (s.fireAll loc (if w32 then 4 else 8), BitVec.ofNat 64 (0x10000 + q * 64 + i))

/-- UNWATCH decided (R359): 1 disarmed, 0 fired or not armed; another domain's entry raises OWNER. -/
def State.disarm (s : State) (h : Word) (dom : Nat) : State × Word × Option Trap :=
  let k := h.toNat % 256
  match s.sync.watch.get k with
  | none => (s, 0, none)
  | some w =>
    if w.dom ≠ dom then (s, 0, some { cause := 0x08, stream := 0, slot := 0, pc := 0, i0 := h, i1 := BitVec.ofNat 64 w.dom })
    else ({ s with sync := { s.sync with watch := s.sync.watch.set k none } }, 1, none)

end Sys2Proof.Machine
end

