-- ==== Sys2Proof/Machine/Strands.lean ====
section
/-! DEFINITION. Strands.lean: the scheduling instructions (12 R372 to R379), placement, start, write-back, resume,
restart and end of strands, completion and purge of nodes (12 R367 to R371, R380 to R382; 01 R31; 14 R437, R441). -/

namespace Sys2Proof.Machine

/-! ### Cores by number -/

def State.coreAt (s : State) (k : Nat) : Core := if s.id = k then s.core else (s.cores.get k).getD {}
def State.setCoreAt (s : State) (k : Nat) (c : Core) : State :=
  if s.id = k then { s with core := c } else { s with cores := s.cores.set k (if c = {} then none else some c) }
/-- Make core `k` the current one. -/
def State.focus (s : State) (k : Nat) : State :=
  if s.id = k then s else
  { s with
    id := k
    core := (s.cores.get k).getD {}
    cores := (s.cores.set s.id (if s.core = {} then none else some s.core)).set k none }
/-- The numbers of the cores that are not in their reset state, the current one first. -/
def State.liveCores (s : State) : List Nat := s.id :: s.cores.map (·.1)
/-- A change of every core. -/
def State.mapCores (s : State) (f : Core → Core) : State :=
  { s with core := f s.core, cores := s.cores.map fun e => (e.1, e.2.map f) }

/-- The core that runs a strand. -/
def State.coreOf (s : State) (h i : Nat) : Option Nat :=
  s.liveCores.find? fun k => match (s.coreAt k).strand with
    | some t => t.node == h && t.idx == i
    | none => false

/-- A socket is in service (14 Table 14.11). -/
def State.running (s : State) (socket : Nat) : Bool := s.pkg.sockets.get socket == 0
def State.idle (s : State) (k : Nat) : Bool := (s.coreAt k).strand.isNone && s.running (16 + k / 16)

/-! ### Leaving a core -/

/-- What stays with a core when its strand leaves: its effects on the way, its clock and its core state (14 R414). -/
def Core.vacate (c : Core) : Core :=
  { scr := c.scr, scrNext := c.scrNext, hold := c.hold, flow := { run := c.flow.run, conf := c.flow.conf, dom := c.flow.dom }, trap := { vec := c.trap.vec }, strike := c.strike, tlbStat := c.tlbStat,
    lastDom := match c.strand with
      | some t => some t.dom
      | none => c.lastDom }

/-- The strand's copies that have not landed, or returning atomics outstanding, of groups before `upto` (12 R374, R380). -/
def Core.unsettled (c : Core) (upto : Nat := 2 ^ 64) : Bool :=
  c.cpy.copies.any (fun k => k.timed) || c.lands.any fun l => match l.src with
    | .reply => !l.pld && decide (l.seq < upto) && (l.data.isNone && l.fault.isNone || decide (c.flow.cycle < l.due))
    | .mem _ => false

/-- Every queue is empty and every engine instruction issued has ended (12 R373). -/
def Core.enginesIdle (c : Core) : Bool :=
  ([1, 2, 3, 4, 5].all fun st => (c.queues.get st).isEmpty) && c.mat.nest.isNone && c.mat.drains.isEmpty && c.mat.xfers.isEmpty
    && c.cpy.copies.isEmpty && c.macros.all (·.produced)

/-- A fabric request that writes; a PLD changes nothing (13 R397). -/
def fabEffect : FabOp → Bool
  | .read _ => false
  | _ => true
/-- An unwritten effect of a strand, in a hold or on its way (01 R31). -/
def State.hasEffects (s : State) (f : Nat → Bool) : Bool :=
  s.net.any (fun m => f m.owner && !m.kind.query) || s.fab.out.any (fun o => (o.owner.map f).getD false && fabEffect o.req.op) || s.core.hold.any (fun e => f e.owner)
    || s.cores.any fun k => (k.2.getD {}).hold.any fun e => f e.owner

/-- The strand ends: its mark leaves as TRIG's does, behind every access of every stream; it leaves its node's barriers, its
record is freed, its core is vacated (12 R373, R377). -/
def State.exitStrand (s : State) : State :=
  match s.core.strand with
  | none => s
  | some t =>
    let s := if t.triggered then s else s.emit 0 s.core.flow.conf 0 3 (s.own.map (·.id)) .trig
    let bit : BitVec 32 := 1 <<< t.idx
    let spawned := ((s.node t.node).map fun n => n.spawned.getLsbD t.idx).getD false
    let s := if spawned then s else s.leaveBars t.node false
    let s := s.mapNode t.node fun n => { n with live := n.live &&& ~~~bit, exited := n.exited ||| bit }
    (s.setRec t.node t.idx 0).mapCore Core.vacate

/-! ### Image pool (15 R451) -/

/-- Bytes of the context image (12 Table 12.6) and `more`, in 4 KiB units. -/
def Core.imageUnits (c : Core) (more : Nat := 0) : Nat := ceilDiv (c.imageChunk.1 + more) 4096
/-- What the rest of a group that is about to dispatch adds at most to its strand's image: queue records, and the pending and
landing records of its S instructions. -/
def Core.groupBytes (c : Core) : Nat := match c.group with
  | none => 0
  | some g => (g.slots.map fun x => if x.stream = 0 then 384 else 64).sum
/-- Save areas in use: start and length, by strand. -/
def State.areas (s : State) : List (Nat × Nat) :=
  (s.sched.saved.filterMap fun e => e.2.map (·.area)) ++ (s.liveCores.filterMap fun k => (s.coreAt k).strand.bind (·.save))
/-- The lowest free run of `n` 4 KiB units in the pool. -/
def State.takeArea (s : State) (n : Nat) : Option Nat :=
  let base := (s.host.imagePool &&& 0x000FFFFFFFFFF000).toNat
  let top := base + (s.host.imagePool.toNat % 4096) * 2 ^ 30
  let used := s.areas.filter fun a => a.2 != 0
  (base :: used.map fun a => a.1 + a.2).find? fun b =>
    decide (b + n * 4096 ≤ top) && decide (base ≤ b) && used.all fun a => decide (b + n * 4096 ≤ a.1) || decide (a.1 + a.2 ≤ b)

/-- The core's nest is runnable (08 R222). -/
def Core.nestRuns (c : Core) : Bool := (c.mat.nest.map fun n => !n.faulted).getD false && !(c.strand.map (·.dormant)).getD true

/-- The engine drops what a core had in it: its row block, drain or transfer in progress (08 R249, R254). -/
def Quad.leave (q : Quad) (k : Nat) : Quad :=
  { q with
    cur := match q.cur with
      | some c => if c.core = k then none else some c
      | none => none
    epi := q.epi.filter fun e => e.1 != k }

/-- The strand stops at point p with space for its image, or the shortage is logged and nothing happens (R451). A
checkpoint's write-backs need no pool. `more`: bytes that the image may take beside what the core holds now. -/
def State.stopStrand (s : State) (parked : Bool) (more : Nat := 0) : State × Bool :=
  match s.core.strand with
  | none => (s, false)
  | some t =>
    let n := s.core.imageUnits more
    let go (a : Nat × Nat) : State × Bool :=
      (((s.dropQueries s.core.queries).mapCore fun c => { c with
        strand := some { t with preempt := false, dormant := true, parked := parked, save := some a, shorted := false, waitRuns := 0 }
        helds := pauseHelds c.helds }).setQuad (s.id / 4) ((quadOf s (s.id / 4)).leave s.id), true)
    if s.host.ckptCtl.getLsbD 2 then go (0, 0) else
    match s.takeArea n with
    | some a => go (a, n * 4096)
    | none =>
      if t.shorted then (s, false)
      else ((s.mapCore fun c => { c with strand := some { t with shorted := true } }).triage (t.report 5), false)

/-! ### EXIT, YIELD, SUSPEND, SEAL (12 R373 to R376) -/

/-- A double fault ends the strand as a purge of its tag would (14 R421): event TRAP_DELIVERY acts on this mark. -/
def State.double (s : State) (second : Option Trap) (reason : Nat) : State :=
  s.mapCore fun c => { c with dbl := some (c.dbl.getD (second, reason)) }

def execExit (_w : FE) (s : State) : Result :=
  .next (if s.core.enginesIdle then s.exitStrand.done
    else if s.core.trap.active then (s.double none 3).hold else s.hold)

/-- The write-back of YIELD and SUSPEND: it waits for what was issued before their group. -/
def State.yieldHere (s : State) (parked : Bool) (k : State → State) : State :=
  if s.core.trap.active then (s.mapCore fun c => { c with strand := c.strand.map fun t => { t with preempt := true } }).done
  else if s.core.unsettled s.core.cur.first then s.hold
  else match s.stopStrand parked s.core.groupBytes with
    | (t, true) => (k t).done
    | (t, false) => t.hold

def execYield (_w : FE) (s : State) : Result := .next (s.yieldHere false id)

def execSuspend (w : FE) (s : State) : Result :=
  let m := w.misc.toNat
  let w32 := w.misc.getLsbD 15
  .next (s.atSync (s.rs (m % 64)) (if w32 then 4 else 8) .read fun loc =>
    if !s.canWait loc then s.hold else
    s.yieldHere true fun t => t.query (t.lineTime loc 4) (.suspend loc (m / 2 ^ 12 % 8) w32 (s.rs (m / 64 % 64))))

/-- The strand's continuation record as SEAL leaves it (12 R376). -/
def State.sealRec (s : State) (t : Strand) : BitVec 512 :=
  let old := s.contRec t.node t.idx
  makeRec t.restart (old.getLsbD 1) false (s.core.cur.folio + 32) 1 (s.rs 62) 0 0 t.tag t.node t.idx [s.rs 1, s.rs 2, s.rs 3, s.rs 4]

/-- An access or effect of the strand from before the group at hand that is not over: an unwritten effect at package scope, a
load in flight. -/
def State.busyBefore (s : State) : Bool :=
  let old (st seq : Nat) : Bool := st != 0 || decide (seq < s.core.cur.first)
  s.core.lands.any (fun l => old l.stream l.seq) || s.own.any (fun e => old e.stream e.seq)
    || s.fab.out.any fun o => o.owner == some s.core.owner && fabEffect o.req.op

def execSeal (_w : FE) (s : State) : Result :=
  .next (match s.core.strand with
    | none => s.done
    | some t =>
      if s.core.enginesIdle && !s.busyBefore then (s.setRec t.node t.idx (s.sealRec t)).done
      else s.hold)

/-! ### TRIG, GWAIT, SPAWN, NSUB, PRIO (12 R377 to R379) -/

def execTrig (_w : FA) (s : State) : Result :=
  .next (match s.core.strand with
    | none => s.done
    | some t => if t.triggered then s.done else
      ((s.request .trig).mapCore fun c => { c with strand := some { t with triggered := true } }).done)

/-- A node is triggered: each of its strands has triggered, or exited, which counts under the same rules (12 R373, R377). -/
def State.triggered (s : State) (h : Nat) : Bool := match s.node h with
  | none => true
  | some n => n.phase != 0 && n.phase != 1 && (List.range 32).all fun i => !(n.live.getLsbD i || n.exited.getLsbD i) || n.trig.getLsbD i

def execGwait (w : FA) (s : State) : Result :=
  .next (match s.core.strand.bind fun t => s.node t.node with
    | none => (s.postS 1 w.d.toNat 0).done
    | some n =>
      if !n.record.getLsbD 138 then (s.postS 1 w.d.toNat 0).done
      else if n.predHandles.all s.triggered then (s.postS 1 w.d.toNat (if n.faultPred then 1 else 0)).done
      else s.hold)

/-- Read a record at dispatch, as the strand's own load would now (12 R379). -/
def State.recordAt (s : State) (va : Word) (n : Nat) (k : Nat → State) : State :=
  if va.toNat % n ≠ 0 then s.raise 0x07 va else
  match s.xlate s.core.dom s.core.level.toNat .read va with
  | .bad c i0 i1 => s.raiseLoc c i0 i1
  | .miss v => (s.wantWalk s.core.dom v).hold
  | .ok loc =>
    let s := s.inject loc n false
    if s.mem.blotted loc n then s.raise 0x09 (if s.mem.blotted loc 64 then va else va + 64)
    else k (leNat (s.readOwn 0 s.core.cur.seq loc n))

def execSpawn (w : FA) (s : State) : Result :=
  .next (match s.heldNow with
    | some _ => s.ask 5 (fun _ s => s) fun v s => s.postS 1 w.d.toNat v
    | none => s.recordAt (s.rs w.a.toNat) 64 fun r =>
      s.ask 5 (fun id s => s.request (.spawn (BitVec.ofNat 512 r) id)) fun v s => s.postS 1 w.d.toNat v)

def execNsub (w : FA) (s : State) : Result :=
  .next (match s.heldNow with
    | some _ => s.ask 5 (fun _ s => s) fun v s => s.postS 1 w.d.toNat v
    | none => s.recordAt (s.rs w.a.toNat) 128 fun r =>
      let r := BitVec.ofNat 1024 r
      if badOwner s.core.agent (recDom r) then s.raise 0x08 (s.rs w.a.toNat) (BitVec.ofNat 64 (recDom r))
      else s.ask 5 (fun id s => s.request (.nsub r s.core.level.toNat id)) fun v s => s.postS 1 w.d.toNat v)

def execPrio (w : FA) (s : State) : Result :=
  let v := s.rs w.a.toNat
  let prio := ((s.core.strand.bind fun t => s.node t.node).map fun n => recF n.record 140 2).getD 3
  .next (match s.heldNow with
    | some _ => s.ask 5 (fun _ s => s) fun v s => s.postS 1 w.d.toNat v
    | none =>
      if 3 < v.toNat then s.raise 0x02 v
      else if s.core.level = 0 ∧ prio < v.toNat then s.raise 0x04 0 1
      else s.ask 5 (fun id s => s.send s.id s.core.owner 0 s.core.agent (.prio v.toNat id)) fun v s => s.postS 1 w.d.toNat v)

/-! ### The pool's side -/

/-- SPAWN arrives: the lowest free index, or all ones when 32 strands are live. -/
def State.spawnStrand (s : State) (h : Nat) (r : BitVec 512) : State × Word :=
  match s.node h with
  | none => (s, -1)
  | some n =>
    match (List.range 32).find? fun i => !n.live.getLsbD i with
    | none => (s, -1)
    | some i =>
      let bit : BitVec 32 := 1 <<< i
      let s := s.setNode h (some { n with live := n.live ||| bit, exited := n.exited &&& ~~~bit, trig := n.trig &&& ~~~bit, spawned := n.spawned ||| bit })
      let s := s.setRec h i (makeRec (r.getLsbD 0) (n.record.getLsbD 138) false (recResume r) 2 (r.extractLsb' 64 64) 0 0 (recTag n.record) h i
        [r.extractLsb' 256 64, r.extractLsb' 320 64, r.extractLsb' 384 64, r.extractLsb' 448 64])
      ({ s with sched := { s.sched.push n.level (h, some i) with saved := s.sched.saved.set (recordKey h i) (some { core := none }) } }, BitVec.ofNat 64 i)

/-- PRIO arrives: the node's level changes, its waiting strands move to the tail of the new level. -/
def State.relevel (s : State) (h v : Nat) : State × Word :=
  match s.node h with
  | none => (s, 0)
  | some n =>
    let s := s.setNode h (some { n with level := v, pass := 0 })
    let mine (x : Nat × Option Nat) : Bool := x.1 == h && x.2.isSome
    let moved := ([0, 1, 2, 3].map fun l => (s.sched.fifo.get l).filter mine).flatten
    let f := [0, 1, 2, 3].foldl (fun f l => f.set l ((f.get l).filter fun x => !mine x)) s.sched.fifo
    ({ s with sched := { s.sched with fifo := f.set v (f.get v ++ moved) } }, BitVec.ofNat 64 n.level)

/-! ### Ends of nodes -/

/-- Take a node's strands off cores, FIFOs and save areas, with their effects still in holds (14 R441). -/
def State.removeStrands (s : State) (h : Nat) : State :=
  let mine (o : Nat) : Bool := o / 32 == h
  let off (c : Core) : Core :=
    let c := if (c.strand.map fun t => t.node == h).getD false then c.vacate else c
    { c with hold := c.hold.filter fun e => !mine e.owner }
  let asked := s.liveCores.flatMap fun k => let c := s.coreAt k
    if (c.strand.map fun t => t.node == h).getD false then c.queries else []
  let s := (s.dropQueries asked).mapCores off
  let recs := (List.range 32).foldl (fun r i => r.set (recordKey h i) 0) s.sched.records
  { s with
    sched := { s.sched with
      fifo := [0, 1, 2, 3].foldl (fun f l => f.set l ((f.get l).filter fun x => x.1 != h)) s.sched.fifo
      saved := s.sched.saved.filter fun e => e.1 / 32 != h
      woken := s.sched.woken.filter fun x => x.1 != h
      records := recs }
    sync := { s.sync with waiters := s.sync.waiters.filter fun w => !(w.kind == 2 && w.node == h) } }

/-- The node ends before its strands exit; its completion word will carry `status`, and a successor's GWAIT sees it FAULTED (12
R378). -/
def State.endNode (s : State) (h status : Nat) (lost : Bool) : State :=
  match s.node h with
  | none => s
  | some n =>
    let gone := (List.range 32).filter fun i => n.live.getLsbD i && !n.spawned.getLsbD i
    let s := if n.phase = 2 then gone.foldl (fun s _ => s.leaveBars h lost) s else s
    let s := if status = 0 then s else n.succ.foldl (fun s q => s.mapNode q fun m => { m with faultPred := true }) s
    (s.removeStrands h).mapNode h fun n => { n with phase := 3, status := status, live := 0 }

/-! Collective runs that end early (13 R409). -/

/-- This package's id. -/
def Fabric.own (f : Fabric) : Nat := f.podId.toNat % 256
def runHeader (r : Run) (lo n : Nat) : Nat := (r.header.extractLsb' lo n).toNat
def collOf (s : State) (q : Nat) : Coll := (s.fab.coll.get q).getD {}
def State.setColl (s : State) (q : Nat) (c : Coll) : State :=
  { s with fab := { s.fab with coll := s.fab.coll.set q (if c = {} then none else some c) } }
def State.mapRun (s : State) (q : Nat) (ticket : Nat) (f : Run → Run) : State :=
  s.setColl q { collOf s q with runs := (collOf s q).runs.map fun r => if r.ticket = ticket then f r else r }

/-- A run that ended early. -/
def Run.stopped (r : Run) : Bool := r.flt.isSome || r.illegal || r.aborted

/-- ABORT arrives: every run of that collective here, held or running, ends (13 R409). -/
def State.abortAll (s : State) (cid : Nat) : State :=
  { s with fab := { s.fab with coll := s.fab.coll.map fun e => (e.1, e.2.map fun c =>
    { c with runs := c.runs.map fun r => if runHeader r 32 16 = cid ∧ !r.stopped then { r with aborted := true } else r }) } }
/-- A fault stops the run at its step, and ABORT goes to every package of the rank table (13 R409). -/
def State.runFault (s : State) (q : Nat) (r : Run) (cause : Nat) : State :=
  let s := s.mapRun q r.ticket fun r => { r with flt := some cause }
  let cid := runHeader r 32 16
  let s := { s with fab := { s.fab with aborts := s.fab.aborts ++ (r.rtab.filter (· != s.fab.own)).map fun p => (p, cid) } }
  if r.rtab.contains s.fab.own then s.abortAll cid else s

/-- A macro that its strand still has, on a core or in an image. -/
def State.hasMacro (s : State) (x : Nat × Nat) : Bool :=
  let on (c : Core) : Bool := c.strand.isSome && c.owner == x.1 && c.macros.any (·.seq == x.2)
  s.liveCores.any (fun k => on (s.coreAt k)) || s.sched.saved.any fun e => (e.2.bind (·.core)).any on
/-- Cancel the hydrations whose BLOAD is gone: entry and homes go, the bytes stay (14 R441). -/
def State.dropOrphans (s : State) : State :=
  (List.range 16).foldl (fun s n =>
    let k := stackOf s n
    let gone := k.hydrate.filter fun h => (h.origin.map fun x => !s.hasMacro x).getD false
    if gone.isEmpty then s else
    let bases := gone.map fun h => Entry.base (k.table.get h.entry)
    { (s.setStack n { k with
        table := gone.foldl (fun t h => t.set h.entry 0) k.table
        hydrate := k.hydrate.filter fun h => !gone.contains h }) with homes := s.homes.filter fun r => !(r.stack == n && bases.contains r.base) }) s

/-- A purge of tag T in domain D (14 R441): whether any work carried the tag. -/
def State.purge (s : State) (dom tag : Nat) : State × Bool :=
  let hs := s.sched.nodes.filterMap fun e => match e.2 with
    | some n => if recDom n.record = dom ∧ recTag n.record = tag ∧ n.phase ≠ 3 then some e.1 else none
    | none => none
  let runs := s.fab.coll.any fun e => (e.2.getD {}).runs.any fun r => r.dom == dom && r.tag == tag && !r.stopped
  let s := [0, 1, 2, 3].foldl (fun s q => (collOf s q).runs.foldl (fun s r =>
    if r.dom = dom ∧ r.tag = tag ∧ !r.stopped then s.runFault q r 0x12 else s) s) s
  ((hs.foldl (fun s h => s.endNode h 0x12 true) s).dropOrphans, runs || !hs.isEmpty)

/-- The node may complete: its strands are gone and its effects performed (01 R31). -/
def State.canComplete (s : State) (h : Nat) : Bool := match s.node h with
  | none => false
  | some n => (n.phase == 3 || (n.phase == 2 && n.live == 0)) && !s.hasEffects fun o => o / 32 == h

/-- NODE_COMPLETE: the completion word, then the slot is free and the successors count (01 R31; 12 R364, R366). -/
def State.completeNode (s : State) (h : Nat) : State :=
  match s.node h with
  | none => s
  | some n =>
    let r := n.record
    let word := (recW r 896 &&& 0x00FFFFFFFFFFFFFF) ||| BitVec.ofNat 64 (n.status * 2 ^ 56)
    let s := if !canonical (recW r 832) || recF r 832 64 % 8 != 0 then s else
      match s.resolve (recDom r) .write (recW r 832) with
      | (s, .inl loc) => s.commit loc (natLe 8 word.toNat) false { level := 2, domain := BitVec.ofNat 6 (recDom r), host := false }
      | (s, .inr _) => s
    let s := s.setNode h none
    let s := { s with sync := { s.sync with bars := s.sync.bars.filter fun e => !(e.1.2.2.2 == h && decide (e.1.1 ≤ 2)) } }
    State.countSucc h (n.status != 0) n.issued n.succ s

def execNodeComplete (h : BitVec 14) (s : State) : Result := .next (if s.canComplete h.toNat then s.completeNode h.toNat else s)

end Sys2Proof.Machine
end

