-- ==== Sys2Proof/Machine/Place.lean ====
section
/-! DEFINITION. Place.lean: the dispatcher: placement of nodes, aging, start, pre-emption, resume and wake of strands
(12 R367 to R371, R380 to R382; 01 R28, R30; 09 R259, R296). -/

namespace Sys2Proof.Machine

/-! ### Instances (01 R28) -/

def scopeOf (w : Nat) : Nat := if w ≤ 4 then 1 else if w ≤ 16 then 2 else 3
def scopeCores (scope : Nat) : Nat := if scope = 1 then 4 else if scope = 2 then 16 else 128
def instCores (scope inst : Nat) : List Nat := (List.range (scopeCores scope)).map fun i => inst * scopeCores scope + i
/-- A waiting node that is pinned (12 R368). -/
def State.pinned (s : State) : Option Nat := (s.sched.nodes.find? fun e => ((e.2.map fun n => n.pinned && n.phase == 1)).getD false).map (·.1)
/-- The pinned node, seen from another. -/
def State.pinnedBut (s : State) (h : Nat) : Option Node := s.pinned.bind fun p => if p = h then none else s.node p
/-- A core that has become free since a node was pinned, in an instance able to hold that node, goes to no other (R368). -/
def State.coreKept (s : State) (h k : Nat) : Bool := match s.pinnedBut h with
  | none => false
  | some n =>
    let w := recWidth n.record
    let sc := scopeOf w
    !n.spare.contains k && decide (w ≤ ((instCores sc (k / scopeCores sc)).filter fun j => s.running (16 + j / 16)).length)
/-- A core that is idle for node `h`. -/
def State.idleFor (s : State) (h k : Nat) : Bool := s.idle k && !s.coreKept h k
/-- Instances with at least `w` cores idle for node `h`, in rising order. -/
def State.fits (s : State) (h scope w : Nat) : List Nat :=
  (List.range (128 / scopeCores scope)).filter fun i => decide (w ≤ ((instCores scope i).filter (s.idleFor h)).length)
/-- What a node or strand takes is no longer spare for the pinned node. -/
def State.takeSpare (s : State) (h : Nat) (ks : List Nat) : State := match s.pinned with
  | some p => if p = h then s else s.mapNode p fun n => { n with spare := n.spare.filter fun k => !ks.contains k }
  | none => s

/-! ### Stack groups (09 R259) -/

def State.boundStack (s : State) (st : Nat) : Bool := s.sched.nodes.any fun e => match e.2 with
  | some n => match n.group with
    | some g => decide (g.1 ≤ st) && decide (st < g.1 + g.2)
    | none => false
  | none => false
/-- The node needs a stack group of this size. -/
def Node.groupSize (n : Node) : Nat :=
  if recGlog n.record = 0 ∨ n.auto = some false then 0 else 2 ^ (recGlog n.record - 1)
/-- A stack kept for the pinned node: one of a group able to hold it. -/
def State.stackKept (s : State) (h st : Nat) : Bool := match s.pinnedBut h with
  | none => false
  | some n =>
    let g := n.groupSize
    g != 0 && !n.spare.contains (128 + st) && (List.range g).all fun p => s.running (st / g * g + p)
/-- Groups of `g` stacks free for node `h`, by first stack. -/
def State.freeGroups (s : State) (h g : Nat) : List Nat :=
  (List.range (16 / g)).map (· * g) |>.filter fun f => (List.range g).all fun p => !s.boundStack (f + p) && s.running (f + p) && !s.stackKept h (f + p)
/-- A replica under `key` matches a group: in every stack, with its size and position (09 R267). -/
def State.replicaIn (s : State) (f g : Nat) (key : Word) : Option Entry :=
  let entry (p : Nat) : Option Entry := ((stackOf s (f + p)).table.map (·.2)).find? fun e =>
    e.valid && e.key == key && 2 ^ e.glog == g && e.gpos == p
  if (List.range g).all fun p => (entry p).isSome then entry 0 else none
/-- A replica under `key` is resident in a group: STATE 2 in every stack (09 R259, R267). -/
def State.residentIn (s : State) (f g : Nat) (key : Word) : Bool :=
  (List.range g).all fun p => ((stackOf s (f + p)).table.map (·.2)).any fun e =>
    Entry.valid e && Entry.key e == key && 2 ^ Entry.glog e == g && Entry.gpos e == p && Entry.state e == 2
/-- The base of the node's first layout record; none without one. DESIGN CHOICE: a fault in reading it makes it no reference, and a
blot of it is ignored (09 R296, log 93). -/
def State.lref0 (s : State) (r : BitVec 1024) : Option Word :=
  if recW r 512 = 0 then none else
  match (State.readDom (recDom r) 2 (recW r 512) 8 s).2 with
  | .inl (bs, _) => some (BitVec.ofNat 64 (leNat bs))
  | .inr _ => none
/-- The group a node of size `g` takes: one where LREF0's base is resident, else the lowest. -/
def State.chooseGroup (s : State) (h : Nat) (r : BitVec 1024) (g : Nat) : Option Nat :=
  let fs := s.freeGroups h g
  match s.lref0 r with
  | some key => (fs.find? fun f => s.residentIn f g key).orElse fun _ => fs.head?
  | none => fs.head?

/-- R296: the AUTO decision of a node, with the group it binds. -/
def State.decideAuto (s : State) (h : Nat) : State :=
  match s.node h with
  | none => s
  | some n =>
    if recPlace n.record ≠ 3 ∨ n.auto.isSome then s else
    let g := 2 ^ (recGlog n.record - 1)
    let f := (s.freeGroups h g).find? fun f => match s.lref0 n.record with
      | some key => s.residentIn f g key
      | none => false
    match f with
    | some f =>
      if recF n.record 240 16 ≤ s.pkg.aithr.toNat then s.setNode h (some { n with auto := some true, group := some (f, g) })
      else s.setNode h (some { n with auto := some false })
    | none => s.setNode h (some { n with auto := some false })

/-- The runnable nests of a quad. -/
def State.quadNests (s : State) (q : Nat) : Nat :=
  ((List.range 4).filter fun i => (s.coreAt (4 * q + i)).nestRuns).length
def State.fewest (s : State) : List Nat → Option Nat
  | [] => none
  | q :: r => match s.fewest r with
    | none => some q
    | some p => if s.quadNests q ≤ s.quadNests p then some q else some p

/-- The strands that a placement of the node takes cores for: all, or those of a lost instance (11 R347). -/
def Node.width (n : Node) : Nat :=
  if n.moved then max 1 ((List.range 32).filter n.again.getLsbD).length else recWidth n.record
/-- The die of an instance of a quad or a die. -/
def dieOf (scope inst : Nat) : Nat := if scope = 1 then inst / 4 else inst
/-- Where node `h` can be placed now: instance and group (12 R367). One that lost its instance goes to another die. -/
def State.placement (s : State) (h : Nat) (n : Node) : Option (Nat × Option (Nat × Nat)) :=
  if n.moved then ((s.fits h n.scope n.width).find? fun i => dieOf n.scope i != dieOf n.scope n.inst).map fun i => (i, n.group) else
  let w := recWidth n.record
  let sc := scopeOf w
  let is := s.fits h sc w
  let g := n.groupSize
  if g = 0 then
    if recPlace n.record = 1 ∧ sc = 1 then (s.fewest is).map fun i => (i, none)
    else if is.isEmpty then none else (is[Config.choice s.freeCtr % is.length]?).map fun i => (i, none)
  else
    let f := match n.group with
      | some b => some b.1
      | none => s.chooseGroup h n.record g
    match f with
    | none => none
    | some f => ((is.find? fun i => (i * scopeCores sc) / 32 == f / 4).orElse fun _ => is.head?).map fun i => (i, some (f, g))

/-- A part's read that brings a blot is a fault of its own (12 R364). -/
def blotFault (va : Word) : PartFault := (0x09, 0, 0, (va >>> 6) <<< 6)
/-- The triage entry of a node that ends before its strands issue, for a fault of a read of its own (12 R364, R369). -/
def Node.rejects (n : Node) (h : Nat) (f : PartFault) : Report :=
  { kind := 3, cause := f.1, i0 := f.2.2.2, i1 := f.2.1, i2 := f.2.2.1, node := h, dom := recDom n.record, tag := recTag n.record }
/-- The argument block's 32 bytes for each of `k` strands, or the first fault or blot (12 R364). -/
def State.args (r : BitVec 1024) : Nat → State → State × (List (List Word) ⊕ PartFault)
  | 0, s => (s, .inl [])
  | k + 1, s =>
    match State.args r k s with
    | (s, .inr f) => (s, .inr f)
    | (s, .inl as) =>
      if recW r 448 = 0 then (s, .inl (as ++ [[0, 0, 0, 0]])) else
      let va := recW r 448 + BitVec.ofNat 64 (32 * k)
      match State.readDom (recDom r) 2 va 32 s with
      | (s, .inl (bs, false)) => (s, .inl (as ++ [(List.range 4).map fun j => BitVec.ofNat 64 (leNat ((bs.drop (8 * j)).take 8))]))
      | (s, .inl (_, true)) => (s, .inr (blotFault va))
      | (s, .inr f) => (s, .inr f)

/-! ### A strand on a core (01 R30, 12 R369, R371) -/

/-- The first-issue path: registers cleared, views and carve of the node record, s1 to s4 and s62. -/
def Core.start (c : Core) (n : Node) (h i : Nat) (entry : Word) (args : List Word) (fp : Word) (restart : Bool) (fromRec : Bool) (wait : Nat) : Core :=
  let r := n.record
  let dom := recDom r
  let other := match c.lastDom with
    | some d => d != dom
    | none => false
  let clear := max 1 (max (recF r 200 8) (max (recF r 216 8) (if other then 512 else 0)))
  let low := recSpneed r * 1024
  let top := 2 ^ 21 - recCarve r
  let scr : Scratch := if other then {} else if fromRec then
      { bytes := c.scr.bytes.filter fun e => decide (low ≤ e.1) && decide (e.1 < top)
        blots := c.scr.blots.filter fun e => decide (low ≤ e.1 * 64) && decide (e.1 * 64 < top) }
    else c.scr
  let base := c.vacate
  { base with
    strand := some { node := h, idx := i, dom := dom, tag := recTag r, restart := restart, group := n.group, scope := n.scope, inst := n.inst,
                     spneed := recSpneed r, ready := c.flow.run + clear + wait, ccb := !fromRec }
    pc := { folio := entry, slot := 1, entry := some { folio := entry, slot := 1, link := none } }
    sc := { s := [(1, args.getD 0 0), (2, args.getD 1 0), (3, args.getD 2 0), (4, args.getD 3 0), (62, fp)].foldl (fun m e => Store.set m e.1 e.2) []
            carve := BitVec.ofNat 22 (recCarve r), ovf := recW r 320 &&& 0x00FFFFFFFFFFFFFF, priv := if dom = 0 then 2 else 0 }
    x := { size := recF r 200 8 * 1024, vbase := recF r 192 8 * 512 }
    y := { size := recF r 216 8 * 1024, vbase := recF r 208 8 * 512 }
    scr := scr
    mat := { clear := 257 }
    lastDom := some dom }

/-- Barrier counters of a placed node: quad and die counters of its instance with EXP its strands there (11 R347). -/
def State.makeBars (s : State) (h scope inst w : Nat) (faulted : Bool := false) : State :=
  let one (s : State) (sc i b : Nat) : State := { s with sync := s.sync.setBar (sc, i, b, h) { exp := w, faulted := faulted } }
  if scope = 1 then
    let s := (List.range 4).foldl (fun s b => one s 1 inst b) s
    (List.range 16).foldl (fun s b => one s 2 (inst / 4) b) s
  else if scope = 2 then (List.range 16).foldl (fun s b => one s 2 inst b) s
  else s

/-- Place a node: its instance, group, barriers and strands, all in one dispatch (12 R369). -/
def State.place (s : State) (h inst : Nat) (grp : Option (Nat × Nat)) : State :=
  match s.node h with
  | none => s
  | some n =>
    let r := n.record
    let w := recWidth r
    let sc := scopeOf w
    match State.args r w s with
    | (s, .inr f) => (s.endNode h 2 false).triage (n.rejects h f)
    | (s, .inl as) =>
      let entry := if n.auto = some true then recW r 64 else recW r 0
      let n := { n with phase := 2, scope := sc, inst := inst, group := grp, live := BitVec.ofNat 32 (2 ^ w - 1), pinned := false, spare := [], placedAt := s.wall }
      let s := (s.setNode h (some n)).makeBars h sc inst w
      let s : State := match grp with
        | some g => (List.range g.2).foldl (fun s p => s.setStack (g.1 + p) { stackOf s (g.1 + p) with resetSince := false }) s
        | none => s
      let wait := if n.ccb.isEmpty then 0 else Config.delay s.freeCtr
      let cores := ((instCores sc inst).filter (s.idleFor h)).take w
      let s := s.takeSpare h (cores ++ ((grp.map fun g => (List.range g.2).map fun p => 128 + g.1 + p).getD []))
      ((List.range w).foldl (fun s i =>
        let k := cores.getD i 0
        let a := as.getD i []
        let s := s.setRec h i (makeRec (r.getLsbD 139) (r.getLsbD 138) false entry 0 0 0 0 (recTag r) h i a)
        s.setCoreAt k ((s.coreAt k).start n h i entry a 0 (r.getLsbD 139) false wait)) s).bump

/-- A strand starts from its record (12 R371). -/
def State.fromRecord (s : State) (n : Node) (h i k : Nat) : State :=
  let rec_ := s.contRec h i
  let args := (List.range 4).map fun j => rec_.extractLsb' (256 + 64 * j) 64
  let s := { s with sched := { s.sched with saved := s.sched.saved.set (recordKey h i) none } }
  (s.setRec h i (recState rec_ 0)).setCoreAt k ((s.coreAt k).start n h i (recResume rec_) args (rec_.extractLsb' 64 64) (rec_.getLsbD 0) true 0)
/-- The node's strands together in a fresh instance: fresh counters, with FAULTED set and EXP the strands that it has (11
R347). -/
def State.replace (s : State) (h inst : Nat) : State :=
  match s.node h with
  | none => s
  | some n =>
    let is := (List.range 32).filter n.again.getLsbD
    let n := { n with inst := inst, moved := false, again := 0, placedAt := s.wall }
    let cores := ((instCores n.scope inst).filter (s.idleFor h)).take is.length
    let s := ((s.setNode h (some n)).takeSpare h cores).makeBars h n.scope inst ((List.range 32).filter fun i => n.live.getLsbD i && !n.spawned.getLsbD i).length true
    (is.zip cores).foldl (fun s x => s.fromRecord n h x.1 x.2) s

/-! ### The pool's order (12 R367, R368) -/

/-- The items of the pool, level 3 to 0, oldest first. -/
def State.poolItems (s : State) : List (Nat × Option Nat) :=
  s.sched.fifo.get 3 ++ s.sched.fifo.get 2 ++ s.sched.fifo.get 1 ++ s.sched.fifo.get 0

/-- An idle core of the node's instance for a strand that returns (12 R370). -/
def State.coreFor (s : State) (h : Nat) : Option Nat :=
  (s.node h).bind fun n => if n.moved then none else (instCores n.scope n.inst).find? (s.idleFor h)

/-- The item can go now. -/
def State.placeable (s : State) (x : Nat × Option Nat) : Bool :=
  match x.2 with
  | some i => (s.coreFor x.1).isSome && ((s.sched.saved.get (recordKey x.1 i)).isSome)
  | none => match s.node x.1 with
    | some n => (s.placement x.1 n).isSome
    | none => false

def Sched.remove (k : Sched) (x : Nat × Option Nat) : Sched :=
  { k with fifo := [0, 1, 2, 3].foldl (fun f l => f.set l ((f.get l).filter fun y => y != x)) k.fifo }

/-- The dispatcher may work: READY, and no checkpoint or restore in progress (15 R453, R455, R458). -/
def State.dispatching (s : State) : Bool := s.ready && !s.host.ckptCtl.getLsbD 2 && !s.host.freeze && !s.host.d3hot
/-- The dispatcher's search: the first item that can go. An AUTO node is decided, once, as the search reaches it (09 R296). -/
def State.search : List (Nat × Option Nat) → State → State × Option (Nat × Option Nat)
  | [], s => (s, none)
  | x :: r, s =>
    let t := if x.2.isNone then s.decideAuto x.1 else s
    if t.placeable x then (t, some x) else State.search r t
/-- The pool with the decisions of a search. -/
def State.decided (s : State) : State := if s.dispatching then (State.search s.poolItems s).1 else s
/-- The first item that can go. -/
def State.nextItem (s : State) : Option (Nat × Option Nat) := if s.dispatching then (State.search s.poolItems s).2 else none

/-- Each older node of the level that stays unplaced counts one pass (12 R368). -/
def State.passOver (s : State) (h : Nat) : State :=
  match s.node h with
  | none => s
  | some n => ((s.sched.fifo.get n.level).takeWhile fun x => x != (h, none)).foldl (fun s x =>
      if x.2.isNone then s.mapNode x.1 fun m => { m with pass := m.pass + 1 } else s) s

/-- Place a node that the search has found. -/
def State.dispatch_ (s : State) (h inst : Nat) (grp : Option (Nat × Nat)) : State :=
  let s := s.passOver h
  let s : State := { s with sched := s.sched.remove (h, none) }
  if ((s.node h).map (·.moved)).getD false then s.replace h inst else s.place h inst grp

/-- NODE_DISPATCH: the dispatcher places the first node that it can (12 R367 to R369). -/
def execNodeDispatch (s : State) : Result :=
  .next (
    let x := s.nextItem
    let s := s.decided
    match x with
    | some (h, none) => match (s.node h).bind (s.placement h) with
      | some (inst, grp) => s.dispatch_ h inst grp
      | none => s
    | _ => s)

/-- NODE_AGING: at 64 passes a node moves to the next level's tail; at level 3 it becomes pinned, one at a time (R368). -/
def execNodeAging (h : BitVec 14) (s : State) : Result :=
  .next (match s.node h.toNat with
    | none => s
    | some n =>
      if n.pass < 64 ∨ n.phase ≠ 1 then s
      else if n.level < 3 then
        let s := s.setNode h.toNat (some { n with level := n.level + 1, pass := 0 })
        { s with sched := (s.sched.remove (h.toNat, none)).push (n.level + 1) (h.toNat, none) }
      else if s.pinned.isNone then s.setNode h.toNat (some { n with
        pinned := true
        spare := (List.range 128).filter s.idle ++ ((List.range 16).filter fun k => !s.boundStack k && s.running k).map (128 + ·) })
      else s)

/-- One copy of the copy control block into this core's scratchpad, 64 bytes at a time (12 R369). -/
def State.ccbCopy (dom : Nat) (src : Word) (dst : Nat) : Nat → State → State ⊕ PartFault
  | 0, s => .inl s
  | k + 1, s => match State.ccbCopy dom src dst k s with
    | .inr f => .inr f
    | .inl s =>
      match State.readDom dom 2 (src + BitVec.ofNat 64 (64 * k)) 64 s with
      | (s, .inl (bs, blot)) => .inl (s.mapCore fun c => { c with scr := c.scr.put (plainBytes (dst + 64 * k) bs blot) })
      | (_, .inr f) => .inr f
/-- The copies of the copy control block, or the first fault; a block that no copy instruction could name faults as one would. -/
def State.ccbCopies (dom : Nat) : List (Word × Word × Word) → State → State ⊕ PartFault
  | [], s => .inl s
  | d :: r, s =>
    let n := d.2.2.toNat
    if n % 64 ≠ 0 then .inr (0x07, 0, 0, d.2.2)
    else if 2 ^ 21 < d.2.1.toNat + n then .inr (0x02, BitVec.ofNat 64 (2 ^ 64 - 1), 0, if d.2.1.toNat < 2 ^ 21 then BitVec.ofNat 64 (2 ^ 21) else d.2.1) else
    match State.ccbCopy dom d.1 d.2.1.toNat (n / 64) s with
    | .inl s => State.ccbCopies dom r s
    | .inr f => .inr f

/-- STRAND_START: the clears and copies are done; the strand may issue, and an EARLY successor counts it (01 R30, 12
R366, R369). -/
def execStrandStart (s : State) : Result :=
  .next (match s.core.strand with
    | none => s
    | some t =>
      if t.started || decide (s.core.flow.run < t.ready) then s else
      match s.node t.node with
      | none => s
      | some n =>
        match (if t.ccb then State.ccbCopies t.dom n.ccb s else .inl s) with
        | .inr f => (s.endNode t.node 2 false).triage { n.rejects t.node f with strand := t.idx }
        | .inl s =>
          let s := s.mapCore fun c => { c with strand := some { t with started := true } }
          let s := s.setRec t.node t.idx (recState (s.contRec t.node t.idx) 1)
          if n.issued then s else
          n.succ.foldl (fun s q => (s.mapNode q fun m => { m with early := m.early - 1 }).checkReady q) (s.setNode t.node (some { n with issued := true })))

/-! ### Pre-emption, write-back and resume (12 R380 to R382) -/

/-- PREEMPTION_REQUEST for a strand, by the dispatcher or a supervisor. -/
def execPreemptionRequest (h : BitVec 14) (i : BitVec 5) (s : State) : Result :=
  .next (match s.coreOf h.toNat i.toNat with
    | none => s
    | some k =>
      let c := s.coreAt k
      s.setCoreAt k { c with strand := c.strand.map fun t => { t with preempt := true } })

/-- The victims the dispatcher would pre-empt for the first node it cannot place: strands of one instance, of lower
level, long waits first, then lowest level, then most recent placement. -/
structure Victim where
  core : Nat
  long : Bool
  level : Nat
  placed : Nat
  deriving DecidableEq, Repr
def Victim.before (a b : Victim) : Bool :=
  if a.long != b.long then a.long else if a.level != b.level then decide (a.level < b.level) else decide (b.placed ≤ a.placed)
def insertVictim (v : Victim) : List Victim → List Victim
  | [] => [v]
  | x :: r => if x.before v then x :: insertVictim v r else v :: x :: r
/-- Its strand is on its way out: a request stands, or it is being written back. -/
def Core.leaving (c : Core) : Bool := (c.strand.map fun t => t.preempt || t.dormant).getD false
/-- The strands to ask in one instance; none are where enough are on their way out already. -/
def State.victimsIn (s : State) (n : Node) (inst : Nat) : Option (List Nat) :=
  let sc := scopeOf (recWidth n.record)
  let cs := instCores sc inst
  let idle := (cs.filter s.idle).length + (cs.filter fun k => (s.coreAt k).leaving).length
  let vs := cs.foldl (fun l k => match (s.coreAt k).strand with
    | some t => match s.node t.node with
      | some m => if m.level < n.level ∧ !(s.coreAt k).leaving then insertVictim ⟨k, decide (4096 ≤ t.waitRuns), m.level, m.placedAt⟩ l else l
      | none => l
    | none => l) []
  let need := recWidth n.record - idle
  if need ≤ vs.length then some ((vs.take need).map (·.core)) else none
def State.victims (s : State) : List Nat :=
  if !s.dispatching then [] else
  match (s.poolItems.find? fun x => x.2.isNone).bind fun x => (s.node x.1).map fun n => (x.1, n) with
  | none => []
  | some (h, n) =>
    if (s.placement h n).isSome || (n.groupSize != 0 && n.group.isNone && (s.chooseGroup h n.record n.groupSize).isNone) then [] else
    let asks := (List.range (128 / scopeCores (scopeOf (recWidth n.record)))).filterMap fun i => s.victimsIn n i
    if asks.contains [] then [] else asks.headD []

/-- The written-back strand goes to the pool, or waits in STATE 3 for its word (12 R370, R375). -/
def State.returnToPool (s : State) (h i : Nat) : State :=
  match s.node h with
  | none => s
  | some n =>
    let s := s.setRec h i (recState (s.contRec h i) 2)
    { s with sched := s.sched.push n.level (h, some i) }

/-- A macro in a context image (09 R294): an abandoned product restarts whole; a transfer keeps what it has left; what has
ended in a stack stays so. -/
def Macro.image (m : Macro) : Macro :=
  let whole := match m.kind with
    | .product .. => true
    | _ => false
  { m with
    pos := m.pos.map fun q => if q.ended && !whole then q else q.stopped
    outAt := none
    produced := false
    faulted := false
    wait := {} }
/-- What the drain before an image leaves of a pending signal's conditions is only that effects which left the hold are
performed: it counts as given (05 R156). A signal whose engine instruction goes on after the resume, whose result is still
pending or whose load has not landed stays pending (16 R467, 12 R382; log 43). -/
def Core.settledSig (c : Core) (g : Sig) : Bool := match g.ended with
  | some n => !c.working g.prod n
  | none => decide (g.cyc ≤ c.flow.cycle) && g.lands.all fun l => !c.lands.any (·.id == l)
/-- Everything the strand still has on its way has arrived (R381); what its copies wrote is performed (10 R332), and so is what a
signal that counts as given covers (05 R156, 17 R475). -/
def State.drained (s : State) : Bool :=
  s.core.lands.all s.arrived && s.core.scrNext.isEmpty && !s.bankBusy && (s.core.hold.all fun e => e.owner != s.core.owner)
    && (!s.net.any fun m => m.owner == s.core.owner && m.stream == 4 && !m.kind.query)
    && s.core.sigs.all fun g => !s.core.settledSig g || s.performed g.perf

/-- The channel (bit 7 set) or fabric port that a STALL names still retrains (10 R326, 13 R395). -/
def State.stillOut (s : State) (w : Nat) : Bool := if 128 ≤ w then s.drawer.retrain.contains (w % 128) else s.fab.retrain.getLsbD (w % 16)

/-- The matrix part of a context image (08 R254): drains and transfers restart from their first row. Its bytes hold the ring slots in
RES or OCC and the pinned slots; what the free slots hold stays beside them, as 16 R467 has it (log 40). -/
def MatCtx.image (m : MatCtx) : MatCtx :=
  { m with
    drains := m.drains.map fun d => { d with row := 0, started := false, faulted := false, wait := {} }
    xfers := m.xfers.map fun x => { x with row := 0, faulted := false, wait := {} } }
/-- Give the settled signals, each pair's in issue order; `kept` are the signals that stay pending. -/
def Core.settleSigs (c : Core) : List Sig → List Sig → Core
  | [], _ => c
  | g :: r, kept => if c.settledSig g && !kept.any fun h => h.prod == g.prod && h.cons == g.cons then (c.give g).settleSigs r kept
    else c.settleSigs r (g :: kept)
def Core.toImage (c : Core) : Core :=
  let c := c.settleSigs c.sigs []
  { c with
    hold := []
    macros := (c.macros.filter fun m => !m.produced).map Macro.image
    mat := c.mat.image }
/-- PREEMPTION: at point p the strand stops; once its effects have left and its data has arrived, its image is taken and
its core is free (R380, R381). -/
def execPreemption (s : State) : Result :=
  .next (match s.core.strand with
    | none => s
    | some t =>
      if !t.dormant then
        if t.preempt && !s.core.trap.active && !s.core.unsettled then (s.stopStrand false).1 else s
      else if !s.drained then s
      else
        let img := s.core.toImage
        let bytes := img.imageChunk
        let area := t.save.getD (0, 0)
        let area := (area.1, min area.2 (ceilDiv bytes.1 4096 * 4096))
        let s := s.setRec t.node t.idx ((s.contRec t.node t.idx &&& ~~~((0xFFFFFFFFFFFFFF : BitVec 512) <<< 128)) ||| 4
          ||| (BitVec.ofNat 512 (area.2 / 4096 % 4096) <<< 128) ||| (BitVec.ofNat 512 (area.1 / 4096) <<< 140))
        let s : State := if area.2 = 0 then s else
          { s with mem := s.mem.putChunk area.1 bytes (min (area.1 + area.2) s.mem.installed) img.imageBlots }
        let saved : Saved := { core := some img, parked := t.parked, waitCh := t.waitCh, area := area }
        let s := { s with sched := { s.sched with saved := s.sched.saved.set (recordKey t.node t.idx) (some saved) } }
        let s := s.mapCore Core.vacate
        if t.parked || (t.waitCh.map s.stillOut).getD false then s.setRec t.node t.idx (recState (s.contRec t.node t.idx) 3) else s.returnToPool t.node t.idx)

/-- The saved bytes below `low` and from `top` up, over what the core holds between them. -/
def mixStore {α : Type} [Inhabited α] [DecidableEq α] (unit low top : Nat) (here saved : Store α) : Store α :=
  (saved.filter fun e => decide (e.1 * unit < low) || decide (top ≤ e.1 * unit)).foldl (fun m e => m.set e.1 e.2)
    (here.filter fun e => decide (low ≤ e.1 * unit) && decide (e.1 * unit < top))

/-- A context image loaded on a core (R381, R382): strand state from the image, core state from the core. -/
def Core.adopt (here img : Core) : Core :=
  let low := (img.strand.map fun t => t.spneed * 1024).getD 0
  let top := 2 ^ 21 - img.sc.carve.toNat
  { img with
    strand := img.strand.map fun t => { t with dormant := false, preempt := false, parked := false, save := none }
    scr := { bytes := mixStore (α := Byte) 1 low top here.scr.bytes img.scr.bytes, blots := mixStore 64 low top here.scr.blots img.scr.blots }
    hold := here.hold
    fences := []
    pc := img.pc
    macros := img.macros.map fun m => { m with issue := here.flow.run }
    flow := { img.flow with run := here.flow.run, conf := here.flow.conf, dom := here.flow.dom, begun := false, frozen := false, stall := 0, throttled := false, dispatched := false, issued := [] }
    trap := { vec := here.trap.vec }
    strike := here.strike, tlbStat := here.tlbStat
    icache := [], fills := [], tlb := [], walks := [], wfaults := []
    lastDom := img.strand.map (·.dom) }

/-- STRAND_RESUME: an idle core of the node's instance picks up the strand, from its image or from its record (12 R370,
R371, R382). -/
def execStrandResume (s : State) : Result :=
  .next (match s.nextItem with
    | some (h, some i) => match s.coreFor h, s.node h, s.sched.saved.get (recordKey h i) with
      | some k, some n, some sv =>
        let rec_ := s.contRec h i
        let s := s.takeSpare h [k]
        let s := { s with sched := { (s.sched.remove (h, some i)) with saved := s.sched.saved.set (recordKey h i) none } }
        match sv.core.map fun c => if sv.area.2 = 0 then c else c.loadImage s.mem sv.area.1 sv.area.2 with
        | some img =>
          let s := s.setRec h i (recState (rec_ &&& ~~~(4 : BitVec 512)) 1)
          let q := quadOf s (k / 4)
          let s := s.setQuad (k / 4) { q with epi := q.epi ++ img.mat.drains.map fun d => (k, d.seq) }
          s.setCoreAt k ((s.coreAt k).adopt { img with mat := { img.mat with drains := img.mat.drains.map fun d => { d with issued := q.cyc, floor := 0 } } })
        | none => s.fromRecord n h i k
      | _, _, _ => s
    | _ => s)

/-- SUSPEND_WAKE: the word satisfied the condition; the record takes STATE 2 (12 R375). -/
def execSuspendWake (h : BitVec 14) (i : BitVec 5) (s : State) : Result :=
  let x := (h.toNat, i.toNat)
  let k := recordKey x.1 x.2
  .next (if s.sched.woken.contains x && ((s.sched.saved.get k).map (·.parked)).getD false then
      let saved := s.sched.saved.set k ((s.sched.saved.get k).map fun v => { v with parked := false })
      { s with sched := { s.sched with woken := s.sched.woken.erase x, saved := saved } }.returnToPool x.1 x.2
    else s)

/-! ### Restart and loss (14 R437, R444) -/

/-- A strand ends without resuming: its core state and effects in holds are discarded. -/
def State.loseStrand (s : State) (k : Nat) : State :=
  let c := s.coreAt k
  let o := c.owner
  ((s.dropQueries c.queries).setCoreAt k c.vacate).mapCores fun c => { c with hold := c.hold.filter fun e => e.owner != o }

/-- RESTARTABLE: the strand takes STATE 2 and starts again from its record; otherwise its tag is purged. -/
def State.restartOrPurge (s : State) (k : Nat) : State :=
  match (s.coreAt k).strand with
  | none => s
  | some t =>
    if t.restart then
      let s := s.loseStrand k
      let s := { s with sched := { s.sched with saved := s.sched.saved.set (recordKey t.node t.idx) (some { core := none }) } }
      s.returnToPool t.node t.idx
    else (s.purge t.dom t.tag).1

end Sys2Proof.Machine
end

