-- ==== Sys2Proof/Machine/SyncEv.lean ====
section
/-! DEFINITION. SyncEv.lean: what arrives at the synchronisation engines, barrier networks, ready pool and back at the
cores: SYNC_REQUEST_APPLY, BARRIER_ARRIVAL, JOIN_ARRIVAL, QUERY_REPLY (11 R337 to R360, 12 R377 to R379). -/

namespace Sys2Proof.Machine

/-- A change of the held instruction numbered `id`, on whatever core it is or in whatever image (11 R360, 12 R379). -/
def State.mapHeld (s : State) (id : Nat) (f : Held → Held) : State :=
  let g (c : Core) : Core := if c.helds.any (·.id == id) then { c with helds := c.helds.map fun h => if h.id == id then f h else h } else c
  let s := s.mapCores g
  { s with sched := { s.sched with saved := s.sched.saved.map fun e => (e.1, e.2.map fun v => { v with core := v.core.map g }) } }

/-- A returning atomic's reply enters the landing buffer (11 R343, R345). -/
def State.landReply (s : State) (id at_ : Nat) (bs : List Byte) (blot : Bool) (eng : Option Nat := none) : State :=
  s.mapCores fun c => if c.lands.any (·.id == id) then
    { c with lands := c.lands.map fun l => if l.id == id then { l with data := some (bs, blot), readyAt := at_, eng := eng } else l } else c

/-- Engine `q` accepts a run, reading its header, or the request waits while 8 runs wait (13 R402, R410). -/
def State.acceptRun (s : State) (m : Msg) (q : Nat) (va : Word) (held : Nat) : State :=
  let c := (s.fab.coll.get q).getD {}
  if 8 ≤ (c.runs.filter fun r => !r.started).length then { s with net := s.net ++ [{ m with at_ := s.wall + 1 }] } else
  let ticket := if c.count = -1 then 1 else c.count.toNat + 1
  let dom := m.src.domain.toNat
  let tag := ((s.node (m.owner / 32)).map fun n => recTag n.record).getD 0
  let level := m.src.level.toNat
  match State.readAt dom level 2 va 64 s with
  | (s, .inr f) => s.reply m.core 0 held 0 (some { cause := f.1, stream := 0, slot := 0, pc := 0, i0 := va, i1 := f.2.1 })
  | (s, .inl (bs, _)) =>
    let run : Run := { ticket := ticket, core := m.core, dom := dom, level := level, tag := tag, va := va, header := BitVec.ofNat 512 (leNat bs) }
    let coll : Coll := { runs := c.runs ++ [run], count := BitVec.ofNat 32 ticket }
    State.reply { s with fab := { s.fab with coll := s.fab.coll.set q (some coll) } } m.core 0 held (BitVec.ofNat 64 ticket) none

/-- The key of its source's replies at the engine that applies a message. -/
def Msg.txnKey (m : Msg) : Option Nat := m.kind.engine.map fun q => Machine.txnKey m.source q
/-- The engine's reply to a message that repeats one that it has applied (11 R338). -/
def State.repeated (s : State) (m : Msg) : Option (Word × Bool) := m.txnKey.bind fun k => s.sync.cached k m.txn
def State.noteReply (s : State) (m : Msg) (v : Word) (blot : Bool := false) : State := match m.txnKey with
  | some k => { s with sync := s.sync.cacheReply k m.txn v blot }
  | none => s
/-- The reply of an atomic on its way to the core. -/
def State.atomicReply (s : State) (m : Msg) (loc w v : Nat) (blot : Bool) : Option Nat → State
  | none => s
  | some id =>
    let t := enginePath m.core (homeQuad loc)
    (s.landReply id (s.wall + t + s.contend (.reply id 0 none) m.core t) (natLe w v) blot (some (homeQuad loc))).bump
/-- A repeated request receives the cached reply and is not applied again. -/
def State.replyAgain (s : State) (m : Msg) (v : Word) (blot : Bool) : State :=
  let again (held : Nat) : State :=
    s.reply m.core (enginePath m.core (m.kind.engine.getD 0)) held v (blotTrap blot) m.kind.engine
  match m.kind with
  | .atomic loc w _ _ _ _ land => s.atomicReply m loc w v.toNat blot land
  | .watch _ _ _ _ _ held => again held
  | .unwatch _ held => again held
  | .jwait _ held => again held
  | .waitw _ _ _ _ held => again held
  | .bwait _ _ _ _ _ held => again held
  | _ => s

/-- One request applied, its message gone. -/
def State.applyRequest (s : State) (m : Msg) : State :=
  let h := m.owner / 32
  let i := m.owner % 32
  match m.kind with
  | .atomic loc w op v c n land =>
    let r := State.applyAmo { s with sync := s.sync.touch loc } loc w op n v c m.src
    let s := (r.1.noteReply m (BitVec.ofNat 64 r.2.1) r.2.2).atomicReply m loc w r.2.1 r.2.2 land
    if r.2.2 then s else s.squash m.core [(loc, w)]
  | .watch loc cond w32 v recLoc held =>
    let r := State.arm { s with sync := s.sync.touch loc } loc cond w32 v recLoc m.src.domain.toNat
    (r.1.noteReply m r.2).reply m.core (enginePath m.core (homeQuad loc)) held r.2 none (some (homeQuad loc))
  | .unwatch hd held =>
    let r := s.disarm hd m.src.domain.toNat
    (r.1.noteReply m r.2.1).reply m.core (enginePath m.core (hd.toNat / 64 % 4)) held r.2.1 r.2.2 m.kind.engine
  | .trig => s.mapNode h fun n => { n with trig := n.trig ||| (1 <<< i) }
  | .spawn r held => let x := s.spawnStrand h r; x.1.reply m.core 0 held x.2 none
  | .nsub r lv held =>
    match s.freeSlot with
    | none => { s with net := s.net ++ [{ m with at_ := s.wall + 1 }] }
    | some k =>
      let s := s.commitRecord k r { level := BitVec.ofNat 2 lv, domain := m.src.domain, host := false }
      let bad := ((s.node k).map fun n => n.phase == 3).getD true
      s.reply m.core 0 held (if bad then 0x8000000000000002 else BitVec.ofNat 64 k) none
  | .fire dom loc =>
    let va : Word := BitVec.ofNat 64 loc
    let s := s.inject loc 128 false
    let blot := s.mem.blotted loc 128
    if blot || loc % 128 != 0 then s.triage { kind := 6, cause := if blot then 0x09 else 0x07, i0 := va, dom := dom } else
    (match s.freeSlot with
    | none => { s with net := s.net ++ [{ m with at_ := s.wall + 1 }] }
    | some k => s.commitRecord k (BitVec.ofNat 1024 (leNat (s.bytesAt loc 128))) { level := if dom = 0 then 2 else 0, domain := BitVec.ofNat 6 dom, host := false } 6)
  | .prio v held => let x := s.relevel h v; x.1.reply m.core 0 held x.2 none
  | .purge tag dom held =>
    let x := s.purge dom tag
    x.1.reply m.core 0 held (if x.2 then 0 else 1) none
  | .clrun q va held => s.acceptRun m q va held
  | _ => s

/-- SYNC_REQUEST_APPLY: an engine or the pool applies the first request that has reached it (11 R341, R357, R359). -/
def execSyncRequestApply (s : State) : Result :=
  .next (match s.firstMsg 1 with
    | none => s
    | some m => match s.repeated m with
      | some v => (s.dropMsg m.id).replyAgain m v.1 v.2
      | none => (s.dropMsg m.id).applyRequest m)

/-- BARRIER_ARRIVAL: a counter counts one arrival; a BAR then waits on the phase in which it was counted (R346, R352). -/
def execBarrierArrival (s : State) : Result :=
  .next (match s.firstMsg 2 with
    | none => s
    | some m => if (s.repeated m).isSome then s.dropMsg m.id else match m.kind with
      | .barrier sc inst b node held =>
        let k := (sc, inst, b, node)
        let s := (s.dropMsg m.id).noteReply m 0
        let t := (s.sync.bar k).p
        (match held with
        | none => s.arriveBar k
        | some id =>
          let waiting := s.liveCores.any fun x => (s.coreAt x).helds.any fun h => h.id == id && h.stage == 1
          let s := s.mapHeld id fun h => { h with stage := if h.stage = 2 then 3 else 4, v := BitVec.ofNat 64 t }
          let s := if waiting then { s with sync := s.sync.setBar k { s.sync.bar k with waiters := (s.sync.bar k).waiters ++ [(m.core, id, t, m.txn)] } } else s
          s.arriveBar k)
      | _ => s)

/-- JOIN_ARRIVAL: an arrival or fault mark at a join object (11 R354). -/
def execJoinArrival (s : State) : Result :=
  .next (match s.firstMsg 3 with
    | none => s
    | some m => if (s.repeated m).isSome then s.dropMsg m.id else match m.kind with
      | .join loc flt p => (State.noteReply { s.dropMsg m.id with sync := s.sync.touch loc } m 0).joinArrive loc flt p m.src
      | _ => s.dropMsg m.id)

/-- A waiter at an engine: answered at once if it holds, else kept. -/
def State.addWaiter (s : State) (w : Waiter) : State :=
  let s := State.inject { s with sync := s.sync.touch w.loc } w.loc w.size false
  if w.wakes s then s.wake w else { s with sync := { s.sync with waiters := s.sync.waiters ++ [w] } }

/-- QUERY_REPLY: a query is evaluated where it arrives, or its reply reaches the core (11 R351, R355, R356). -/
def execQueryReply (s : State) : Result :=
  .next (match s.firstMsg 4 with
    | none => s
    | some m => match s.repeated m with
    | some v => (s.dropMsg m.id).replyAgain m v.1 v.2
    | none =>
      let s := s.dropMsg m.id
      match m.kind with
      | .bwait sc inst b node t held =>
        s.queryBar (sc, inst, b, node) m.core t held m.txn { cause := 0x11, stream := 0, slot := 0, pc := 0, i0 := BitVec.ofNat 64 t }
      | .jwait loc held => s.addWaiter ⟨m.core, held, loc, 1, 0, false, 0, 0, 0, m.txn⟩
      | .waitw loc cond w32 v held => s.addWaiter ⟨m.core, held, loc, if cond = 8 then 3 else 0, cond, w32, v, 0, 0, m.txn⟩
      | .suspend loc cond w32 v => s.addWaiter ⟨m.core, 0, loc, 2, cond, w32, v, m.owner / 32, m.owner % 32, m.txn⟩
      | .reply held v f => s.mapHeld held fun h => if h.stage = 2 ∨ h.stage = 3 then h else { h with reply := some (v, f) }
      | _ => s)

end Sys2Proof.Machine
end

