-- ==== Sys2Proof/Machine/Fabric.lean ====
section
/-! DEFINITION. Fabric.lean: the fabric instructions, requests at this package's port logic, replies to its own, and the
peer ports (13 R386 to R401, R406, R410). -/

namespace Sys2Proof.Machine

/-! ### Routes (13 R389) -/

/-- A package that can be reached: itself, or one of the pod with a valid and live route. -/
def Fabric.reach (f : Fabric) (t : Nat) : Bool :=
  if t = f.own then true else
  let r := f.route t
  decide (t ≤ (f.podId >>> 8).toNat % 256) && ((r.getLsbD 8 && r.getLsbD 10) || (r.getLsbD 9 && r.getLsbD 11))
/-- The floor of a round trip: RTT of the route, 64 cycles to itself (13 R389, R390). -/
def Fabric.rtt (f : Fabric) (t : Nat) : Nat := if t = f.own then 64 else ((f.route t) >>> 16).toNat % 65536

/-! ### The request side -/

/-- Resolve a fabric address: Table 5.8's faults, with the map-range bit outside the peer export range (13 R395). -/
def State.fabXlate (s : State) (u : Use) (va : Word) : Loc :=
  let dom := s.core.dom
  if !canonical va then .bad 0x05 va 1 else
  match tlbFind dom va.toNat s.core.tlb with
  | none => (match s.core.walkFault dom va with
    | some w => .bad w.cause va w.i1
    | none => .miss va)
  | some e =>
    let pa := e.pa + (va.toNat - e.va)
    if e.owner ≠ dom then .bad 0x08 va (BitVec.ofNat 64 e.owner) else
    let bits := (if u = .write ∧ !e.w then 1 else 0) + (if s.core.level = 0 ∧ !e.app then 4 else 0)
      + (if rangeOf pa = .peer then 0 else 8) + (if s.keyOk e.key then 0 else 16)
    if bits ≠ 0 then .bad 0x06 va (BitVec.ofNat 64 bits) else .ok pa

def fabTarget (pa : Nat) : Nat := pa / 2 ^ 42 % 256
def fabOffset (pa : Nat) : Nat := pa % 2 ^ 42

/-- Requests to a package that are not acknowledged, or still in a hold (13 R400). -/
def State.unacked (s : State) (t : Nat) : Nat :=
  (s.fab.out.filter (·.target == t)).length
    + ((s.liveCores.map fun k => ((s.coreAt k).hold.filter fun e => match e.kind with
        | .fabric _ t' _ _ => t' == t
        | _ => false).length).sum)

/-- The strand's earlier fabric accesses to a target: number, whether it writes, its offset and length. -/
def State.fabEarlier (s : State) (t : Nat) : List (Nat × Bool × Nat × Nat) :=
  let one (id : Nat) (r : FabReq) : Nat × Bool × Nat × Nat :=
    (id, fabEffect r.op, r.off.toNat, match r.op with
      | .read n => n
      | _ => r.data.length)
  (s.fab.out.filter fun f => f.target == t && f.owner == some s.core.owner).map (fun f => one f.id f.req)
    ++ (s.own.filterMap fun e => match e.kind with
      | .fabric r t' _ _ => if t' = t then some (one e.id r) else none
      | _ => none)
/-- What a request is performed after (13 R398): overlapping accesses, and for a flag every earlier write. -/
def State.fabAfter (s : State) (t off n : Nat) (flag : Bool) : List Nat :=
  ((s.fabEarlier t).filter fun e => (flag && e.2.1) || (decide (off < e.2.2.1 + e.2.2.2) && decide (e.2.2.1 < off + n))).map (·.1)

/-- A request that leaves for its target now (13 R400); on the package's own loopback its queueing takes a free count of frame
times (13 R389, R390). -/
def State.fabSend (s : State) (id : Nat) (owner : Option Nat) (cls t : Nat) (land : Option Nat) (r : FabReq) (after : List Nat) (tr : Trap) : State :=
  let n := s.fab.txn.get t
  let r := { r with txn := n, origin := BitVec.ofNat 8 s.fab.own, target := BitVec.ofNat 8 t }
  let mine := decide (t = s.fab.own)
  let now := if owner.isSome then s.core.flow.dom else s.wall
  let o : FabOut := {
    id := id, owner := owner, core := s.id, cls := cls, target := t, txn := n, land := land, req := r, after := after, trap := tr,
    floor := now + s.fab.rtt t + (if mine then 8 * Config.delay s.freeCtr else 0) }
  { s with
    freeCtr := s.freeCtr + (if mine then 1 else 0)
    fab := { s.fab with out := s.fab.out ++ [o], txn := s.fab.txn.set t ((n + 1) % 65536) } }

/-- Cycles that a request's round trip still lacks to its floor (13 R390). -/
def State.fabLeft (s : State) (o : FabOut) : Nat := o.floor - if o.owner.isSome then (s.coreAt o.core).flow.dom else s.wall

/-- The target package that an address reaches, where its page lies in the peer export range: what TRAP_INFO1 of a fault at
dispatch holds (13 R401); with no such page it holds what 14 Table 14.4 gives (log 38). -/
def State.peerOf (s : State) (va other : Word) : Word :=
  match if canonical va then tlbFind s.core.dom va.toNat s.core.tlb else none with
  | some e => let pa := e.pa + (va.toNat - e.va)
    if rangeOf pa = .peer then BitVec.ofNat 64 (fabTarget pa) else other
  | none => other
/-- Go on with the physical address of a fabric access, its target reachable and under its request limit. -/
def State.atPeer (s : State) (va : Word) (align : Nat) (u : Use) (k : Nat → State) : State :=
  if va.toNat % align ≠ 0 then s.raise 0x07 va (s.peerOf va 0) else
  match s.fabXlate u va with
  | .bad c i0 i1 => s.raiseLoc c i0 (s.peerOf va i1)
  | .miss v => (s.wantWalk s.core.dom v u).hold
  | .ok pa =>
    let t := fabTarget pa
    if !s.fab.reach t then s.raise 0x16 va (BitVec.ofNat 64 t)
    else if 4096 ≤ s.unacked t then s.hold
    else k pa

def fabReq (pa : Nat) (op : FabOp) (data : List Byte) (blots : List Bool) : FabReq :=
  { origin := 0, target := 0, txn := 0, off := BitVec.ofNat 42 (fabOffset pa), op := op, data := data, blots := blots }

/-- A fabric effect goes into the egress hold (13 R397). -/
def State.fabEmit (s : State) (va : Word) (cls pa : Nat) (land : Option Nat) (flag : Bool) (r : FabReq) : State :=
  let t := fabTarget pa
  s.emit 0 s.core.flow.conf cls 4 (s.fabAfter t r.off.toNat r.data.length flag)
    (.fabric r t land (s.core.fault 0 va (BitVec.ofNat 64 t) 0))

/-- The landing of a returning fabric instruction. -/
def State.fabLand (s : State) (w : FA) (m : MW) (va : Word) (pld : Bool) : State :=
  s.addLand (.s (s.core.sIx w.d.toNat) (amoBytes w.fn.toNat) (!w.fn.getLsbD 2)) .reply va m.land.toNat m.cls.toNat 4 true none (fabric := true) (pld := pld)

def State.fabVa (s : State) (w : FA) (m : MW) : Word := s.rs w.a.toNat + off10 m

def execPld (w : FA) (m : MW) (s : State) : Result :=
  let va := s.fabVa w m
  let n := amoBytes w.fn.toNat
  .next (s.atPeer va n .read fun pa =>
    if 64 ≤ s.core.entries then s.hold else
    let t := fabTarget pa
    ((s.fabLand w m va true).fabSend s.nextId (some s.core.owner) m.cls.toNat t (some s.nextId) (fabReq pa (.read n) [] [])
      (s.fabAfter t (fabOffset pa) n false) (s.core.fault 0 va (BitVec.ofNat 64 t) 0)).done)

def execPst (w : FA) (m : MW) (s : State) : Result :=
  let va := s.fabVa w m
  let n := amoBytes w.fn.toNat
  .next (s.atPeer va n .write fun pa =>
    (s.fabEmit va m.cls.toNat pa none false (fabReq pa .write (natLe n (s.rs w.d.toNat).toNat) [])).done)

/-- PFAA and PCAS: the atomic of Table 11.3 named by `op`, returning the old value. -/
def State.fabAmo (s : State) (w : FA) (m : MW) (op : BitVec 8) : State :=
  let va := s.fabVa w m
  let n := amoBytes w.fn.toNat
  s.atPeer va n .write fun pa =>
    if 64 ≤ s.core.entries || s.core.preempting then s.hold else
    ((s.fabLand w m va false).fabEmit va m.cls.toNat pa (some s.nextId) false
      (fabReq pa (.atomic op w.fn (s.rs w.d.toNat)) (natLe n (s.rs w.b.toNat).toNat) [])).done

def execPfaa (w : FA) (m : MW) (s : State) : Result := .next (s.fabAmo w m 0x60)
def execPcas (w : FA) (m : MW) (s : State) : Result := .next (s.fabAmo w m 0x69)

def execPred (w : FA) (m : MW) (s : State) : Result :=
  let va := s.fabVa w m
  let n := amoBytes w.fn.toNat
  .next (s.atPeer va n .write fun pa =>
    (s.fabEmit va m.cls.toNat pa none false
      (fabReq pa (.atomic (BitVec.ofNat 8 (0x6C + w.d.toNat % 8)) w.fn 0) (natLe n (s.rs w.b.toNat).toNat) [])).done)

def execPfence (w : FA) (m : MW) (s : State) : Result :=
  let va := s.fabVa w m
  .next (s.atPeer va 8 .write fun pa =>
    (s.fabEmit va m.cls.toNat pa none true (fabReq pa .write (natLe 8 (s.rs w.b.toNat).toNat) [])).done)

/-- The ranges of a block PST in rising order: each lies in one page; contiguous ones are joined (13 R396). -/
def joinPieces : List (Nat × Nat) → List (Nat × Nat)
  | [] => []
  | (a, n) :: r => match joinPieces r with
    | (b, k) :: t => if a + n = b ∧ fabTarget a = fabTarget b then (a, n + k) :: t else (a, n) :: (b, k) :: t
    | [] => [(a, n)]
/-- Resolve a block page by page; `fuel` counts pages. -/
def State.blockPlaces (s : State) : Nat → Word → Nat → List (Nat × Nat) ⊕ Loc
  | 0, _, _ => .inl []
  | fuel + 1, va, n =>
    if n = 0 then .inl [] else
    let k := min n (4096 - va.toNat % 4096)
    match s.fabXlate .write va with
    | .ok pa => (match s.blockPlaces fuel (va + BitVec.ofNat 64 k) (n - k) with
      | .inl r => .inl ((pa, k) :: r)
      | .inr e => .inr e)
    | e => .inr e

/-- The pieces of up to 256 bytes of the ranges of a block: physical address, scratchpad address, length, and the range that each
must fit with into one export entry (13 R396; log 38). -/
def blockPieces : Nat → List (Nat × Nat) → List (Nat × Nat × Nat × Nat × Nat)
  | _, [] => []
  | src, (a, n) :: r =>
    ((List.range ((n + 255) / 256)).map fun i => (a + 256 * i, src + 256 * i, min 256 (n - 256 * i), fabOffset a, n)) ++ blockPieces (src + n) r
/-- One of them goes into the egress hold, with the blots of its granules. -/
def State.emitPiece (va : Word) (cls : Nat) (s : State) (p : Nat × Nat × Nat × Nat × Nat) : State :=
  s.fabEmit va cls p.1 none false
    { fabReq p.1 .write (s.core.scr.bytes.readRun p.2.1 p.2.2.1) ((List.range (p.2.2.1 / 64)).map fun i => s.core.scr.blots.get (p.2.1 / 64 + i)) with
      block := some (p.2.2.2.1, p.2.2.2.2) }
/-- Their count for a target. -/
def piecesTo (t : Nat) (ps : List (Nat × Nat × Nat × Nat × Nat)) : Nat := (ps.filter fun p => fabTarget p.1 == t).length

def execPstBlock (w : FA) (m : MW) (s : State) : Result :=
  let va := s.fabVa w m
  let src := s.rs w.d.toNat
  let n := s.rs w.b.toNat
  .next (
    if va.toNat % 64 ≠ 0 ∨ src.toNat % 64 ≠ 0 ∨ n.toNat % 64 ≠ 0 then s.raise 0x07 va (s.peerOf va 0)
    else if n.toNat < 64 ∨ 65536 < n.toNat ∨ 2 ^ 21 < src.toNat + n.toNat then s.raise 0x02 va (s.peerOf va 0)
    else match s.blockPlaces 18 va n.toNat with
      | .inr (.bad c i0 i1) => s.raiseLoc c i0 (s.peerOf i0 i1)
      | .inr (.miss v) => (s.wantWalk s.core.dom v .write).hold
      | .inr (.ok _) => s.hold
      | .inl ps =>
        let ps := blockPieces src.toNat (joinPieces ps)
        match ps.find? fun p => !s.fab.reach (fabTarget p.1) with
        | some p => s.raise 0x16 va (BitVec.ofNat 64 (fabTarget p.1))
        | none =>
          if ps.any fun p => decide (4096 < s.unacked (fabTarget p.1) + piecesTo (fabTarget p.1) ps) then s.hold
          else if s.core.earlyRead 1 src.toNat n.toNat then s.raise 0x0A src
          else (ps.foldl (State.emitPiece va m.cls.toNat) s).done)

/-! ### CLRUN and CLWAIT (13 R410) -/

def execClrun (w : FA) (m : MW) (s : State) : Result :=
  let va := s.fabVa w m
  .next (match s.heldNow with
    | some _ => s.ask 5 (fun _ s => s) fun v s => s.postS 1 w.d.toNat v
    | none =>
      if va.toNat % 64 ≠ 0 then s.raise 0x07 va else
      match s.xlate s.core.dom s.core.level.toNat .read va with
      | .bad c i0 i1 => s.raiseLoc c i0 i1
      | .miss v => (s.wantWalk s.core.dom v).hold
      | .ok _ => s.ask 5 (fun id s => s.request (.clrun (w.fn.toNat % 4) va id)) fun v s => s.postS 1 w.d.toNat v)

def execClwait (w : FA) (m : MW) (s : State) : Result :=
  let va := s.fabVa w m
  .next (match s.heldNow with
    | some _ => s.ask (va := va) 0 (fun _ s => s) fun v s => s.postS 1 w.d.toNat v
    | none => s.atSync va 64 .read fun loc =>
      if !s.canWait loc then s.hold else
      s.ask 0 (fun id s => s.query (s.lineTime loc 4) (.waitw loc 8 false (s.rs w.b.toNat) id)) fun v s => s.postS 1 w.d.toNat v)

/-! ### The target side (13 R391 to R393, R406) -/

/-- Fields of an export entry (13 Table 13.3). -/
structure Export where
  rights : Nat
  size : Nat
  key : Nat
  lo : Nat
  hi : Nat
  woff : Nat
  base : Nat
  deriving DecidableEq, Repr

/-- A valid entry that can match, decoded. -/
def exportOf (e : BitVec 256) : Option Export :=
  let f (lo n : Nat) : Nat := (e.extractLsb' lo n).toNat
  let sl := f 8 6
  let x : Export := { rights := f 1 4, size := 2 ^ sl, key := f 16 6, lo := f 32 8, hi := f 40 8, woff := f 64 42, base := f 128 52 }
  let within := decide (x.base + x.size ≤ 0x8000000000000) || (decide (0x8000000000000 ≤ x.base) && decide (x.base + x.size ≤ 0x8000040000000))
  if e.getLsbD 0 && decide (16 ≤ sl) && decide (sl ≤ 42) && x.woff % x.size == 0 && x.base % x.size == 0 && within then some x else none

/-- The location of a window access, or `none` where a check of R392 fails; `need` are rights bits (R 1, W 2, A 4, ACC 8). -/
def State.window (s : State) (origin off n need : Nat) : Option Nat :=
  match (List.range 64).findSome? fun i => (exportOf (s.fab.exports.get i)).bind fun x =>
      if x.woff ≤ off ∧ off < x.woff + x.size then some x else none with
  | none => none
  | some x =>
    let pa := x.base + off - x.woff
    let drawer := decide (rangeOf pa = .drawer)
    if x.lo ≤ origin ∧ origin ≤ x.hi ∧ off + n ≤ x.woff + x.size ∧ x.rights &&& need = need ∧ !s.mem.hole pa ∧ (!drawer ∨ s.keyOk x.key) then
      some (pa + if drawer then x.key * 2 ^ 52 else 0)
    else none

/-- What arrives at the port logic changes drawer or carve bytes only: no agent level is asked for. -/
def portAgent : Agent := { level := 2, domain := 0, host := false }

/-- Store the data of a write, granule by granule with its blots (13 R396). -/
def State.storeBlots (s : State) (loc : Nat) (bs : List Byte) : List Bool → State
  | [] => if bs.isEmpty then s else s.commit loc bs false portAgent
  | b :: r =>
    let k := 64 - loc % 64
    (s.commit loc (bs.take k) b portAgent).storeBlots (loc + k) (bs.drop k) r

/-- op(existing, incoming) of an accumulate, element by element (13 R407). -/
def redElem (red : Nat) (a b : Nat) : Nat :=
  match red with
  | 0 => (add32 a b).1
  | 2 => (a + b) % 2 ^ 32
  | _ => (rne32 (Num.minmax true (v32 a) (v32 b))).1

def redBytes (red : Nat) (old new : List Byte) : List Byte :=
  let w := if red = 1 then 2 else 4
  let one (i : Nat) : List Byte :=
    let a := leNat ((old.drop (w * i)).take w)
    let b := leNat ((new.drop (w * i)).take w)
    natLe w (if red = 1 then (roundTo bf16 (Num.add 0 (bf16.value a) (bf16.value b)).1 0 false 0).1 else redElem red a b)
  (List.range (new.length / w)).flatMap one

/-! Tile counters (13 R406): the count, 128 for READY, 256 for OVER. -/

def Mem.tileOf (loc : Nat) : Nat := (paOf loc - 0x8000000000000) / 4096
def Mem.tileReady (m : Mem) (loc : Nat) : Bool := m.tiles.get (Mem.tileOf loc) / 128 % 2 == 1

/-- A counted granule adds 1 to its tile; one at a READY tile sets OVER and is reported (13 R406). -/
def State.countTile (s : State) (loc : Nat) : State :=
  let k := Mem.tileOf loc
  let v := s.mem.tiles.get k
  if v / 128 % 2 = 1 then
    State.triage { s with mem := { s.mem with tiles := s.mem.tiles.set k (if v / 256 % 2 = 1 then v else v + 256) } }
      { kind := 4, i0 := BitVec.ofNat 64 (paOf loc / 4096 * 4096) }
  else
    let n := v % 128 + 1
    { s with mem := { s.mem with tiles := s.mem.tiles.set k (v / 256 * 256 + (if n = 64 then 64 + 128 else n)) } }

/-! A run whose buffers hold a window offset takes a blotted granule into its record (13 Table 13.10). -/

def runBuf (r : Run) (k : Nat) : Nat := runHeader r (128 + 64 * k) 42
def runN (r : Run) : Nat := runHeader r 0 8 + 1
def runChunk (r : Run) : Nat := runHeader r 48 16 * 4096
def Run.holds (r : Run) (off : Nat) : Bool :=
  [0, 1, 2, 3].any fun k => decide (runBuf r k ≤ off) && decide (off < runBuf r k + runN r * runChunk r)
def Run.blotAt (r : Run) (off : Nat) : Run :=
  { r with blots := r.blots + 1, firstBlot := if off < r.firstBlot.toNat then BitVec.ofNat 64 off else r.firstBlot }
def markFirst (off : Nat) : List Run → List Run
  | [] => []
  | r :: rs => if r.holds off then r.blotAt off :: rs else r :: markFirst off rs
/-- The run of the engines, in order, that has the offset in a buffer. -/
def State.markBlot (s : State) (off : Nat) : State :=
  match [0, 1, 2, 3].find? fun q => ((s.fab.coll.get q).getD {}).runs.any (·.holds off) with
  | none => s
  | some q => { s with fab := { s.fab with coll := s.fab.coll.set q ((s.fab.coll.get q).map fun c => { c with runs := markFirst off c.runs }) } }

/-- A 64-byte granule written by a collective at a location: plain or accumulated, with its blot (13 R407, R408). -/
def State.granule (s : State) (loc off : Nat) (acc : Option Nat) (bs : List Byte) (blot : Bool) : State :=
  let bad := blot || (acc.isSome && s.mem.blotted loc 64)
  let data := match acc with
    | some red => redBytes red (s.bytesAt loc 64) bs
    | none => bs
  let s := s.commit loc data bad portAgent
  if s.mem.blotted loc 64 then s.markBlot off else s

/-- An atomic waits while its engine accepts no request (11 R335). -/
def State.fabAdmits (s : State) (r : FabReq) : Bool := match r.op with
  | .atomic _ fn _ => (match s.window r.origin.toNat r.off.toNat (amoBytes fn.toNat) 4 with
    | some loc => s.sync.enabled (homeQuad loc)
    | none => true)
  | _ => true

/-- A request applied at this package's port logic, and its answer. -/
def State.applyFab (s : State) (r : FabReq) : State × FabAns :=
  let off := r.off.toNat
  match r.op with
  | .read n => (match s.window r.origin.toNat off n 1 with
    | none => (s, .refused)
    | some loc =>
      let s := s.inject loc n false
      (s, .done (s.bytesAt loc n) (s.mem.blotted loc n)))
  | .write =>
    let whole := r.block.getD (off, r.data.length)
    (match s.window r.origin.toNat whole.1 whole.2 2 with
    | none => (s, .refused)
    | some loc => (s.storeBlots (loc + (off - whole.1)) r.data r.blots, .done [] false))
  | .atomic op fn cmp => (match s.window r.origin.toNat off (amoBytes fn.toNat) 4 with
    | none => (s, .refused)
    | some loc =>
      let w := amoBytes fn.toNat
      let q := homeQuad loc
      let src := 148 + s.fab.portOf r.origin.toNat
      let n := s.sync.txn.get (txnKey src q)
      let s := { s with sync := { s.sync.touch loc with txn := s.sync.txn.set (txnKey src q) ((n + 1) % 65536) } }
      let x := s.applyAmo loc w op.toNat (fn.getLsbD 2) (BitVec.ofNat 64 (leNat r.data)) cmp portAgent
      ({ x.1 with sync := x.1.sync.cacheReply (txnKey src q) n (BitVec.ofNat 64 x.2.1) }, .done (natLe w x.2.1) x.2.2))
  | .counted acc red => (match s.window r.origin.toNat off 64 (if acc then 10 else 2) with
    | none => (s, .refused)
    | some loc =>
      if rangeOf (paOf loc) ≠ .carve then (s, .refused) else
      ((s.granule loc off (if acc then some red.toNat else none) r.data (r.blots.getD 0 false)).countTile loc, .done [] false))

/-- The port logic applies a request for its own package once: a resent one finds its cached reply (13 R400). One for another
package goes on where a route to it is live, and no unit of this package takes part; else it is answered with a negative
acknowledgement, whose number stands beside those of its target (13 R389). -/
def State.portRequest (s : State) (r : FabReq) : State :=
  let mine := decide (r.target.toNat = s.fab.own)
  let k := (r.origin.toNat + (if mine then 0 else 256 * (1 + r.target.toNat)), r.txn)
  if s.fab.cache.any fun e => e.1 == k then s else
  if !mine && s.fab.reach r.target.toNat then s else
  let x := if mine then s.applyFab r else (s, .unreachable)
  let mine := (x.1.fab.cache.filter fun e => e.1.1 == k.1).take 4095
  { x.1 with fab := { x.1.fab with cache := (k, x.2) :: mine ++ x.1.fab.cache.filter fun e => e.1.1 != k.1 } }

def isCounted : FabOp → Bool
  | .counted .. => true
  | _ => false
/-- What comes from a package by its port shows a good frame, which ends a row of failed ones (13 R387; log 85). -/
def State.goodFrame (s : State) (pkg : Nat) : State :=
  if pkg = s.fab.own ∨ s.fab.replay.get (s.fab.portOf pkg) = 0 then s else
  { s with fab := { s.fab with replay := s.fab.replay.set (s.fab.portOf pkg) 0 } }
/-- FABRIC_REQUEST: a peer's access, or this package's own through the loopback (13 R393); one that its engine does not accept
yet comes again a cycle later. -/
def execFabricRequest (r : FabReq) (s : State) : Result :=
  .next (if isCounted r.op then s
    else if s.fabAdmits r then (s.goodFrame r.origin.toNat).portRequest r
    else { s with inputs := s.inputs ++ [{ at_ := s.wall + 1, core := 0, ev := .fabricRequest r }] })
/-- COUNTED_WRITE: a collective's granule reaches its tile (13 R406). -/
def execCountedWrite (r : FabReq) (s : State) : Result := .next (if isCounted r.op then (s.goodFrame r.origin.toNat).portRequest r else s)

/-! ### Replies (13 R397, R401) -/

def ansCause : FabAns → Nat
  | .done _ _ => 0
  | .refused => 0x06
  | .unreachable => 0x16

/-- A deferred fault of a posted access, on the strand that made it (13 Table 13.7). -/
def State.deferTo (s : State) (owner : Nat) (t : Trap) : State :=
  let put (c : Core) : Core := if c.strand.isSome && c.owner == owner then c.record t else c
  let s := s.mapCores put
  { s with sched := { s.sched with saved := s.sched.saved.map fun e =>
    if e.1 = owner then (e.1, e.2.map fun v => { v with core := v.core.map put }) else e } }

/-- The landing of a request takes its reply, on a core or in a saved image. -/
def State.landFab (s : State) (id at_ : Nat) (data : Option (List Byte × Bool)) (f : Option Trap) : State :=
  let put (c : Core) : Core := if c.lands.any (·.id == id) then
    { c with lands := c.lands.map fun l => if l.id == id then { l with data := data, fault := f, readyAt := at_ } else l } else c
  s.mapCores put

/-- A counted write is answered. -/
def Coll.ack (c : Coll) (t txn : Nat) : Coll :=
  { c with runs := c.runs.map fun r => if r.unacked.contains (t, txn) then { r with unacked := r.unacked.erase (t, txn) } else r }
/-- A collective engine learns the outcome of a counted write: a negative answer is a fault of its run (13 R409). -/
def State.ackRun (s : State) (t txn cause : Nat) : State :=
  let s := if cause = 0 then s else [0, 1, 2, 3].foldl (fun s q =>
    match (collOf s q).runs.find? fun r => r.unacked.contains (t, txn) && !r.stopped with
    | some r => s.runFault q r cause
    | none => s) s
  { s with fab := { s.fab with coll := s.fab.coll.map fun e => (e.1, e.2.map fun c => c.ack t txn) } }

/-- The answer to an outstanding request arrives. -/
def State.fabAnswer (s : State) (target txn : Nat) (ans : FabAns) : State :=
  match s.fab.out.find? fun o => o.target == target && o.txn == txn with
  | none => s
  | some o =>
    let s := { s with fab := { s.fab with out := s.fab.out.filter (· != o) } }
    let t : Trap := { o.trap with cause := ansCause ans, i1 := BitVec.ofNat 64 (target + 256) }
    match o.owner, o.land with
    | none, _ => s.ackRun target txn (ansCause ans)
    | some ow, none => (match ans with
      | .done _ _ => s
      | _ => s.deferTo ow { t with late := true })
    | some _, some id => (match ans with
      | .done bs blot => s.landFab id s.wall (some (bs, blot))
          (if blot then some { o.trap with cause := 0x09, i1 := BitVec.ofNat 64 target } else none)
      | _ => s.landFab id s.wall none (some t))

/-- FABRIC_REPLY: the acknowledgement of one of this package's requests (13 R388, R397, R401). One that comes before the
round trip's floor is taken at the floor (13 R390); that a target cannot be reached any more is learnt at once (13 R401). -/
def execFabricReply (r : FabRep) (s : State) : Result :=
  .next (match s.fab.out.find? fun o => o.target == r.target.toNat && o.txn == r.txn with
    | none => s
    | some o => if s.fabLeft o ≠ 0 ∧ s.fab.reach o.target then { s with inputs := s.inputs ++ [{ at_ := s.wall + s.fabLeft o, core := 0, ev := .fabricReply r }] }
      else (s.goodFrame r.target.toNat).fabAnswer r.target.toNat r.txn r.ans)

/-! ### Ports (13 R387, R389, R412) -/

/-- The pod barriers with a phase pending: arrivals, or a ready of this package or of another. -/
def State.podPending (s : State) : List Nat := (List.range 16).filter fun b =>
  let r := s.sync.bar (barKey true b)
  decide (0 < r.a) || r.own || !r.ready.isEmpty
/-- A package of the pod cannot be reached: each phase pending completes with FAULTED (13 R412). -/
def State.podLost (s : State) : State :=
  if s.fab.others.all s.fab.reach then s else
  s.podPending.foldl (fun s b =>
    State.faultBar { s with sync := s.sync.setBar (barKey true b) { s.sync.bar (barKey true b) with ready := [] } } (barKey true b)) s
/-- Requests out and pod barriers whose package can no longer be reached: negative answers, phases completed with
FAULTED. -/
def State.lostPeers (s : State) : State :=
  let gone := s.fab.out.filter fun o => !s.fab.reach o.target
  (gone.foldl (fun s o => s.fabAnswer o.target o.txn .unreachable) s).podLost

/-- PEER_RETRAIN: the port carries nothing; its traffic moves to alternate routes. -/
def execPeerRetrain (port : BitVec 4) (s : State) : Result :=
  .next (State.lostPeers { s with fab := { s.fab with portUp := s.fab.portUp &&& ~~~((1 : BitVec 16) <<< port.toNat), retrain := s.fab.retrain ||| ((1 : BitVec 16) <<< port.toNat), replay := s.fab.replay.set port.toNat 0 } })
/-- PEER_PORT_TRAINED: the port carries traffic; its routes read live. -/
def execPeerPortTrained (port : BitVec 4) (s : State) : Result :=
  .next { s with fab := { s.fab with portUp := s.fab.portUp ||| ((1 : BitVec 16) <<< port.toNat), retrain := s.fab.retrain &&& ~~~((1 : BitVec 16) <<< port.toNat), replay := s.fab.replay.set port.toNat 0 } }
/-- FRAME_REPLAY: a frame failed and is sent again, which takes whole frame times; the 16th in a row retrains the port. -/
def execFrameReplay (port : BitVec 4) (s : State) : Result :=
  let p := port.toNat
  let n := s.fab.replay.get p + 1
  .next (if 16 ≤ n then State.lostPeers { s with fab := { s.fab with portUp := s.fab.portUp &&& ~~~((1 : BitVec 16) <<< p), retrain := s.fab.retrain ||| ((1 : BitVec 16) <<< p), replay := s.fab.replay.set p 0 } }
    else { s with fab := { s.fab with replay := s.fab.replay.set p n } })

end Sys2Proof.Machine
end

