-- ==== Sys2Proof/Machine/ChecksEng.lean ====
section
/-! DEFINITION. ChecksEng.lean: the properties that an encoding fixes, for the M, C and B streams (08 R224, R237, R241;
10 R303, R304, R312; 09 R275), in the form of Checks.lean. -/

namespace Sys2Proof.Machine

/-- XOP bits `lo` to `lo + n − 1`. -/
def xb (e : EW) (lo n : Nat) : Nat := (e.xop.toNat / 2 ^ lo) % 2 ^ n

/-- Tokens, scope, and with `gate` the stage gate in XOP bits 12:9 (04 R132); XOP bits from `used` to 8 are 0. -/
def chkEW (st : Nat) (gate : Bool) (used : Nat) (cls0 scope0 : Bool) (e : EW) : List (Bool × SubCode) :=
  inWord 1 [badTok st e.tok, badScope e.scope, (scope0 && e.scope != 0, 0x0D), (cls0 && e.cls != 0, 0x0D),
    (if gate then (xb e used (9 - used) != 0) || (xb e 12 1 == 0 && xb e 9 3 != 0) else decide (2 ^ used ≤ e.xop.toNat), 0x0D)]

/-! ### Stream M -/

/-- A nest-table field value that is legal by itself (08 Table 8.2). -/
def nestLegal (id : Nat) (v : BitVec 32) : Bool :=
  let n := v.toNat
  let bits := fun lo w => (n / 2 ^ lo) % 2 ^ w
  let mx := fun t => t == 11 || t == 12 || t == 13
  if id ≤ 5 then decide (1 ≤ n) && decide (n ≤ 65535)
  else if id ≤ 17 then n % 64 == 0
  else if id ≤ 23 then decide (n < 16)
  else if id = 28 then
    decide (8 ≤ bits 0 4) && decide (bits 0 4 ≤ 13) && decide (8 ≤ bits 4 4) && decide (bits 4 4 ≤ 13) && bits 8 4 == 8 &&
      (bits 12 1 == 0 || mx (bits 0 4)) && (bits 13 1 == 0 || mx (bits 4 4)) && bits 14 2 == 0
  else if id = 29 then
    decide (bits 0 2 ≤ 2) && bits 4 3 != 6 && bits 8 3 != 6 && bits 3 1 == 0 && bits 7 1 == 0 && bits 11 5 == 0
  else if id = 32 then
    decide (1 ≤ bits 0 4) && !(bits 4 1 == 1 && bits 5 1 == 1) && !(bits 5 1 == 1 && bits 6 1 == 1) &&
      (bits 6 1 == 1 || bits 8 4 == 0) && bits 7 1 == 0 && bits 12 20 == 0
  else if id = 37 then
    decide (bits 0 4 ≤ 5) && decide (8 ≤ bits 4 4) && decide (bits 4 4 ≤ 13) && decide (bits 8 3 ≤ 5) && bits 13 19 == 0
  else if id = 41 then bits 22 10 == 0
  else decide (id ≤ 41)

def chkM (cls0 scope0 : Bool) (e : EW) : List (Bool × SubCode) := chkEW 3 true 0 cls0 scope0 e
def chkMcfg (w : FC) (e : EW) (l : BitVec 32) : List (Bool × SubCode) :=
  [nz w.imm, (decide (42 ≤ w.d.toNat), 0x0C)] ++ chkM true true e ++ inWord 2 [(decide (w.d.toNat < 42) && !nestLegal w.d.toNat l, 0x0D)]
def chkMcfgv (w : FB) (e : EW) : List (Bool × SubCode) := (decide (35 ≤ w.d.toNat), 0x0C) :: chkM true true e
/-- MGO (08 R241): KEEP with ZERO or PIN, a slot without PIN, selections beside DEF. -/
def chkMgo (w : FE) (e : EW) : List (Bool × SubCode) :=
  let n := w.misc.toNat
  let bit := fun i => n.testBit i
  [above w.misc 8, ((bit 1 && (bit 0 || bit 2)) || (!bit 2 && (n / 8) % 16 != 0) || (bit 7 && n % 128 != 0), 0x0D)] ++ chkM false false e
def chkMpin (w : FE) (e : EW) : List (Bool × SubCode) := above w.misc 5 :: chkM true true e
def chkMunpin (w : FE) (e : EW) : List (Bool × SubCode) := above w.misc 4 :: chkM true true e
def chkMdrain (w : FE) (e : EW) : List (Bool × SubCode) :=
  [above w.misc 17, (!w.misc.toNat.testBit 12 && decide (2 ^ 13 ≤ w.misc.toNat), 0x0D)] ++ chkM false false e
def chkMsave (w : FB) (e : EW) : List (Bool × SubCode) := above w.d 4 :: chkM false false e
def chkMstat (w : FE) (e : EW) : List (Bool × SubCode) := above w.misc 7 :: chkM true true e
def chkMfence (w : FE) (e : EW) : List (Bool × SubCode) := nz w.misc :: chkM true false e

/-! ### Stream C -/

/-- A timed copy names a global source and a core-local destination (10 R321). -/
def chkTimed (e : EW) : List (Bool × SubCode) := inWord 1 [(xb e 4 1 == 1 && (xb e 2 2 != 0 || xb e 0 2 == 0), 0x0D)]
def chkCpy (w : FA) (e : EW) : List (Bool × SubCode) := (decide (5 ≤ w.fn.toNat), 0x0D) :: chkTimed e ++ chkEW 4 true 5 false false e
def chkCpy2 (w : FA) (e : EW) : List (Bool × SubCode) := (w.b == 63, 0x0D) :: chkCpy w e
def chkCpyt (w : FA) (e : EW) : List (Bool × SubCode) := above w.b 4 :: chkTimed e ++ chkEW 4 true 6 false false e
/-- CPYX (10 R312): codes 0 to 5 and 8 to 12; reduce pairs a type with itself. -/
def chkCpyx (fn : Nat) (w : FA) (e : EW) : List (Bool × SubCode) :=
  let sty := xb e 2 4
  let dty := xb e 6 4
  let ok := [0, 1, 2, 3, 4, 5, 8, 9, 10, 11, 12]
  [(w.fn.toNat != fn, 0x0D), (w.b == 63, 0x0D)] ++
    inWord 1 [(!ok.contains sty || !ok.contains dty || decide (6 ≤ xb e 10 3), 0x0C),
      (fn == 3 && (sty != dty || !List.contains [4, 5, 8, 9, 10] sty), 0x0C)] ++ chkEW 4 false 13 false false e
def chkCfill (w : FA) (e : EW) : List (Bool × SubCode) := (decide (4 ≤ w.fn.toNat), 0x0D) :: chkEW 4 true 2 false false e
def chkCsig (w : FA) (e : EW) : List (Bool × SubCode) := [nz w.fn, nz w.b] ++ chkEW 4 true 2 false false e
def chkCpref (w : FA) (e : EW) : List (Bool × SubCode) := [nz w.fn, nz w.d] ++ chkEW 4 true 0 false false e
def chkCflush (fn : Nat) (w : FA) (e : EW) : List (Bool × SubCode) := [(w.fn.toNat != fn, 0x0D), nz w.d] ++ chkEW 4 true 0 false false e
def chkCfence (w : FE) (e : EW) : List (Bool × SubCode) := above w.misc 16 :: chkEW 4 true 0 true false e

/-! ### Stream B -/

def chkBact (w : FA) (e : EW) : List (Bool × SubCode) :=
  (!w.fn.toNat.testBit 3 && w.d != 0, 0x0D) :: inWord 1 [(xb e 0 2 == 0, 0x0D)] ++ chkEW 5 true 2 true false e
def chkProd (w : FA) (e : EW) : List (Bool × SubCode) := nz w.fn :: chkEW 5 true 2 false false e
def chkBapp (w : FA) (e : EW) : List (Bool × SubCode) := nz w.fn :: inWord 1 [(xb e 0 2 == 0, 0x0D)] ++ chkEW 5 true 2 false false e
def chkBcp (zeroRow : Bool) (w : FA) (e : EW) : List (Bool × SubCode) := [nz w.fn, (zeroRow && w.a != 0, 0x0D)] ++ chkEW 5 true 0 false false e
/-- BLOAD (09 Table 9.3): SMODE 3 reserved; KS only with COLS, seed only with SMODE. -/
def chkBload (w : FA) (e : EW) : List (Bool × SubCode) :=
  let n := w.fn.toNat
  [(n % 4 == 3, 0x0D), (n % 4 == 0 && w.d != 0, 0x0D), (decide (n < 8) && w.b != 0, 0x0D)] ++ chkEW 5 true 4 false false e
def chkB1 (w : FA) (e : EW) : List (Bool × SubCode) := [nz w.fn, nz w.d, nz w.b] ++ chkEW 5 true 0 true false e
/-- BFENCE names its register only with SNAP (09 Table 9.3). -/
def chkBfence (w : FE) (e : EW) : List (Bool × SubCode) :=
  [above w.misc 7, (decide (w.misc.toNat < 64) && w.misc != 0, 0x0D)] ++ chkEW 5 true 0 true false e

end Sys2Proof.Machine
end

