-- ==== Sys2Proof/Machine/CheckAll.lean ====
section
/-! DEFINITION. CheckAll.lean: the fields of an instruction's words, and the defects of its encoding by space and
opcode (02 R45 to R59). -/

namespace Sys2Proof
/-- A format A first word (02 Table 2.2). -/
def FA.dec (w : SlotWord) : FA :=
  { fn := w.extractLsb' 28 4, b := w.extractLsb' 22 6, a := w.extractLsb' 16 6, d := w.extractLsb' 10 6 }
def FA.enc (f : FA) (opc : BitVec 8) (len : BitVec 2) : SlotWord := f.fn ++ f.b ++ f.a ++ f.d ++ opc ++ len
/-- A format B first word (02 Table 2.2). -/
def FB.dec (w : SlotWord) : FB :=
  { imm := w.extractLsb' 22 10, a := w.extractLsb' 16 6, d := w.extractLsb' 10 6 }
def FB.enc (f : FB) (opc : BitVec 8) (len : BitVec 2) : SlotWord := f.imm ++ f.a ++ f.d ++ opc ++ len
/-- A format C first word (02 Table 2.2). -/
def FC.dec (w : SlotWord) : FC :=
  { imm := w.extractLsb' 16 16, d := w.extractLsb' 10 6 }
def FC.enc (f : FC) (opc : BitVec 8) (len : BitVec 2) : SlotWord := f.imm ++ f.d ++ opc ++ len
/-- A format D first word (02 Table 2.2). -/
def FD.dec (w : SlotWord) : FD :=
  { disp := w.extractLsb' 15 17, neg := w.extractLsb' 14 1, p := w.extractLsb' 10 4 }
def FD.enc (f : FD) (opc : BitVec 8) (len : BitVec 2) : SlotWord := f.disp ++ f.neg ++ f.p ++ opc ++ len
/-- A format E first word (02 Table 2.2). -/
def FE.dec (w : SlotWord) : FE :=
  { misc := w.extractLsb' 10 22 }
def FE.enc (f : FE) (opc : BitVec 8) (len : BitVec 2) : SlotWord := f.misc ++ opc ++ len
/-- A format V first word (02 Table 2.2). -/
def FV.dec (w : SlotWord) : FV :=
  { ty := w.extractLsb' 28 4, vb := w.extractLsb' 22 6, va := w.extractLsb' 16 6, vd := w.extractLsb' 10 6 }
def FV.enc (f : FV) (opc : BitVec 8) (len : BitVec 2) : SlotWord := f.ty ++ f.vb ++ f.va ++ f.vd ++ opc ++ len
/-- A second word (02 Table 2.3). -/
def VW.dec (w : SlotWord) : VW :=
  { stgen := w.extractLsb' 31 1, perm := w.extractLsb' 30 1, sat := w.extractLsb' 29 1, rm := w.extractLsb' 26 3, ty2 := w.extractLsb' 22 4, mask := w.extractLsb' 18 4, vc := w.extractLsb' 12 6, tok := w.extractLsb' 0 12 }
def VW.enc (f : VW) : SlotWord := f.stgen ++ f.perm ++ f.sat ++ f.rm ++ f.ty2 ++ f.mask ++ f.vc ++ f.tok
/-- A second word (02 Table 2.3). -/
def EW.dec (w : SlotWord) : EW :=
  { xop := w.extractLsb' 19 13, cls := w.extractLsb' 15 4, scope := w.extractLsb' 12 3, tok := w.extractLsb' 0 12 }
def EW.enc (f : EW) : SlotWord := f.xop ++ f.cls ++ f.scope ++ f.tok
/-- A second word (02 Table 2.3). -/
def MW.dec (w : SlotWord) : MW :=
  { offext := w.extractLsb' 22 10, space := w.extractLsb' 20 2, land := w.extractLsb' 7 13, scope := w.extractLsb' 4 3, cls := w.extractLsb' 0 4 }
def MW.enc (f : MW) : SlotWord := f.offext ++ f.space ++ f.land ++ f.scope ++ f.cls

namespace Machine

/-- The opcode spaces of 02 R58: VX and VY share one. -/
inductive Space where
  | s | v | m | c | b
  deriving DecidableEq, Repr

/-- The space of a stream code (01 Table 1.10). -/
def spaceOf : Nat → Option Space
  | 0 => some .s | 1 => some .v | 2 => some .v | 3 => some .m | 4 => some .c | 5 => some .b | _ => none

/-- LEN of a first word (02 R38), its OPC (02 R45). -/
def lenOf (w : SlotWord) : Nat := (w.extractLsb' 0 2).toNat
def opcOf (w : SlotWord) : Nat := (w.extractLsb' 2 8).toNat

/-- An opcode with its one length (02 R59): any other length is sub-code 0x07. -/
def sized (len n : Nat) (cs : List (Bool × SubCode)) : Option SubCode := if len = n then pickDefect cs else some 0x07
/-- A vector opcode with a 32-bit and a 64-bit form (02 R51). -/
def sized2 (len : Nat) (c32 c64 : List (Bool × SubCode)) : Option SubCode :=
  if len = 1 then pickDefect c32 else if len = 2 then pickDefect c64 else some 0x07

/-- The lowest defect in space S (02 Table 2.7): stream `st`, LEN, OPC, words. -/
def defectS (_st len opc : Nat) (a b _c : SlotWord) : Option SubCode :=
  match opc with
  | 0 => sized len 1 (chkE0 (FE.dec a))
  | 1 => sized len 1 (chkBr (FD.dec a))
  | 2 => sized len 1 ([])
  | 3 => sized len 1 (chkBr (FD.dec a))
  | 4 => sized len 1 (chkJmp (FA.dec a))
  | 5 => sized len 1 (chkE0 (FE.dec a))
  | 6 => sized len 1 (chkJmp (FA.dec a))
  | 7 => sized len 1 (chkBr (FD.dec a))
  | 8 => sized len 1 (chkLoopset (FB.dec a))
  | 9 => sized len 1 (chkE0 (FE.dec a))
  | 10 => sized len 1 (chkE0 (FE.dec a))
  | 11 => sized len 1 (chkSuspend (FE.dec a))
  | 12 => sized len 1 (chkE0 (FE.dec a))
  | 13 => sized len 1 ([above (FE.dec a).misc 21])
  | 14 => sized len 1 ([above (FE.dec a).misc 16])
  | 16 => sized len 1 (chkInt (FA.dec a))
  | 17 => sized len 1 (chkInt (FA.dec a))
  | 18 => sized len 1 (chkInt (FA.dec a))
  | 19 => sized len 1 (chkInt (FA.dec a))
  | 20 => sized len 1 (chkInt (FA.dec a))
  | 21 => sized len 1 (chkInt (FA.dec a))
  | 22 => sized len 1 (chkInt (FA.dec a))
  | 23 => sized len 1 (chkInt (FA.dec a))
  | 24 => sized len 1 (chkInt (FA.dec a))
  | 25 => sized len 1 (chkInt (FA.dec a))
  | 26 => sized len 1 (chkInt (FA.dec a))
  | 27 => sized len 1 (chkInt (FA.dec a))
  | 28 => sized len 1 (chkInt (FA.dec a))
  | 29 => sized len 1 (chkInt (FA.dec a))
  | 30 => sized len 1 (chkInt (FA.dec a))
  | 31 => sized len 1 (chkInt (FA.dec a))
  | 32 => sized len 1 (chkInt (FA.dec a))
  | 33 => sized len 1 (chkInt (FA.dec a))
  | 34 => sized len 1 (chkInt (FA.dec a))
  | 35 => sized len 1 (chkInt (FA.dec a))
  | 36 => sized len 1 (chkInt (FA.dec a))
  | 37 => sized len 1 (chkInt1 (FA.dec a))
  | 38 => sized len 1 (chkInt1 (FA.dec a))
  | 39 => sized len 1 (chkInt1 (FA.dec a))
  | 40 => sized len 1 (chkFn0 (FA.dec a))
  | 41 => sized len 1 (chkFn0 (FA.dec a))
  | 42 => sized len 1 (chkFn0 (FA.dec a))
  | 43 => sized len 1 ([])
  | 44 => sized len 1 ([])
  | 45 => sized len 1 (chkCmp (FA.dec a))
  | 48 => sized len 1 ([])
  | 49 => sized len 2 (if a.extractLsb' 16 1 = 1 then chkMovl 1 (FC.dec a) else chkMovl 0 (FC.dec a))
  | 50 => sized len 1 ([])
  | 51 => sized len 1 ([])
  | 52 => sized len 1 ([])
  | 53 => sized len 1 ([])
  | 54 => sized len 1 ([])
  | 55 => sized len 1 ([])
  | 56 => sized len 1 (chkShi (FB.dec a))
  | 57 => sized len 1 (chkShi (FB.dec a))
  | 58 => sized len 1 (chkShi (FB.dec a))
  | 59 => sized len 1 ([])
  | 60 => sized len 1 (chkPlog (FA.dec a))
  | 61 => sized len 1 (chkPlog (FA.dec a))
  | 62 => sized len 1 (chkPlog (FA.dec a))
  | 63 => sized len 1 (if a.extractLsb' 28 4 = 1 then chkMovp 1 0 6 (FA.dec a) else if a.extractLsb' 28 4 = 2 then chkMovp 2 3 6 (FA.dec a) else if a.extractLsb' 28 4 = 3 then chkMovp 3 6 3 (FA.dec a) else if a.extractLsb' 28 4 = 4 then chkMovp 4 0 6 (FA.dec a) else if a.extractLsb' 28 4 = 5 then chkMovp 5 6 0 (FA.dec a) else if a.extractLsb' 28 4 = 6 then chkMovp 6 6 0 (FA.dec a) else if a.extractLsb' 28 4 = 7 then chkMovp 7 4 3 (FA.dec a) else chkMovp 0 6 0 (FA.dec a))
  | 64 => sized len 1 (chkFp (FA.dec a))
  | 65 => sized len 1 (chkFp (FA.dec a))
  | 66 => sized len 1 (chkFp (FA.dec a))
  | 67 => sized len 1 (chkFp (FA.dec a))
  | 68 => sized len 1 (chkFp (FA.dec a))
  | 69 => sized len 1 (chkFp1 (FA.dec a))
  | 70 => sized len 1 (chkFn0 (FA.dec a))
  | 71 => sized len 1 (chkFn0 (FA.dec a))
  | 72 => sized len 1 (chkSign (FA.dec a))
  | 73 => sized len 1 (chkSign (FA.dec a))
  | 74 => sized len 1 (chkFcmp (FA.dec a))
  | 75 => sized len 1 (chkFcvt (FA.dec a))
  | 76 => sized len 1 (chkFcvt (FA.dec a))
  | 80 => sized len 2 (chkMem 1 true 8 (MW.dec b))
  | 81 => sized len 2 (chkMem 1 false 8 (MW.dec b))
  | 82 => sized len 2 (chkMem 1 true 8 (MW.dec b))
  | 83 => sized len 2 (chkMem 1 false 8 (MW.dec b))
  | 84 => sized len 1 (chkFence (FC.dec a))
  | 85 => sized len 2 (chkWaitw (MW.dec b))
  | 86 => sized len 2 (chkLrec (FB.dec a) (MW.dec b))
  | 87 => sized len 1 (chkTkwait (FE.dec a))
  | 88 => sized len 1 (chkTksig (FE.dec a))
  | 96 => sized len 2 (chkAmo true [0, 1, 4, 5] (FA.dec a) (MW.dec b))
  | 97 => sized len 2 (chkAmo true [0, 1, 4, 5] (FA.dec a) (MW.dec b))
  | 98 => sized len 2 (chkAmo true [0, 1, 4, 5] (FA.dec a) (MW.dec b))
  | 99 => sized len 2 (chkAmo true [0, 1, 4, 5] (FA.dec a) (MW.dec b))
  | 100 => sized len 2 (chkAmo true [0, 1, 4, 5] (FA.dec a) (MW.dec b))
  | 101 => sized len 2 (chkAmo true [0, 1, 4, 5] (FA.dec a) (MW.dec b))
  | 102 => sized len 2 (chkAmo true [0, 1, 4, 5] (FA.dec a) (MW.dec b))
  | 103 => sized len 2 (chkAmo true [0, 1, 4, 5] (FA.dec a) (MW.dec b))
  | 104 => sized len 2 (chkAmo true [0, 1, 4, 5] (FA.dec a) (MW.dec b))
  | 105 => sized len 2 (chkAmo true [0, 1, 4, 5] (FA.dec a) (MW.dec b))
  | 106 => sized len 2 (chkAmo true [5] (FA.dec a) (MW.dec b))
  | 107 => sized len 2 (chkAmo true [0, 1, 4, 5] (FA.dec a) (MW.dec b))
  | 108 => sized len 2 (chkAmo false [0, 1] (FA.dec a) (MW.dec b))
  | 109 => sized len 2 (chkAmo false [0, 1] (FA.dec a) (MW.dec b))
  | 110 => sized len 2 (chkAmo false [0, 1] (FA.dec a) (MW.dec b))
  | 111 => sized len 2 (chkAmo false [0, 1] (FA.dec a) (MW.dec b))
  | 112 => sized len 2 (chkAmo false [0, 1, 4, 5] (FA.dec a) (MW.dec b))
  | 113 => sized len 2 (chkAmo false [0, 1, 4, 5] (FA.dec a) (MW.dec b))
  | 114 => sized len 2 (chkAmo false [1] (FA.dec a) (MW.dec b))
  | 115 => sized len 2 (chkAmo false [2] (FA.dec a) (MW.dec b))
  | 128 => sized len 1 (chkBar false (FA.dec a))
  | 129 => sized len 1 (chkBar false (FA.dec a))
  | 130 => sized len 1 (chkBar true (FA.dec a))
  | 131 => sized len 1 (chkTrig (FA.dec a))
  | 132 => sized len 1 (chkGwait (FA.dec a))
  | 133 => sized len 1 (chkDA (FA.dec a))
  | 134 => sized len 1 (chkDA (FA.dec a))
  | 135 => sized len 1 (chkDA (FA.dec a))
  | 136 => sized len 1 (chkJarv (FA.dec a))
  | 137 => sized len 1 (chkDA (FA.dec a))
  | 138 => sized len 1 (chkWatch (FA.dec a))
  | 139 => sized len 1 (chkDA (FA.dec a))
  | 144 => sized len 2 (nz (FA.dec a).b :: chkFab true [0, 1, 5] (FA.dec a) (MW.dec b))
  | 145 => sized len 2 (if a.extractLsb' 28 4 = 8 then chkFab false [8] (FA.dec a) (MW.dec b) else nz (FA.dec a).b :: chkFab false [0, 1] (FA.dec a) (MW.dec b))
  | 146 => sized len 2 (chkFab true [0, 1, 4, 5] (FA.dec a) (MW.dec b))
  | 147 => sized len 2 (chkFab true [0, 1, 4, 5] (FA.dec a) (MW.dec b))
  | 148 => sized len 2 (above (FA.dec a).d 3 :: chkFab false (predFns (FA.dec a).d.toNat) (FA.dec a) (MW.dec b))
  | 149 => sized len 2 (nz (FA.dec a).d :: chkFab false [0] (FA.dec a) (MW.dec b))
  | 150 => sized len 2 ([above (FA.dec a).fn 2, nz (FA.dec a).b] ++ chkClMem (MW.dec b))
  | 151 => sized len 2 (nz (FA.dec a).fn :: chkClMem (MW.dec b))
  | 224 => sized len 1 (chkMfs (FC.dec a))
  | 225 => sized len 1 (chkMts (FC.dec a))
  | 226 => sized len 1 ([above (FE.dec a).misc 16])
  | 227 => sized len 1 (if a.extractLsb' 10 2 = 1 then [((FE.dec a).misc.toNat != 1, 0x0D)] else if a.extractLsb' 10 2 = 2 then [((FE.dec a).misc.toNat != 2, 0x0D)] else if a.extractLsb' 10 2 = 3 then [((FE.dec a).misc.toNat != 3, 0x0D)] else [((FE.dec a).misc.toNat != 0, 0x0D)])
  | 228 => sized len 1 ([nz (FA.dec a).d, above (FA.dec a).fn 3] ++ tlbScope ((FA.dec a).fn.toNat % 8))
  | 229 => sized len 1 (above (FE.dec a).misc 4 :: tlbScope ((FE.dec a).misc.toNat % 8))
  | 230 => sized len 2 (if a.extractLsb' 28 4 = 1 then chkLlcop 1 (FA.dec a) (MW.dec b) else if a.extractLsb' 28 4 = 2 then chkLlcop 2 (FA.dec a) (MW.dec b) else if a.extractLsb' 28 4 = 3 then chkLlcop 3 (FA.dec a) (MW.dec b) else chkLlcop 0 (FA.dec a) (MW.dec b))
  | 231 => sized len 1 (chkFn0 (FA.dec a))
  | 232 => sized len 1 (if a.extractLsb' 22 10 = 1 then [((FB.dec a).imm.toNat != 1, 0x0D)] else if a.extractLsb' 22 10 = 2 then [((FB.dec a).imm.toNat != 2, 0x0D)] else if a.extractLsb' 22 10 = 3 then [((FB.dec a).imm.toNat != 3, 0x0D)] else [((FB.dec a).imm.toNat != 0, 0x0D)])
  | 233 => sized len 1 ([above (FE.dec a).misc 16])
  | _ => some 0x06

/-- The lowest defect in space V (02 Table 2.8): stream `st`, LEN, OPC, words. -/
def defectV (st len opc : Nat) (a b c : SlotWord) : Option SubCode :=
  match opc with
  | 0 => sized len 1 (chkV0 (FV.dec a))
  | 1 => sized len 3 (chkVview st (FV.dec a) (VW.dec b) c)
  | 2 => sized len 3 (chkTview st (FV.dec a) (VW.dec b) c)
  | 3 => sized2 len (chkV1 st tAll {} (FV.dec a) VW.plain) (chkV1 st tAll {} (FV.dec a) (VW.dec b))
  | 4 => sized2 len (chkV1 st tAll {} (FV.dec a) VW.plain) (chkV1 st tAll {} (FV.dec a) (VW.dec b))
  | 5 => sized2 len (chkV1 st tAll {} (FV.dec a) VW.plain) (chkV1 st tAll {} (FV.dec a) (VW.dec b))
  | 6 => sized2 len (chkVtos st (FV.dec a) VW.plain) (chkVtos st (FV.dec a) (VW.dec b))
  | 7 => sized2 len (chkVmset st (FV.dec a) VW.plain) (chkVmset st (FV.dec a) (VW.dec b))
  | 8 => sized2 len (chkVmlog st (FV.dec a) VW.plain) (chkVmlog st (FV.dec a) (VW.dec b))
  | 9 => sized2 len (chkVmlog st (FV.dec a) VW.plain) (chkVmlog st (FV.dec a) (VW.dec b))
  | 10 => sized2 len (chkVmlog st (FV.dec a) VW.plain) (chkVmlog st (FV.dec a) (VW.dec b))
  | 11 => sized2 len (chkVmpop st (FV.dec a) VW.plain) (chkVmpop st (FV.dec a) (VW.dec b))
  | 12 => sized len 1 (chkVtkw st (FV.dec a))
  | 13 => sized len 1 (chkVtks st (FV.dec a))
  | 16 => sized2 len (chkV2 st tInt {} (FV.dec a) VW.plain) (chkV2 st tInt {} (FV.dec a) (VW.dec b))
  | 17 => sized2 len (chkV2 st tInt {} (FV.dec a) VW.plain) (chkV2 st tInt {} (FV.dec a) (VW.dec b))
  | 18 => sized2 len (chkV2 st tInt {} (FV.dec a) VW.plain) (chkV2 st tInt {} (FV.dec a) (VW.dec b))
  | 19 => sized2 len (chkV2 st tInt {} (FV.dec a) VW.plain) (chkV2 st tInt {} (FV.dec a) (VW.dec b))
  | 20 => sized2 len (chkV2 st tInt { sat := true } (FV.dec a) VW.plain) (chkV2 st tInt { sat := true } (FV.dec a) (VW.dec b))
  | 21 => sized2 len (chkV2 st tInt {} (FV.dec a) VW.plain) (chkV2 st tInt {} (FV.dec a) (VW.dec b))
  | 22 => sized2 len (chkV2 st [0, 1, 2, 3, 6, 7] { sat := true } (FV.dec a) VW.plain) (chkV2 st [0, 1, 2, 3, 6, 7] { sat := true } (FV.dec a) (VW.dec b))
  | 23 => sized len 2 (chkV2 st tInt { vc := true, sat := true } (FV.dec a) (VW.dec b))
  | 24 => sized len 2 (chkV2 st [0, 1, 2, 3, 6, 7] { vc := true, sat := true } (FV.dec a) (VW.dec b))
  | 25 => sized len 2 (chkVdot4 st (FV.dec a) (VW.dec b))
  | 26 => sized2 len (chkV2 st tInt {} (FV.dec a) VW.plain) (chkV2 st tInt {} (FV.dec a) (VW.dec b))
  | 27 => sized2 len (chkV2 st tInt {} (FV.dec a) VW.plain) (chkV2 st tInt {} (FV.dec a) (VW.dec b))
  | 28 => sized2 len (chkV2 st tInt {} (FV.dec a) VW.plain) (chkV2 st tInt {} (FV.dec a) (VW.dec b))
  | 29 => sized2 len (chkV2 st tInt { sat := true } (FV.dec a) VW.plain) (chkV2 st tInt { sat := true } (FV.dec a) (VW.dec b))
  | 30 => sized2 len (chkV2 st tInt {} (FV.dec a) VW.plain) (chkV2 st tInt {} (FV.dec a) (VW.dec b))
  | 31 => sized2 len (chkV2 st tInt {} (FV.dec a) VW.plain) (chkV2 st tInt {} (FV.dec a) (VW.dec b))
  | 32 => sized2 len (chkV2 st tInt {} (FV.dec a) VW.plain) (chkV2 st tInt {} (FV.dec a) (VW.dec b))
  | 33 => sized2 len (chkV2 st tInt {} (FV.dec a) VW.plain) (chkV2 st tInt {} (FV.dec a) (VW.dec b))
  | 34 => sized2 len (chkV1 st tInt { sat := true } (FV.dec a) VW.plain) (chkV1 st tInt { sat := true } (FV.dec a) (VW.dec b))
  | 35 => sized2 len (chkV1 st tInt { sat := true } (FV.dec a) VW.plain) (chkV1 st tInt { sat := true } (FV.dec a) (VW.dec b))
  | 36 => sized2 len (chkV2 st tInt {} (FV.dec a) VW.plain) (chkV2 st tInt {} (FV.dec a) (VW.dec b))
  | 37 => sized len 2 (chkVsel st (FV.dec a) (VW.dec b))
  | 38 => sized len 2 (chkV2 st tInt { vc := true, sat := true } (FV.dec a) (VW.dec b))
  | 39 => sized len 2 (chkV2 st tInt { vc := true, sat := true } (FV.dec a) (VW.dec b))
  | 40 => sized2 len (chkV1 st tInt {} (FV.dec a) VW.plain) (chkV1 st tInt {} (FV.dec a) (VW.dec b))
  | 41 => sized2 len (chkV1 st tInt {} (FV.dec a) VW.plain) (chkV1 st tInt {} (FV.dec a) (VW.dec b))
  | 48 => sized2 len (chkV2 st tFp { rm := true, sat := true } (FV.dec a) VW.plain) (chkV2 st tFp { rm := true, sat := true } (FV.dec a) (VW.dec b))
  | 49 => sized2 len (chkV2 st tFp { rm := true, sat := true } (FV.dec a) VW.plain) (chkV2 st tFp { rm := true, sat := true } (FV.dec a) (VW.dec b))
  | 50 => sized2 len (chkV2 st tFp { rm := true, sat := true } (FV.dec a) VW.plain) (chkV2 st tFp { rm := true, sat := true } (FV.dec a) (VW.dec b))
  | 51 => sized len 2 (chkV2 st tFp { vc := true, rm := true, sat := true } (FV.dec a) (VW.dec b))
  | 52 => sized len 2 (chkV2 st tFp { vc := true, rm := true, sat := true } (FV.dec a) (VW.dec b))
  | 53 => sized len 2 (chkV2 st tFp { vc := true, rm := true, sat := true } (FV.dec a) (VW.dec b))
  | 54 => sized2 len (chkV2 st tFp {} (FV.dec a) VW.plain) (chkV2 st tFp {} (FV.dec a) (VW.dec b))
  | 55 => sized2 len (chkV2 st tFp {} (FV.dec a) VW.plain) (chkV2 st tFp {} (FV.dec a) (VW.dec b))
  | 56 => sized2 len (chkV1 st tFp {} (FV.dec a) VW.plain) (chkV1 st tFp {} (FV.dec a) (VW.dec b))
  | 57 => sized2 len (chkV1 st tFp {} (FV.dec a) VW.plain) (chkV1 st tFp {} (FV.dec a) (VW.dec b))
  | 58 => sized2 len (chkV2 st tFp {} (FV.dec a) VW.plain) (chkV2 st tFp {} (FV.dec a) (VW.dec b))
  | 59 => sized2 len (chkV2 st tFp { rm := true, sat := true } (FV.dec a) VW.plain) (chkV2 st tFp { rm := true, sat := true } (FV.dec a) (VW.dec b))
  | 60 => sized2 len (chkV1 st tFp { rm := true } (FV.dec a) VW.plain) (chkV1 st tFp { rm := true } (FV.dec a) (VW.dec b))
  | 61 => sized2 len (chkVsfn st (FV.dec a) VW.plain) (chkVsfn st (FV.dec a) (VW.dec b))
  | 62 => sized len 2 (chkVcvt st (FV.dec a) (VW.dec b))
  | 63 => sized len 2 (chkQnt st tBlk tFp (FV.dec a) (VW.dec b))
  | 64 => sized len 2 (chkQnt st tFp tBlk (FV.dec a) (VW.dec b))
  | 80 => sized2 len (chkV2 st tAll { vc := true, perm := true } (FV.dec a) VW.plain) (chkV2 st tAll { vc := true, perm := true } (FV.dec a) (VW.dec b))
  | 81 => sized2 len (chkV2 st tAll { vc := true, perm := true } (FV.dec a) VW.plain) (chkV2 st tAll { vc := true, perm := true } (FV.dec a) (VW.dec b))
  | 82 => sized2 len (chkV2 st tAll { perm := true } (FV.dec a) VW.plain) (chkV2 st tAll { perm := true } (FV.dec a) (VW.dec b))
  | 83 => if len = 1 then some 0x0C else sized len 2 (chkVperm st (FV.dec a) (VW.dec b))
  | 84 => sized2 len (chkVred st (FV.dec a) VW.plain) (chkVred st (FV.dec a) (VW.dec b))
  | 85 => sized2 len (chkVscan st (FV.dec a) VW.plain) (chkVscan st (FV.dec a) (VW.dec b))
  | 86 => sized2 len (chkV2 st tAll {} (FV.dec a) VW.plain) (chkV2 st tAll {} (FV.dec a) (VW.dec b))
  | 87 => sized2 len (chkV1 st tAll {} (FV.dec a) VW.plain) (chkV1 st tAll {} (FV.dec a) (VW.dec b))
  | 88 => sized2 len (chkV2 st tAll { vc := true, perm := true } (FV.dec a) VW.plain) (chkV2 st tAll { vc := true, perm := true } (FV.dec a) (VW.dec b))
  | 89 => sized2 len (chkV1 st tAll {} (FV.dec a) VW.plain) (chkV1 st tAll {} (FV.dec a) (VW.dec b))
  | 90 => sized2 len (chkV1 st tAll {} (FV.dec a) VW.plain) (chkV1 st tAll {} (FV.dec a) (VW.dec b))
  | 91 => sized2 len (chkV2 st tAll {} (FV.dec a) VW.plain) (chkV2 st tAll {} (FV.dec a) (VW.dec b))
  | 92 => sized2 len (chkV1 st tInt {} (FV.dec a) VW.plain) (chkV1 st tInt {} (FV.dec a) (VW.dec b))
  | 96 => sized len 3 (chkVmem st true false true tAll false (FV.dec a) (VW.dec b) (MW.dec c))
  | 97 => sized len 3 (chkVmem st false false true tAll false (FV.dec a) (VW.dec b) (MW.dec c))
  | 98 => sized len 3 (chkVmem st true false false tByte false (FV.dec a) (VW.dec b) (MW.dec c))
  | 99 => sized len 3 (chkVmem st false false false tByte false (FV.dec a) (VW.dec b) (MW.dec c))
  | 100 => sized len 3 (chkVmem st true false false tByte true (FV.dec a) (VW.dec b) (MW.dec c))
  | 101 => sized len 3 (chkVmem st false false false tByte true (FV.dec a) (VW.dec b) (MW.dec c))
  | 102 => sized len 3 (chkVmem st true true false tAll false (FV.dec a) (VW.dec b) (MW.dec c))
  | 103 => sized len 3 (chkVmem st false true false tAll false (FV.dec a) (VW.dec b) (MW.dec c))
  | 104 => sized len 3 (chkVmem st true false true tByte false (FV.dec a) (VW.dec b) (MW.dec c))
  | _ => some 0x06

/-- The lowest defect in space M (02 Table 2.8): stream `st`, LEN, OPC, words. -/
def defectM (_st len opc : Nat) (a b c : SlotWord) : Option SubCode :=
  match opc with
  | 0 => sized len 1 (chkE0 (FE.dec a))
  | 1 => sized len 3 (chkMcfg (FC.dec a) (EW.dec b) c)
  | 2 => sized len 2 (chkMcfgv (FB.dec a) (EW.dec b))
  | 3 => sized len 2 (chkMgo (FE.dec a) (EW.dec b))
  | 4 => sized len 2 (chkMpin (FE.dec a) (EW.dec b))
  | 5 => sized len 2 (chkMunpin (FE.dec a) (EW.dec b))
  | 6 => sized len 2 (chkMdrain (FE.dec a) (EW.dec b))
  | 7 => sized len 2 (chkMsave (FB.dec a) (EW.dec b))
  | 8 => sized len 2 (chkMsave (FB.dec a) (EW.dec b))
  | 9 => sized len 2 (chkMstat (FE.dec a) (EW.dec b))
  | 10 => sized len 2 (chkMfence (FE.dec a) (EW.dec b))
  | _ => some 0x06

/-- The lowest defect in space C (02 Table 2.8): stream `st`, LEN, OPC, words. -/
def defectC (_st len opc : Nat) (a b _c : SlotWord) : Option SubCode :=
  match opc with
  | 0 => sized len 1 (chkE0 (FE.dec a))
  | 1 => sized len 2 (chkCpy (FA.dec a) (EW.dec b))
  | 2 => sized len 2 (chkCpy2 (FA.dec a) (EW.dec b))
  | 3 => sized len 2 (chkCpyt (FA.dec a) (EW.dec b))
  | 4 => sized len 2 (if a.extractLsb' 28 4 = 1 then chkCpyx 1 (FA.dec a) (EW.dec b) else if a.extractLsb' 28 4 = 2 then chkCpyx 2 (FA.dec a) (EW.dec b) else if a.extractLsb' 28 4 = 3 then chkCpyx 3 (FA.dec a) (EW.dec b) else chkCpyx 0 (FA.dec a) (EW.dec b))
  | 5 => sized len 2 (chkCfill (FA.dec a) (EW.dec b))
  | 6 => sized len 2 (chkCsig (FA.dec a) (EW.dec b))
  | 7 => sized len 2 (chkCpref (FA.dec a) (EW.dec b))
  | 8 => sized len 2 (if a.extractLsb' 28 4 = 1 then chkCflush 1 (FA.dec a) (EW.dec b) else if a.extractLsb' 28 4 = 2 then chkCflush 2 (FA.dec a) (EW.dec b) else chkCflush 0 (FA.dec a) (EW.dec b))
  | 9 => sized len 2 (chkCfence (FE.dec a) (EW.dec b))
  | _ => some 0x06

/-- The lowest defect in space B (02 Table 2.8): stream `st`, LEN, OPC, words. -/
def defectB (_st len opc : Nat) (a b _c : SlotWord) : Option SubCode :=
  match opc with
  | 0 => sized len 1 (chkE0 (FE.dec a))
  | 1 => sized len 2 (chkBact (FA.dec a) (EW.dec b))
  | 2 => sized len 2 (chkProd (FA.dec a) (EW.dec b))
  | 3 => sized len 2 (chkProd (FA.dec a) (EW.dec b))
  | 4 => sized len 2 (chkProd (FA.dec a) (EW.dec b))
  | 5 => sized len 2 (chkBapp (FA.dec a) (EW.dec b))
  | 6 => sized len 2 (chkBcp false (FA.dec a) (EW.dec b))
  | 7 => sized len 2 (chkBcp true (FA.dec a) (EW.dec b))
  | 8 => sized len 2 (chkBcp false (FA.dec a) (EW.dec b))
  | 9 => sized len 2 (chkBload (FA.dec a) (EW.dec b))
  | 10 => sized len 2 (chkB1 (FA.dec a) (EW.dec b))
  | 11 => sized len 2 (chkB1 (FA.dec a) (EW.dec b))
  | 12 => sized len 2 (chkBfence (FE.dec a) (EW.dec b))
  | _ => some 0x06

/-- The lowest defect of one instruction whose words are `a`, `b`, `c` in stream `st` (02 R56, R57). -/
def defect (st : Nat) (a b c : SlotWord) : Option SubCode :=
  if lenOf a = 0 then some 0x01 else
  match spaceOf st with
  | none => some 0x02
  | some .s => defectS st (lenOf a) (opcOf a) a b c
  | some .v => defectV st (lenOf a) (opcOf a) a b c
  | some .m => defectM st (lenOf a) (opcOf a) a b c
  | some .c => defectC st (lenOf a) (opcOf a) a b c
  | some .b => defectB st (lenOf a) (opcOf a) a b c

end Machine

/-- The space an instruction is encoded in; an event has none. -/
def Instr.space : Instr → Option Machine.Space
  | .nop _ | .br _ | .brc _ | .call _ | .calli _ | .ret _ | .jmpi _ | .loop _ | .loopset _ | .exit _ | .yield _
  | .suspend _ | .seal _ | .trap _ | .brk _ | .add _ | .sub _ | .mul _ | .mulh _ | .mulhn _ | .div _ | .divn _
  | .rem _ | .remn _ | .and _ | .or _ | .xor _ | .andn _ | .shl _ | .shr _ | .sha _ | .rot _ | .min _ | .max _
  | .minn _ | .maxn _ | .clz _ | .ctz _ | .popc _ | .ext _ | .extn _ | .ins _ | .sel _ | .lea _ | .cmp _ | .movi _
  | .movl _ _ | .movlHi _ _ | .movhi _ | .addi _ | .muli _ | .andi _ | .ori _ | .xori _ | .shli _ | .shri _
  | .shai _ | .cmpi _ | .pand _ | .por _ | .pxor _ | .movpFromP _ | .movpToP _ | .movpToB _ | .movpFromB _
  | .movpToK _ | .movpFromK _ | .movpFromLc _ | .movpKToP _ | .fadd _ | .fsub _ | .fmul _ | .ffma _ | .fdiv _
  | .fsqrt _ | .fmin _ | .fmax _ | .fabs _ | .fneg _ | .fcmp _ | .fcvti _ | .icvtf _ | .ld _ _ | .st _ _ | .lds _ _
  | .sts _ _ | .fence _ | .waitw _ _ | .lrec _ _ | .tkwait _ | .tksig _ | .aadd _ _ | .aand _ _ | .aor _ _
  | .axor _ _ | .amin _ _ | .amax _ _ | .aminn _ _ | .amaxn _ _ | .aswp _ _ | .acas _ _ | .afadd _ _ | .ainc _ _
  | .radd _ _ | .rand _ _ | .ror _ _ | .rxor _ _ | .rmin _ _ | .rmax _ _ | .rfadd _ _ | .rbfadd _ _ | .bar _
  | .barv _ | .bwait _ | .trig _ | .gwait _ | .spawn _ | .nsub _ | .prio _ | .jarv _ | .jwait _ | .watch _
  | .unwatch _ | .pld _ _ | .pst _ _ | .pstBlock _ _ | .pfaa _ _ | .pcas _ _ | .pred _ _ | .pfence _ _ | .clrun _ _
  | .clwait _ _ | .mfs _ | .mts _ | .svc _ | .rftResume _ | .rftSkip _ | .rftPark _ | .rftRestart _ | .tlbi _
  | .tlbia _ | .llcopCarve _ _ | .llcopUncarve _ _ | .llcopClean _ _ | .llcopFlush _ _ | .purge _ | .chipopStatus _
  | .chipopFence _ | .chipopReset _ | .chipopClearlost _ | .wfi _ => some .s
  | .vnop _ | .vview _ _ _ | .tview _ _ _ | .vmov32 _ | .vmov64 _ _ | .vxmov32 _ | .vxmov64 _ _ | .vbcast32 _
  | .vbcast64 _ _ | .vtos32 _ | .vtos64 _ _ | .vmset32 _ | .vmset64 _ _ | .vmand32 _ | .vmand64 _ _ | .vmor32 _
  | .vmor64 _ _ | .vmxor32 _ | .vmxor64 _ _ | .vmpop32 _ | .vmpop64 _ _ | .vtkw _ | .vtks _ | .vadd32 _
  | .vadd64 _ _ | .vsub32 _ | .vsub64 _ _ | .vadds32 _ | .vadds64 _ _ | .vsubs32 _ | .vsubs64 _ _ | .vmul32 _
  | .vmul64 _ _ | .vmulh32 _ | .vmulh64 _ _ | .vmulw32 _ | .vmulw64 _ _ | .vmac _ _ | .vmacw _ _ | .vdot4 _ _
  | .vand32 _ | .vand64 _ _ | .vor32 _ | .vor64 _ _ | .vxor32 _ | .vxor64 _ _ | .vshl32 _ | .vshl64 _ _ | .vshr32 _
  | .vshr64 _ _ | .vsha32 _ | .vsha64 _ _ | .vmin32 _ | .vmin64 _ _ | .vmax32 _ | .vmax64 _ _ | .vabs32 _
  | .vabs64 _ _ | .vneg32 _ | .vneg64 _ _ | .vcmp32 _ | .vcmp64 _ _ | .vsel _ _ | .vaddmin _ _ | .vaddmax _ _
  | .vclz32 _ | .vclz64 _ _ | .vpopc32 _ | .vpopc64 _ _ | .vfadd32 _ | .vfadd64 _ _ | .vfsub32 _ | .vfsub64 _ _
  | .vfmul32 _ | .vfmul64 _ _ | .vfma _ _ | .vfms _ _ | .vfnma _ _ | .vfmin32 _ | .vfmin64 _ _ | .vfmax32 _
  | .vfmax64 _ _ | .vfabs32 _ | .vfabs64 _ _ | .vfneg32 _ | .vfneg64 _ _ | .vfcmp32 _ | .vfcmp64 _ _ | .vfdiv32 _
  | .vfdiv64 _ _ | .vfsqrt32 _ | .vfsqrt64 _ _ | .vsfn32 _ | .vsfn64 _ _ | .vcvt _ _ | .vqnt _ _ | .vdqnt _ _
  | .vshup32 _ | .vshup64 _ _ | .vshdn32 _ | .vshdn64 _ _ | .vrot32 _ | .vrot64 _ _ | .vperm _ _ | .vred32 _
  | .vred64 _ _ | .vscan32 _ | .vscan64 _ _ | .vzip32 _ | .vzip64 _ _ | .vuzp32 _ | .vuzp64 _ _ | .vext32 _
  | .vext64 _ _ | .vcompr32 _ | .vcompr64 _ _ | .vexpd32 _ | .vexpd64 _ _ | .vtrn32 _ | .vtrn64 _ _ | .viota32 _
  | .viota64 _ _ | .vld _ _ _ | .vst _ _ _ | .vldsd _ _ _ | .vstsd _ _ _ | .vldx _ _ _ | .vstx _ _ _ | .vldt _ _ _
  | .vstt _ _ _ | .vldb _ _ _ => some .v
  | .mnop _ | .mcfg _ _ _ | .mcfgv _ _ | .mgo _ _ | .mpin _ _ | .munpin _ _ | .mdrain _ _ | .msave _ _ | .mload _ _
  | .mstat _ _ | .mfence _ _ => some .m
  | .cnop _ | .cpy _ _ | .cpy2 _ _ | .cpyt _ _ | .cpyxCast _ _ | .cpyxScale _ _ | .cpyxAdd _ _ | .cpyxReduce _ _
  | .cfill _ _ | .csig _ _ | .cpref _ _ | .cflushClean _ _ | .cflushInval _ _ | .cflushDiscard _ _ | .cfence _ _ => some .c
  | .bnop _ | .bact _ _ | .bmv _ _ | .bmvc _ _ | .bvm _ _ | .bapp _ _ | .browcp _ _ | .browz _ _ | .bbufcp _ _
  | .bload _ _ | .bdrop _ _ | .bjoin _ _ | .bfence _ _ => some .b
  | .groupDispatch | .icacheFill | .resultWrite | .landing | .lateDataFreeze | .lateDataArrival | .lateStall
  | .mStall | .bStall | .cStall | .egressRelease | .signalGiven | .trapDelivery | .wfiTimeout | .slotClearDone
  | .matrixStep | .rowBlockWrite | .drainStart | .drainRow | .mloadRowWrite | .strikeMatrix | .copyPiece | .copyEnd
  | .granuleLanding | .macroArrival _ | .macroCommit _ | .productOutput | .hydrationComplete _ _ | .refresh _ _
  | .refreshPeriodChange _ | .strikeLane _ | .llcAccept | .pageWalk | .syncRequestApply | .barrierArrival
  | .joinArrival | .queryReply | .podPhaseReady _ _ | .bcfgWrite _ _ _ | .bcfgFlt _ _ | .bcfgClr _ _
  | .syncOvfWrite _ _ | .nodeCommit _ _ | .nodeDispatch | .strandStart | .nodeAging _ | .nodeComplete _
  | .preemptionRequest _ _ | .preemption | .strandResume | .suspendWake _ _ | .strikeCore | .chipletLoss _
  | .drawerRetrain _ | .retrainDone _ | .ductusTableWrite _ _ _ | .frameBoundary _ | .keySlotWrite _ _ _
  | .fabricRequest _ | .fabricReply _ | .frameReplay _ | .peerRetrain _ | .runStart _ | .collSend _ | .collRecv _
  | .collRrs _ | .collCopy _ | .collWait _ | .collLoop _ | .collEnd _ | .countedWrite _ | .collAbort _ | .powerGood
  | .setready | .packageReset | .hostWrite _ _ _ | .hostRead _ _ _ | .ckptGo | .ckptComplete | .ckptRestore
  | .ckptRestoreComplete | .wakeWordWrite _ _ | .funcModeWrite _ | .serviceReply _ _ _ | .serviceRingConsWrite _
  | .triageTailWrite _ | .resetReportTailWrite _ | .attestation _ | .d3hotEntry | .d0Entry
  | .systemBlockWrite _ _ _ | .freezeAssert | .freezeRelease | .throttle _ | .hotSet _ | .hotClear _
  | .overtempReset | .peerPortTrained _ | .macroEnd _ => none

end Sys2Proof
end

