-- ==== Sys2Proof/Machine/Fetch.lean ====
section
/-! DEFINITION. Fetch.lean: the instruction cache and its fills (04 R133, R134), folios and their rubrics (02 R34, R35), and
the event ICACHE_FILL. -/

namespace Sys2Proof.Machine

/-! ### Blocks -/

/-- The index of an address's block, bits 14:8, and its tag, bits 55:15. -/
def blockIx (va : Nat) : Nat := va / 256 % 128
def blockTag (va : Nat) : Nat := va / 2 ^ 15 % 2 ^ 41
/-- The block of an address, if the cache holds it. -/
def Core.block (c : Core) (va : Nat) : Option IBlock := (c.icache.get (blockIx va)).filter fun b => b.tag == blockTag va
/-- A fill evicts the block that shares its index. -/
def Core.setBlock (c : Core) (va : Nat) (b : Option IBlock) : Core := { c with icache := c.icache.set (blockIx va) b }
/-- The address of the block that holds an address. -/
def blockOf (va : Word) : Nat := va.toNat / 256 * 256
def Core.dropFill (c : Core) (va : Nat) : Core := { c with fills := c.fills.filter fun x => x.va != va }
def Core.setFill (c : Core) (f : Fill) : Core := { c with fills := c.fills.map fun x => if x.va = f.va then f else x }

/-- One step of a fill: its translation, at the level of its request, then its data; a fault waits with the fill until a
dispatch needs the block (R134). -/
def State.fillStep (s : State) (f : Fill) : State :=
  match f.loc with
  | none =>
    let va := BitVec.ofNat 64 f.va
    (match s.xlate s.core.dom f.level .fetch va with
    | .ok loc => (s.mapCore fun c => c.setFill { f with loc := some loc, doneAt := s.wall + 1 + Config.delay s.freeCtr }).bump
    | .miss v => (s.wantWalk s.core.dom v .fetch).mapCore fun c => c.setFill { f with doneAt := s.wall + 1 }
    | .bad cause _ i1 =>
      let i2 : Word := match s.core.walkFault s.core.dom va with
        | some w => if cause = w.cause then w.i2 else 0
        | none => 0
      s.dropWalkFault.mapCore fun c => c.setFill { f with fault := some (cause, i1, i2) })
  | some loc =>
    if (s.lateChan loc 256).isSome then s.mapCore fun c => c.setFill { f with doneAt := s.wall + 1 } else
    let s := s.inject loc 256 false
    s.mapCore fun c => (c.dropFill f.va).setBlock f.va (some { tag := blockTag f.va, data := s.bytesAt loc 256 })

/-- The front end requests a block that is not in the cache. -/
def State.requestBlock (s : State) (folio : Word) : State :=
  let va := blockOf folio
  if !canonical folio || (s.core.block va).isSome || s.core.fills.any (fun f => f.va == va) then s else
  let f : Fill := { va := va, doneAt := s.wall, level := s.core.level.toNat, loc := none }
  (s.mapCore fun c => { c with fills := c.fills ++ [f] }).fillStep f

def State.dueFill (s : State) : Option Fill := s.core.fills.find? fun f => decide (f.doneAt ≤ s.wall) && f.fault.isNone

/-- ICACHE_FILL: a block's translation is at hand, or its bytes have arrived (R133, R134). -/
def execIcacheFill (s : State) : Result :=
  .next (match s.dueFill with
    | none => s
    | some f => s.fillStep f)

/-! ### Folios -/

/-- What a dispatch finds of a folio: its eight words, a block to wait for, or a fault with its cause and fields. -/
inductive FolioAt where
  | words (ws : List SlotWord)
  | absent
  | bad (cause : Nat) (i0 i1 i2 : Word)
  deriving DecidableEq, Repr

/-- The `n` slot words in a run of bytes (R34). -/
def wordsOf (bs : List Byte) : Nat → List SlotWord
  | 0 => []
  | n + 1 => BitVec.ofNat 32 (leNat (bs.take 4)) :: wordsOf (bs.drop 4) n

def Core.folioAt (c : Core) (folio : Word) : FolioAt :=
  if !canonical folio then .bad 0x05 folio 1 0 else
  match c.block folio.toNat with
  | some b => .words (wordsOf (b.data.drop (folio.toNat % 256)) 8)
  | none => match (c.fills.find? fun f => f.va == blockOf folio).bind (·.fault) with
    | some f => .bad f.1 folio f.2.1 f.2.2
    | none => .absent

/-- The rubric, and the nibble of slot `j`: STREAM and STOP (02 Table 2.1). -/
def rubric (ws : List SlotWord) : SlotWord := ws.headD 0
def slotWord (ws : List SlotWord) (j : Nat) : SlotWord := ws.getD j 0
def streamOf (ws : List SlotWord) (j : Nat) : Nat := (rubric ws).toNat / 2 ^ (4 * (j - 1)) % 8
def stopOf (ws : List SlotWord) (j : Nat) : Bool := (rubric ws).getLsbD (4 * (j - 1) + 3)
def isEntry (ws : List SlotWord) : Bool := (rubric ws).getLsbD 28
/-- An empty slot as R35 has it. -/
def emptySlot (ws : List SlotWord) (j : Nat) : Bool := streamOf ws j == 7 && !stopOf ws j && slotWord ws j == 0

/-- The first instruction at or after a point, past empty slots, as far as the cache shows (R40, 14 Table 14.3). -/
def Core.firstPoint (c : Core) : Nat → Pc → Pc
  | 0, pc => pc
  | fuel + 1, pc => match c.folioAt pc.folio with
    | .words ws => (match ([1, 2, 3, 4, 5, 6, 7].filter fun j => decide (pc.slot ≤ j)).find? fun j => !emptySlot ws j with
      | some j => { pc with slot := j }
      | none => if pc.entry.isSome then pc else c.firstPoint fuel { folio := pc.folio + 32 })
    | _ => pc

end Sys2Proof.Machine
end

