-- ==== Sys2Proof/Machine/System.lean ====
section
/-! DEFINITION. System.lean: system registers, traps and their return, WFI, TLB and LLC maintenance, PURGE (14 R413 to R442),
and the events TRAP_DELIVERY, WFI_TIMEOUT and STRIKE. -/

namespace Sys2Proof.Machine

/-! ### System registers (14 R414, R415) -/

/-- E_ch: slots of channel `ch` reserved for ingress to a core and a domain (10 R321). -/
def Drawer.ech (d : Drawer) (core dom ch : Nat) : Nat :=
  (d.ductus.filter fun e => e.1 / 64 == ch && e.2.extractLsb' 0 2 == (1 : BitVec 2) && (e.2.extractLsb' 4 6).toNat == dom
    && (e.2.extractLsb' 10 7).toNat == core).length
def Drawer.echs (d : Drawer) (core dom : Nat) : List Nat := (List.range 128).map (d.ech core dom)

/-- DUCTUS_FRAME for a core and a domain (10 Table 10.9). -/
def Drawer.frameReg (d : Drawer) (core dom : Nat) : Word :=
  let es := d.echs core dom
  BitVec.ofNat 64 (62 + 64 * 2 ^ 8 + 256 * 2 ^ 16 + es.foldl min 64 * 2 ^ 32 + es.foldl max 0 * 2 ^ 40)

/-- What an MFS reads (14 Table 14.2). -/
def State.sysReg (s : State) (num : Nat) : Word :=
  let c := s.core
  let str (f : Strand → Nat) : Word := BitVec.ofNat 64 ((c.strand.map f).getD 0)
  let trap (v : Word) : Word := if c.trap.active then v else 0
  match num with
  | 0x00 => BitVec.ofNat 64 s.id
  | 0x01 => BitVec.ofNat 64 (s.id / 4)
  | 0x02 => str (·.idx)
  | 0x03 => str (·.node)
  | 0x04 => str (·.tag)
  | 0x05 => str (·.dom)
  | 0x10 => c.sc.priv.setWidth 64
  | 0x11 => if c.sc.satcvt then 1 else 0
  | 0x12 => c.sc.fpstat.setWidth 64
  | 0x13 => c.sc.srseed
  | 0x14 => if c.sc.chkEarly then 1 else 0
  | 0x15 => c.sc.carve.setWidth 64
  | 0x16 => c.sc.ovf
  | 0x20 => c.trapCause
  | 0x21 => trap c.trap.pc
  | 0x22 => trap (c.trap.resume &&& 0x00FFFFFFFFFFFFE7)
  | 0x23 => trap c.trap.i0
  | 0x24 => trap c.trap.i1
  | 0x25 => trap c.trap.i2
  | 0x26 => trap c.trap.i3
  | 0x27 => c.trap.vec
  | 0x30 => 1
  | 0x31 => (match c.strand with
    | some t => let r := s.contRec t.node t.idx; (r.extractLsb' 128 12).setWidth 64 ||| ((r.extractLsb' 140 40).setWidth 64 <<< 12)
    | none => 0)
  | 0x40 => s.pkg.aithr.setWidth 64
  | 0x41 => BitVec.ofNat 64 (832 + 768 * 65536)
  | 0x42 => s.drawer.frameReg s.id c.dom
  | 0x50 => s.pkg.injAddr
  | 0x51 => s.pkg.injCtl.setWidth 64
  | 0x52 => c.strike.setWidth 64
  | 0x53 => c.tlbStat.setWidth 64
  | 0x108 => BitVec.ofNat 64 ([12, 13, 14, 15].foldl (fun a n => if c.sc.p.get n then a + 2 ^ (n - 12) else a) 0)
  | n => if 0x100 ≤ n ∧ n ≤ 0x107 then c.sc.s.get (n - 0x100 + 56) else 0

/-- A system-register write falls due: the package's registers, or the core's (14 R414). -/
def State.applySys (s : State) (num : Nat) (v : Word) : State :=
  match num with
  | 0x40 => { s with pkg := { s.pkg with aithr := v.setWidth 16 } }
  | 0x50 => { s with pkg := { s.pkg with injAddr := v &&& 0x000FFFFFFFFFFFC0 } }
  | 0x51 => { s with pkg := { s.pkg with injCtl := (v.setWidth 4 &&& 7) ||| (s.pkg.injCtl &&& ~~~(v.setWidth 4) &&& 8) } }
  | _ => s.mapCore fun c => c.setSys num v
/-- A pending write falls due (02 R62). -/
def State.applyWr (s : State) (w : Wr) : State := match w with
  | .sys n v => s.applySys n v
  | w => s.mapCore fun c => c.apply w

/-- The levels of a register: read, write. -/
def sysLevels (num : Nat) : Nat × Nat := ((sysRegs.find? fun r => r.1 == num).map (·.2)).getD (0, 0)
/-- PRIVILEGE, or ILLEGAL_OPERAND for a bank name outside trap state (14 R414, R415). -/
def State.sysFault (s : State) (num need : Nat) : Option (Nat × Word) :=
  if s.core.level.toNat < need then some (0x04, BitVec.ofNat 64 need)
  else if 0x100 ≤ num ∧ !s.core.trap.active then some (0x02, 0)
  else none

def execMfs (w : FC) (s : State) : Result :=
  let num := w.imm.toNat
  .next (match s.sysFault num (sysLevels num).1 with
    | some (c, i1) => s.raise c (BitVec.ofNat 64 num) i1
    | none => (s.postS 1 w.d.toNat (s.sysReg num)).done)

/-- The granule lies where an error can be injected (14 R446). -/
def injectable (v : Word) : Bool := match rangeOf (v &&& 0x000FFFFFFFFFFFC0).toNat with
  | .drawer => true
  | .carve => true
  | .stack _ => true
  | _ => false

/-- The register's own rule about a value (14 R413, R446; 05 R141): a cause and its second field. -/
def State.sysBad (s : State) (num : Nat) (v : Word) : Option (Nat × Word × Word) :=
  match num with
  | 0x10 =>
    if v &&& 3 = 3 then some (0x02, v, 0)
    else if s.core.sc.priv.toNat < (v &&& 3).toNat then some (0x04, 0x10, v &&& 3) else none
  | 0x15 => if v.toNat % 2 ^ 22 % 64 ≠ 0 ∨ 2 ^ 21 < v.toNat % 2 ^ 22 then some (0x02, v, 0) else none
  | 0x51 => if v.getLsbD 0 ∧ ((v >>> 1) &&& 3 = 3 ∨ !injectable s.pkg.injAddr) then some (0x02, v, 0) else none
  | _ => none

def execMts (w : FC) (s : State) : Result :=
  let num := w.imm.toNat
  let v := s.rs w.d.toNat
  .next (match s.sysFault num (sysLevels num).2 with
    | some (c, i1) => s.raise c (BitVec.ofNat 64 num) i1
    | none => match s.sysBad num v with
      | some (c, i0, i1) => s.raise c i0 i1
      | none => if num = 0x12 then (s.post 1 (.fpclr (v.setWidth 5))).done else (s.post 1 (.sys num v)).done)

/-- PRIVILEGE of an instruction that needs `level` (14 R413). -/
def State.needs (s : State) (level : Nat) (k : State) : State :=
  if s.core.level.toNat < level then s.raise 0x04 0 (BitVec.ofNat 64 level) else k

/-! ### TRAP, BRK, SVC (14 R424): a record that is delivered after their group has dispatched -/

def State.trapAfter (s : State) (cause : Nat) (i0 : Word) : State := (s.record (s.core.fault cause i0 0 0)).done

def execTrap (w : FE) (s : State) : Result :=
  .next (if s.rp (w.misc.toNat / 2 ^ 16 % 16) ^^ w.misc.getLsbD 20 then s.trapAfter 0x13 ((w.misc.setWidth 16).setWidth 64) else s.done)
def execBrk (w : FE) (s : State) : Result := .next (s.trapAfter 0x14 ((w.misc.setWidth 16).setWidth 64))
def execSvc (w : FE) (s : State) : Result := .next (s.trapAfter 0x00 ((w.misc.setWidth 16).setWidth 64))

/-! ### RFT (14 R425) -/

/-- Every pending write and effect of the handler is done, those of the RFT's own group apart (14 R425). -/
def Core.handlerDone (c : Core) : Bool :=
  !c.pend.any (fun p => p.hand && decide (p.seq < c.cur.first)) && !c.lands.any (fun l => l.hand && decide (l.seq < c.cur.first))
    && !c.hold.any fun e => e.stream == 0 && decide (c.trap.seq0 ≤ e.seq) && decide (e.seq < c.cur.first) && e.owner == c.owner

/-- After a STALL: what it waits for. For the S and C streams TRAP_INFO2 names the channel (bit 7 set) or port (10 R326);
for an engine operation the waiting address gives its drawer channel (08 R251, 09 R292, 10 R319). -/
def Core.stallName (c : Core) : Nat :=
  if c.trap.stream = 3 ∨ c.trap.stream = 5 then 128 + (c.trap.i0.toNat / 256) % 128 else c.trap.i2.toNat % 256
def State.stallPending (s : State) : Bool := s.core.trap.code == 0x0C && s.stillOut s.core.stallName

/-- The faulted operation may go on: a drain rejoins its engine's order behind those waiting (08 R251). -/
def State.resumeOp (s : State) : State :=
  let t := s.core.trap
  if !t.running then s else
  let hit (n : Nat) : Bool := n == t.op
  let back := t.stream == 3 && s.core.mat.drains.any fun d => hit d.seq && d.faulted
  let s := if back then s.setQuad (s.id / 4) { quadOf s (s.id / 4) with epi := (quadOf s (s.id / 4)).epi ++ [(s.id, t.op)] } else s
  s.mapCore fun c => { c with
    mat := { c.mat with
      nest := c.mat.nest.map fun n => if t.stream == 3 && hit n.seq then { n with faulted := false, wait := {} } else n
      drains := c.mat.drains.map fun d => if t.stream == 3 && hit d.seq then { d with faulted := false, wait := {}, issued := (quadOf s (s.id / 4)).cyc } else d
      xfers := c.mat.xfers.map fun x => if t.stream == 3 && hit x.seq then { x with faulted := false, wait := {} } else x }
    cpy := { c.cpy with copies := c.cpy.copies.map fun k => if t.stream == 4 && hit k.seq then { k with faulted := false, wait := {} } else k }
    macros := c.macros.map fun m => if t.stream == 5 && hit m.seq then { m with faulted := false, wait := {} } else m }

/-- The faulted engine instruction is discarded: a queue head, or a nest, drain, transfer, macro or copy (08 R251).
DESIGN CHOICE: MPROG.VALID reads 0 once a nest is discarded (log 92). -/
def State.skipOp (s : State) : State :=
  let t := s.core.trap
  if t.stream = 0 then s else
  if !t.running then
    s.mapCore fun c => { c with queues := c.queues.set t.stream ((c.queues.get t.stream).filter fun q => q.seq != t.op) }
  else
    let s := s.setQuad (s.id / 4) { quadOf s (s.id / 4) with epi := (quadOf s (s.id / 4)).epi.filter fun e => e != (s.id, t.op) }
    s.mapCore fun c =>
      if t.stream = 3 then
        let m := (c.mat.drains.filter fun d => d.seq == t.op).foldl MatCtx.releaseSlot c.mat
        let nest := (c.mat.nest.map fun n => n.seq == t.op).getD false
        { c with mat := { m with
          nest := if nest then none else m.nest
          valid := m.valid && !nest
          res := if nest then 0 else m.res
          drains := m.drains.filter fun d => d.seq != t.op
          xfers := m.xfers.filter fun x => x.seq != t.op } }
      else if t.stream = 4 then { c with cpy := { c.cpy with copies := c.cpy.copies.filter fun k => k.seq != t.op } }
      else { c with macros := c.macros.filter fun m => m.seq != t.op }

/-- RFT: in trap state, at SUP or FW, once the handler's writes and effects are done. -/
def State.rft (s : State) (k : State → State) : State :=
  s.needs 1 (if !s.core.trap.active then s.raise 0x02
    else if !s.core.handlerDone then s.hold
    else k s)

def execRftResume (_w : FE) (s : State) : Result :=
  .next (s.rft fun s => if s.stallPending then s.hold else ((s.resumeOp.dropQueries s.core.queries).mapCore Core.returnTrap).done)
def execRftSkip (_w : FE) (s : State) : Result :=
  .next (s.rft fun s => if s.stallPending then s.hold else ((s.skipOp.dropQueries s.core.queries).mapCore Core.returnTrap).done)

/-- Park: the strand is written back as a pre-emption at t; after a STALL it waits for its channel. -/
def execRftPark (_w : FE) (s : State) : Result :=
  .next (s.rft fun s =>
    let ch := if s.stallPending then some s.core.stallName else none
    match ((s.resumeOp.dropQueries s.core.queries).mapCore Core.returnTrap).stopStrand false with
    | (t, true) => (t.mapCore fun c => { c with strand := c.strand.map fun x => { x with waitCh := ch } }).done
    | (t, false) =>
      let s := { s with host := t.host, nextId := t.nextId }
      (s.mapCore fun c => { c with strand := c.strand.map fun x => { x with shorted := true } }).hold)

/-- Restart: from the strand's continuation record, as a strike (14 R437). -/
def execRftRestart (_w : FE) (s : State) : Result := .next (s.rft fun s => (s.restartOrPurge s.id).done)

/-! ### WFI (14 R426) -/

def execWfi (w : FE) (s : State) : Result :=
  .next (s.needs 1 (
    let c := s.core
    match c.flow.wfi with
    | none =>
      let n := w.misc.toNat % 65536
      (s.mapCore fun c => { c with flow := { c.flow with wake := false, wfi := some (if n = 0 then 0 else c.flow.run + 64 * n) } }).hold
    | some _ =>
      if c.flow.wake || (c.strand.map (·.preempt)).getD false || !c.recs.isEmpty then
        (s.mapCore fun c => { c with flow := { c.flow with wake := false, wfi := none } }).done
      else s.hold))

/-- The count of a held WFI has passed. -/
def Core.wfiOver (c : Core) : Bool := match c.flow.wfi with
  | some d => d != 0 && decide (d ≤ c.flow.run) && !c.flow.wake
  | none => false
def execWfiTimeout (s : State) : Result :=
  .next (if s.core.wfiOver then s.mapCore fun c => { c with flow := { c.flow with wake := true } } else s)

/-! ### TLBI and TLBIA (14 R431 to R433) -/

/-- Cores in scope: this one, or every core. -/
def State.tlbCores (s : State) (scope : Nat) (f : Core → Core) : State := if scope = 0 then s.mapCore f else s.mapCores f

/-- Drop TLB entries, walks under way and their faults. -/
def Core.dropTlb (c : Core) (hit : Nat → Nat → Nat → Bool) : Core :=
  { c with
    tlb := c.tlb.filter fun e => !hit e.dom e.va e.size
    walks := c.walks.filter fun w => !hit w.dom (w.va.toNat / 4096 * 4096) 4096
    wfaults := c.wfaults.filter fun w => !hit w.dom (w.va.toNat / 4096 * 4096) 4096 }

/-- Locations that an instruction in progress captured at its issue and has still to read or write: a timed copy's source bytes not
sampled yet (10 R322), the home bytes of a product or of a BAPP (09 R281, R284). -/
def Copy.captured (k : Copy) : List (Nat × Nat) := (k.grans.filter fun g => g.data.isNone).map fun g => (g.loc, g.len)
def Macro.captured (m : Macro) : List (Nat × Nat) := if m.produced then [] else match m.kind with
  | .product _ _ _ _ _ parts _ => parts.flatten
  | .bapp _ _ rows => rows.flatMap (·.1)
  | _ => []
/-- They are abandoned where the instruction, or one before it in its stream, stopped with a fault. -/
def Core.goingOn (c : Core) (m : Macro) : Bool := !c.macros.any fun x => x.faulted && decide (x.seq ≤ m.seq)
/-- One that captured its locations before the number `n` is in progress. -/
def Core.capturedBefore (c : Core) (n : Nat) : Bool :=
  c.cpy.copies.any (fun k => !k.faulted && !k.captured.isEmpty && decide (k.born ≤ n)) ||
  c.macros.any fun m => c.goingOn m && decide (m.born ≤ n) && (match m.kind with
    | .units .. => !m.produced
    | _ => !m.captured.isEmpty)

/-- Accesses in scope that began before the number `n` and are not performed. -/
def State.olderThan (s : State) (scope n : Nat) : Bool :=
  let old (c : Core) : Bool := c.capturedBefore n || c.hold.any (fun e => decide (e.id < n)) || c.lands.any (fun l => decide (l.id < n) && l.data.isNone && l.fault.isNone && !l.fabric)
  if scope = 0 then old s.core || s.net.any (fun m => decide (m.id < n) && m.core == s.id && !m.kind.query)
  else s.liveCores.any (fun k => old (s.coreAt k)) || s.net.any (fun m => decide (m.id < n) && !m.kind.query)

/-- The three phases: earlier S accesses performed, entries dropped, accesses that used them performed. -/
def State.tlbInval (s : State) (scope : Nat) (drop : State → State) : State :=
  match s.heldNow with
  | none =>
    if !(s.openS (-1) scope).isEmpty then s.hold
    else ((drop s).addHeld 0 (BitVec.ofNat 64 s.nextId)).hold
  | some h => if s.olderThan scope h.v.toNat then s.hold else (s.dropHeld h.id).done

def execTlbi (w : FA) (s : State) : Result :=
  let dom := if w.b = 0 then s.core.dom else (s.rs w.b.toNat).toNat % 64
  let va := (s.rs w.a.toNat).toNat
  let sc := w.fn.toNat % 8
  .next (s.needs 1 (s.tlbInval sc fun s => s.tlbCores sc fun c => c.dropTlb fun d a n => d == dom && decide (a ≤ va) && decide (va < a + n)))

def execTlbia (w : FE) (s : State) : Result :=
  let all := w.misc.getLsbD 3
  let sc := w.misc.toNat % 8
  .next (s.needs (if all then 2 else 1) (s.tlbInval sc fun s =>
    let dom := s.core.dom
    s.tlbCores sc fun c => { (c.dropTlb fun d _ _ => all || d == dom) with icache := [], fills := [] }))

/-! ### LLCOP (14 R435) -/

/-- The units of 64 MiB that a carve or uncarve names; `none` is ILLEGAL_OPERAND. -/
def carveUnits (o n : Word) : Option (List Nat) :=
  if o.toNat % 2 ^ 26 ≠ 0 ∨ n.toNat < 1 ∨ 16 < n.toNat ∨ 2 ^ 30 < o.toNat + n.toNat * 2 ^ 26 then none
  else some ((List.range n.toNat).map fun i => o.toNat / 2 ^ 26 + i)

/-- The unit reads as zeros, without blots, its tile counters clear. -/
def Mem.clearUnit (m : Mem) (u : Nat) : Mem :=
  let lo := 0x8000000000000 + u * 2 ^ 26
  let out (loc : Nat) : Bool := decide (paOf loc < lo) || decide (lo + 2 ^ 26 ≤ paOf loc)
  { m with
    base := m.base.filter fun e => out e.1
    dirty := m.dirty.filter fun e => out e.1
    blots := m.blots.filter fun e => out (e.1 % 2 ^ 46 * 64 + e.1 / 2 ^ 46 * 2 ^ 52)
    tiles := m.tiles.filter fun e => e.1 / 2 ^ 14 != u }

/-- Accesses on their way to a unit. -/
def State.unitBusy (s : State) (u : Nat) : Bool :=
  let lo := 0x8000000000000 + u * 2 ^ 26
  let hits (sp : List (Nat × Nat)) : Bool := overlap sp [(lo, 2 ^ 26)]
  s.net.any (fun m => hits m.kind.spans) || s.liveCores.any fun k => let c := s.coreAt k
    c.cpy.copies.any (fun k => hits k.captured) || c.macros.any (fun x => hits x.captured) ||
    c.hold.any (fun e => hits e.kind.spans) || c.lands.any fun l => match l.src with
      | .mem ps => l.data.isNone && hits ps
      | .reply => false

def State.carveOp (s : State) (w : FA) (m : MW) (carve : Bool) (k : List Nat → State) : State :=
  let o := s.rs w.a.toNat + off10 m
  s.needs 2 (match carveUnits o (s.rs w.b.toNat) with
    | none => s.raise 0x02 o
    | some us => if us.any fun u => s.mem.carved.contains u == carve then s.raise 0x02 o else k us)

def execLlcopCarve (w : FA) (m : MW) (s : State) : Result :=
  .next (s.carveOp w m true fun us => (State.trimLlc { s with mem := us.foldl (fun x u => { x.clearUnit u with carved := x.carved ++ [u] }) s.mem }).done)
def execLlcopUncarve (w : FA) (m : MW) (s : State) : Result :=
  .next (s.carveOp w m false fun us => if us.any s.unitBusy then s.hold else
    { s with mem := us.foldl (fun x u => { x.clearUnit u with carved := x.carved.filter (· != u) }) s.mem }.done)
def execLlcopClean (_w : FA) (_m : MW) (s : State) : Result := .next (s.needs 1 { s with mem := s.mem.writeBack }.done)
def execLlcopFlush (_w : FA) (_m : MW) (s : State) : Result := .next (s.needs 1 { s with mem := { s.mem.writeBack with kept := [] }, llc := [] }.done)

/-! ### PURGE (14 R442) -/

def execPurge (w : FA) (s : State) : Result :=
  let tag := (s.rs w.a.toNat).toNat % 65536
  let dom := if w.b = 0 then s.core.dom else (s.rs w.b.toNat).toNat % 64
  let own := (s.core.strand.map (·.tag)).getD 0
  .next (match s.heldNow with
    | some _ => s.ask 5 (fun _ s => s) fun v s => s.postS 1 w.d.toNat v
    | none => s.needs (if w.b ≠ 0 then 2 else if tag ≠ own then 1 else 0)
      (s.ask 5 (fun id s => s.request (.purge tag dom id)) fun v s => s.postS 1 w.d.toNat v))

/-! ### TRAP_DELIVERY (14 R417 to R423) -/

def purgeCause (c : Nat) : Bool := c == 0x09 || c == 0x17
/-- A code of Table 14.4, which a double fault's second cause names. -/
def tableCause (c : Nat) : Nat := if c ≤ 0x17 ∧ c ≠ 0x12 then c else 0

/-- The strand ends as a purge of its tag (14 R421, R423, R441). -/
def State.purgeStrand (s : State) (t : Strand) (r : Report) : State :=
  ((s.mapCore fun c => { c with recs := [], dbl := none }).triage r).purge t.dom t.tag |>.1

def execTrapDelivery (s : State) : Result :=
  .next (match s.core.strand with
    | none => s
    | some t =>
      let tr := s.core.trap
      match s.core.dbl with
      | some (second, reason) =>
        s.purgeStrand t { t.report 2 with
          cause := tr.code, pc := tr.pc, i0 := tr.i0, i1 := tr.i1, i2 := tr.i2, i3 := tr.i3, reason := reason,
          second := tableCause ((second.map (·.cause)).getD 0) }
      | none =>
        if tr.active then s else
        match firstRec s.core.recs with
        | none => s
        | some f =>
          if purgeCause f.cause then s.purgeStrand t (f.report t 1 0 0)
          else if !tr.vec.getLsbD 0 then s.purgeStrand t (f.report t 2 0 4)
          else (s.dropQueries s.core.queries).mapCore fun c =>
            let c := { c with recs := c.recs.erase f, pc := c.firstPoint 8 c.pc }
            c.takeTrap f (pointWord c.pc.folio c.pc.slot))

/-! ### STRIKE (14 R436 to R438) -/

def satField (v : BitVec 48) (k : Nat) : BitVec 48 :=
  if (v.toNat / 2 ^ (16 * k)) % 65536 = 65535 then v else v + BitVec.ofNat 48 (2 ^ (16 * k))

/-- A strike reported in this core's sector: its held effects are discarded and the strand restarts or is purged. -/
def execStrikeCore (s : State) : Result :=
  let s := s.mapCore fun c => { c with strike := satField c.strike 0 }
  .next (match s.core.strand with
    | none => s
    | some t =>
      let s := s.mapCore fun c => { c with hold := c.hold.filter fun e => e.clk != 0 }
      let s := if t.restart then s else s.triage { t.report 1 with cause := 0x0D, socket := 16 + s.id / 16, i1 := BitVec.ofNat 64 (16 + s.id / 16) }
      s.restartOrPurge s.id)

end Sys2Proof.Machine
end

