-- ==== Sys2Proof/Machine/Operands.lean ====
section
/-! DEFINITION. Operands.lean: the operands of engine instructions: issue at the queue head with token waits and the
stage gate (02 R52, 04 R132), vector registers, masks and elements under the view (06 R179 to R191). -/

namespace Sys2Proof.Machine

/-! ### Issue at the head of a queue -/

/-- The pending signal of an instruction that issues now and gives it at `lat` (05 R156, R157). -/
def Core.signalAt (c : Core) (cons lat : Nat) : Core :=
  if cons = 7 then c else
  c.addSig { prod := c.cur.stream, cons := cons, hand := false, cyc := c.now + lat, perf := [], lands := [], ended := none }
def State.signalAt (s : State) (cons lat : Nat) : State := s.mapCore fun c => c.signalAt cons lat
/-- A signal that waits for accesses to be performed, landings and the end of the operation numbered `ended`. -/
def State.signalWhen (s : State) (cons lat : Nat) (perf lands : List Nat) (ended : Option Nat) : State :=
  s.mapCore fun c => if cons = 7 then c else
    c.addSig { prod := c.cur.stream, cons := cons, hand := false, cyc := c.now + lat, perf := perf, lands := lands, ended := ended }

def tokWaits (tok : BitVec 12) : List Nat := [tokField tok 1, tokField tok 2, tokField tok 3]

/-- Issue an engine instruction: its waits, TOKEN_OVERFLOW, the stage gate, then its own body; it consumes its tokens in
the cycle in which it issues (02 R52, 04 R132, 05 R156). `sig` is its consumer, 7 for none. -/
def State.issue (s : State) (tok : BitVec 12) (sig : Nat) (body : State → State) : State :=
  let st := s.core.cur.stream
  if !s.core.tokReady st (tokWaits tok) then s.hold
  else if sig != 7 && s.core.tokFull st sig then s.raise 0x10 (BitVec.ofNat 64 (st * 8 + sig))
  else if s.core.cur.gate = some false then ((s.mapCore fun c => c.tokTake st (tokWaits tok)).signalAt sig 1).done
  else
    let t := body s
    match t.core.out with
    | .done => t.mapCore fun c => c.tokTake st (tokWaits tok)
    | _ => t

/-- The next instruction of the stream issues `n` cycles on at the earliest (02 R61). -/
def State.occupy (s : State) (n : Nat) : State :=
  s.mapCore fun c => { c with flow := { c.flow with occ := c.flow.occ.set c.cur.stream (c.now + n) } }

/-! ### Elements -/

/-- Cluster Y is the stream VY. -/
def State.isY (s : State) : Bool := s.core.cur.stream == 2
def State.cl (s : State) : Cluster := s.core.cluster s.isY

/-- Elements in a register of `bits`-bit elements (06 Table 6.2). -/
def vN (bits : Nat) : Nat := 4096 / bits
/-- Where register `n` starts under the view in force (06 R182). -/
def Cluster.regOff (x : Cluster) (n : Nat) : Nat := x.vbase + 512 * n
/-- A register's 4096 bits. -/
def Cluster.regNat (x : Cluster) (n : Nat) : Nat := leNat (x.reg.readRun (x.regOff n) 512)
/-- Element `i` of a register's bits. -/
def elem (r bits i : Nat) : Nat := (r >>> (bits * i)) % 2 ^ bits

/-- The instruction's mask: element `i` is active (06 R187); gated instructions are unmasked (04 R132). -/
def vAct (x : Cluster) (v : VW) (i : Nat) : Bool :=
  v.mask == 0 || v.stgen == 1 || (x.masks.get v.mask.toNat).getLsbD i

/-- The bytes of element `i` at register offset `off`. -/
def elemOffs (off bits i : Nat) : List Nat :=
  if bits < 8 then [off + i / 2] else (List.range (bits / 8)).map fun k => off + i * (bits / 8) + k
/-- The write of element `i`: whole bytes, or one nibble (03 R79). -/
def elemPut (off bits i v : Nat) : LBytes :=
  if bits < 8 then
    [if i % 2 = 0 then ⟨off + i / 2, 0x0F, BitVec.ofNat 8 (v % 16), false, false⟩ else ⟨off + i / 2, 0xF0, BitVec.ofNat 8 (v % 16 * 16), false, false⟩]
  else (natLe (bits / 8) v).mapIdx fun k b => ⟨off + i * (bits / 8) + k, 0xFF, b, false, false⟩
/-- The bits of byte `k` of element `i`. -/
def elemMask (bits i : Nat) : Byte := if bits < 8 then (if i % 2 = 0 then 0x0F else 0xF0) else 0xFF

/-- Where element `i` of a k-register group stands (06 R183): its register's offset and its position there. -/
def Cluster.grp (x : Cluster) (reg k i : Nat) : Nat × Nat := (x.regOff (reg + i % k), i / k)
/-- The bytes that the active ones among `n` elements of a group touch. -/
def Cluster.touch (x : Cluster) (reg k bits n : Nat) (act : Nat → Bool) : List Nat :=
  (List.range n).flatMap fun i => if act i then elemOffs (x.grp reg k i).1 bits (x.grp reg k i).2 else []
/-- Element `i` of a group. -/
def Cluster.get (x : Cluster) (reg k bits i : Nat) : Nat := elem (x.regNat (reg + i % k)) bits (i / k)

/-! ### Operand faults (06 R181, R183; 05 R153, R477) -/

/-- The smallest of a list. -/
def least : List Nat → Option Nat
  | [] => none
  | x :: r => match least r with
    | none => some x
    | some y => some (min x y)

/-- The first fault of an access to register space that reads `rd` and writes `wr`, byte offsets in cluster `y`. -/
def Core.regFault (c : Core) (y : Bool) (rd wr : List Nat) : Option Trap :=
  let x := c.cluster y
  let sp := if y then 3 else 2
  match least ((rd ++ wr).filter fun o => decide (x.size ≤ o)) with
  | some o => some (c.fault 0x02 (BitVec.ofNat 64 o) (if y then 1 else 0) 0)
  | none => match least (rd.filter fun o => c.earlyRead sp o 1) with
    | some o => some (c.fault 0x0A (BitVec.ofNat 64 o) 0 0)
    | none => match least (rd.filter fun o => x.blots.get (o / 64)) with
      | some o => some (c.fault 0x09 (BitVec.ofNat 64 (o / 64 * 64)) 0 0)
      | none => none

/-- A register group whose first register is no multiple of k, or that runs past register 63 (06 R183). -/
def Core.grpFault (c : Core) (y : Bool) (reg k : Nat) : Option Trap :=
  if reg % k ≠ 0 ∨ 64 < reg + k then some (c.fault 0x02 (BitVec.ofNat 64 reg) (if y then 1 else 0) 0) else none
/-- The first of several faults. -/
def firstFault : List (Option Trap) → Option Trap
  | [] => none
  | some t :: _ => some t
  | none :: r => firstFault r

/-! ### A vector instruction's body -/

/-- Check, compute and post: the common form of every vector instruction with a register result (06 R189). -/
def State.vbody (s : State) (sig lat occ : Nat) (faults : List (Option Trap)) (res : LBytes) (fl : Fp) : State :=
  match firstFault faults with
  | some t => s.raiseT t
  | none => ((((s.post lat (.reg s.isY res)).mapCore fun c => c.postF lat fl).signalAt sig lat).occupy occ).done

/-- OR of the flags of a list of results. -/
def orFlags (rs : List (Nat × Nat × Fp)) : Fp := rs.foldl (fun f r => f ||| r.2.2) 0

/-- An element-wise instruction: result element `i`, of `db` bits in a `dk`-register group at vd, is `f i`, for the
active `i` below `n`. `rd` names what it reads: register, group size, bits. DESIGN CHOICE: of several operand faults the first of
group alignment (vc before vd), allocation, EARLY_READ, POISON is reported (06 R189, log 74). -/
def State.vmap (s : State) (vd : Nat) (v : VW) (n dk db lat occ : Nat) (rd : List (Nat × Nat × Nat)) (pre : List (Option Trap))
    (f : Nat → Nat × Fp) : State :=
  let x := s.cl
  let act := vAct x v
  let rs := ((List.range n).filter act).map fun i => (i, f i)
  s.vbody (tokField v.tok 0) lat occ
    (pre ++ [s.core.grpFault s.isY vd dk,
      s.core.regFault s.isY (rd.flatMap fun r => x.touch r.1 r.2.1 r.2.2 n act) (x.touch vd dk db n act)])
    (rs.flatMap fun r => elemPut (x.grp vd dk r.1).1 db (x.grp vd dk r.1).2 r.2.1)
    (orFlags rs)

/-- The values of a one-register operand, read once. -/
def Cluster.vals (x : Cluster) (reg bits : Nat) : Nat → Nat :=
  let r := x.regNat reg
  fun i => elem r bits i
/-- The values of a register group. -/
def Cluster.gvals (x : Cluster) (reg k bits : Nat) : Nat → Nat :=
  let rs := (List.range k).map fun j => x.regNat (reg + j)
  fun i => elem (rs.getD (i % k) 0) bits (i / k)

end Sys2Proof.Machine
end

