-- ==== Sys2Proof/Machine/Scalar.lean ====
section
/-! DEFINITION. Scalar.lean: the integer, immediate and predicate blocks of stream S (04 R107 to R118). -/

namespace Sys2Proof.Machine

/-- The operand width of fn (04 R107). -/
def intWidth (fn : BitVec 4) : Nat := match fn.toNat % 4 with
  | 0 => 64
  | 1 => 32
  | 2 => 16
  | _ => 8

/-- A `w`-bit value read as signed. -/
def sVal (w v : Nat) : Int := if v % 2 ^ w < 2 ^ (w - 1) then ((v % 2 ^ w : Nat) : Int) else ((v % 2 ^ w : Nat) : Int) - (2 ^ w : Nat)

/-- int_op of 04 R107: `f` takes the width, A, B and the whole s[b]. -/
def intResult (fn : BitVec 4) (f : Nat → Nat → Nat → Nat → Nat) (a b : Word) : Word :=
  let w := intWidth fn
  let r := f w (a.toNat % 2 ^ w) (b.toNat % 2 ^ w) b.toNat % 2 ^ w
  if fn.getLsbD 2 then BitVec.ofNat 64 r else (BitVec.ofNat w r).signExtend 64

def State.intOp (s : State) (w : FA) (lat : Nat) (f : Nat → Nat → Nat → Nat → Nat) : State :=
  (s.postS lat w.d.toNat (intResult w.fn f (s.rs w.a.toNat) (s.rs w.b.toNat))).done

/-! The operations of 04 Table 4.3; a signed result is reduced modulo 2^w. -/

def opAdd (_ a b _ : Nat) : Nat := a + b
def opSub (w a b _ : Nat) : Nat := a + 2 ^ w - b
def opMul (_ a b _ : Nat) : Nat := a * b
def opMulh (w a b _ : Nat) : Nat := intBits w ((sVal w a * sVal w b) / (2 ^ w : Nat))
def opMulhn (w a b _ : Nat) : Nat := a * b / 2 ^ w
def opDiv (w a b _ : Nat) : Nat := if b = 0 then 2 ^ w - 1 else intBits w (Int.tdiv (sVal w a) (sVal w b))
def opDivn (w a b _ : Nat) : Nat := if b = 0 then 2 ^ w - 1 else a / b
def opRem (w a b _ : Nat) : Nat := if b = 0 then a else intBits w (Int.tmod (sVal w a) (sVal w b))
def opRemn (_ a b _ : Nat) : Nat := if b = 0 then a else a % b
def opAnd (_ a b _ : Nat) : Nat := a &&& b
def opOr (_ a b _ : Nat) : Nat := a ||| b
def opXor (_ a b _ : Nat) : Nat := a ^^^ b
def opAndn (w a b _ : Nat) : Nat := a &&& (b ^^^ (2 ^ w - 1))
def opShl (w a _ m : Nat) : Nat := if m < w then a * 2 ^ m else 0
def opShr (w a _ m : Nat) : Nat := if m < w then a / 2 ^ m else 0
def opSha (w a _ m : Nat) : Nat := intBits w (sVal w a / (2 ^ (min m w) : Nat))
def opRot (w a _ m : Nat) : Nat := a / 2 ^ (m % w) + a * 2 ^ (w - m % w)
def opMin (w a b _ : Nat) : Nat := if sVal w a ≤ sVal w b then a else b
def opMax (w a b _ : Nat) : Nat := if sVal w a ≤ sVal w b then b else a
def opMinn (_ a b _ : Nat) : Nat := min a b
def opMaxn (_ a b _ : Nat) : Nat := max a b
/-- Leading zeros, counted down from bit `w`. -/
def clzFrom (a : Nat) : Nat → Nat
  | 0 => 0
  | k + 1 => if a.testBit k then 0 else clzFrom a k + 1
def ctzFrom (a i : Nat) : Nat → Nat
  | 0 => 0
  | k + 1 => if a.testBit i then 0 else ctzFrom a (i + 1) k + 1
def popFrom (a : Nat) : Nat → Nat
  | 0 => 0
  | k + 1 => popFrom a k + (if a.testBit k then 1 else 0)
def opClz (w a _ _ : Nat) : Nat := clzFrom a w
def opCtz (w a _ _ : Nat) : Nat := ctzFrom a 0 w
def opPopc (w a _ _ : Nat) : Nat := popFrom a w

def execAdd (w : FA) (s : State) : Result := .next (s.intOp w 1 opAdd)
def execSub (w : FA) (s : State) : Result := .next (s.intOp w 1 opSub)
def execMul (w : FA) (s : State) : Result := .next (s.intOp w 3 opMul)
def execMulh (w : FA) (s : State) : Result := .next (s.intOp w 3 opMulh)
def execMulhn (w : FA) (s : State) : Result := .next (s.intOp w 3 opMulhn)
def execDiv (w : FA) (s : State) : Result := .next (s.intOp w 18 opDiv)
def execDivn (w : FA) (s : State) : Result := .next (s.intOp w 18 opDivn)
def execRem (w : FA) (s : State) : Result := .next (s.intOp w 18 opRem)
def execRemn (w : FA) (s : State) : Result := .next (s.intOp w 18 opRemn)
def execAnd (w : FA) (s : State) : Result := .next (s.intOp w 1 opAnd)
def execOr (w : FA) (s : State) : Result := .next (s.intOp w 1 opOr)
def execXor (w : FA) (s : State) : Result := .next (s.intOp w 1 opXor)
def execAndn (w : FA) (s : State) : Result := .next (s.intOp w 1 opAndn)
def execShl (w : FA) (s : State) : Result := .next (s.intOp w 1 opShl)
def execShr (w : FA) (s : State) : Result := .next (s.intOp w 1 opShr)
def execSha (w : FA) (s : State) : Result := .next (s.intOp w 1 opSha)
def execRot (w : FA) (s : State) : Result := .next (s.intOp w 1 opRot)
def execMin (w : FA) (s : State) : Result := .next (s.intOp w 1 opMin)
def execMax (w : FA) (s : State) : Result := .next (s.intOp w 1 opMax)
def execMinn (w : FA) (s : State) : Result := .next (s.intOp w 1 opMinn)
def execMaxn (w : FA) (s : State) : Result := .next (s.intOp w 1 opMaxn)
def execClz (w : FA) (s : State) : Result := .next (s.intOp w 1 opClz)
def execCtz (w : FA) (s : State) : Result := .next (s.intOp w 1 opCtz)
def execPopc (w : FA) (s : State) : Result := .next (s.intOp w 1 opPopc)

/-! ### Bit fields, selection and comparison (04 R111 to R113) -/

def fieldPos (b : Word) : Nat := (b &&& 63).toNat
def fieldLen (b : Word) : Nat := min 64 ((b >>> 8) &&& 127).toNat
def extField (a b : Word) : Nat := a.toNat / 2 ^ fieldPos b % 2 ^ fieldLen b
def extValue (a b : Word) : Word := (BitVec.ofNat (fieldLen b) (extField a b)).signExtend 64
def insValue (d a b : Word) : Word :=
  let m := BitVec.ofNat 64 ((2 ^ fieldLen b - 1) * 2 ^ fieldPos b)
  (d &&& ~~~m) ||| ((a <<< fieldPos b) &&& m)
/-- The conditions of 04 Table 4.4. -/
def cmpCond (fn : Nat) (a b : Word) : Bool :=
  match fn with
  | 0 => a == b
  | 1 => a != b
  | 2 => a.slt b
  | 3 => b.sle a
  | 4 => b.slt a
  | 5 => a.sle b
  | 6 => a.ult b
  | 7 => b.ule a
  | 8 => b.ult a
  | 9 => a.ule b
  | _ => false

def execExt (w : FA) (s : State) : Result := .next (s.postS 1 w.d.toNat (extValue (s.rs w.a.toNat) (s.rs w.b.toNat))).done
def execExtn (w : FA) (s : State) : Result := .next (s.postS 1 w.d.toNat (BitVec.ofNat 64 (extField (s.rs w.a.toNat) (s.rs w.b.toNat)))).done
def execIns (w : FA) (s : State) : Result := .next (s.postS 1 w.d.toNat (insValue (s.rs w.d.toNat) (s.rs w.a.toNat) (s.rs w.b.toNat))).done
def execSel (w : FA) (s : State) : Result := .next (s.postS 1 w.d.toNat (if s.rp w.fn.toNat then s.rs w.a.toNat else s.rs w.b.toNat)).done
def execLea (w : FA) (s : State) : Result := .next (s.postS 1 w.d.toNat (s.rs w.a.toNat + (s.rs w.b.toNat <<< w.fn.toNat))).done
def execCmp (w : FA) (s : State) : Result := .next (s.postP 1 w.d.toNat (cmpCond w.fn.toNat (s.rs w.a.toNat) (s.rs w.b.toNat))).done

/-! ### Immediates (04 R114 to R116) -/

def imm10 (w : FB) : Word := w.imm.signExtend 64
def State.immOp (s : State) (w : FB) (lat : Nat) (v : Word → Word → Word) : State :=
  (s.postS lat w.d.toNat (v (s.rs w.a.toNat) (imm10 w))).done
/-- The shift amount of 04 R115. -/
def shamt (i : Word) : Nat := (i &&& 63).toNat
/-- CMPI's conditions (04 R116). -/
def cmpiCond (fn : Nat) (a b : Word) : Bool := match fn with
  | 0 => a == b
  | 1 => a != b
  | 2 => a.slt b
  | _ => b.sle a

def execMovi (w : FC) (s : State) : Result := .next (s.postS 1 w.d.toNat (w.imm.signExtend 64)).done
def execMovl (w : FC) (l : BitVec 32) (s : State) : Result := .next (s.postS 1 w.d.toNat (l.signExtend 64)).done
def execMovlHi (w : FC) (l : BitVec 32) (s : State) : Result :=
  .next (s.postS 1 w.d.toNat (l ++ (s.rs w.d.toNat).setWidth 32)).done
def execMovhi (w : FC) (s : State) : Result := .next (s.postS 1 w.d.toNat (w.imm ++ (s.rs w.d.toNat).setWidth 48)).done
def execAddi (w : FB) (s : State) : Result := .next (s.immOp w 1 fun a i => a + i)
def execMuli (w : FB) (s : State) : Result := .next (s.immOp w 3 fun a i => a * i)
def execAndi (w : FB) (s : State) : Result := .next (s.immOp w 1 fun a i => a &&& i)
def execOri (w : FB) (s : State) : Result := .next (s.immOp w 1 fun a i => a ||| i)
def execXori (w : FB) (s : State) : Result := .next (s.immOp w 1 fun a i => a ^^^ i)
def execShli (w : FB) (s : State) : Result := .next (s.immOp w 1 fun a i => a <<< shamt i)
def execShri (w : FB) (s : State) : Result := .next (s.immOp w 1 fun a i => a >>> shamt i)
def execShai (w : FB) (s : State) : Result := .next (s.immOp w 1 fun a i => a.sshiftRight (shamt i))
def execCmpi (w : FB) (s : State) : Result :=
  .next (s.postP 1 (w.d.toNat % 16) (cmpiCond (w.d.toNat / 16) (s.rs w.a.toNat) (imm10 w))).done

/-! ### Predicates and MOVP (04 R117, R118) -/

def State.predOp (s : State) (w : FA) (f : Bool → Bool → Bool) : State :=
  (s.postP 1 w.d.toNat (f (s.rp w.a.toNat ^^ w.fn.getLsbD 0) (s.rp w.b.toNat ^^ w.fn.getLsbD 1))).done
/-- The word whose bit j is `f j`. -/
def bitsOf (n : Nat) (f : Nat → Bool) : Word := BitVec.ofNat 64 ((List.range n).foldl (fun a j => if f j then a + 2 ^ j else a) 0)

def execPand (w : FA) (s : State) : Result := .next (s.predOp w fun a b => a && b)
def execPor (w : FA) (s : State) : Result := .next (s.predOp w fun a b => a || b)
def execPxor (w : FA) (s : State) : Result := .next (s.predOp w fun a b => a ^^ b)
def execMovpFromP (w : FA) (s : State) : Result := .next (s.postS 1 w.d.toNat (bitsOf 16 s.rp)).done
def execMovpToP (w : FA) (s : State) : Result :=
  .next ((List.range 15).foldl (fun t j => t.postP 1 (j + 1) ((s.rs w.a.toNat).getLsbD (j + 1))) s).done
def execMovpToB (w : FA) (s : State) : Result := .next (s.post 1 (.b w.d.toNat ((s.rs w.a.toNat).setWidth 32))).done
def execMovpFromB (w : FA) (s : State) : Result := .next (s.postS 1 w.d.toNat ((s.core.sc.b.get w.a.toNat).setWidth 64)).done
def execMovpToK (w : FA) (s : State) : Result :=
  .next ((List.range 8).foldl (fun t j => t.post 1 (.k j ((s.rs w.a.toNat).getLsbD j))) s).done
def execMovpFromK (w : FA) (s : State) : Result := .next (s.postS 1 w.d.toNat (bitsOf 8 s.core.sc.k.get)).done
def execMovpFromLc (w : FA) (s : State) : Result := .next (s.postS 1 w.d.toNat s.core.sc.lc).done
def execMovpKToP (w : FA) (s : State) : Result := .next (s.postP 1 w.d.toNat (s.core.sc.k.get w.a.toNat)).done

end Sys2Proof.Machine
end

