-- ==== Sys2Proof/Machine/ScalarFp.lean ====
section
/-! DEFINITION. ScalarFp.lean: scalar floating point on fp32 in bits 31:0 (04 R119 to R123). -/

namespace Sys2Proof.Machine

/-- The key of one stochastic rounding (03 R95): W + s × 2^56 + n × (2^20 + 1) + i. -/
def srKey (c : Core) (st : Nat) (i : Nat) : Word :=
  c.sc.srseed + BitVec.ofNat 64 (st * 2 ^ 56) + (c.sc.srcnt.get st).setWidth 64 * 0x100001 + BitVec.ofNat 64 i
/-- An instruction that rounds with SR advances its stream's counter as it issues (03 R95). DEDUCED: its rm field alone decides,
also where its conversion rounds nothing (log 71). -/
def Core.srBump (c : Core) (st : Nat) (rm : Nat) : Core :=
  if rm = 5 then { c with sc := { c.sc with srcnt := c.sc.srcnt.set st (c.sc.srcnt.get st + 1) } } else c
def State.srBump (s : State) (st rm : Nat) : State := s.mapCore fun c => c.srBump st rm

def State.f32 (s : State) (n : Nat) : Num := v32 ((s.rs n).toNat % 2 ^ 32)
def rmOf (fn : BitVec 4) : Nat := fn.toNat % 8

/-- Round once and write bits 31:0; FPSTAT with the result (04 R119, R123). -/
def State.fpOp (s : State) (w : FA) (lat : Nat) (x : Num × Fp) : State :=
  let r := fop32 (rmOf w.fn) (srKey s.core 0 0) x
  (((s.postS lat w.d.toNat (BitVec.ofNat 64 r.1)).postF lat r.2).srBump 0 (rmOf w.fn)).done

def execFadd (w : FA) (s : State) : Result := .next (s.fpOp w 4 (Num.add (rmOf w.fn) (s.f32 w.a.toNat) (s.f32 w.b.toNat)))
def execFsub (w : FA) (s : State) : Result := .next (s.fpOp w 4 (Num.sub (rmOf w.fn) (s.f32 w.a.toNat) (s.f32 w.b.toNat)))
def execFmul (w : FA) (s : State) : Result := .next (s.fpOp w 4 (Num.mul (s.f32 w.a.toNat) (s.f32 w.b.toNat)))
def execFfma (w : FA) (s : State) : Result :=
  .next (s.fpOp w 4 (Num.fma (rmOf w.fn) (s.f32 w.a.toNat) (s.f32 w.b.toNat) (s.f32 w.d.toNat)))
def execFdiv (w : FA) (s : State) : Result := .next (s.fpOp w 14 (Num.div (s.f32 w.a.toNat) (s.f32 w.b.toNat)))
def execFsqrt (w : FA) (s : State) : Result := .next (s.fpOp w 14 (Num.sqrt (s.f32 w.a.toNat)))

/-- An exact result that raises nothing (03 R97, 04 R120). -/
def State.fpExact (s : State) (w : FA) (x : Num) : State := (s.postS 2 w.d.toNat (BitVec.ofNat 64 (rne32 x).1)).done
def execFmin (w : FA) (s : State) : Result := .next (s.fpExact w (Num.minmax false (s.f32 w.a.toNat) (s.f32 w.b.toNat)))
def execFmax (w : FA) (s : State) : Result := .next (s.fpExact w (Num.minmax true (s.f32 w.a.toNat) (s.f32 w.b.toNat)))
def execFabs (w : FA) (s : State) : Result := .next (s.fpExact w (s.f32 w.a.toNat).abs)
def execFneg (w : FA) (s : State) : Result := .next (s.fpExact w (s.f32 w.a.toNat).neg)
def execFcmp (w : FA) (s : State) : Result :=
  .next (s.postP 2 w.d.toNat (Num.test w.fn.toNat (s.f32 w.a.toNat) (s.f32 w.b.toNat))).done
def execFcvti (w : FA) (s : State) : Result :=
  let r := toInt (s.f32 w.a.toNat) 64 (!w.fn.getLsbD 3) (rmOf w.fn) (srKey s.core 0 0)
  .next (((s.postS 4 w.d.toNat (BitVec.ofInt 64 r.1)).postF 4 r.2).srBump 0 (rmOf w.fn)).done
def execIcvtf (w : FA) (s : State) : Result :=
  let a := s.rs w.a.toNat
  .next (s.fpOp w 4 (Num.ofInt (if w.fn.getLsbD 3 then (a.toNat : Int) else a.toInt), 0))

end Sys2Proof.Machine
end

