-- ==== Sys2Proof/Machine/Vector.lean ====
section
/-! DEFINITION. Vector.lean: views, moves, masks, tokens and the integer and floating-point blocks of the vector streams
(06 R179 to R202). A `_32` form acts as its `_64` form with the plain vector word (02 R51). -/

namespace Sys2Proof.Machine

/-- Signedness of an integer type; a float type counts as unsigned. -/
def tySigned (t : Nat) : Bool := match intOf t with
  | some (_, sg) => sg
  | none => false

/-- SIG of a vector word. -/
def sigOf (v : VW) : Nat := tokField v.tok 0

/-! ### Views, moves and masks (06 Table 6.5) -/

def vView (l : BitVec 32) (v : VW) (s : State) : State :=
  s.issue v.tok (sigOf v) fun s => (((s.post 1 (.vbase s.isY l.toNat)).signalAt (sigOf v) 1).occupy 1).done
/-- The descriptor of a TVIEW literal (06 Table 6.3). -/
def tileOf (ty : Nat) (l : BitVec 32) : Tile :=
  { base := l.toNat % 4096 * 32, rows := l.toNat / 4096 % 1024 + 1, cols := l.toNat / 2 ^ 22 + 1, ty := ty }
def tView (w : FV) (v : VW) (l : BitVec 32) (s : State) : State :=
  s.issue v.tok (sigOf v) fun s =>
    (((s.post 1 (.tile s.isY (w.vd.toNat % 8) (tileOf w.ty.toNat l))).signalAt (sigOf v) 1).occupy 1).done
/-- VMOV. DEDUCED: of fp6 it copies the whole byte, its type giving the granule alone (06 R192 beside 03 R79, log 76). -/
def vMov (w : FV) (v : VW) (s : State) : State :=
  s.issue v.tok (sigOf v) fun s =>
    let b := tyBits w.ty.toNat
    let a := s.cl.vals w.va.toNat b
    s.vmap w.vd.toNat v (vN b) 1 b 2 1 [(w.va.toNat, 1, b)] [] fun i => (a i, 0)

/-- VXMOV (06 R193): the destination lies in the other cluster, under its view at issue. DESIGN CHOICE: the source's faults come
before the destination's (log 74). -/
def vXmov (w : FV) (v : VW) (s : State) : State :=
  s.issue v.tok (sigOf v) fun s =>
    let b := tyBits w.ty.toNat
    let x := s.cl
    let o := s.core.cluster (!s.isY)
    let act := vAct x v
    let a := x.vals w.va.toNat b
    match firstFault [s.core.regFault s.isY (x.touch w.va.toNat 1 b (vN b) act) [],
                      s.core.regFault (!s.isY) [] (o.touch w.vd.toNat 1 b (vN b) act)] with
    | some t => s.raiseT t
    | none =>
      (((s.post 4 (.reg (!s.isY) (((List.range (vN b)).filter act).flatMap fun i => elemPut (o.regOff w.vd.toNat) b i (a i)))).signalAt
        (sigOf v) 4).occupy 1).done

def vBcast (w : FV) (v : VW) (s : State) : State :=
  s.issue v.tok (sigOf v) fun s =>
    let b := tyBits w.ty.toNat
    let e := s.core.cur.a.toNat % 2 ^ (if w.ty = 14 then 6 else b)
    s.vmap w.vd.toNat v (vN b) 1 b 2 1 [] [] fun _ => (e, 0)

/-- A scalar result, with its token to S in the cycle it is written (06 R190). -/
def State.vToScalar (s : State) (d : Nat) (val : Word) : State :=
  (((if d = 0 then s else s.post 6 (.s d val)).signalAt 0 6).occupy 1).done

def vTos (w : FV) (v : VW) (s : State) : State :=
  s.issue v.tok 0 fun s =>
    let b := tyBits w.ty.toNat
    let j := s.core.cur.b.toNat
    if vN b ≤ j then s.raise 0x02 s.core.cur.b else
    match s.core.regFault s.isY (elemOffs (s.cl.regOff w.va.toNat) b j) [] with
    | some t => s.raiseT t
    | none =>
      let e := s.cl.vals w.va.toNat b j
      s.vToScalar w.vd.toNat (if tySigned w.ty.toNat then (BitVec.ofNat b e).signExtend 64 else BitVec.ofNat 64 (if w.ty = 14 then e % 64 else e))

/-- A mask result of 1024 bits, of which `care` are written. -/
def State.vMask (s : State) (sig lat r : Nat) (care val : BitVec 1024) : State :=
  (((s.post lat (.mask s.isY r care val)).signalAt sig lat).occupy 1).done
def ones (n : Nat) : BitVec 1024 := BitVec.ofNat 1024 (2 ^ n - 1)
def vMset (w : FV) (v : VW) (s : State) : State :=
  s.issue v.tok (sigOf v) fun s => s.vMask (sigOf v) 2 w.vd.toNat (ones 1024) (ones (min s.core.cur.a.toNat 1024))
def vMlog (f : BitVec 1024 → BitVec 1024 → BitVec 1024) (w : FV) (v : VW) (s : State) : State :=
  s.issue v.tok (sigOf v) fun s =>
    s.vMask (sigOf v) 2 w.vd.toNat (ones 1024) (f (s.cl.masks.get w.va.toNat) (s.cl.masks.get w.vb.toNat))
def vMpop (w : FV) (v : VW) (s : State) : State :=
  s.issue v.tok 0 fun s =>
    s.vToScalar w.vd.toNat (BitVec.ofNat 64 (popFrom (s.cl.masks.get w.va.toNat).toNat (vN (tyBits w.ty.toNat))))

def execVnop (_w : FV) (s : State) : Result := .next (s.occupy 1).done
def execVview (_w : FV) (v : VW) (l : BitVec 32) (s : State) : Result := .next (vView l v s)
def execTview (w : FV) (v : VW) (l : BitVec 32) (s : State) : Result := .next (tView w v l s)

/-- VTKW (06 R195). -/
def execVtkw (w : FV) (s : State) : Result :=
  let ws := [w.vd.toNat % 8, w.va.toNat % 8, w.vb.toNat % 8]
  .next (if s.core.tokReady s.core.cur.stream ws then ((s.mapCore fun c => c.tokTake c.cur.stream ws).occupy 1).done else s.hold)

/-- Results of a stream still pending, by their due cycle: the last of them. -/
def Core.lastDue (c : Core) (st : Nat) : Nat :=
  c.pend.foldl (fun m p => if p.hand || p.stream != st then m else max m p.due) c.now
/-- VTKS (06 R195): the class mask is bits 31:16 of the word. -/
def vtksMask (w : FV) : BitVec 16 := w.ty ++ w.vb ++ w.va
def execVtks (w : FV) (s : State) : Result :=
  let cons := w.vd.toNat % 8
  let st := s.core.cur.stream
  if s.core.tokFull st cons then .next (s.raise 0x10 (BitVec.ofNat 64 (st * 8 + cons))) else
  .next ((s.signalWhen cons (s.core.lastDue st - s.core.now) (s.openOf st (vtksMask w).getLsbD (w.vd.toNat / 8))
    ((s.core.lands.filter fun l => l.stream == st && !l.hand).map (·.id)) none).occupy 1).done

/-! ### Integer arithmetic (06 R196 to R199) -/

/-- A plain integer instruction: `f bits a b c` is the exact result; `clamp` whether it is clamped. -/
def vInt (clamp : Bool) (nsrc : Nat) (f : Nat → Int → Int → Int → Int) (w : FV) (v : VW) (s : State) : State :=
  s.issue v.tok (sigOf v) fun s =>
    let b := tyBits w.ty.toNat
    let sg := tySigned w.ty.toNat
    let x := s.cl
    let rd := [(w.va.toNat, 1, b)] ++ (if 2 ≤ nsrc then [(w.vb.toNat, 1, b)] else []) ++ (if nsrc = 3 then [(v.vc.toNat, 1, b)] else [])
    let va := x.vals w.va.toNat b
    let vb := x.vals w.vb.toNat b
    let vc := x.vals v.vc.toNat b
    s.vmap w.vd.toNat v (vN b) 1 b 2 1 rd [] fun i =>
      let r := f b (intVal b sg (va i)) (if 2 ≤ nsrc then intVal b sg (vb i) else 0) (if nsrc = 3 then intVal b sg (vc i) else 0)
      (intBits b (if clamp then clampInt b sg r else r), 0)

def ofRaw (g : Nat → Nat → Nat → Nat) (b : Nat) (x y _ : Int) : Int := (g b (intBits b x) (intBits b y) : Nat)
def iMulh (b : Nat) (x y _ : Int) : Int := x * y / (2 ^ b : Nat)
def iShl (b : Nat) (x y _ : Int) : Int := x * (2 ^ min b (intBits b y) : Nat)
def iShr (b : Nat) (x y _ : Int) : Int := (intBits b x / 2 ^ min b (intBits b y) : Nat)
def iSha (b : Nat) (x y _ : Int) : Int := intVal b true (intBits b x) / (2 ^ min b (intBits b y) : Nat)
def iClz (b : Nat) (x _ _ : Int) : Int := clzFrom (intBits b x) b
def iPopc (b : Nat) (x _ _ : Int) : Int := popFrom (intBits b x) b
/-- The sum of VADDMIN and VADDMAX after sat or wrap (06 Table 6.7). -/
def iSum (sg sat : Bool) (b : Nat) (x y : Int) : Int := if sat then clampInt b sg (x + y) else intVal b sg (intBits b (x + y))
def isSat (v : VW) : Bool := v.sat == 1

def vAddMinMax (wantMax : Bool) (w : FV) (v : VW) (s : State) : State :=
  vInt false 3 (fun b x y z =>
    let t := iSum (tySigned w.ty.toNat) (isSat v) b x y
    if wantMax then max t z else min t z) w v s

/-- 2-fold widening products (06 R197). -/
def vWide (acc : Bool) (w : FV) (v : VW) (s : State) : State :=
  s.issue v.tok (sigOf v) fun s =>
    let b := tyBits w.ty.toNat
    let sg := tySigned w.ty.toNat
    let x := s.cl
    let va := x.vals w.va.toNat b
    let vb := x.vals w.vb.toNat b
    let vc := x.gvals v.vc.toNat 2 (2 * b)
    s.vmap w.vd.toNat v (vN b) 2 (2 * b) 2 2
      ([(w.va.toNat, 1, b), (w.vb.toNat, 1, b)] ++ (if acc then [(v.vc.toNat, 2, 2 * b)] else []))
      (if acc then [s.core.grpFault s.isY v.vc.toNat 2] else [])
      fun i =>
        let p := intVal b sg (va i) * intVal b sg (vb i)
        let r := if acc then p + intVal (2 * b) sg (vc i) else p
        (intBits (2 * b) (if isSat v then clampInt (2 * b) sg r else r), 0)

/-- VDOT4 (06 R198): mask bit j governs result j, and with it the four source elements. -/
def vDot4 (w : FV) (v : VW) (s : State) : State :=
  s.issue v.tok (sigOf v) fun s =>
    let b := tyBits w.ty.toNat
    let x := s.cl
    let act := vAct x v
    let sa := tySigned w.ty.toNat
    let sb := tySigned v.ty2.toNat
    let va := x.vals w.va.toNat b
    let vb := x.vals w.vb.toNat b
    let vc := x.vals v.vc.toNat (4 * b)
    let n := vN b / 4
    let rs := ((List.range n).filter act).map fun j =>
      let r := (List.range 4).foldl (fun a m => a + intVal b sa (va (4 * j + m)) * intVal b sb (vb (4 * j + m))) (intVal (4 * b) (sa || sb) (vc j))
      (j, intBits (4 * b) (if isSat v then clampInt (4 * b) (sa || sb) r else r))
    let rd := [w.va.toNat, w.vb.toNat, v.vc.toNat].flatMap fun r => x.touch r 1 (4 * b) n act
    s.vbody (sigOf v) 2 1 [s.core.regFault s.isY rd (x.touch w.vd.toNat 1 (4 * b) n act)]
      (rs.flatMap fun r => elemPut (x.regOff w.vd.toNat) (4 * b) r.1 r.2) 0

/-- A compare into mask vd bits 3:0 (06 R199): enabled elements, and 0 above N. -/
def vCompare (f : Nat → Nat → Nat → Bool) (w : FV) (v : VW) (s : State) : State :=
  s.issue v.tok (sigOf v) fun s =>
    let b := tyBits w.ty.toNat
    let x := s.cl
    let n := vN b
    let act := vAct x v
    let va := x.vals w.va.toNat b
    let vb := x.vals w.vb.toNat b
    match s.core.regFault s.isY ([w.va.toNat, w.vb.toNat].flatMap fun r => x.touch r 1 b n act) [] with
    | some t => s.raiseT t
    | none =>
      let bits (g : Nat → Bool) : Nat := (List.range n).foldl (fun a i => if g i then a + 2 ^ i else a) 0
      s.vMask (sigOf v) 2 (w.vd.toNat % 16)
        (BitVec.ofNat 1024 (bits act + (2 ^ 1024 - 2 ^ n)))
        (BitVec.ofNat 1024 (bits fun i => act i && f (w.vd.toNat / 16) (va i) (vb i)))
def vCmp (w : FV) (v : VW) (s : State) : State :=
  let b := tyBits w.ty.toNat
  let sg := tySigned w.ty.toNat
  vCompare (fun cond x y =>
    let a := intVal b sg x
    let c := intVal b sg y
    match cond with
    | 0 => a == c
    | 1 => a != c
    | 2 => decide (a < c)
    | _ => decide (a ≤ c)) w v s
/-- VSEL. DESIGN CHOICE: only the source element that the selector picks is read (06 R199, log 75). -/
def vSel (w : FV) (v : VW) (s : State) : State :=
  s.issue v.tok (sigOf v) fun s =>
    let b := tyBits w.ty.toNat
    let x := s.cl
    let m := x.masks.get v.vc.toNat
    let va := x.vals w.va.toNat b
    let vb := x.vals w.vb.toNat b
    let act := vAct x v
    let rd := x.touch w.va.toNat 1 b (vN b) (fun i => act i && m.getLsbD i) ++ x.touch w.vb.toNat 1 b (vN b) (fun i => act i && !m.getLsbD i)
    s.vmap w.vd.toNat v (vN b) 1 b 2 1 [] [s.core.regFault s.isY rd []] fun i => (if m.getLsbD i then va i else vb i, 0)

/-! ### Floating point (06 R200 to R202) -/

def fmtOr (t : Nat) : Fmt := (fmtOf t).getD fp32
/-- One rounding of a vector result: with sat an overflow takes ±max (06 R201). -/
def vround (f : Fmt) (rm : Nat) (sat : Bool) (key : Word) (x : Num × Fp) : Nat × Fp :=
  let r := roundTo f x.1 rm false key
  let bits := if sat && (r.2 &&& fOF) != 0 then f.enc x.1.isNeg f.top else r.1
  (bits, x.2 ||| r.2)

/-- An element-wise float instruction; every element rounds once, with the key of its position. -/
def vFp (lat nsrc : Nat) (f : Nat → Num → Num → Num → Num × Fp) (w : FV) (v : VW) (s : State) : State :=
  s.issue v.tok (sigOf v) fun s =>
    let ty := w.ty.toNat
    let b := tyBits ty
    let fm := fmtOr ty
    let x := s.cl
    let rm := v.rm.toNat
    let rd := [(w.va.toNat, 1, b)] ++ (if 2 ≤ nsrc then [(w.vb.toNat, 1, b)] else []) ++ (if nsrc = 3 then [(v.vc.toNat, 1, b)] else [])
    let va := x.vals w.va.toNat b
    let vb := x.vals w.vb.toNat b
    let vc := x.vals v.vc.toNat b
    let c := s.core
    let t := s.vmap w.vd.toNat v (vN b) 1 b lat 1 rd [] fun i =>
      vround fm rm (isSat v) (srKey c c.cur.stream i)
        (f rm (fm.value (va i)) (if 2 ≤ nsrc then fm.value (vb i) else .nan) (if nsrc = 3 then fm.value (vc i) else .nan))
    match t.core.out with
    | .done => t.srBump c.cur.stream rm
    | _ => t

/-- The exact instructions: no flag, canonical NaN. -/
def vFpQuiet (nsrc : Nat) (f : Num → Num → Num) (w : FV) (v : VW) (s : State) : State :=
  vFp 2 nsrc (fun _ a b _ => (f a b, 0)) w v s
def fNegMul (rm : Nat) (a b c : Num) : Num × Fp := Num.fma rm a.neg b c
def fSubMul (rm : Nat) (a b c : Num) : Num × Fp := Num.fma rm a b c.neg
def vFcmp (w : FV) (v : VW) (s : State) : State :=
  let f := fmtOr w.ty.toNat
  vCompare (fun cond x y => Num.test (match cond with
    | 0 => 0
    | 1 => 1
    | 2 => 2
    | _ => 3) (f.value x) (f.value y)) w v s

/-! ### The meanings -/

def execVmov32 (w : FV) (s : State) : Result := .next (vMov w VW.plain s)
def execVmov64 (w : FV) (v : VW) (s : State) : Result := .next (vMov w v s)
def execVxmov32 (w : FV) (s : State) : Result := .next (vXmov w VW.plain s)
def execVxmov64 (w : FV) (v : VW) (s : State) : Result := .next (vXmov w v s)
def execVbcast32 (w : FV) (s : State) : Result := .next (vBcast w VW.plain s)
def execVbcast64 (w : FV) (v : VW) (s : State) : Result := .next (vBcast w v s)
def execVtos32 (w : FV) (s : State) : Result := .next (vTos w VW.plain s)
def execVtos64 (w : FV) (v : VW) (s : State) : Result := .next (vTos w v s)
def execVmset32 (w : FV) (s : State) : Result := .next (vMset w VW.plain s)
def execVmset64 (w : FV) (v : VW) (s : State) : Result := .next (vMset w v s)
def execVmand32 (w : FV) (s : State) : Result := .next (vMlog (fun a b => a &&& b) w VW.plain s)
def execVmand64 (w : FV) (v : VW) (s : State) : Result := .next (vMlog (fun a b => a &&& b) w v s)
def execVmor32 (w : FV) (s : State) : Result := .next (vMlog (fun a b => a ||| b) w VW.plain s)
def execVmor64 (w : FV) (v : VW) (s : State) : Result := .next (vMlog (fun a b => a ||| b) w v s)
def execVmxor32 (w : FV) (s : State) : Result := .next (vMlog (fun a b => a ^^^ b) w VW.plain s)
def execVmxor64 (w : FV) (v : VW) (s : State) : Result := .next (vMlog (fun a b => a ^^^ b) w v s)
def execVmpop32 (w : FV) (s : State) : Result := .next (vMpop w VW.plain s)
def execVmpop64 (w : FV) (v : VW) (s : State) : Result := .next (vMpop w v s)
def execVadd32 (w : FV) (s : State) : Result := .next (vInt false 2 (fun _ a b _ => a + b) w VW.plain s)
def execVadd64 (w : FV) (v : VW) (s : State) : Result := .next (vInt false 2 (fun _ a b _ => a + b) w v s)
def execVsub32 (w : FV) (s : State) : Result := .next (vInt false 2 (fun _ a b _ => a - b) w VW.plain s)
def execVsub64 (w : FV) (v : VW) (s : State) : Result := .next (vInt false 2 (fun _ a b _ => a - b) w v s)
def execVadds32 (w : FV) (s : State) : Result := .next (vInt true 2 (fun _ a b _ => a + b) w VW.plain s)
def execVadds64 (w : FV) (v : VW) (s : State) : Result := .next (vInt true 2 (fun _ a b _ => a + b) w v s)
def execVsubs32 (w : FV) (s : State) : Result := .next (vInt true 2 (fun _ a b _ => a - b) w VW.plain s)
def execVsubs64 (w : FV) (v : VW) (s : State) : Result := .next (vInt true 2 (fun _ a b _ => a - b) w v s)
def execVmul32 (w : FV) (s : State) : Result := .next (vInt false 2 (fun _ a b _ => a * b) w VW.plain s)
def execVmul64 (w : FV) (v : VW) (s : State) : Result := .next (vInt (isSat v) 2 (fun _ a b _ => a * b) w v s)
def execVmulh32 (w : FV) (s : State) : Result := .next (vInt false 2 iMulh w VW.plain s)
def execVmulh64 (w : FV) (v : VW) (s : State) : Result := .next (vInt false 2 iMulh w v s)
def execVmulw32 (w : FV) (s : State) : Result := .next (vWide false w VW.plain s)
def execVmulw64 (w : FV) (v : VW) (s : State) : Result := .next (vWide false w v s)
def execVand32 (w : FV) (s : State) : Result := .next (vInt false 2 (ofRaw fun _ a b => a &&& b) w VW.plain s)
def execVand64 (w : FV) (v : VW) (s : State) : Result := .next (vInt false 2 (ofRaw fun _ a b => a &&& b) w v s)
def execVor32 (w : FV) (s : State) : Result := .next (vInt false 2 (ofRaw fun _ a b => a ||| b) w VW.plain s)
def execVor64 (w : FV) (v : VW) (s : State) : Result := .next (vInt false 2 (ofRaw fun _ a b => a ||| b) w v s)
def execVxor32 (w : FV) (s : State) : Result := .next (vInt false 2 (ofRaw fun _ a b => a ^^^ b) w VW.plain s)
def execVxor64 (w : FV) (v : VW) (s : State) : Result := .next (vInt false 2 (ofRaw fun _ a b => a ^^^ b) w v s)
def execVshl32 (w : FV) (s : State) : Result := .next (vInt false 2 iShl w VW.plain s)
def execVshl64 (w : FV) (v : VW) (s : State) : Result := .next (vInt (isSat v) 2 iShl w v s)
def execVshr32 (w : FV) (s : State) : Result := .next (vInt false 2 iShr w VW.plain s)
def execVshr64 (w : FV) (v : VW) (s : State) : Result := .next (vInt false 2 iShr w v s)
def execVsha32 (w : FV) (s : State) : Result := .next (vInt false 2 iSha w VW.plain s)
def execVsha64 (w : FV) (v : VW) (s : State) : Result := .next (vInt false 2 iSha w v s)
def execVmin32 (w : FV) (s : State) : Result := .next (vInt false 2 (fun _ a b _ => min a b) w VW.plain s)
def execVmin64 (w : FV) (v : VW) (s : State) : Result := .next (vInt false 2 (fun _ a b _ => min a b) w v s)
def execVmax32 (w : FV) (s : State) : Result := .next (vInt false 2 (fun _ a b _ => max a b) w VW.plain s)
def execVmax64 (w : FV) (v : VW) (s : State) : Result := .next (vInt false 2 (fun _ a b _ => max a b) w v s)
def execVabs32 (w : FV) (s : State) : Result := .next (vInt false 1 (fun _ a _ _ => (a.natAbs : Int)) w VW.plain s)
def execVabs64 (w : FV) (v : VW) (s : State) : Result := .next (vInt (isSat v) 1 (fun _ a _ _ => (a.natAbs : Int)) w v s)
def execVneg32 (w : FV) (s : State) : Result := .next (vInt false 1 (fun _ a _ _ => -a) w VW.plain s)
def execVneg64 (w : FV) (v : VW) (s : State) : Result := .next (vInt (isSat v) 1 (fun _ a _ _ => -a) w v s)
def execVcmp32 (w : FV) (s : State) : Result := .next (vCmp w VW.plain s)
def execVcmp64 (w : FV) (v : VW) (s : State) : Result := .next (vCmp w v s)
def execVclz32 (w : FV) (s : State) : Result := .next (vInt false 1 iClz w VW.plain s)
def execVclz64 (w : FV) (v : VW) (s : State) : Result := .next (vInt false 1 iClz w v s)
def execVpopc32 (w : FV) (s : State) : Result := .next (vInt false 1 iPopc w VW.plain s)
def execVpopc64 (w : FV) (v : VW) (s : State) : Result := .next (vInt false 1 iPopc w v s)
def execVfadd32 (w : FV) (s : State) : Result := .next (vFp 4 2 (fun rm a b _ => Num.add rm a b) w VW.plain s)
def execVfadd64 (w : FV) (v : VW) (s : State) : Result := .next (vFp 4 2 (fun rm a b _ => Num.add rm a b) w v s)
def execVfsub32 (w : FV) (s : State) : Result := .next (vFp 4 2 (fun rm a b _ => Num.sub rm a b) w VW.plain s)
def execVfsub64 (w : FV) (v : VW) (s : State) : Result := .next (vFp 4 2 (fun rm a b _ => Num.sub rm a b) w v s)
def execVfmul32 (w : FV) (s : State) : Result := .next (vFp 4 2 (fun _ a b _ => Num.mul a b) w VW.plain s)
def execVfmul64 (w : FV) (v : VW) (s : State) : Result := .next (vFp 4 2 (fun _ a b _ => Num.mul a b) w v s)
def execVfmin32 (w : FV) (s : State) : Result := .next (vFpQuiet 2 (Num.minmax false) w VW.plain s)
def execVfmin64 (w : FV) (v : VW) (s : State) : Result := .next (vFpQuiet 2 (Num.minmax false) w v s)
def execVfmax32 (w : FV) (s : State) : Result := .next (vFpQuiet 2 (Num.minmax true) w VW.plain s)
def execVfmax64 (w : FV) (v : VW) (s : State) : Result := .next (vFpQuiet 2 (Num.minmax true) w v s)
def execVfabs32 (w : FV) (s : State) : Result := .next (vFpQuiet 1 (fun a _ => a.abs) w VW.plain s)
def execVfabs64 (w : FV) (v : VW) (s : State) : Result := .next (vFpQuiet 1 (fun a _ => a.abs) w v s)
def execVfneg32 (w : FV) (s : State) : Result := .next (vFpQuiet 1 (fun a _ => a.neg) w VW.plain s)
def execVfneg64 (w : FV) (v : VW) (s : State) : Result := .next (vFpQuiet 1 (fun a _ => a.neg) w v s)
def execVfcmp32 (w : FV) (s : State) : Result := .next (vFcmp w VW.plain s)
def execVfcmp64 (w : FV) (v : VW) (s : State) : Result := .next (vFcmp w v s)
def execVfdiv32 (w : FV) (s : State) : Result := .next (vFp 14 2 (fun _ a b _ => Num.div a b) w VW.plain s)
def execVfdiv64 (w : FV) (v : VW) (s : State) : Result := .next (vFp 14 2 (fun _ a b _ => Num.div a b) w v s)
def execVfsqrt32 (w : FV) (s : State) : Result := .next (vFp 14 1 (fun _ a _ _ => Num.sqrt a) w VW.plain s)
def execVfsqrt64 (w : FV) (v : VW) (s : State) : Result := .next (vFp 14 1 (fun _ a _ _ => Num.sqrt a) w v s)
def execVmac (w : FV) (v : VW) (s : State) : Result := .next (vInt (isSat v) 3 (fun _ a b c => c + a * b) w v s)
def execVmacw (w : FV) (v : VW) (s : State) : Result := .next (vWide true w v s)
def execVdot4 (w : FV) (v : VW) (s : State) : Result := .next (vDot4 w v s)
def execVsel (w : FV) (v : VW) (s : State) : Result := .next (vSel w v s)
def execVaddmin (w : FV) (v : VW) (s : State) : Result := .next (vAddMinMax false w v s)
def execVaddmax (w : FV) (v : VW) (s : State) : Result := .next (vAddMinMax true w v s)
def execVfma (w : FV) (v : VW) (s : State) : Result := .next (vFp 4 3 Num.fma w v s)
def execVfms (w : FV) (v : VW) (s : State) : Result := .next (vFp 4 3 fSubMul w v s)
def execVfnma (w : FV) (v : VW) (s : State) : Result := .next (vFp 4 3 fNegMul w v s)

end Sys2Proof.Machine
end

