-- ==== Sys2Proof/Machine/Lanes.lean ====
section
/-! DEFINITION. Lanes.lean: cross-lane movement, reductions and scans, conversion, block quantisation and the special
functions (07). -/

namespace Sys2Proof.Machine

/-! ### Movement (07 R203 to R210) -/

/-- Where a destination element comes from: the fill, or a register, a position in it and the position the read names. -/
inductive Src where
  | fill (v : Nat)
  | at_ (reg pos named : Nat)
  deriving DecidableEq, Repr

/-- LANE_FAULT's record (07 R205). -/
def laneFault (c : Core) (v : VW) (y : Bool) (bad : List (Nat × Nat)) : Option Trap :=
  match bad with
  | [] => none
  | (i, named) :: _ =>
    let m := (bad.filter fun p => p.1 / 64 == i / 64).foldl (fun a p => a + 2 ^ (p.1 % 64)) 0
    some { c.fault 0x0B (BitVec.ofNat 64 i) (BitVec.ofNat 64 named) (BitVec.ofNat 64 m) with
      i3 := BitVec.ofNat 64 (v.mask.toNat + (if y then 16 else 0)) }

/-- A movement: each written element reads at most one source element, or takes the fill; a read of an inactive one is a
LANE_FAULT, or yields zeros with perm (07 R204). DESIGN CHOICE: LANE_FAULT comes after every other operand fault (log 74). -/
def State.vmove (s : State) (w : FV) (v : VW) (pre : List (Option Trap)) (extra : List Nat) (src : Nat → Src) : State :=
  let b := tyBits w.ty.toNat
  let x := s.cl
  let act := vAct x v
  let dst := (List.range (vN b)).filter act
  let idle (p : Nat) : Bool := decide (vN b ≤ p) || !act p
  let bad := dst.filterMap fun i => match src i with
    | .fill _ => none
    | .at_ _ p named => if idle p then some (i, named) else none
  let rd := dst.flatMap fun i => match src i with
    | .fill _ => []
    | .at_ r p _ => if idle p then [] else elemOffs (x.regOff r) b p
  let ra := x.regNat w.va.toNat
  let rb := x.regNat w.vb.toNat
  let res := dst.flatMap fun i => elemPut (x.regOff w.vd.toNat) b i (match src i with
    | .fill f => f
    | .at_ r p _ => if idle p then 0 else elem (if r = w.va.toNat then ra else rb) b p)
  s.vbody (sigOf v) 3 1
    (pre ++ [s.core.regFault s.isY (extra ++ rd) (dst.flatMap fun i => elemOffs (x.regOff w.vd.toNat) b i),
      if v.perm = 1 then none else laneFault s.core v s.isY bad])
    res 0

/-- The fill of VSHUP and VSHDN: the low bits of s[c] (07 R206). -/
def fillOf (ty : BitVec 4) (c : Word) : Nat := c.toNat % 2 ^ (if ty = 14 then 6 else tyBits ty.toNat)

def vShup (w : FV) (v : VW) (s : State) : State := s.issue v.tok (sigOf v) fun s =>
  let m := s.core.cur.b.toNat
  s.vmove w v [] [] fun i => if m ≤ i then .at_ w.va.toNat (i - m) (i - m) else .fill (fillOf w.ty s.core.cur.c)
def vShdn (w : FV) (v : VW) (s : State) : State := s.issue v.tok (sigOf v) fun s =>
  let m := s.core.cur.b.toNat
  s.vmove w v [] [] fun i => if i + m < vN (tyBits w.ty.toNat) then .at_ w.va.toNat (i + m) (i + m) else .fill (fillOf w.ty s.core.cur.c)
def vRot (w : FV) (v : VW) (s : State) : State := s.issue v.tok (sigOf v) fun s =>
  let n := vN (tyBits w.ty.toNat)
  let m := s.core.cur.b.toNat % n
  s.vmove w v [] [] fun i => .at_ w.va.toNat ((i + n - m) % n) ((i + n - m) % n)

/-- An index group (05 R165, 07 R207): its size, and index `i` with its bytes. -/
def idxK (ty ty2 : BitVec 4) : Nat := max 1 (tyBits ty2.toNat / tyBits ty.toNat)
def vPerm (w : FV) (v : VW) (s : State) : State := s.issue v.tok (sigOf v) fun s =>
  let x := s.cl
  let k := idxK w.ty v.ty2
  let ib := tyBits v.ty2.toNat
  let idx := x.gvals w.vb.toNat k ib
  let n := vN (tyBits w.ty.toNat)
  s.vmove w v [s.core.grpFault s.isY w.vb.toNat k] (x.touch w.vb.toNat k ib n (vAct x v)) fun i => .at_ w.va.toNat (idx i) (idx i)

/-- VEXT. DEDUCED: the source position of a LANE_FAULT is i + m, its place in va followed by vb (07 R205, log 78). DESIGN CHOICE:
an m above N is reported before every other operand fault (07 R206, log 74). -/
def vExt (w : FV) (v : VW) (s : State) : State := s.issue v.tok (sigOf v) fun s =>
  let n := vN (tyBits w.ty.toNat)
  let m := s.core.cur.c.toNat
  if n < m then s.raise 0x02 s.core.cur.c else
  s.vmove w v [] [] fun i => if i + m < n then .at_ w.va.toNat (i + m) (i + m) else .at_ w.vb.toNat (i + m - n) (i + m)

/-- A register pair whose first register is odd (07 R208, 06 R183). -/
def Core.pairFault (c : Core) (y : Bool) (reg : Nat) : Option Trap := c.grpFault y reg 2

/-- VZIP, VUZP and VTRN: `src` gives the place that each element of vd and vd + 1 is read from. DEDUCED: a place whose own mask
bit is 0 is read all the same and raises nothing (07 R204, R208, log 28). DESIGN CHOICE: where vd and va are both odd, VUZP names
vd (log 74). -/
def State.vpair (s : State) (w : FV) (v : VW) (odd : Bool) (src : Nat → Nat → Nat × Nat) : State :=
  let b := tyBits w.ty.toNat
  let x := s.cl
  let dst := (List.range (vN b)).filter (vAct x v)
  let regs := [w.va.toNat, w.va.toNat + 1, w.vb.toNat].map fun r => (r, x.regNat r)
  let val (p : Nat × Nat) : Nat := elem (((regs.find? fun r => r.1 == p.1).map (·.2)).getD 0) b p.2
  let cells := dst.flatMap fun i => [(0, i), (1, i)]
  s.vbody (sigOf v) 3 1
    [s.core.pairFault s.isY w.vd.toNat, if odd then s.core.pairFault s.isY w.va.toNat else none,
     s.core.regFault s.isY (cells.flatMap fun c => elemOffs (x.regOff (src c.1 c.2).1) b (src c.1 c.2).2)
       (cells.flatMap fun c => elemOffs (x.regOff (w.vd.toNat + c.1)) b c.2)]
    (cells.flatMap fun c => elemPut (x.regOff (w.vd.toNat + c.1)) b c.2 (val (src c.1 c.2))) 0
def vZip (w : FV) (v : VW) (s : State) : State := s.issue v.tok (sigOf v) fun s =>
  let n := vN (tyBits w.ty.toNat)
  s.vpair w v false fun h i => let p := h * n + i; (if p % 2 = 0 then w.va.toNat else w.vb.toNat, p / 2)
def vUzp (w : FV) (v : VW) (s : State) : State := s.issue v.tok (sigOf v) fun s =>
  let n := vN (tyBits w.ty.toNat)
  s.vpair w v true fun h i => let p := 2 * i + h; (w.va.toNat + p / n, p % n)
def vTrn (w : FV) (v : VW) (s : State) : State := s.issue v.tok (sigOf v) fun s =>
  s.vpair w v false fun h i => (if i % 2 = 0 then w.va.toNat else w.vb.toNat, i / 2 * 2 + h)

/-- VCOMPR and VEXPD (07 R209). -/
def vCompr (w : FV) (v : VW) (s : State) : State := s.issue v.tok (sigOf v) fun s =>
  let b := tyBits w.ty.toNat
  let x := s.cl
  let src := (List.range (vN b)).filter (vAct x v)
  let a := x.vals w.va.toNat b
  s.vbody (sigOf v) 3 1
    [s.core.regFault s.isY (src.flatMap fun i => elemOffs (x.regOff w.va.toNat) b i) (x.touch w.vd.toNat 1 b (vN b) fun _ => true)]
    ((List.range (vN b)).flatMap fun i => elemPut (x.regOff w.vd.toNat) b i (match src[i]? with
      | some j => a j
      | none => 0)) 0
def vExpd (w : FV) (v : VW) (s : State) : State := s.issue v.tok (sigOf v) fun s =>
  let b := tyBits w.ty.toNat
  let x := s.cl
  let dst := (List.range (vN b)).filter (vAct x v)
  let a := x.vals w.va.toNat b
  s.vbody (sigOf v) 3 1
    [s.core.regFault s.isY (x.touch w.va.toNat 1 b dst.length fun _ => true) (dst.flatMap fun i => elemOffs (x.regOff w.vd.toNat) b i)]
    (dst.zipIdx.flatMap fun p => elemPut (x.regOff w.vd.toNat) b p.1 (a p.2)) 0
/-- VIOTA (07 R210). -/
def vIota (w : FV) (v : VW) (s : State) : State := s.issue v.tok (sigOf v) fun s =>
  let b := tyBits w.ty.toNat
  let x := s.cl
  let dst := (List.range (vN b)).filter (vAct x v)
  s.vbody (sigOf v) 3 1 [s.core.regFault s.isY [] (dst.flatMap fun i => elemOffs (x.regOff w.vd.toNat) b i)]
    (dst.zipIdx.flatMap fun p => elemPut (x.regOff w.vd.toNat) b p.1 ((s.core.cur.a.toNat + p.2) % 2 ^ b)) 0

/-! ### Reductions and scans (07 R211 to R214) -/

/-- One node of 07 Table 7.3, on bits with the flags gathered so far. -/
def redNode (op t rm : Nat) (sat : Bool) (a b : Nat × Fp) : Nat × Fp :=
  let f := a.2 ||| b.2
  match fmtOf t, intOf t with
  | some fm, _ =>
    let x := fm.value a.1
    let y := fm.value b.1
    let r := match op with
      | 0 => vround fm rm sat 0 (Num.add rm x y)
      | 1 => vround fm 0 false 0 (Num.minmax false x y, 0)
      | _ => vround fm 0 false 0 (Num.minmax true x y, 0)
    (r.1, f ||| r.2)
  | none, some (n, sg) =>
    let x := intVal n sg a.1
    let y := intVal n sg b.1
    (match op with
      | 0 => intBits n (if sat then clampInt n sg (x + y) else x + y)
      | 1 => intBits n (min x y)
      | 2 => intBits n (max x y)
      | 3 => a.1 &&& b.1
      | 4 => a.1 ||| b.1
      | _ => a.1 ^^^ b.1, f)
  | none, none => a
/-- The identity of an operation (07 Table 7.3). -/
def redIdentity (op t : Nat) : Nat :=
  match fmtOf t, intOf t with
  | some fm, _ => match op with
    | 0 => fm.enc true 0
    | 1 => fm.enc false fm.infBits
    | _ => fm.enc true fm.infBits
  | none, some (n, sg) => match op with
    | 1 => if sg then 2 ^ (n - 1) - 1 else 2 ^ n - 1
    | 2 => if sg then 2 ^ (n - 1) else 0
    | 3 => 2 ^ n - 1
    | _ => 0
  | none, none => 0
/-- The type a reduction is done in (07 R213). -/
def redTy (ty ty2 : BitVec 4) : Nat := if ty2 = 0 || ty2 = ty then ty.toNat else ty2.toNat
/-- The elements of a reduction, inactive ones replaced by the identity, extended to its type. -/
def redVals (x : Cluster) (w : FV) (v : VW) (t : Nat) : List (Nat × Fp) :=
  let b := tyBits w.ty.toNat
  let a := x.vals w.va.toNat b
  (List.range (vN b)).map fun i =>
    (if vAct x v i then (if t = w.ty.toNat then a i else intBits (tyBits t) (intVal b (tySigned w.ty.toNat) (a i)))
     else redIdentity (w.vb.toNat % 8) t, 0)
/-- An element as an instruction produces it: a NaN becomes the canonical one (03 R83). -/
def canonNan (t : Nat) (b : Nat) : Nat := match fmtOf t with
  | some f => if (f.value b).isNan then f.nan else b
  | none => b
def vRed (w : FV) (v : VW) (s : State) : State := s.issue v.tok (sigOf v) fun s =>
  let x := s.cl
  let t := redTy w.ty v.ty2
  let b := tyBits w.ty.toNat
  let r := (treeFold (redNode (w.vb.toNat % 8) t v.rm.toNat (isSat v)) 10 (redVals x w v t)).headD (0, 0)
  s.vbody (sigOf v) 3 1
    [s.core.regFault s.isY (x.touch w.va.toNat 1 b (vN b) (vAct x v)) (elemOffs (x.regOff w.vd.toNat) (tyBits t) 0)]
    (elemPut (x.regOff w.vd.toNat) (tyBits t) 0 r.1) r.2
/-- VSCAN. DEDUCED: position 0 passes through no node; a NaN there is written as the canonical one (03 R83, R101, 07 R214, log 79). -/
def vScan (w : FV) (v : VW) (s : State) : State := s.issue v.tok (sigOf v) fun s =>
  let x := s.cl
  let b := tyBits w.ty.toNat
  let act := vAct x v
  let r := scanFrom (redNode (w.vb.toNat % 8) w.ty.toNat v.rm.toNat (isSat v)) 10 1 (redVals x w v w.ty.toNat)
  s.vbody (sigOf v) 3 1
    [s.core.regFault s.isY (x.touch w.va.toNat 1 b (vN b) act) (x.touch w.vd.toNat 1 b (vN b) act)]
    ((r.zipIdx.filter fun p => act p.2).flatMap fun p => elemPut (x.regOff w.vd.toNat) b p.2 (canonNan w.ty.toNat p.1.1))
    (r.foldl (fun f p => f ||| p.2) 0)

/-! ### Conversion, block quantisation, special functions (07 R215 to R218) -/

/-- VCVT: the element count is N of the source type (07 R215). -/
def vCvt (w : FV) (v : VW) (s : State) : State := s.issue v.tok (sigOf v) fun s =>
  let x := s.cl
  let d := w.ty.toNat
  let t := v.ty2.toNat
  let db := tyBits d
  let sb := tyBits t
  let dk := max 1 (db / sb)
  let sk := max 1 (sb / db)
  let n := vN sb
  let a := x.gvals w.va.toNat sk sb
  let c := s.core
  let r := s.vmap w.vd.toNat v n dk db 4 dk [(w.va.toNat, sk, sb)] [c.grpFault s.isY w.va.toNat sk] fun i =>
    convert t d v.rm.toNat (isSat v || c.sc.satcvt) (srKey c c.cur.stream i) (a i)
  match r.core.out with
  | .done => r.srBump c.cur.stream v.rm.toNat
  | _ => r

/-- The offset check of 07 R216. -/
def qntBad (o nf nq : Nat) : Bool := o % nf != 0 || decide (nq < o + nf)
/-- emax of a block type (07 R217). -/
def qEmax (q : Nat) : Int := match q with
  | 11 => 8
  | 12 => 15
  | 14 => 4
  | 13 => 2
  | _ => 0
/-- floor(log2) of a non-zero finite value. -/
def Num.ilog2 : Num → Int
  | .fin _ m e _ => (m.log2 : Int) + e
  | _ => 0
/-- The scale of one block of active values (07 R217), none for a NaN block. -/
def qScale (q : Nat) (xs : List Num) : Option Nat :=
  if xs.any (fun x => match x with
    | .fin .. => false
    | _ => true) then none else
  match (xs.filter fun x => !x.isZero).map Num.ilog2 with
  | [] => some 127
  | l :: ls => some (max 0 (min 254 (ls.foldl max l - qEmax q + 127))).toNat
/-- One element at a scale: bits and flags; an overflow gives ±max (07 R217). -/
def qElem (q : Nat) (rm : Nat) (key : Word) (e : Nat) (x : Num) : Nat × Fp :=
  let u := x.scale (127 - (e : Int))
  match fmtOf q with
  | some f => vround f rm true key (u, 0)
  | none => match u.scale 6 with
    | .fin n m ex st =>
      let r := roundInt n m ex st rm key
      let cl := clampInt 8 true r.1
      (intBits 8 cl, if r.2 || cl != r.1 then fNX else 0)
    | _ => (0, 0)

/-- VQNT. DESIGN CHOICE: an illegal offset is reported before every other operand fault (07 R216, log 74), and where vc and vd
share bytes each block's scale is written after its elements (07 R217, log 90). -/
def vQnt (w : FV) (v : VW) (s : State) : State := s.issue v.tok (sigOf v) fun s =>
  let x := s.cl
  let q := w.ty.toNat
  let fb := tyBits v.ty2.toNat
  let qb := tyBits q
  let nf := vN fb
  let o := s.core.cur.b.toNat
  if qntBad o nf (vN qb) then s.raise 0x02 s.core.cur.b else
  let act := vAct x v
  let a := x.vals w.va.toNat fb
  let c := s.core
  let val (i : Nat) : Num := tyValue v.ty2.toNat (a i)
  let blocks := (List.range (nf / 32)).map fun k => (List.range 32).map (fun j => 32 * k + j) |>.filter act
  let res := (blocks.filter fun l => !l.isEmpty).map fun l =>
    let sc := qScale q (l.map val)
    (l, sc, l.map fun i => match sc with
      | none => (i, 0, fIV)
      | some e => (i, qElem q v.rm.toNat (srKey c c.cur.stream (o + i)) e (val i)))
  let dOff := x.regOff w.vd.toNat
  let cOff := x.regOff v.vc.toNat
  let puts := res.flatMap fun r => (r.2.2.flatMap fun e => elemPut dOff qb (o + e.1) e.2.1)
    ++ [⟨cOff + (o + r.1.headD 0) / 32, 0xFF, BitVec.ofNat 8 (r.2.1.getD 255), false, false⟩]
  let t := s.vbody (sigOf v) 6 1
    [c.regFault s.isY (x.touch w.va.toNat 1 fb nf act) (puts.map (·.at_))] puts (orFlags (res.flatMap (·.2.2)))
  match t.core.out with
  | .done => t.srBump c.cur.stream v.rm.toNat
  | _ => t

/-- The value of a block element under its scale (03 R85, R86). -/
def dqVal (q e bits : Nat) : Num :=
  if e = 255 then .nan else
  (match fmtOf q with
   | some f => f.value (bits % 2 ^ f.width)
   | none => (Num.ofInt (intVal 8 true bits)).scale (-6)).scale ((e : Int) - 127)
/-- VDQNT. DESIGN CHOICE: an illegal offset is reported before every other operand fault (07 R216, log 74). -/
def vDqnt (w : FV) (v : VW) (s : State) : State := s.issue v.tok (sigOf v) fun s =>
  let x := s.cl
  let q := v.ty2.toNat
  let fb := tyBits w.ty.toNat
  let qb := tyBits q
  let nf := vN fb
  let o := s.core.cur.b.toNat
  if qntBad o nf (vN qb) then s.raise 0x02 s.core.cur.b else
  let act := vAct x v
  let a := x.vals w.va.toNat qb
  let sc := x.vals v.vc.toNat 8
  let c := s.core
  let rd := ((List.range nf).filter act).flatMap fun i => elemOffs (x.regOff w.va.toNat) qb (o + i) ++ [x.regOff v.vc.toNat + (o + i) / 32]
  let t := s.vmap w.vd.toNat v nf 1 fb 6 1 [] [c.regFault s.isY rd []] fun i =>
    roundTo (fmtOr w.ty.toNat) (dqVal q (sc ((o + i) / 32)) (a (o + i))) v.rm.toNat false (srKey c c.cur.stream i)
  match t.core.out with
  | .done => t.srBump c.cur.stream v.rm.toNat
  | _ => t

/-- The function of 07 Table 7.4 on fp32 bits. -/
def sfn (code x : Nat) : Nat × Fp :=
  match code with
  | 0 => prim32 exp2Num x
  | 1 => prim32 log2Num x
  | 2 => prim32 rcpNum x
  | 3 => prim32 Num.sqrt x
  | 4 => prim32 rsqrtNum x
  | 5 => exp32 x
  | 6 => sigmoid32 x
  | 7 => tanh32 x
  | 8 => silu32 x
  | _ => gelu32 x
def vSfn (w : FV) (v : VW) (s : State) : State := s.issue v.tok (sigOf v) fun s =>
  let x := s.cl
  let fm := fmtOr w.ty.toNat
  let b := tyBits w.ty.toNat
  let a := x.vals w.va.toNat b
  s.vmap w.vd.toNat v (vN b) 1 b 10 1 [(w.va.toNat, 1, b)] [] fun i =>
    let r := sfn w.vb.toNat (rne32 (fm.value (a i))).1
    if w.ty = 8 then r else
      let q := roundTo fm (v32 r.1) 0 false 0
      (q.1, r.2 ||| q.2)

/-! ### The meanings -/

def execVshup32 (w : FV) (s : State) : Result := .next (vShup w VW.plain s)
def execVshup64 (w : FV) (v : VW) (s : State) : Result := .next (vShup w v s)
def execVshdn32 (w : FV) (s : State) : Result := .next (vShdn w VW.plain s)
def execVshdn64 (w : FV) (v : VW) (s : State) : Result := .next (vShdn w v s)
def execVrot32 (w : FV) (s : State) : Result := .next (vRot w VW.plain s)
def execVrot64 (w : FV) (v : VW) (s : State) : Result := .next (vRot w v s)
def execVred32 (w : FV) (s : State) : Result := .next (vRed w VW.plain s)
def execVred64 (w : FV) (v : VW) (s : State) : Result := .next (vRed w v s)
def execVscan32 (w : FV) (s : State) : Result := .next (vScan w VW.plain s)
def execVscan64 (w : FV) (v : VW) (s : State) : Result := .next (vScan w v s)
def execVzip32 (w : FV) (s : State) : Result := .next (vZip w VW.plain s)
def execVzip64 (w : FV) (v : VW) (s : State) : Result := .next (vZip w v s)
def execVuzp32 (w : FV) (s : State) : Result := .next (vUzp w VW.plain s)
def execVuzp64 (w : FV) (v : VW) (s : State) : Result := .next (vUzp w v s)
def execVext32 (w : FV) (s : State) : Result := .next (vExt w VW.plain s)
def execVext64 (w : FV) (v : VW) (s : State) : Result := .next (vExt w v s)
def execVcompr32 (w : FV) (s : State) : Result := .next (vCompr w VW.plain s)
def execVcompr64 (w : FV) (v : VW) (s : State) : Result := .next (vCompr w v s)
def execVexpd32 (w : FV) (s : State) : Result := .next (vExpd w VW.plain s)
def execVexpd64 (w : FV) (v : VW) (s : State) : Result := .next (vExpd w v s)
def execVtrn32 (w : FV) (s : State) : Result := .next (vTrn w VW.plain s)
def execVtrn64 (w : FV) (v : VW) (s : State) : Result := .next (vTrn w v s)
def execViota32 (w : FV) (s : State) : Result := .next (vIota w VW.plain s)
def execViota64 (w : FV) (v : VW) (s : State) : Result := .next (vIota w v s)
def execVsfn32 (w : FV) (s : State) : Result := .next (vSfn w VW.plain s)
def execVsfn64 (w : FV) (v : VW) (s : State) : Result := .next (vSfn w v s)
def execVperm (w : FV) (v : VW) (s : State) : Result := .next (vPerm w v s)
def execVcvt (w : FV) (v : VW) (s : State) : Result := .next (vCvt w v s)
def execVqnt (w : FV) (v : VW) (s : State) : Result := .next (vQnt w v s)
def execVdqnt (w : FV) (v : VW) (s : State) : Result := .next (vDqnt w v s)

end Sys2Proof.Machine
end

