-- ==== Sys2Proof/Machine/VecMem.lean ====
section
/-! DEFINITION. VecMem.lean: the vector memory block (05 R162 to R167). -/

namespace Sys2Proof.Machine

/-- A piece of a vector access: its number among the accesses of the instruction; the address of its lowest active element
(for the fault record); the address and size it is resolved with; where it starts inside that; its element size in bytes;
its bytes: distance from there, register offset, bits. -/
structure VItem where
  unit : Nat
  first : Word
  base : Word
  size : Nat
  align : Nat
  skip : Nat
  esz : Nat
  bytes : List (Nat × Nat × Byte)

/-- Where a piece lies: a scratchpad offset, a location with its virtual address, a walk to wait for, or a fault with its order
in 05 Table 5.8. -/
inductive VLoc where
  | scr (off : Nat)
  | mem (loc : Nat) (va : Word)
  | miss (va : Word)
  | bad (order : Nat) (t : Trap)

/-- The order of a cause in 05 Table 5.8. -/
def faultOrder (cause : Nat) : Nat := match cause with
  | 0x07 => 1
  | 0x02 => 2
  | 0x15 => 3
  | 0x05 => 4
  | 0x17 => 5
  | 0x08 => 6
  | 0x06 => 7
  | 0x04 => 8
  | 0x0E => 9
  | 0x0A => 10
  | _ => 11

/-- The fault of a failed translation, naming the address `va` where the record names the access's (05 R155); a walk's
machine check has its third field. -/
def State.accTrap (s : State) (cause : Nat) (va i0 i1 : Word) : Trap :=
  let i2 : Word := match s.core.walkFault s.core.dom i0 with
    | some w => if cause = w.cause then w.i2 else 0
    | none => 0
  s.core.fault cause (if cause = 0x04 then i0 else va) i1 i2

/-- The base register captured with a space-1 access (05 R140). -/
def State.vbrel (s : State) (m : MW) : Word := if m.space = 1 then s.core.cur.brel.setWidth 64 else 0

/-- Resolve a piece. Only the system block tells elements of one piece apart. -/
def State.vloc (s : State) (m : MW) (u : Use) (it : VItem) : VLoc :=
  match s.core.place m.space.toNat it.base (s.vbrel m) it.align it.size with
  | .bad cause _ => .bad (faultOrder cause) (s.core.fault cause (it.first + s.vbrel m) 0 0)
  | .scr off =>
    let o := off + it.skip
    match if u = .read then it.bytes.find? fun b => s.core.earlyRead 1 (o + b.1) 1 else none with
    | some b => .bad 10 (s.core.fault 0x0A (it.base + s.vbrel m + BitVec.ofNat 64 (it.skip + b.1 / it.esz * it.esz)) 0 0)
    | none => .scr o
  | .glob va =>
    let at_ := va + BitVec.ofNat 64 it.skip
    match s.xlate s.core.dom s.core.level.toNat u at_ with
    | .ok loc =>
      if u = .write ∧ rangeOf (paOf loc) = .sys then
        match it.bytes.findSome? fun b => match s.xlate s.core.dom s.core.level.toNat u (at_ + BitVec.ofNat 64 b.1) with
          | .bad cause i0 i1 => some (s.accTrap cause (at_ + BitVec.ofNat 64 (b.1 / it.esz * it.esz)) i0 i1)
          | _ => none with
        | some t => .bad (faultOrder t.cause) t
        | none => .mem loc at_
      else .mem loc at_
    | .miss v => .miss v
    | .bad cause i0 i1 => .bad (faultOrder cause) (s.accTrap cause (va + (it.first - it.base)) i0 i1)

/-- An access whose pieces lie on both sides of CARVE (05 R141): ALIGNMENT, at its lowest element. -/
def State.straddles (s : State) (items : List VItem) (locs : List VLoc) : Option (Nat × Trap) :=
  let side (u : Nat) (scr : Bool) : Bool := (items.zip locs).any fun p => p.1.unit == u && (match p.2 with
    | .scr _ => scr
    | .bad o t => scr == (o == 10) && decide (3 ≤ o) && t.cause != 0x07
    | _ => !scr)
  (items.find? fun it => side it.unit true && side it.unit false).map fun it => (1, s.core.fault 0x07 it.first 0 0)

/-- The fault of the first order, and among its like the first. -/
def firstBad : List (Nat × Trap) → Option (Nat × Trap)
  | [] => none
  | f :: r => match firstBad r with
    | some g => if g.1 < f.1 then some g else some f
    | none => some f
def VLoc.fault : VLoc → Option (Nat × Trap)
  | .bad o t => some (o, t)
  | _ => none
def firstMiss : List VLoc → Option Word
  | [] => none
  | .miss v :: _ => some v
  | _ :: r => firstMiss r
/-- What stops an access: its first fault in the order of 05 Table 5.8, `pre` being those of its operands; one of order 4
or later is judged once every walk has ended (05 R151, R152, R155). -/
def State.vstop (s : State) (m : MW) (u : Use) (pre : List (Option Trap)) (items : List VItem) (locs : List VLoc) : Option State :=
  let straddle := if m.space = 2 then (s.straddles items locs).toList else []
  let bad := firstBad (((pre.filterMap fun t => t).map fun t => (faultOrder t.cause, t)) ++ straddle ++ locs.filterMap VLoc.fault)
  match bad, firstMiss locs with
  | some f, some va => some (if f.1 < 4 then s.raiseT f.2 else (s.wantWalk s.core.dom va u).hold)
  | some f, none => some (if f.1 < 4 then s.raiseT f.2 else s.dropWalkFault.raiseT f.2)
  | none, some va => some (s.wantWalk s.core.dom va u).hold
  | none, none => none

/-- Runs of consecutive locations. -/
def runs : List Nat → List (Nat × Nat)
  | [] => []
  | a :: r => match runs r with
    | (b, n) :: t => if a + 1 = b then (a, n + 1) :: t else (a, 1) :: (b, n) :: t
    | [] => [(a, 1)]

def VLoc.isMem : VLoc → Bool
  | .mem .. => true
  | _ => false
/-- The address of the lowest active element of a piece that lies in memory. -/
def VLoc.firstVa : VItem × VLoc → Option Word
  | (it, .mem _ va) => some (va + (it.first - it.base - BitVec.ofNat 64 it.skip))
  | _ => none
/-- The address of a vector access, s[a] + offset as captured (02 R48), lies in memory and not in scratchpad: which decides where its
signal belongs when no element is active (05 R157). -/
def State.globalSide (s : State) (m : MW) : Bool :=
  m.space == 0 || (m.space == 2 && decide (s.core.sc.carve.toNat ≤ (s.core.cur.a + m.offext.signExtend 64).toNat))

/-- The accesses of the stream not performed at a scope, the newest included. -/
def State.openAll (s : State) (scope : Nat) : List Nat := s.openOf s.core.cur.stream (fun _ => true) scope

/-- A vector load of its pieces: landing at issue + LAND, or 12 in spaces 1 and 2; what lies in the carve part is sampled at
issue, the rest later (05 R141, R150). -/
def State.vload (s : State) (v : VW) (m : MW) (pre : List (Option Trap)) (items : List VItem) : State :=
  let locs := items.map fun it => s.vloc m .read it
  let wr := items.flatMap fun it => it.bytes.map (·.2.1)
  match s.vstop m .read (pre ++ [s.core.regFault s.isY [] wr]) items locs with
  | some t => t
  | none =>
    let glob := locs.any VLoc.isMem
    let entry := glob || m.land != 0
    if entry && decide (64 ≤ s.core.entries) then s.hold else
    let lat := if m.land = 0 then 12 else m.land.toNat
    let cells := items.flatMap fun it => it.bytes.map fun b => (b.2.1, b.2.2)
    let id := s.nextId
    let place := (items.zip locs).flatMap fun p => p.1.bytes.map fun b => match p.2 with
      | .scr o => (none, o + b.1, p.1.base + BitVec.ofNat 64 (p.1.skip + b.1))
      | .mem l va => (some (l + b.1), 0, va + BitVec.ofNat 64 b.1)
      | _ => (none, 0, 0)
    let here := place.zipIdx.filter fun x => x.1.1.isNone
    let blot := (here.find? fun x => s.core.scr.blots.get (x.1.2.1 / 64)).map fun x => (x.2, (BitVec.ofNat 64 x.1.2.1 : Word))
    let s1 :=
      if glob then
        s.addLand (.v s.isY cells) (.mem (runs (place.filterMap (·.1)))) (((items.zip locs).findSome? VLoc.firstVa).getD 0) lat m.cls.toNat m.scope.toNat true none
          (runs ((place.filter fun x => x.1.isSome).map fun x => x.2.2.toNat)) (here.map fun x => (x.2, s.core.scr.bytes.read x.1.2.1)) blot
      else
        s.addLand (.v s.isY cells) (.mem []) ((blot.map (·.2)).getD 0) lat 0 0 entry
          (some (here.map fun x => s.core.scr.bytes.read x.1.2.1, blot.isSome))
    ((s1.signalWhen (sigOf v) 0 (s.openAll 0) [id] none).occupy 1).done

/-- A vector store of its pieces: bytes and blots of the register space go to scratchpad now, or through the hold. -/
def State.vstore (s : State) (v : VW) (m : MW) (pre : List (Option Trap)) (items : List VItem) : State :=
  let locs := items.map fun it => s.vloc m .write it
  let rd := items.flatMap fun it => it.bytes.map (·.2.1)
  let early := (least (rd.filter fun o => s.core.earlyRead (if s.isY then 3 else 2) o 1)).map fun o => s.core.fault 0x0A (BitVec.ofNat 64 o) 0 0
  match s.vstop m .write (pre ++ [s.core.regFault s.isY [] rd, early]) items locs with
  | some t => t
  | none =>
    let x := s.cl
    let cell (a : Nat) (b : Nat × Nat × Byte) : Cell := ⟨a + b.1, b.2.2, x.reg.read b.2.1, x.blots.get (b.2.1 / 64), false⟩
    let scr := (items.zip locs).flatMap fun p => match p.2 with
      | .scr o => p.1.bytes.map (cell o)
      | _ => []
    let mem := (items.zip locs).flatMap fun p => match p.2 with
      | .mem l _ => p.1.bytes.map (cell l)
      | _ => []
    let s1 := if scr.isEmpty then s else s.mapCore fun c => { c with scrNext := c.scrNext ++ [scr] }
    let s2 := if mem.isEmpty then s1 else
      let sp := runs (mem.map (·.at_))
      let aft := s.before m.cls.toNat m.scope.toNat false sp
      s1.emit 0 s.core.flow.conf m.cls.toNat m.scope.toNat aft (.cells mem) (s.narrow m.cls.toNat m.scope.toNat sp aft)
    ((s2.signalWhen (sigOf v) 0 (if mem.isEmpty && !(scr.isEmpty && s.globalSide m) then [] else s2.openAll m.scope.toNat) [] none).occupy 1).done

/-! ### The pieces of each instruction -/

/-- VLD and VST: one access, in the 64-byte chunks of its 512 bytes that hold an active element (05 R163, R162). -/
def chunkItems (x : Cluster) (w : FV) (v : VW) (base : Word) : List VItem :=
  let b := tyBits w.ty.toNat
  let per := 512 / b
  (List.range 8).filterMap fun k =>
    match ((List.range per).map fun j => per * k + j).filter (vAct x v) with
    | [] => none
    | i :: is => some
      { unit := 0, first := base + BitVec.ofNat 64 (i * b / 8), base := base + BitVec.ofNat 64 (64 * k), size := 64, align := 64,
        skip := 0, esz := max 1 (b / 8),
        bytes := (i :: is).flatMap fun e => (elemOffs 0 b e).map fun o => (o - 64 * k, x.regOff w.vd.toNat + o, elemMask b e) }
/-- One element at an address of its own (05 R164, R165). -/
def elemItem (x : Cluster) (w : FV) (addr : Nat → Word) (i : Nat) : VItem :=
  let n := tyBits w.ty.toNat / 8
  { unit := i, first := addr i, base := addr i, size := n, align := n, skip := 0, esz := n,
    bytes := (List.range n).map fun k => (k, x.regOff w.vd.toNat + i * n + k, 0xFF) }
def elemItems (x : Cluster) (w : FV) (v : VW) (addr : Nat → Word) : List VItem :=
  ((List.range (vN (tyBits w.ty.toNat))).filter (vAct x v)).map (elemItem x w addr)

/-- s[a] + offset, as captured (02 R48). -/
def State.vbase (s : State) (m : MW) : Word := s.core.cur.a + m.offext.signExtend 64

/-- idx(i) of 05 R165 and the faults of its group. -/
def idxAt (x : Cluster) (w : FV) (v : VW) : Nat → Int :=
  let ib := tyBits v.ty2.toNat
  let g := x.gvals w.vb.toNat (idxK w.ty v.ty2) ib
  fun i => intVal ib (tySigned v.ty2.toNat) (g i)
def idxFaults (c : Core) (y : Bool) (w : FV) (v : VW) : List (Option Trap) :=
  let x := c.cluster y
  let k := idxK w.ty v.ty2
  [c.grpFault y w.vb.toNat k,
   c.regFault y (x.touch w.vb.toNat k (tyBits v.ty2.toNat) (vN (tyBits w.ty.toNat)) (vAct x v)) []]

/-- The tile rows of one row block, or the operand fault (05 R166). -/
def tileItems (c : Core) (y : Bool) (w : FV) (v : VW) (m : MW) (base stride : Word) : Option Trap × List VItem :=
  let d := ((c.cluster y).tiles.get (w.vd.toNat % 8)).getD {}
  let bits := d.cols * tyBits d.ty
  let rb := bits / 8
  let esz := max 1 (tyBits d.ty / 8)
  let per := 512 / rb
  let row0 := v.vc.toNat * per
  -- pages of the overflow part begin where o − CARVE does (R141)
  let from_ : Word := if m.space = 2 then BitVec.ofNat 64 c.sc.carve.toNat else 0
  if w.ty.toNat ≠ d.ty ∨ bits % 8 ≠ 0 ∨ rb = 0 ∨ 512 < rb ∨ d.rows ≤ row0 then
    (some (if base.toNat % esz ≠ 0 then c.fault 0x07 base 0 0 else c.fault 0x02 (BitVec.ofNat 64 (w.vd.toNat % 8)) (if y then 1 else 0) 0), [])
  else (none, (List.range (min per (d.rows - row0))).flatMap fun j =>
    let a := base + BitVec.ofNat 64 j * stride
    -- a row is one access, resolved page by page: at most two pieces
    let cut := min rb (4096 - (a - from_).toNat % 4096)
    let piece (o n : Nat) : VItem :=
      { unit := j, first := a + BitVec.ofNat 64 o, base := a + BitVec.ofNat 64 o, size := n, align := if o = 0 then esz else 1, skip := 0, esz := esz,
        bytes := (List.range n).map fun k => (k, d.base + (row0 + j) * rb + o + k, 0xFF) }
    if cut < rb then [piece 0 cut, piece cut (rb - cut)] else [piece 0 rb])

def execVld (w : FV) (v : VW) (m : MW) (s : State) : Result :=
  .next (s.issue v.tok (sigOf v) fun s => s.vload v m [] (chunkItems s.cl w v (s.vbase m)))
def execVst (w : FV) (v : VW) (m : MW) (s : State) : Result :=
  .next (s.issue v.tok (sigOf v) fun s => s.vstore v m [] (chunkItems s.cl w v (s.vbase m)))
def strided (s : State) (m : MW) (i : Nat) : Word := s.vbase m + BitVec.ofNat 64 i * s.core.cur.b
def execVldsd (w : FV) (v : VW) (m : MW) (s : State) : Result :=
  .next (s.issue v.tok (sigOf v) fun s => s.vload v m [] (elemItems s.cl w v (strided s m)))
def execVstsd (w : FV) (v : VW) (m : MW) (s : State) : Result :=
  .next (s.issue v.tok (sigOf v) fun s => s.vstore v m [] (elemItems s.cl w v (strided s m)))
def indexed (s : State) (w : FV) (v : VW) (m : MW) : Nat → Word :=
  let g := idxAt s.cl w v
  fun i => s.vbase m + BitVec.ofInt 64 (g i * (tyBits w.ty.toNat / 8 : Nat))
def execVldx (w : FV) (v : VW) (m : MW) (s : State) : Result :=
  .next (s.issue v.tok (sigOf v) fun s => s.vload v m (idxFaults s.core s.isY w v) (elemItems s.cl w v (indexed s w v m)))
def execVstx (w : FV) (v : VW) (m : MW) (s : State) : Result :=
  .next (s.issue v.tok (sigOf v) fun s => s.vstore v m (idxFaults s.core s.isY w v) (elemItems s.cl w v (indexed s w v m)))
def execVldt (w : FV) (v : VW) (m : MW) (s : State) : Result :=
  .next (s.issue v.tok (sigOf v) fun s =>
    let t := tileItems s.core s.isY w v m (s.vbase m) s.core.cur.b
    s.vload v m [t.1] t.2)
def execVstt (w : FV) (v : VW) (m : MW) (s : State) : Result :=
  .next (s.issue v.tok (sigOf v) fun s =>
    let t := tileItems s.core s.isY w v m (s.vbase m) s.core.cur.b
    s.vstore v m [t.1] t.2)
/-- VLDB: one element to every active position (05 R167). -/
def execVldb (w : FV) (v : VW) (m : MW) (s : State) : Result :=
  .next (s.issue v.tok (sigOf v) fun s =>
    let n := tyBits w.ty.toNat / 8
    let dst := (List.range (vN (8 * n))).filter (vAct s.cl v)
    s.vload v m [] (if dst.isEmpty then [] else
      [{ unit := 0, first := s.vbase m, base := s.vbase m, size := n, align := n, skip := 0, esz := n,
         bytes := dst.flatMap fun i => (List.range n).map fun k => (k, s.cl.regOff w.vd.toNat + i * n + k, 0xFF) }]))

end Sys2Proof.Machine
end

