-- ==== Sys2Proof/Machine/Engine.lean ====
section
/-! DEFINITION. Engine.lean: what the matrix, copy and bank engines share: resolving the addresses of running work at the
strand's own level, its faults, its reads and its writes through a hold (05 R139 to R152, 14 R419, R478). -/

namespace Sys2Proof.Machine

/-- The outcome of resolving a run of bytes: its pieces, a walk to wait for, or a fault with its TRAP_INFO3 (14 R478). -/
inductive Fetch where
  | ok (ps : List (Nat × Nat))
  | miss (va : Word)
  | bad (cause : Nat) (va i3 : Word)

/-- TRAP_INFO3 of a fault found while an engine instruction runs (14 R478). -/
def State.info3 (s : State) (cause : Nat) (va i1 : Word) : Word :=
  match cause with
  | 0x05 => i1
  | 0x06 => i1
  | 0x08 => i1
  | 0x17 => i1 ||| ((s.core.walkFault s.core.dom va).map (·.i2)).getD 0
  | _ => 0

/-- The first 8-byte unit of a write that the strand may not make: registers of the system block differ in their level
(15 R450). -/
def State.denied (s : State) (va : Word) (n : Nat) : Option (Nat × Word × Word) :=
  (List.range ((va.toNat % 8 + n + 7) / 8)).findSome? fun i =>
    let a := if i = 0 then va else va + BitVec.ofNat 64 (8 * i - va.toNat % 8)
    match s.xlate s.core.dom s.core.sc.priv.toNat .write a with
    | .bad c _ i1 => some (c, a, s.info3 c a i1)
    | _ => none
/-- Resolve `n` bytes at `va`, page by page, at the strand's level. A fault names the address (14 R478). -/
def State.pieces (s : State) (u : Use) : Nat → Word → Nat → Fetch
  | 0, _, _ => .ok []
  | k + 1, va, n =>
    if n = 0 then .ok [] else
    let m := min n (4096 - va.toNat % 4096)
    match s.xlate s.core.dom s.core.sc.priv.toNat u va with
    | .miss v => .miss v
    | .bad c v i1 => .bad c (if c = 0x04 then va else v) (s.info3 c v i1)
    | .ok loc =>
      match if u = .write ∧ rangeOf (paOf loc) = .sys then s.denied va m else none with
      | some f => .bad f.1 f.2.1 f.2.2
      | none => match s.pieces u k (va + BitVec.ofNat 64 m) (n - m) with
        | .ok ps => .ok ((loc, m) :: ps)
        | f => f
def State.run (s : State) (u : Use) (va : Word) (n : Nat) : Fetch := s.pieces u (n / 4096 + 2) va n

/-- The outcome of several requests, each with its source code (08 R251). -/
inductive FetchAll where
  | ok (ps : List (List (Nat × Nat)))
  | miss (src : Nat) (va : Word)
  | bad (src cause : Nat) (va i3 : Word)
def State.runAll (s : State) (u : Use) : List (Nat × Word × Nat) → FetchAll
  | [] => .ok []
  | r :: rs => match s.run u r.2.1 r.2.2 with
    | .miss v => .miss r.1 v
    | .bad c v i3 => .bad r.1 c v i3
    | .ok ps => match s.runAll u rs with
      | .ok l => .ok (ps :: l)
      | f => f

/-- The fault of a running engine operation, reported against its instruction (14 R478). -/
def opTrap (stream cause : Nat) (folio : Word) (slot seq : Nat) (i0 i1 i2 i3 : Word) : Trap :=
  { cause := cause, stream := stream, slot := slot, pc := folio, i0 := i0, i1 := i1, i2 := i2, i3 := i3, op := seq, running := true }

/-- Act as the engine instruction of this stream and program order: its accesses are ordered as its own. -/
def State.asOp (s : State) (stream seq : Nat) (folio : Word) (slot : Nat) : State :=
  s.mapCore fun c => { c with cur := { c.cur with stream := stream, seq := seq, folio := folio, slot := slot } }

/-- Bytes of a read's pieces as the strand sees them, and whether a granule touched carries a blot. -/
def State.take (s : State) (stream seq : Nat) (ps : List (Nat × Nat)) : List Byte × Bool :=
  (ps.flatMap fun p => s.readOwn stream seq p.1 p.2, ps.any fun p => s.blotOwn stream seq p.1 p.2)
/-- The armed error of 14 R446 fires on the pieces read. -/
def State.injectAll (s : State) (ps : List (Nat × Nat)) : State := ps.foldl (fun s p => s.inject p.1 p.2 false) s
/-- A piece that waits for a retraining channel of drawer memory. -/
def State.lateAny (s : State) (ps : List (Nat × Nat)) : Option Nat := (ps.filterMap fun p => s.lateChan p.1 p.2).head?

/-- Effects of this stream's earlier instructions that an access waits for: those of its class or that it overlaps, not
performed at the narrower scope (08 R247, 10 R329), or a store's that a forerunner still hides from the core (05 R169). At core scope plain writes are performed when made, reductions when
applied (11 R344). -/
def State.earlier (s : State) (stream seq cls scope : Nat) (sp : List (Nat × Nat)) : Bool :=
  (s.own.any fun e => e.stream == stream && decide (e.seq < seq) && (e.kind.isRmw || decide (1 ≤ scope) && decide (1 ≤ e.scope))
    && (e.cls == cls || overlap e.kind.spans sp)) || s.veils s.id sp

/-- The cells of a run of bytes over its pieces; `blot i` for byte `i`. -/
def cellsOf (ps : List (Nat × Nat)) (bs : List Byte) (blot : Nat → Bool) : LBytes :=
  let at_ := ps.flatMap fun p => (List.range p.2).map fun k => p.1 + k
  (at_.zip bs).mapIdx fun i x => ⟨x.1, 0xFF, x.2, blot i, false⟩

/-- Emit a write of the operation at hand into the hold of unit `clk`. -/
def State.emitCells (s : State) (clk now cls scope : Nat) (cs : LBytes) : State :=
  s.emit clk now cls scope (s.before cls scope false (runs (cs.map (·.at_)))) (.cells cs)

/-- One more engine cycle of waiting for the same address. -/
def Wait.tick (w : Wait) : Wait := { w with n := w.n + 1 }
/-- Now waiting for this address. -/
def Wait.on (w : Wait) (va : Word) (src : Nat) : Wait := if w.va = va ∧ w.src = src then w else { n := 0, va := va, src := src }

end Sys2Proof.Machine
end

