-- ==== Sys2Proof/Machine/Copy.lean ====
section
/-! DEFINITION. Copy.lean: the C stream (10 R298 to R332): issue of copies, CSIG, CFLUSH and CFENCE; pieces, timed
granules, ends and stalls. -/

namespace Sys2Proof.Machine

/-! ### Element maps (10 R305, R307) -/

/-- The address of element `x`. -/
def EMap.at (m : EMap) (x : Nat) : Word :=
  (m.dims.foldl (fun (a : Word × Nat) d => (a.1 + BitVec.ofInt 64 ((a.2 % d.1 : Nat) * d.2), a.2 / d.1)) (m.base, x)).1
def EMap.count (m : EMap) : Nat := m.dims.foldl (fun n d => n * d.1) 1
/-- The touched bytes as runs of consecutive addresses: one per row where dimension 0 is dense, else one per element. -/
def EMap.rows (m : EMap) (e : Nat) : List (Word × Nat) :=
  match m.dims with
  | d :: ds => if d.2 = (e : Int) then
      (if d.1 = 0 then [] else (List.range ({ m with dims := ds } : EMap).count).map fun r => (({ m with dims := ds } : EMap).at r, d.1 * e))
    else (List.range m.count).map fun x => (m.at x, e)
  | [] => [(m.base, e)]

/-! ### Issue (R298 to R300, R303 to R307) -/

/-- Element size of an fn code. -/
def esizeOf (fn : Nat) : Nat := if fn = 4 then 64 else 2 ^ fn
/-- The size of a core-local space. -/
def Core.spaceSize (c : Core) (sp : Nat) : Nat := if sp = 1 then 2 ^ 21 else if sp = 2 then c.x.size else c.y.size
/-- The first byte of a side that lies outside its core-local space (R299). DESIGN CHOICE: first in element order (06 R181,
log 77). -/
def Core.sideFault (c : Core) (m : EMap) (e : Nat) : Option Trap :=
  if m.space = 0 then none else
  ((m.rows e).find? fun r => decide (c.spaceSize m.space < r.1.toNat + r.2)).map fun r =>
    c.fault 0x02 (if r.1.toNat < c.spaceSize m.space then BitVec.ofNat 64 (c.spaceSize m.space) else r.1) (BitVec.ofNat 64 (m.space - 2)) 0
/-- The first value that is no multiple of its size. -/
def Core.alignFault (c : Core) (l : List (Word × Nat)) : Option Trap := (l.find? fun a => a.1.toNat % a.2 != 0).map fun a => c.fault 0x07 a.1 0 0

/-- Copies in progress that count toward the 32 of R298. -/
def Copy.counts (k : Copy) : Bool := match k.kind with
  | .plain => true
  | .x .. => true
  | .fill _ => true
  | _ => false
def Core.copiesFull (c : Core) : Bool := decide (32 ≤ (c.cpy.copies.filter Copy.counts).length)

/-- The signal of a C instruction: its end, and its writes performed at SCOPE (Table 10.10). -/
def Core.cSignal (c : Core) (e : EW) (outs : Bool) : Core :=
  if tokField e.tok 0 = 7 then c else
  c.addSig { prod := 4, cons := tokField e.tok 0, hand := false, cyc := c.now, perf := [], lands := [], ended := some c.cur.seq, outs := outs }

/-- The first element of a reduction of copy elements. -/
def EffKind.firstElem : EffKind → Option Nat
  | .reduce _ _ _ items => items.head?.map (·.2.1)
  | _ => none
/-- A reduction of copy elements: its writes are performed at every scope when they are applied (R313, 11 R344). -/
def CopyKind.reduces : CopyKind → Bool
  | .x 3 .. => true
  | _ => false

/-- Put an instruction in progress; its first piece comes when its data does. -/
def State.startCopy (s : State) (e : EW) (k : Copy) : State :=
  if k.n = 0 then ((s.signalAt (tokField e.tok 0) 1).occupy 1).done
  else (((s.mapCore fun c => { c.cSignal e (e.scope != 0 || k.kind.reduces) with cpy := { c.cpy with copies := c.cpy.copies ++ [k] } }).bump).occupy 1).done

def State.newCopy (s : State) (e : EW) (kind : CopyKind) (es se n : Nat) (src dst : EMap) : Copy :=
  { ent := some s.core.cur.ent, seq := s.core.cur.seq, kind := kind, e := es, se := se, n := n, src := src, dst := dst, cls := e.cls.toNat, scope := e.scope.toNat,
    pieceAt := s.wall + Config.delay s.freeCtr, folio := s.core.cur.folio, slot := s.core.cur.slot }

/-! ### Order among the copies (R329) -/

/-- A side's bytes, locations for global ones; none while one of its pages is not translated. -/
def State.sideSpan (s : State) (u : Use) (m : EMap) (e : Nat) : Option (List (Nat × Nat)) :=
  if m.space ≠ 0 then some ((m.rows e).map fun r => (r.1.toNat, r.2)) else
  (m.rows e).foldl (fun a r => match a, s.run u r.1 r.2 with
    | some l, .ok ps => some (l ++ ps)
    | _, _ => none) (some [])
/-- A side of a copy in progress touches bytes of a space. What is not translated yet may be any byte. -/
def State.meets (s : State) (u : Use) (m : EMap) (e space : Nat) (sp : List (Nat × Nat)) : Bool :=
  m.space == space && !sp.isEmpty && (match s.sideSpan u m e with
    | some l => overlap l sp
    | none => true)
/-- The instruction reads its source; writes its destination; discards its lines, which writes them (R317). -/
def Copy.reads (k : Copy) : Bool := match k.kind with
  | .plain => true
  | .x .. => true
  | _ => false
def Copy.writes (k : Copy) : Bool := match k.kind with
  | .pref => false
  | .flush _ => false
  | _ => true
def Copy.discards (k : Copy) : Bool := k.kind == .flush 2
def Copy.orders (k : Copy) : Bool := match k.kind with
  | .pref => false
  | .flush m => m == 2
  | _ => true
/-- The copy still writes bytes of a space. -/
def State.stillWrites (s : State) (j : Copy) (space : Nat) (sp : List (Nat × Nat)) : Bool :=
  (j.writes && s.meets .write j.dst j.e space sp) || (j.discards && s.meets .write j.src j.se space sp)
/-- The copy still reads bytes of a space: of a timed one, what it has not sampled. -/
def State.stillReads (s : State) (j : Copy) (space : Nat) (sp : List (Nat × Nat)) : Bool :=
  j.reads && (if j.timed then space == 0 && overlap ((j.grans.filter fun g => g.data.isNone).map fun g => (g.loc, g.len)) sp
    else s.meets .read j.src j.se space sp)
/-- An earlier copy in progress that this one follows for its class. -/
def State.behind (s : State) (k : Copy) : Bool :=
  s.core.cpy.copies.any fun j => decide (j.seq < k.seq) && j.orders && k.orders && j.cls == k.cls
/-- An access of `k` to these bytes follows one of `j`: they touch a byte that one of them writes. -/
def State.clash (s : State) (j k : Copy) (reads writes : List (Nat × Nat)) : Bool :=
  s.stillWrites j k.src.space reads || s.stillWrites j k.dst.space writes || s.stillReads j k.dst.space writes
    || (k.discards && s.stillReads j k.src.space reads)
/-- An earlier copy in progress that an access of this one follows for its bytes. -/
def State.clashes (s : State) (k : Copy) (reads writes : List (Nat × Nat)) : Bool :=
  s.core.cpy.copies.any fun j => decide (j.seq < k.seq) && j.orders && k.orders && s.clash j k reads writes
/-- A signalled copy in progress comes before this timed one (R329): its landings have their cycles, so it is its issue that waits
(log 84). -/
def State.unordered (s : State) (k : Copy) : Bool :=
  s.core.cpy.copies.any fun j => decide (j.seq < k.seq) && j.orders && !j.timed &&
    (j.cls == k.cls || s.clash j k ((s.sideSpan .read k.src k.se).getD []) ((s.sideSpan .write k.dst k.e).getD []))

/-! ### Timed copies (R319 to R323) -/

/-- E_ch of this strand on its core (R321). -/
def State.slotsOf (s : State) (ch : Nat) : Nat := s.drawer.ech s.id s.core.dom ch

/-- A byte of a timed copy's source: its location and address, and the destinations that it is written to. -/
structure SrcByte where
  loc : Nat
  va : Word
  dst : List Nat
  deriving DecidableEq, Repr

/-- Every byte of a copy, in element order. -/
def copyBytes (k : Copy) (loc : Word → Nat) : List SrcByte :=
  (List.range k.n).flatMap fun x => let a := loc (k.src.at x)
    (List.range k.e).map fun i => ⟨a + i, k.src.at x + BitVec.ofNat 64 i, [(k.dst.at x).toNat + i]⟩
/-- Where two elements write one byte, the higher index wins (R301); the source byte of the other is read all the same. -/
def lastWins : List SrcByte → List SrcByte
  | [] => []
  | p :: r => { p with dst := p.dst.filter fun d => !r.any fun q => q.dst.contains d } :: lastWins r
/-- The elements of a side lie one behind the other: no byte belongs to two. -/
def EMap.dense (m : EMap) (e : Nat) : Bool := match m.dims with
  | [] => true
  | [d] => d.2 == (e : Int)
  | _ => false
/-- Runs of consecutive bytes inside one location of 8 bytes (05 R168). -/
def byteRuns : List SrcByte → List (List SrcByte)
  | [] => []
  | p :: r => match byteRuns r with
    | (q :: ds) :: t => if p.loc + 1 = q.loc ∧ q.loc % 8 ≠ 0 then (p :: q :: ds) :: t else [p] :: (q :: ds) :: t
    | t => [p] :: t
/-- The bytes of each location of 8 bytes that a copy reads, between the first and the last of them. -/
def byteUnits (bs : List SrcByte) : List (List SrcByte) :=
  (bs.map (·.loc / 8)).eraseDups.map fun u =>
    let mine := bs.filter fun b => b.loc / 8 == u
    let lo := mine.foldl (fun m b => min m b.loc) (8 * u + 7)
    let hi := mine.foldl (fun m b => max m b.loc) (8 * u)
    (List.range (hi + 1 - lo)).map fun i =>
      let same := mine.filter fun b => b.loc == lo + i
      ⟨lo + i, ((same.head?).map (·.va)).getD 0, same.flatMap (·.dst)⟩

/-- The first translation fault of a list in the order of Table 5.8. -/
def worstFetch : List Fetch → Option (Nat × Word × Word)
  | [] => none
  | .bad c v i3 :: r => match worstFetch r with
    | some f => if faultOrder f.1 < faultOrder c then some f else some (c, v, i3)
    | none => some (c, v, i3)
  | _ :: r => worstFetch r

/-- The location of an address whose page is in the TLB. -/
def State.locOf (s : State) (u : Use) (va : Word) : Nat := match s.run u va 1 with
  | .ok ((l, _) :: _) => l
  | _ => 0

/-- Rank of each source granule among those of its channel, by physical address (R322): a granule's landing offset. -/
def granDelay (gs : List Nat) (slots : Nat → Nat) (g : Nat) : Nat :=
  832 + 62 * ((gs.filter fun h => h % 128 == g % 128 && decide (h < g)).length / slots (g % 128))

/-- A timed copy issues: claims its frames, or waits, or faults precise to the queue (R321). -/
def State.timedCopy (s : State) (e : EW) (k : Copy) : State :=
  let c := s.core
  let wait := c.preempting || s.unordered k || (match c.cpy.last with
      | some l => decide (c.flow.cycle < l.1 + 62 * l.2)
      | none => false) || (c.sc.chkEarly && decide (32 ≤ (c.cpy.copies.filter (·.timed)).length))
  if wait then s.hold else
  let fs := (k.src.rows k.e).map fun r => s.run .read r.1 r.2
  match fs.findSome? (fun f => match f with
    | .miss v => some v
    | _ => none) with
  | some va => (s.wantWalk c.dom va).hold
  | none =>
    let ok := fs.flatMap fun f => match f with
      | .ok ps => ps
      | _ => []
    match ok.find? fun p => rangeOf (paOf p.1) != .drawer with
    | some _ => s.raise 0x02 k.src.base
    | none =>
      let gs := (ok.flatMap fun p => (List.range ((p.1 + p.2 + 255) / 256 - p.1 / 256)).map fun i => paOf p.1 / 256 + i).eraseDups
      match gs.find? fun g => s.slotsOf (g % 128) == 0 with
      | some g => s.raise 0x02 k.src.base (BitVec.ofNat 64 (g % 128))
      | none =>
        match worstFetch fs with
        | some f => match s.xlate c.dom c.sc.priv.toNat .read f.2.1 with
          | .bad cause i0 i1 => s.raiseLoc cause i0 i1
          | _ => s.raise f.1 f.2.1
        | none =>
          let delay := granDelay gs s.slotsOf
          let bytes := copyBytes k (s.locOf .read)
          let bytes := if k.dst.dense k.e then bytes else lastWins bytes
          let now := c.flow.cycle
          let grans := ((if k.src.dense k.e then byteRuns bytes else byteUnits bytes).filterMap fun r => r.head?.map fun b => (b, r)).zipIdx.map fun x =>
            let b := x.1.1
            { loc := b.loc, va := b.va, len := x.1.2.length, ch := paOf b.loc / 256 % 128, due := now + delay (paOf b.loc / 256),
              readyAt := s.wall + Config.delay (s.freeCtr + x.2), dst := x.1.2.map (·.dst) : Gran }
          let s := s.bump grans.length
          let last := grans.foldl (fun m g => max m g.due) now
          let f := if gs.isEmpty then 0 else (last - now - 832) / 62 + 1
          let s := s.mapCore fun c => { c with
            cpy := { c.cpy with last := some (now, f) }
            early := if c.sc.chkEarly then (c.early.filter fun x => decide (now < x.2.2.2)) ++ (k.dst.rows k.e).map fun r => (k.dst.space, r.1.toNat, r.2, last) else c.early }
          s.startCopy e { k with timed := true, grans := grans, born := s.nextId }

/-- A copy that passed its operand checks: timed or signalled. -/
def State.goCopy (s : State) (e : EW) (timed : Bool) (k : Copy) (faults : List (Option Trap)) : State :=
  if s.core.copiesFull then s.hold else
  match firstFault (faults ++ (if k.n = 0 then [] else [s.core.sideFault k.src k.se, s.core.sideFault k.dst k.e])) with
  | some t => s.raiseT t
  | none => if timed then s.timedCopy e k else s.startCopy e k

/-! ### The copies (R305 to R307, R312, R315) -/

def execCnop (_w : FE) (s : State) : Result := .next (s.occupy 1).done

def execCpy (w : FA) (e : EW) (s : State) : Result :=
  .next (s.issue e.tok (tokField e.tok 0) fun s =>
    let c := s.core
    let es := esizeOf w.fn.toNat
    let n := c.cur.b.toNat / es
    let m (sp : Nat) (a : Word) : EMap := { space := sp, base := a, dims := [(n, es)] }
    s.goCopy e (xb e 4 1 == 1) (s.newCopy e .plain es es n (m (xb e 2 2) c.cur.a) (m (xb e 0 2) c.cur.d))
      [c.alignFault [(c.cur.a, es), (c.cur.d, es), (c.cur.b, es)], if 2 ^ 40 ≤ c.cur.b.toNat then some (c.fault 0x02 c.cur.b 0 0) else none])

/-- CPY2: W bytes a row, SP and DP its pitches. -/
def execCpy2 (w : FA) (e : EW) (s : State) : Result :=
  .next (s.issue e.tok (tokField e.tok 0) fun s =>
    let c := s.core
    let es := esizeOf w.fn.toNat
    let wid := c.cur.b.extractLsb' 0 32
    let rows := (c.cur.b.extractLsb' 32 32).toNat
    let sp := c.cur.b1.extractLsb' 0 32
    let dp := c.cur.b1.extractLsb' 32 32
    let per := wid.toNat / es
    let m (k : Nat) (a : Word) (p : BitVec 32) : EMap := { space := k, base := a, dims := [(per, es), (rows, p.toInt)] }
    s.goCopy e (xb e 4 1 == 1) (s.newCopy e .plain es es (rows * per) (m (xb e 2 2) c.cur.a sp) (m (xb e 0 2) c.cur.d dp))
      [c.alignFault [(c.cur.a, es), (c.cur.d, es), (wid.setWidth 64, es), (sp.signExtend 64, es), (dp.signExtend 64, es)],
       if rows ≠ 0 ∧ (wid.toNat = 0 ∨ 2 ^ 31 ≤ wid.toNat) then some (c.fault 0x02 (wid.setWidth 64) 0 0) else none])

/-- The extents of a CPYT and its source offset, or none where a tile lies outside (R307). -/
def tileExtents (ls : BitVec 512) (tile : Bool) (a : Word) : Option (List Nat × Int) :=
  let nd := layDims ls
  if !tile then some ((List.range nd).map (layCount ls), 0) else
  let t (j : Nat) : Nat := if j = 0 then a.toNat % 2 ^ 32 else if j = 1 then a.toNat / 2 ^ 32 else 0
  let sz (j : Nat) : Nat := if 2 ≤ j ∨ layTile ls j = 0 then layCount ls j else layTile ls j
  let dims := List.range nd
  if (List.range (max 2 nd)).any fun j => decide (layCount ls j ≤ t j * sz j) then none
  else some (dims.map fun j => min (sz j) (layCount ls j - t j * sz j),
    dims.foldl (fun o j => o + (t j * sz j : Nat) * (if j = 0 ∧ tyBits (layType ls) = 4 then 0 else layStride ls j)
      + (if j = 0 ∧ tyBits (layType ls) = 4 then ((t j * sz j / 2 : Nat) : Int) else 0)) 0)

/-- The map of a record over extents: 4-bit elements go two to the byte. -/
def layMap (sp : Nat) (r : BitVec 512) (base : Word) (ext : List Nat) : EMap :=
  { space := sp, base := base,
    dims := ext.mapIdx fun j c => if j = 0 ∧ tyBits (layType r) = 4 then (c / 2, 1) else (c, layStride r j) }

def execCpyt (_w : FA) (e : EW) (s : State) : Result :=
  .next (s.issue e.tok (tokField e.tok 0) fun s =>
    let c := s.core
    let ls := c.cur.la
    let ld := c.cur.lb
    let bad := some (c.fault 0x02 0 0 0)
    let tile := xb e 5 1 == 1
    let es := max 1 (tyBits (layType ls) / 8)
    if s.core.copiesFull then s.hold else
    if ls = 0 ∨ ld = 0 ∨ layType ls ≠ layType ld ∨ layDims ls ≠ layDims ld then s.raiseT (bad.getD (c.fault 0x02 0 0 0)) else
    match tileExtents ls tile c.cur.a with
    | none => s.raise 0x02 c.cur.a
    | some (ext, off) =>
      let fits := (List.range ext.length).all fun j => if tile then decide (ext.getD j 0 ≤ layCount ld j) else ext.getD j 0 == layCount ld j
      let sb := layBase ls + (if tile then 0 else c.cur.a) + BitVec.ofInt 64 off
      let db := layBase ld + c.cur.d
      let src := layMap (xb e 2 2) ls sb ext
      let dst := layMap (xb e 0 2) ld db ext
      let k := s.newCopy e .plain es es src.count src dst
      s.goCopy e (xb e 4 1 == 1) { k with unit := if tyBits (layType ls) = 4 then 2 else 1 }
        [c.alignFault [(sb, es), (db, es)], if fits then none else bad])

/-- CPYX (R312): STY and DTY in XOP bits 5:2 and 9:6, RM in 12:10, f in s[b+1]. -/
def State.cpyx (s : State) (fn : Nat) (e : EW) : State :=
  s.issue e.tok (tokField e.tok 0) fun s =>
    let c := s.core
    let sty := xb e 2 4
    let dty := xb e 6 4
    let se := tyBits sty / 8
    let de := tyBits dty / 8
    let n := c.cur.b.toNat
    let kind : CopyKind := .x fn sty dty (xb e 10 3) (c.cur.b1.setWidth 32) (srKey c 4 0)
    if s.core.copiesFull then s.hold else
    match firstFault [c.alignFault [(c.cur.a, se), (c.cur.d, de)], c.sideFault { space := xb e 0 2, base := c.cur.a, dims := [(n, se)] } se] with
    | some t => s.raiseT t
    | none =>
      let k := s.newCopy e kind de se n { space := xb e 0 2, base := c.cur.a, dims := [(n, se)] } { space := 0, base := c.cur.d, dims := [(n, de)] }
      (s.startCopy e k).srBump 4 (xb e 10 3)
def execCpyxCast (_w : FA) (e : EW) (s : State) : Result := .next (s.cpyx 0 e)
def execCpyxScale (_w : FA) (e : EW) (s : State) : Result := .next (s.cpyx 1 e)
def execCpyxAdd (_w : FA) (e : EW) (s : State) : Result := .next (s.cpyx 2 e)
def execCpyxReduce (_w : FA) (e : EW) (s : State) : Result := .next (s.cpyx 3 e)

def execCfill (w : FA) (e : EW) (s : State) : Result :=
  .next (s.issue e.tok (tokField e.tok 0) fun s =>
    let c := s.core
    let es := esizeOf w.fn.toNat
    let n := c.cur.b.toNat / es
    let dst : EMap := { space := xb e 0 2, base := c.cur.d, dims := [(n, es)] }
    s.goCopy e false (s.newCopy e (.fill c.cur.a) es es n { space := 0, base := 0, dims := [] } dst)
      [c.alignFault [(c.cur.d, es), (c.cur.b, es)], if 2 ^ 40 ≤ c.cur.b.toNat then some (c.fault 0x02 c.cur.b 0 0) else none])

/-! ### CSIG, CPREF, CFLUSH, CFENCE (R316, R317, R327, R328) -/

def execCsig (_w : FA) (e : EW) (s : State) : Result :=
  .next (s.issue e.tok (tokField e.tok 0) fun s =>
    let c := s.core
    let sp := xb e 0 1
    let st := xb e 1 1 == 1
    let dst : EMap := { space := sp, base := c.cur.d, dims := [(1, 8)] }
    match firstFault [c.alignFault [(c.cur.d, 8)], c.sideFault dst 8] with
    | some t => s.raiseT t
    | none => s.startCopy e (s.newCopy e (.sig c.cur.a st (st || e.cls == 15)) 8 8 1 { space := 0, base := 0, dims := [] } dst))

/-- The lines that `n` bytes at `a` touch. -/
def lineMap (a : Word) (n : Nat) : EMap :=
  let lo := (a >>> 6) <<< 6
  { space := 0, base := lo, dims := [(if n = 0 then 0 else (a.toNat % 64 + n + 63) / 64, 64)] }
def State.lineOp (s : State) (e : EW) (k : CopyKind) : State :=
  let m := lineMap s.core.cur.a s.core.cur.b.toNat
  s.startCopy e (s.newCopy e k 64 64 m.count m { space := 1, base := 0, dims := [] })

def execCpref (_w : FA) (e : EW) (s : State) : Result :=
  .next (s.issue e.tok (tokField e.tok 0) fun s => s.lineOp e .pref)
def execCflushClean (_w : FA) (e : EW) (s : State) : Result :=
  .next (s.issue e.tok (tokField e.tok 0) fun s => s.lineOp e (.flush 0))
def execCflushInval (_w : FA) (e : EW) (s : State) : Result :=
  .next (s.issue e.tok (tokField e.tok 0) fun s => s.lineOp e (.flush 1))
/-- Discard at privilege APP raises PRIVILEGE at issue. -/
def execCflushDiscard (_w : FA) (e : EW) (s : State) : Result :=
  .next (s.issue e.tok (tokField e.tok 0) fun s => if s.core.sc.priv = 0 then s.raise 0x04 0 1 else s.lineOp e (.flush 2))

/-- Every earlier C instruction of these classes has ended, its accesses performed at a scope (R327, R328). -/
def State.cDone (s : State) (seq scope : Nat) (mask : Nat → Bool) : Bool :=
  !s.core.cpy.copies.any (fun k => decide (k.seq < seq) && mask k.cls)
    && !s.own.any fun o => o.stream == 4 && decide (o.seq < seq) && mask o.cls && (scope != 0 || o.kind.isRmw)

def execCfence (w : FE) (e : EW) (s : State) : Result :=
  .next (s.issue e.tok (tokField e.tok 0) fun s =>
    if s.cDone s.core.cur.seq e.scope.toNat (w.misc.setWidth 16).getLsbD then ((s.signalAt (tokField e.tok 0) 0).occupy 1).done else s.hold)

/-! ### Pieces (R301, R302, R305, R312, R331) -/

def State.setCopy (s : State) (k : Copy) : State :=
  s.mapCore fun c => { c with cpy := { c.cpy with copies := c.cpy.copies.map fun j => if j.seq = k.seq then k else j } }

/-- The page that holds an address, as start and length. -/
def State.pageSpan (s : State) (va : Word) : Nat × Nat :=
  ((tlbFind s.core.dom va.toNat s.core.tlb).map fun e => (e.va, e.size)).getD (va.toNat / 4096 * 4096, 4096)
/-- The numbers from `x` on, at most so many, up to the first that fails. -/
def takeUp (p : Nat → Bool) : Nat → Nat → List Nat
  | 0, _ => []
  | f + 1, x => if p x then x :: takeUp p f (x + 1) else []
/-- The elements of the piece that starts at `prog`: those whose global bytes lie in the pages of the first one's (R302). -/
def State.pieceOf (s : State) (k : Copy) : List Nat :=
  let same (m : EMap) (x : Nat) : Bool :=
    m.space != 0 || (let p := s.pageSpan (m.at k.prog); decide (p.1 ≤ (m.at x).toNat) && decide ((m.at x).toNat < p.1 + p.2))
  takeUp (fun x => same k.src x && same k.dst x) (k.n - k.prog) k.prog

/-- The fault of a piece: the copy stops at its progress (R331). -/
def State.copyFault (s : State) (k : Copy) (cause : Nat) (va i2 i3 : Word) : State :=
  (s.setCopy { k with faulted := true, wait := {} }).dropWalkFault.record
    (opTrap 4 cause k.folio k.slot k.seq va (BitVec.ofNat 64 (k.prog * k.unit)) i2 i3)
def State.copyLater (s : State) (k : Copy) (w : Wait) : State := s.setCopy { k with pieceAt := s.wall + 1, wait := w }

/-- The bytes of one source element, as its space holds them behind the elements `fr` of this piece, and whether a granule
carries a blot (R301, 14 R439). -/
def State.readElem (s : State) (k : Copy) (sp loc n : Nat) (fr : List LBytes) : List Byte × Bool :=
  let x : Scratch := if sp = 1 then s.core.scrNext.foldl Scratch.put s.core.scr else
    let c := s.core.cluster (sp == 3); { bytes := c.reg, blots := c.blots }
  let old := if sp = 0 then s.readOwn 4 (k.seq + 1) loc n else x.bytes.readRun loc n
  let was (g : Nat) : Bool := if sp = 0 then s.blotOwn 4 (k.seq + 1) (64 * g) 64 else x.blots.get g
  (old.mapIdx fun i b => fr.foldl (fun b cs => ((cs.find? fun c => c.at_ == loc + i).map (·.val)).getD b) b,
   (List.range ((loc + n + 63) / 64 - loc / 64)).any fun i => fr.foldl (fun b cs => granBlot cs (loc / 64 + i) b) (was (loc / 64 + i)))

/-- One transformed element of CPYX: exact value, then its one conversion (R312). -/
def cpyxVal (fn sty dty rm : Nat) (f : BitVec 32) (key : Word) (bits : Nat) : Nat × Fp :=
  match fn with
  | 0 => convert sty dty rm true key bits
  | 1 => toTy dty rm key ((tyValue sty bits).mul (v32 f.toNat))
  | _ => toTy dty rm key (Num.add rm (tyValue sty bits) (v32 f.toNat))

/-- Write cells of a C instruction to a space. -/
def State.writeSide (s : State) (k : Copy) (cs : LBytes) : State :=
  match k.dst.space with
  | 0 => (s.asOp 4 k.seq k.folio k.slot).emitCells 0 s.core.flow.conf k.cls k.scope cs
  | 1 => s.mapCore fun c => { c with scrNext := c.scrNext ++ [cs] }
  | sp => s.mapCore fun c => c.setCluster (sp == 3) ((c.cluster (sp == 3)).put cs)

/-- The cells of an element of `e` bytes: only one of 64 clears a blot (14 R439). -/
def elemCells (e at_ : Nat) (bs : List Byte) (blot : Bool) : LBytes := (plainBytes at_ bs blot).map fun c => { c with part := decide (e < 64) }
/-- The values of a piece's elements, in order: destination place, bytes, blot; and the flags. -/
def State.pieceVals (s : State) (k : Copy) (els : List (Nat × Nat × Nat)) : LBytes × Fp × Bool :=
  let same := k.reads && k.src.space == k.dst.space && overlap (els.map fun x => (x.2.1, k.se)) (els.map fun x => (x.2.2, k.e))
  (els.foldl (fun (a : List LBytes × LBytes × Fp × Bool) x =>
    let r : List Byte × Bool := if k.reads then s.readElem k k.src.space x.2.1 k.se a.1 else ([], false)
    let v : List Byte × Fp := match k.kind with
      | .fill w => (natLe k.e w.toNat, 0)
      | .x fn sty dty rm f key => let y := cpyxVal fn sty dty rm f (key + BitVec.ofNat 64 (x.1 % 2 ^ 20)) (leNat r.1); (natLe k.e y.1, y.2)
      | _ => (r.1, 0)
    let cs := elemCells k.e x.2.2 v.1 r.2
    (if same then a.1 ++ [cs] else [], a.2.1 ++ cs, a.2.2.1 ||| v.2, a.2.2.2 || r.2)) ([], [], 0, false)).2

/-- One line of a CFLUSH (R317): clean writes it back, inval drops the copy then, discard drops it unwritten, which counts as
a write of the drawer's bytes. -/
def State.flushLine (mode : Nat) (s : State) (loc : Nat) : State :=
  if rangeOf (paOf loc) ≠ .drawer then s else
  let gone (s : State) : State := { s with llc := s.llc.filter (· != loc / 64) }
  if mode = 0 then { s with mem := s.mem.cleanLine loc }
  else if mode = 1 then gone { s with mem := s.mem.evict loc }
  else if s.mem.dirtyLine loc then
    ((((gone { s with mem := s.mem.discardLine loc }).wakeAll (loc / 64 * 64) 64).fireAll (loc / 64 * 64) 64)).squash s.id [(loc / 64 * 64, 64)]
  else gone { s with mem := s.mem.evict loc }
/-- The page of an address is cacheable or LLC-only (05 Table 5.6). -/
def State.cachedPage (s : State) (va : Word) : Bool := ((tlbFind s.core.dom va.toNat s.core.tlb).map fun e => e.cache == 0 || e.cache == 2).getD false

/-- Resolve one side at an element. -/
def State.sideAt (s : State) (u : Use) (m : EMap) (x e : Nat) : Fetch := if m.space = 0 then s.run u (m.at x) e else .ok [(m.at x |>.toNat, e)]
/-- The first fault of a side among the elements of a piece, in the order of the elements. -/
def State.sideBad (s : State) (u : Use) (m : EMap) (e : Nat) (xs : List Nat) : Option (Nat × Word × Word) :=
  if m.space ≠ 0 then none else xs.findSome? fun x => match s.sideAt u m x e with
    | .bad c va i3 => some (c, va, i3)
    | _ => none
/-- The place of element `x`: within the page of element `x0`, which is at `ps`, for a global side. -/
def placeAt (m : EMap) (ps : List (Nat × Nat)) (x0 x : Nat) : Nat :=
  if m.space = 0 then (match ps with
    | (l, _) :: _ => l + (m.at x).toNat - (m.at x0).toNat
    | [] => 0)
  else (m.at x).toNat

/-- Elements that read nothing which an earlier one of them reduces into (R301). -/
def apart (se e : Nat) : List (Nat × Nat) → List (Nat × Nat × Nat) → List (Nat × Nat × Nat)
  | _, [] => []
  | ds, x :: r => if overlap [(x.2.1, se)] ds then [] else x :: apart se e ((x.2.2, e) :: ds) r
/-- The elements of a piece with the places of their sources and destinations. A reduction's value is known only at its
location, so a reducing piece ends before an element that reads it. -/
def Copy.places (k : Copy) (xs : List Nat) (sps dps : List (Nat × Nat)) : List (Nat × Nat × Nat) :=
  let els : List (Nat × Nat × Nat) := xs.map fun x => (x, placeAt k.src sps k.prog x, placeAt k.dst dps k.prog x)
  if k.kind.reduces && k.src.space == 0 then apart k.se k.e [] els else els

/-- The piece moves. -/
def State.movePiece (s : State) (k : Copy) (els : List (Nat × Nat × Nat)) : State :=
  let k' := { k with prog := k.prog + els.length, pieceAt := if k.prog + els.length < k.n then s.wall + Config.delay s.freeCtr else s.wall, wait := {} }
  let s := if k.reads && k.src.space == 0 then s.injectAll (els.map fun (x : Nat × Nat × Nat) => (x.2.1, k.se)) else s
  let s := match k.kind with
    | .flush mode => if s.cachedPage (k.src.at k.prog) then els.foldl (fun s (x : Nat × Nat × Nat) => State.flushLine mode s x.2.1) s else s
    | .x 3 sty _ rm _ key =>
      let items : List (Nat × Nat × Nat × Bool) := els.map fun (x : Nat × Nat × Nat) => let r := s.readElem k k.src.space x.2.1 k.se []; (x.2.2, x.1, leNat r.1, r.2)
      let s := s.asOp 4 k.seq k.folio k.slot
      s.emit 0 s.core.flow.conf k.cls k.scope (s.before k.cls k.scope false (items.map fun (i : Nat × Nat × Nat × Bool) => (i.1, k.e))) (.reduce sty rm key items)
    | .sig v st _ =>
      let f := s.core.cpy.flags
      let v := if st then (v &&& ~~~(0x3F : Word)) ||| f.setWidth 64 else v
      let s := if st then s.mapCore fun c => { c with cpy := { c.cpy with flags := 0 } } else s
      s.writeSide k (els.flatMap fun (x : Nat × Nat × Nat) => elemCells 8 x.2.2 (natLe 8 v.toNat) false)
    | .pref => if s.cachedPage (k.src.at k.prog) then els.foldl (fun s (x : Nat × Nat × Nat) => s.fetchLines x.2.1 64) s else s
    | _ => let r := s.pieceVals k els; (s.mapCore fun c => c.cflags r.2.1 r.2.2).writeSide k r.1
  (s.setCopy k').bump

/-- The instruction in progress whose next piece is due. -/
def State.dueCopy (s : State) : Option Copy := s.core.cpy.copies.find? fun k => !k.faulted && !k.timed && decide (k.prog < k.n) && decide (k.pieceAt ≤ s.wall)

/-- The retraining channel that an element waits for, and the address that does (R326): of a line that it reads or fetches and
the LLC does not hold, of a byte that it writes into an uncached page, of a dirty line that it flushes. -/
def State.elemLate (s : State) (k : Copy) (x : Nat × Nat × Nat) : Option (Word × Nat) :=
  let at_ (m : EMap) (c : Option Nat) : Option (Word × Nat) := c.map fun ch => (m.at x.1, ch)
  match k.kind with
  | .flush 2 => none
  | .flush _ => at_ k.src (if s.mem.dirtyLine x.2.1 then s.chanLate x.2.1 k.se else none)
  | .pref => at_ k.src (if s.cachedPage (k.src.at k.prog) then s.lateChan x.2.1 k.se else none)
  | _ => (at_ k.src (if k.src.space = 0 ∧ k.reads then s.lateChan x.2.1 k.se else none)).orElse fun _ =>
      at_ k.dst (if k.dst.space = 0 ∧ s.uncached x.2.2 then s.chanLate x.2.2 k.e else none)
/-- The first element of a piece that waits so. -/
def State.pieceLate (s : State) (k : Copy) (els : List (Nat × Nat × Nat)) : Option (Word × Nat) := els.findSome? (s.elemLate k)

/-- A reduction of this stream that has not been applied yet stands before a read of its bytes, in this copy or an earlier
one (R301, R329). -/
def State.unreduced (s : State) (k : Copy) (reads : List (Nat × Nat)) : Bool :=
  s.own.any fun e => e.stream == 4 && decide (e.seq ≤ k.seq) && e.kind.isRmw && overlap e.kind.spans reads

/-- A piece whose elements are translated: it waits for what comes before it or moves. -/
def State.tryPiece (s : State) (k : Copy) (els : List (Nat × Nat × Nat)) : State :=
  let reads := if k.reads || !k.writes then els.map fun x => (x.2.1, k.se) else []
  let writes := if k.writes then els.map fun x => (x.2.2, k.e) else []
  let glob := (if k.src.space = 0 then reads else []) ++ (if k.dst.space = 0 then writes else [])
  if k.orders && (s.clashes k reads writes || s.earlier 4 k.seq k.cls k.scope glob || (k.src.space == 0 && s.unreduced k reads)) then s.copyLater k {} else
  match s.pieceLate k els with
  | some w => if k.kind = .pref then s.copyLater k {} else s.copyLater k (k.wait.on w.1 (128 + w.2))
  | none => s.movePiece k els

/-- The next piece: CSIG's write waits until what it covers is done, any other for the copies of its class before it. Its
pages are translated and all its elements checked before one of them moves (R302, R331); CPREF skips a page that fails
(R316). -/
def State.nextPiece (s : State) (k : Copy) : State :=
  let wide := match k.kind with
    | .sig _ _ w => some w
    | _ => none
  if (match wide with
    | some w => !s.cDone k.seq k.scope fun c => w || c == k.cls
    | none => s.behind k) then s.copyLater k {} else
  let xs := s.pieceOf k
  let from_ := k.reads || !k.writes
  let us : Use := if k.kind = .flush 2 then .write else .read
  let fail (cause : Nat) (va side i3 : Word) : State :=
    if k.kind = .pref then (s.dropWalkFault.setCopy { k with prog := k.prog + xs.length, pieceAt := s.wall, wait := {} }) else s.copyFault k cause va side i3
  match if from_ then s.sideBad us k.src k.se xs else none, if k.writes then s.sideBad .write k.dst k.e xs else none with
  | some f, some g => if faultOrder g.1 < faultOrder f.1 then fail g.1 g.2.1 1 g.2.2 else fail f.1 f.2.1 0 f.2.2
  | some f, none => fail f.1 f.2.1 0 f.2.2
  | none, some g => fail g.1 g.2.1 1 g.2.2
  | none, none =>
    match if from_ then s.sideAt us k.src k.prog k.se else .ok [], if k.writes then s.sideAt .write k.dst k.prog k.e else .ok [] with
    | .miss va, _ => (s.wantWalk s.core.dom va us).copyLater k (k.wait.on va (128 + va.toNat / 256 % 128))
    | _, .miss va => (s.wantWalk s.core.dom va .write).copyLater k (k.wait.on va (128 + va.toNat / 256 % 128))
    | .ok sps, .ok dps => s.tryPiece k (k.places xs sps dps)
    | _, _ => s

/-- COPY_PIECE: the instruction in progress whose piece is due takes it. -/
def execCopyPiece (s : State) : Result :=
  .next (match s.dueCopy with
    | none => s
    | some k => s.nextPiece k)

/-- The last piece is done and, of a timed copy, the last granule has landed. -/
def Copy.ended (k : Copy) (wall : Nat) : Bool := if k.timed then k.grans.isEmpty else decide (k.n ≤ k.prog) && decide (k.pieceAt ≤ wall)
/-- The last write is performed at core scope and the last read has returned (R298). -/
def State.copyOver (s : State) (k : Copy) : Bool :=
  k.ended s.wall && !s.own.any fun e => e.stream == 4 && e.seq == k.seq && e.kind.isRmw
/-- COPY_END. -/
def execCopyEnd (s : State) : Result :=
  .next (s.mapCore fun c => { c with cpy := { c.cpy with copies := c.cpy.copies.filter fun k => !s.copyOver k } })

/-! ### Granules of timed copies (R322, R323) -/

/-- A granule's sampling: once, at its cycle, behind what its copy follows. -/
def State.sampleGran (s : State) (k : Copy) (g : Gran) : State :=
  if g.data.isSome || decide (s.wall < g.readyAt) || s.behind k || s.clashes k [(g.loc, g.len)] [] || s.earlier 4 k.seq k.cls k.scope [(g.loc, g.len)] || s.unreduced k [(g.loc, g.len)] || (s.lateChan g.loc g.len).isSome then s else
  let s := s.inject g.loc g.len false
  let d := (s.readOwn 4 k.seq g.loc g.len, (List.range g.len).map fun i => s.blotOwn 4 k.seq (g.loc + i) 1)
  let at_ := s.wall + Config.delay s.freeCtr
  (s.mapCore fun c => { c with cpy := { c.cpy with copies := c.cpy.copies.map fun j =>
    if j.seq = k.seq then { j with grans := j.grans.map fun h => if h = g then { h with data := some d, readyAt := at_ } else h } else j } }).bump
def State.sampleGrans (s : State) : State :=
  s.core.cpy.copies.foldl (fun s k => k.grans.foldl (fun s g => s.sampleGran k g) s) s
/-- A granule whose data is at the core. -/
def Gran.here (g : Gran) (wall : Nat) : Bool := g.data.isSome && decide (g.readyAt ≤ wall)

/-- The first copy in program order with a granule that lands in this cycle. -/
def State.dueGran (s : State) : Option Copy :=
  s.core.cpy.copies.find? fun k => k.timed && k.grans.any fun g => decide (g.due ≤ s.core.flow.cycle) && g.here s.wall
/-- GRANULE_LANDING: every granule of that copy that is due and whose data is here is written (R322, 05 R477). -/
def execGranuleLanding (s : State) : Result :=
  .next (match s.dueGran with
  | none => s
  | some k =>
    let due (g : Gran) : Bool := decide (g.due ≤ s.core.flow.cycle) && g.here s.wall
    let gs := k.grans.filter due
    let cs : LBytes := gs.flatMap fun g => match g.data with
      | some d => ((g.dst.zip d.1).zip d.2).flatMap fun x => x.1.1.map fun a => ⟨a, 0xFF, x.1.2, x.2, decide (k.e < 64)⟩
      | none => []
    ((s.writeSide k cs).mapCore fun c => c.cflags 0 (cs.any (·.blot))).setCopy { k with grans := k.grans.filter fun g => !due g })

/-! ### Stalls (R326) -/

/-- One more cycle of waiting, for every copy in progress. -/
def CopyCtx.tick (c : CopyCtx) : CopyCtx :=
  { c with copies := c.copies.map fun k => if k.timed || k.faulted || k.kind = .pref then k else { k with wait := k.wait.tick } }

/-- What a copy waits for: its piece's address and channel; once its pieces have moved, the first of its reductions that has not
been applied. -/
def State.copyWaits (s : State) (k : Copy) : Word × Nat :=
  if k.wait.src ≠ 0 then (k.wait.va, k.wait.src) else
  let x := if k.prog < k.n then k.prog else
    ((s.own.filterMap fun e => if e.stream == 4 && e.seq == k.seq then e.kind.firstElem else none).head?).getD 0
  let va := if k.reads && decide (k.prog < k.n) then k.src.at x else k.dst.at x
  (va, 128 + va.toNat / 256 % 128)
/-- C_STALL: 16,384 cycles of waiting for one access raise STALL. -/
def execCStall (s : State) : Result :=
  .next (match s.core.cpy.copies.find? fun k => !k.faulted && decide (16384 ≤ k.wait.n) with
    | none => s
    | some k =>
      let w := s.copyWaits k
      s.copyFault k 0x0C w.1 (BitVec.ofNat 64 w.2) 0)

end Sys2Proof.Machine
end

