-- ==== Sys2Proof/Machine/Nest.lean ====
section
/-! DEFINITION. Nest.lean: what a matrix nest computes: its index vector, slots, tiles, scales, sparse rows and the dot
products of a row block (08 R225 to R233), over the nest table and the accumulator slots. -/

namespace Sys2Proof.Machine

/-! ### The nest table (08 Table 8.2) -/

abbrev Table := Store (BitVec 32)
/-- Bits `lo` to `lo + w − 1` of a field. -/
def Table.bits (t : Table) (id lo w : Nat) : Nat := ((Store.get t id).extractLsb' lo w).toNat
/-- A low and high pair of fields. -/
def Table.pair (t : Table) (id : Nat) : Word := (Store.get t (id + 1)) ++ (Store.get t id)
def Table.cnt (t : Table) (l : Nat) : Nat := t.bits l 0 16
def Table.qstr (t : Table) (l : Nat) : Nat := t.bits (18 + l) 0 4
def Table.em (t : Table) : Nat := t.bits 41 0 7
def Table.en (t : Table) : Nat := t.bits 41 7 7
def Table.ek (t : Table) : Nat := t.bits 41 14 8
/-- Type of operand 0 (A) or 1 (B). -/
def Table.ty (t : Table) (i : Nat) : Nat := t.bits 28 (4 * i) 4
def levels : List Nat := [0, 1, 2, 3, 4, 5]
/-- The nest's steps. -/
def Table.steps (t : Table) : Nat := levels.foldl (fun n l => n * t.cnt l) 1
/-- F of R232. -/
def Table.foot (t : Table) : Nat := levels.foldl (fun n l => n + (t.cnt l - 1) * t.qstr l) 1
/-- The index vector of a linear step number (R225). -/
def Table.index (t : Table) (step : Nat) : List Nat :=
  (levels.foldl (fun (a : List Nat × Nat) l => (a.1 ++ [a.2 % t.cnt l], a.2 / t.cnt l)) ([], step)).1
/-- A step is the first of its tile (R233). -/
def Table.first (t : Table) (x : List Nat) : Bool := levels.all fun l => t.qstr l != 0 || x.getD l 0 == 0
/-- The operand is the seeded-sparse one. -/
def Table.sparse (t : Table) (i : Nat) : Bool := t.bits 29 0 2 != 0 && t.bits 29 2 1 == i
/-- Stored bytes of one row of one step (R225). -/
def Table.dense (t : Table) (i : Nat) : Nat := 256 * tyBits (t.ty i) / 8 / (if t.sparse i then 2 ^ t.bits 29 0 2 else 1)
/-- APITCH or BPITCH, in bytes as written. -/
def Table.pitch (t : Table) (i : Nat) : Nat := t.bits 28 (16 + 8 * i) 8 * 256
/-- Cycles of a row block (R221, Table 8.1; R241 for the sparse lengths). -/
def Table.blockLen (t : Table) : Nat :=
  let w := max (tyBits (t.ty 0)) (tyBits (t.ty 1))
  let d := if w = 4 then 2 else if w = 8 then 4 else if w = 16 then 8 else 32
  if t.bits 29 0 2 ≠ 0 ∧ w ≤ 8 then d / 2 else d

/-! ### Operands of a step -/

/-- Operand A or B of one step (R225 to R227). -/
structure Opnd where
  i : Nat
  ty : Nat
  mx : Bool
  sparse : Bool
  mode : Nat
  seed : Word
  row0 : Nat
  blk0 : Nat
  xb : Word
  base : Word
  pitch : Nat
  sb : Word

def Table.opnd (t : Table) (x : List Nat) (i : Nat) : Opnd :=
  let xb := t.pair (24 + 2 * i)
  let lv (f : Nat) : Nat := if t.bits 29 f 3 < 6 then x.getD (t.bits 29 f 3) 0 else 0
  { i := i, ty := t.ty i, mx := t.bits 28 (12 + i) 1 == 1, sparse := t.sparse i, mode := t.bits 29 0 2, seed := t.pair 30
    row0 := 128 * lv 4, blk0 := 64 * lv 8, xb := xb
    base := levels.foldl (fun a l => a + BitVec.ofNat 64 (x.getD l 0) * (Store.get t (6 + 6 * i + l)).signExtend 64) xb
    pitch := if t.pitch i = 0 then t.dense i else t.pitch i
    sb := xb + ((Store.get t 29).extractLsb' (16 + 8 * i) 8).signExtend 64 * 0x1000000 }

/-- The K positions of row `r` that are stored and in range, in stored order (R227, R228). -/
def Opnd.kept (o : Opnd) (ek r : Nat) : List Nat :=
  if o.sparse then (List.range (ek / 4 + 1)).flatMap fun j => (sparseKept o.seed o.mode (o.row0 + r) (o.blk0 + j)).map (4 * j + ·)
  else List.range (ek + 1)
def Opnd.rowVa (o : Opnd) (r : Nat) : Word := o.base + BitVec.ofNat 64 (r * o.pitch)
def Opnd.rowBytes (o : Opnd) (ek r : Nat) : Nat := ((o.kept ek r).length * tyBits o.ty + 7) / 8
/-- The addresses of a row's scale bytes (R226). -/
def Opnd.scales (o : Opnd) (ek r : Nat) : List Word :=
  let q := 32 * tyBits o.ty / 8
  if !o.mx then [] else (List.range (ek / 32 + 1)).map fun b =>
    o.sb + BitVec.ofInt 64 ((o.rowVa r + BitVec.ofNat 64 (b * q) - o.xb).toInt / (q : Int))
/-- What row `r` reads: its elements, then its scales. -/
def Opnd.reqs (o : Opnd) (ek r : Nat) : List (Nat × Word × Nat) :=
  (o.i, o.rowVa r, o.rowBytes ek r) :: (o.scales ek r).map fun a => (2 + o.i, a, 1)

/-- A row as read: its values by position, its scale bytes by block, and whether any granule carried a blot (R230). -/
structure Row where
  vals : List Num
  scales : List Nat
  blot : Bool
def Opnd.row (o : Opnd) (ek r : Nat) (data : List (List Byte × Bool)) : Row :=
  let n := leNat ((data.head?.map (·.1)).getD [])
  let b := tyBits o.ty
  let kept := o.kept ek r
  { vals := (List.range (ek + 1)).map fun k =>
      if o.sparse then (match kept.findIdx? (· == k) with
        | some i => tyValue o.ty (elem n b i)
        | none => .zero false)
      else tyValue o.ty (elem n b k)
    scales := (data.drop 1).map fun d => leNat d.1
    blot := data.any (·.2) }

/-! ### The dot product of R98 -/

/-- Positions in a chunk: 1 for the fused fp32 form. -/
def chunkLen (ta tb : Nat) : Nat :=
  let w (t : Nat) : Nat := tyBits t
  if w ta = 32 ∨ w tb = 32 then 1 else if w ta = 16 ∨ w tb = 16 then 16 else 32

/-- One chunk: the exact sum of its products, scaled, rounded once, then added to the accumulator. DEDUCED: each product is an
operation of its own, so that 0 × ∞ sets IV beside a NaN operand elsewhere in the chunk (03 R89, log 72). -/
def dotChunk (acc : Nat) (ps : List (Num × Num)) (k : Int) (bad : Bool) : Nat × Fp :=
  let pr := ps.map fun p => p.1.mul p.2
  let c := chunkExact (pr.map (·.1))
  let r := rne32 (if bad then .nan else c.1.scale k)
  let a := add32 acc r.1
  (a.1, if bad then a.2 else pr.foldl (fun f p => f ||| p.2) 0 ||| c.2 ||| r.2 ||| a.2)
/-- One fused multiply-add of the fp32 form. -/
def dotFma (acc : Nat) (p : Num × Num) (k : Int) (bad : Bool) : Nat × Fp :=
  if bad then (0x7FC00000, 0) else fop32 0 0 (Num.fma 0 (p.1.scale k) p.2 (v32 acc))

/-- Scale bytes of one position's block, 127 where the operand has none: the exponent, and whether one is NaN. -/
def scalePair (a b : List Nat) (blk : Nat) : Int × Bool :=
  let ea := a.getD blk 127
  let eb := b.getD blk 127
  ((ea : Int) + eb - 254, ea == 255 || eb == 255)

/-- Split into chunks of `n`, the last filled with +0 products (R98). -/
def chunksOf (n : Nat) : Nat → List (Num × Num) → List (List (Num × Num))
  | 0, _ => []
  | _ + 1, [] => []
  | f + 1, l => let h := l.take n; (h ++ List.replicate (n - h.length) (.zero false, .zero false)) :: chunksOf n f (l.drop n)

/-- acc + Σ a·b over the positions in range, in chunk order; positions past them add +0 products (R228, R229). -/
def dot98 (len : Nat) (a b : Row) (acc : Nat) : Nat × Fp :=
  let cs := chunksOf len 256 (a.vals.zip b.vals)
  let r := (cs.foldl (fun (x : (Nat × Fp) × Nat) c =>
    let sp := scalePair a.scales b.scales (x.2 * len / 32)
    let y := if len = 1 then dotFma x.1.1 (c.headD (.zero false, .zero false)) sp.1 sp.2 else dotChunk x.1.1 c sp.1 sp.2
    ((y.1, x.1.2 ||| y.2), x.2 + 1)) ((acc, 0), 0)).1
  if cs.length * len < 256 then (let y := add32 r.1 0; (y.1, r.2 ||| y.2)) else r

/-! ### A row block -/

/-- The output rows of row block `rb` (R221, R228). -/
def Table.rows (t : Table) (rb : Nat) : List Nat := (List.range 16).filterMap fun i => if 16 * rb + i ≤ t.em then some (16 * rb + i) else none

/-- The rows that a row block fetches: (operand, row). -/
def Table.fetches (t : Table) (x : List Nat) (rb : Nat) : List (Opnd × Nat) :=
  let rows := t.rows rb
  if rows.isEmpty then [] else
  (rows.map fun m => (t.opnd x 0, m)) ++ ((List.range (t.en + 1)).map fun n => (t.opnd x 1, n))

/-- What a row block writes: slot elements, poisoned slot granules and flags, from the rows fetched in that order. A blot of A
poisons its row, one of B its granule of every row (R230). -/
def Table.block (t : Table) (slots : Store (BitVec 32)) (slot rb : Nat) (rows : List Row) : List (Nat × BitVec 32) × List Nat × Fp :=
  let ms := t.rows rb
  let as := rows.take ms.length
  let bs := rows.drop ms.length
  let len := chunkLen (t.ty 0) (t.ty 1)
  (ms.zip as).foldl (fun acc ma =>
    let rs := (List.range bs.length).zip bs |>.map fun nb =>
      let k := slot * 16384 + ma.1 * 128 + nb.1
      let r := dot98 len ma.2 nb.2 (slots.get k).toNat
      ((k, BitVec.ofNat 32 r.1), r.2)
    let pz := if ma.2.blot then List.range 8 else []
    (acc.1 ++ rs.map (·.1), acc.2.1 ++ pz.map (fun g => slot * 1024 + ma.1 * 8 + g), rs.foldl (fun f r => f ||| r.2) acc.2.2))
    ([], (((List.range bs.length).zip bs).filter (·.2.blot)).flatMap fun nb => (List.range 128).map fun m => slot * 1024 + m * 8 + nb.1 / 16, 0)

/-! ### The activation functions (08 R235) -/

def act32 (code y : Nat) : Nat × Fp :=
  match code with
  | 1 => let v := v32 y; (if v.isNan then 0x7FC00000 else if v.isNeg then 0 else y, 0)
  | 2 => sigmoid32 y
  | 3 => tanh32 y
  | 4 => silu32 y
  | 5 => gelu32 y
  | _ => (y, 0)

end Sys2Proof.Machine
end

