-- ==== Sys2Proof/Machine/Lane.lean ====
section
/-! DEFINITION. Lane.lean: the lanes of a bank stack: the row windows they take, and
the sums of the products (09 R257, R262 to R264, R270, R272, R279, R280). -/

namespace Sys2Proof.Machine

/-! ### The control word (09 Table 9.5) -/

abbrev Ctl := Word
def Ctl.f (w : Ctl) (lo n : Nat) : Nat := (w.extractLsb' lo n).toNat
def Ctl.slot0 (w : Ctl) : Nat := w.f 0 3
def Ctl.nb (w : Ctl) : Nat := w.f 3 3 + 1
def Ctl.aty (w : Ctl) : Nat := w.f 8 4
def Ctl.oty (w : Ctl) : Nat := w.f 12 4
def Ctl.orm (w : Ctl) : Nat := w.f 16 3
def Ctl.stride (w : Ctl) : Nat := w.f 20 12 * 64
def Ctl.row0 (w : Ctl) : Nat := w.f 32 16
def Ctl.rows (w : Ctl) : Nat := w.f 48 16 + 1
/-- Output elements of a slot (09 Table 9.6). -/
def outCount (which : Nat) (e : Entry) (w : Ctl) : Nat := if which = 2 then e.k else w.rows
/-- Bytes of an output element. -/
def Ctl.ob (w : Ctl) : Nat := tyBits w.oty / 8
def Ctl.ab (w : Ctl) : Nat := tyBits w.aty / 8

/-- Lane ids that take refresh in window `w` with period 64 or 128 (R270). -/
def refreshIn (fast : Bool) (w l : Nat) : Bool := let p := if fast then 64 else 128; (w + p - (l * 8) % p) % p == 0

/-! ### Sums (09 R280) -/

/-- A row as a lane reads it: values by column of its share, scales, blot. -/
def Entry.row (e : Entry) (m : Mem) (st p l o : Nat) : Row :=
  let sh := e.share p l
  let locs := e.locs st l (e.laneByte o) (e.stored p l)
  let bytes := locs.flatMap fun x => m.bytes x.1 x.2
  let n := leNat bytes
  let val (i : Nat) : Num := tyValue e.wtype (elem n (wBits e.wtype) i)
  let pos := (List.range (sh.2 / 4)).flatMap fun j => (sparseKept e.seed e.smode o (sh.1 / 4 + j)).map (4 * j + ·)
  { vals := (List.range sh.2).map fun k => if e.smode = 0 then val k else (match pos.findIdx? (· == k) with
      | some i => val i
      | none => .zero false)
    scales := if e.mx then (bytes.drop (e.elemBytes sh.2)).map (·.toNat) else []
    blot := locs.any fun x => m.blotted x.1 x.2 }

/-- Activation elements `a` to `a + n − 1` of a slot of a lane. -/
def Stack.acts (k : Stack) (aty l slot a n : Nat) : Row :=
  let b := tyBits aty / 8
  let at_ := 32768 * l + 4096 * slot + a * b
  let v := leNat (k.act.readRun at_ (n * b))
  { vals := (List.range n).map fun i => tyValue aty (elem v (8 * b) i)
    scales := []
    blot := (List.range ((at_ + n * b + 63) / 64 - at_ / 64)).any fun i => k.actBlot.get (at_ / 64 + i) }

/-- dot_r98 from +0 over exactly these positions (03 R98). -/
def dotLane (len : Nat) (a b : Row) : Nat :=
  let ps := a.vals.zip b.vals
  ((chunksOf len (ps.length + 1) ps).foldl (fun (x : Nat × Nat) c =>
    let sp := scalePair a.scales b.scales (x.2 * len / 32)
    ((if len = 1 then dotFma x.1 (c.headD (.zero false, .zero false)) sp.1 sp.2 else dotChunk x.1 c sp.1 sp.2).1, x.2 + 1)) (0, 0)).1

/-- tree_sum of partials, and whether one carries a blot (03 R100, 09 R281). -/
def treeSum (vs : List (Nat × Bool)) : Nat × Bool :=
  ((treeFold (fun a b => (add32 a b).1) 8 (vs.map (·.1))).headD 0, vs.any (·.2))

end Sys2Proof.Machine
end

