-- ==== Sys2Proof/Machine/Bank.lean ====
section
/-! DEFINITION. Bank.lean: the B stream at its queue head (09 R260, R267, R275 to R291, R297): operand checks, the replica
lookup, and what each instruction sends to the stacks of its group. -/

namespace Sys2Proof.Machine

/-! ### Issue on the strand's group (R260, R276, R289) -/

/-- The stack group of the strand on the core. -/
def Core.group? (c : Core) : Option (Nat × Nat) := c.strand.bind (·.group)

/-- A B instruction issues on its group; without one it faults. -/
def State.bank (s : State) (e : EW) (body : Nat → Nat → State → State) : State :=
  s.issue e.tok (tokField e.tok 0) fun s => match s.core.group? with
    | none => s.raise 0x02 0
    | some g => body g.1 g.2 s

/-- The instruction goes to its group; its signal follows its end and, with `outs`, its effects. -/
def State.sendMacro (s : State) (e : EW) (g0 g : Nat) (outs : Bool) (k : MacroKind) : State :=
  ((s.mapCore fun c =>
    let c := { c with macros := c.macros ++ [{ ent := some c.cur.ent, seq := c.cur.seq, kind := k, cls := e.cls.toNat, scope := e.scope.toNat, g0 := g0, g := g, issue := c.flow.run,
                                               at_ := s.wall, born := s.nextId, pos := List.replicate g {}, folio := c.cur.folio, slot := c.cur.slot }] }
    if tokField e.tok 0 = 7 then c else
    c.addSig { prod := 5, cons := tokField e.tok 0, hand := false, cyc := c.now, perf := [], lands := [], ended := some c.cur.seq, outs := outs }).occupy 1).done

/-- The order in which a B instruction reports faults: 05 Table 5.8, REPLICA_MISS after TRANSLATION_ERROR (R292). -/
def bankOrder (cause : Nat) : Nat := if cause = 0x0F then 2 * faultOrder 0x17 + 1 else 2 * faultOrder cause
/-- The fault that is reported of several. -/
def worstTrap : List (Option Trap) → Option Trap
  | [] => none
  | none :: r => worstTrap r
  | some t :: r => match worstTrap r with
    | some u => if bankOrder u.cause < bankOrder t.cause then some u else some t
    | none => some t

/-- The fault of resolving an address, as it is recorded precise to the queue. -/
def State.locTrap (s : State) (u : Use) (va : Word) : Option Trap :=
  match s.xlate s.core.dom s.core.sc.priv.toNat u va with
  | .bad c i0 i1 => some (s.core.fault c i0 i1 (((s.core.walkFault s.core.dom i0).map fun w => if c = w.cause then w.i2 else 0).getD 0))
  | _ => none
/-- Resolve several runs: their pieces where all resolve; the walk that one still waits for; the faults found. -/
def State.runsOf (s : State) (u : Use) (rs : List (Word × Nat)) : List (List (Nat × Nat)) × Option Word × List (Option Trap) :=
  rs.foldl (fun a r => match s.run u r.1 r.2 with
    | .ok ps => (a.1 ++ [ps], a.2)
    | .miss va => (a.1 ++ [[]], a.2.1.orElse fun _ => some va, a.2.2)
    | .bad _ va _ => (a.1 ++ [[]], a.2.1, a.2.2 ++ [s.locTrap u va])) ([], none, [])
/-- Raise the fault that is reported, one of order 4 or later once every walk has ended; else wait for a walk; else go on. -/
def State.orFault (s : State) (faults : List (Option Trap)) (walk : Option Word) (u : Use) (go : State → State) : State :=
  match worstTrap faults, walk with
  | some t, none => s.dropWalkFault.raiseT t
  | some t, some va => if faultOrder t.cause < 4 then s.raiseT t else (s.wantWalk s.core.dom va u).hold
  | none, some va => (s.wantWalk s.core.dom va u).hold
  | none, none => go s

/-! ### Residency (R261, R267, R283, R297) -/

/-- A residency entry's fields but GPOS and STATE. -/
def makeEntry (r : BitVec 512) (dom glog base seed smode ks : Nat) (loc cols : Bool) : Entry :=
  let k := layCount r 0
  let wt := layType r
  let n := if cols then ks else k
  let b := wBytes wt (kept smode n) + (if layMx r then n / 32 else 0)
  BitVec.ofNat 512 ((layBase r).toNat + 2 ^ 64 + 2 ^ 65 + (if loc then 2 ^ 67 else 0) + (if cols then 2 ^ 68 else 0) + smode * 2 ^ 69
    + (if layMx r then 2 ^ 71 else 0) + wt % 16 * 2 ^ 72 + glog * 2 ^ 76 + dom % 64 * 2 ^ 83 + (layCount r 1 - 1) % 65536 * 2 ^ 128 + (k - 1) % 65536 * 2 ^ 144
    + (if cols then ks % 65536 else 0) * 2 ^ 160 + (b + 31) / 32 * 32 * 2 ^ 192 + (BitVec.ofInt 64 (layStride r 1)).toNat * 2 ^ 256
    + (laySbase r).toNat * 2 ^ 320 + base % 2 ^ 64 * 2 ^ 384 + seed % 2 ^ 64 * 2 ^ 448)
def Entry.at (e : Entry) (p : Nat) : Entry := e ||| (BitVec.ofNat 512 p <<< 79)

/-- The entries that stand or will stand in a stack: its table, and the BLOADs on their way to it. -/
def State.entriesOf (s : State) (st : Nat) : List Entry :=
  ((stackOf s st).table.map (·.2)).filter Entry.valid ++ s.liveCores.flatMap fun k => (s.coreAt k).macros.filterMap fun m => match m.kind with
    | .bload e => if m.g0 ≤ st ∧ st < m.g0 + m.g ∧ !(m.pos.getD (st - m.g0) {}).started then some e else none
    | _ => none
/-- A footprint of `n` MiB at `base` is free in every stack of a group. -/
def State.spaceFree (s : State) (f g base n : Nat) : Bool :=
  (List.range g).all fun p => !(s.entriesOf (f + p)).any fun e => decide (e.base < base + 2 ^ 20 * n) && decide (base < e.base + 2 ^ 20 * e.units)
def State.entryFree (s : State) (f g : Nat) : Bool := (List.range g).all fun p => decide ((s.entriesOf (f + p)).length < 256)

/-- R283's checks of a record and placement, but those on the footprint and the table. DESIGN CHOICE: K or O above 65,536 and KS
of 65,536 or more raise ILLEGAL_OPERAND too (log 50). -/
def bloadBad (r : BitVec 512) (e : Entry) (ks g : Nat) : Bool :=
  let k := layCount r 0
  (layFault r).isSome || layPlace r != 1 || decide (65536 < k) || decide (65536 < layCount r 1)
    || (layMx r && (layType r == 10 || e.smode != 0)) || (e.smode != 0 && k % 4 != 0) || (layMx r && k % 32 != 0)
    || (e.cols && (ks == 0 || ks % 32 != 0 || decide (65536 ≤ ks) || decide (256 * g < ceilDiv k ks)))

/-- Write an entry with STATE 1 into the lowest free place of a stack, its hydration due at a free time. -/
def State.putEntry (s : State) (st p : Nat) (e : Entry) (origin : Option (Nat × Nat)) (ticket : Option Nat) : State :=
  let k := stackOf s st
  match (List.range 256).find? fun i => !Entry.valid (k.table.get i) with
  | none => s
  | some i => (s.setStack st { k with
      table := k.table.set i (e.at p)
      hydrate := k.hydrate ++ [{ entry := i, due := s.wall + 1 + Config.delay s.freeCtr, origin := origin, ticket := ticket }] }).bump

/-- Register one part of a home row with the home agents, page by page, as far as it resolves. -/
def State.registerPart (n : Nat) (e : Entry) (level l : Nat) : Nat → Word → Nat → Nat → State → State
  | 0, _, _, _, s => s
  | fuel + 1, va, len, lb, s =>
    if len = 0 then s else
    let k := min len (4096 - va.toNat % 4096)
    match s.resolve e.dom .read va level with
    | (s, .inr _) => s
    | (s, .inl loc) => State.registerPart n e level l fuel (va + BitVec.ofNat 64 k) (len - k) (lb + k)
        { s with homes := s.homes ++ [{ stack := n, base := e.base, loc := loc, len := k, lane := l, lb := lb }] }
/-- Register a stack's part of a replica: from here on it receives the stores of its home (R265). -/
def State.register (s : State) (n : Nat) (e : Entry) (level : Nat) : State :=
  let s := { s with homes := s.homes.filter fun r => !(r.stack == n && r.base == e.base) }
  (List.range e.o).foldl (fun s o => (List.range 256).foldl (fun s l =>
    if e.holds e.gpos l o then (e.parts e.gpos l o).foldl (fun s y => State.registerPart n e level l (y.2.2.1 / 4096 + 2) (e.homeVa o y) y.2.2.1 y.2.2.2 s) s
    else s) s) s
/-- What the lookup of R267 comes to. -/
inductive Look where
  | ok (e : Entry)
  | wait
  | bad (t : Trap)

/-- The layout records that the node names, LREF0 to LREF3, as memory holds them. -/
def State.lrefs (s : State) (h dom : Nat) : List (BitVec 512) :=
  match s.node h with
  | none => []
  | some n => (List.range 4).filterMap fun i =>
    if recW n.record (512 + 64 * i) = 0 then none else
    match (State.readDom dom 2 (recW n.record (512 + 64 * i)) 64 s).2 with
    | .inl (bs, false) => some (BitVec.ofNat 512 (leNat bs))
    | _ => none

/-- Automatic hydration on a miss (R297); where the host copies the rows (15 R452), the replica is registered as its request is posted. -/
def State.autoHydrate (s : State) (f g : Nat) (key : Word) (cols : Bool) : State × Look :=
  let c := s.core
  let pool := (stackOf s f).pool
  let base := (pool.extractLsb' 20 17).toNat * 2 ^ 20
  let size := (pool.extractLsb' 48 12).toNat
  let miss (n : Nat) : State × Look := (s, .bad (c.fault 0x0F key (BitVec.ofNat 64 n) 0))
  if !pool.getLsbD 0 || size == 0 || decide (2 ^ 37 < base + size * 2 ^ 20) then miss 0 else
  match (s.lrefs ((c.strand.map (·.node)).getD 0) c.dom).find? fun r => layBase r == key with
  | none => miss 1
  | some r =>
    let ks := 32 * ceilDiv (layCount r 0) (8192 * g)
    let e0 := makeEntry r c.dom (Nat.log2 g) 0 0 0 ks false cols
    if bloadBad r e0 ks g then (s, .bad (c.fault 0x02 key 0 0)) else
    match (List.range size).find? fun i => decide (i + e0.units ≤ size) && s.spaceFree f g (base + i * 2 ^ 20) e0.units with
    | none => miss 2
    | some i =>
      if !s.entryFree f g then miss 2 else
      let b := base + i * 2 ^ 20
      let e := makeEntry r c.dom (Nat.log2 g) b 0 0 ks false cols
      let host := s.host.funcMode.getLsbD 2
      let id := s.nextId
      let s := if host then s.service 2 s.id ([BitVec.ofNat 8 f, BitVec.ofNat 8 g] ++ List.replicate 6 0 ++ natLe 8 key.toNat ++ natLe 8 b) else s
      let s := (List.range g).foldl (fun s p => s.putEntry (f + p) p e none (if host then some id else none)) s
      (if host then (List.range g).foldl (fun s p => s.register (f + p) (e.at p) 1) s else s, .wait)

/-- The stack of a group whose reset lost its replicas: one that has been reset since the group was bound (R268, Table 9.8). -/
def State.lostIn (s : State) (f g : Nat) : Nat := ((List.range g).find? fun p => (stackOf s (f + p)).resetSince).elim f (f + ·)
/-- The replica that a product or append macro names. -/
def State.lookup (s : State) (f g : Nat) (key : Word) (cols : Bool) : State × Look :=
  match s.replicaIn f g key with
  | none => s.autoHydrate f g key cols
  | some e =>
    let states := (List.range g).map fun p => (((stackOf s (f + p)).table.map (·.2)).find? fun x => Entry.valid x && Entry.key x == key && 2 ^ Entry.glog x == g).map Entry.state
    if e.dom ≠ s.core.dom then (s, .bad (s.core.fault 0x08 key (BitVec.ofNat 64 e.dom) 0))
    else if e.isLocal && states.contains (some 3) then (s, .bad (s.core.fault 0x0E key (BitVec.ofNat 64 (s.lostIn f g)) 0))
    else if states.all (· == some 2) then (s, .ok e)
    else (s, .wait)
def Look.trap : Look → Option Trap
  | .bad t => some t
  | _ => none
/-- The replica that the operand checks hold against: none while it hydrates. -/
def Look.entry (s : State) (f g : Nat) (key : Word) : Look → Option Entry
  | .ok e => some e
  | .bad _ => s.replicaIn f g key
  | .wait => none
/-- The checks of a macro that names a KEY are over: automatic hydration begins only where none failed (R297). -/
def State.afterLookup (s t : State) (l : Look) (faults : List (Option Trap)) (walk : Option Word) (go : State → State) : State :=
  (if (worstTrap faults).isSome || walk.isSome then s else t).orFault (faults ++ [l.trap]) walk .write fun s => match l with
    | .ok _ => go s
    | _ => s.hold

/-! ### Instructions -/

def execBnop (_w : FE) (s : State) : Result := .next (s.occupy 1).done

/-- Bytes of a core-local space with their blots. -/
def Core.spaceRead (c : Core) (sp a n : Nat) : List (Byte × Bool) :=
  let st : Memory := if sp = 1 then c.scr.bytes else (c.cluster (sp == 3)).reg
  let bl := if sp = 1 then c.scr.blots else (c.cluster (sp == 3)).blots
  (st.readRun a n).mapIdx fun i b => (b, bl.get ((a + i) / 64))

def execBact (w : FA) (e : EW) (s : State) : Result :=
  .next (s.bank e fun f g s =>
    let c := s.core
    let n := c.cur.b.toNat
    let d := c.cur.d.toNat
    let slice := w.fn.getLsbD 3
    let sp := xb e 0 2
    let bad (v : Word) (b : Bool) : Option Trap := if b then some (c.fault 0x02 v 0 0) else none
    s.orFault [c.alignFault [(c.cur.a, 32)], bad c.cur.d (slice && (d % 32 != 0 || decide (d < 32) || decide (4096 < d))),
        bad c.cur.b (n % 32 != 0 || (if slice then decide (n < d) || decide (d * 256 * g < n) else decide (n < 32) || decide (4096 < n))),
        c.sideFault { space := sp, base := c.cur.a, dims := [(n, 1)] } 1] none .read fun s =>
      s.sendMacro e f g false (.bact (w.fn.toNat % 8) (if slice then d else 0) (c.spaceRead sp c.cur.a.toNat n)))

/-- A control word of the product `which` that no replica makes legal (Tables 9.5, 9.6). -/
def Ctl.bad (w : Ctl) (which : Nat) : Bool :=
  decide (65536 < w.row0 + w.rows) || decide (w.stride < (if which = 2 then 1 else w.rows) * w.ob) || (which == 1 && decide (1024 < w.rows))
    || (which == 2 && decide (4096 < w.rows * w.ab)) || w.f 6 2 != 0 || w.f 19 1 != 0 || decide (8 < w.slot0 + w.nb) || !([9, 10, 11, 12].contains w.aty) || !([8, 9, 10].contains w.oty) || decide (5 < w.orm)
/-- Table 9.6's limits against the replica, and R279's pairing. -/
def Ctl.misfit (w : Ctl) (which : Nat) (e : Entry) : Bool :=
  decide (w.stride < outCount which e w * w.ob) || decide (e.o < w.row0 + w.rows) || (e.cols != (which == 1)) || (e.mx && w.aty != 11 && w.aty != 12)
    || (match which with
      | 0 => decide (4096 < e.k * w.ab)
      | 1 => decide (4096 < e.ks * w.ab)
      | _ => e.smode != 0 || e.mx || decide (1024 < e.k))

/-- BMV, BMVC and BVM (R278 to R281). -/
def State.product (s : State) (which : Nat) (e : EW) : State :=
  s.bank e fun f g s =>
    let w : Ctl := s.core.cur.b
    let key := s.core.cur.a
    let dst := s.core.cur.d
    let sp := xb e 0 2
    let (t, l) := s.lookup f g key (which == 1)
    let c := s.core
    let illegal := some (c.fault 0x02 w 0 0)
    let en := l.entry s f g key
    let n := match en with
      | some en => outCount which en w * w.ob
      | none => if which = 2 then 0 else w.rows * w.ob
    let bad := w.bad which || (en.map fun en => w.misfit which en).getD false
    let side := if bad then none else c.sideFault { space := sp, base := dst, dims := [(n, 1), (w.nb, (w.stride : Int))] } 1
    let (parts, walk, faults) := if bad || sp != 0 then ([], none, []) else s.runsOf .write ((List.range w.nb).map fun j => (dst + BitVec.ofNat 64 (j * w.stride), n))
    s.afterLookup t l ([c.alignFault [(dst, 64)], if bad then illegal else none, side] ++ faults) walk fun s =>
      (s.sendMacro e f g (e.scope != 0 || sp != 0) (.product which key w sp dst parts (srKey c 5 0))).srBump 5 w.orm

def execBmv (_w : FA) (e : EW) (s : State) : Result := .next (s.product 0 e)
def execBmvc (_w : FA) (e : EW) (s : State) : Result := .next (s.product 1 e)
def execBvm (_w : FA) (e : EW) (s : State) : Result := .next (s.product 2 e)

/-- BAPP: the rows are read, and their home lines resolved, at issue (R282). -/
def execBapp (_w : FA) (e : EW) (s : State) : Result :=
  .next (s.bank e fun f g s =>
    let w : Ctl := s.core.cur.b
    let key := s.core.cur.a
    let src := s.core.cur.d
    let sp := xb e 0 2
    let (t, l) := s.lookup f g key false
    let c := s.core
    let en := l.entry s f g key
    let n := match en with
      | some en => wBytes en.wtype (kept en.smode en.k)
      | none => 0
    let bad := w.f 0 20 != 0 || w.stride == 0 || decide (65536 < w.row0 + w.rows) || (match en with
      | some en => en.mx || decide (en.o < w.row0 + w.rows) || decide (w.stride < n)
      | none => false)
    let side := if bad then none else c.sideFault { space := sp, base := src, dims := [(n, 1), (w.rows, (w.stride : Int))] } 1
    let home := match en with
      | some en => if en.isLocal || bad then [] else (List.range w.rows).map fun i => (en.key + BitVec.ofNat 64 ((w.row0 + i) * en.rstride), n)
      | none => []
    let (parts, walk, faults) := s.runsOf .write home
    s.afterLookup t l ([if bad then some (c.fault 0x02 w 0 0) else none, side] ++ faults) walk fun s =>
      s.sendMacro e f g (e.scope != 0) (.bapp key w.row0 ((List.range w.rows).map fun i => (parts.getD i [], c.spaceRead sp (src.toNat + i * w.stride) n))))

/-- Subarray, bank, group and layer of a stack-local offset (Table 9.1). -/
def sameBank (x y : Nat) : Bool := x / 2 ^ 11 % 512 == y / 2 ^ 11 % 512 && x / 2 ^ 29 == y / 2 ^ 29

/-- The stack and offset of a location, if it is stack-local. -/
def stackPart (loc : Nat) : Option (Nat × Nat) := match rangeOf loc with
  | .stack n => some (n, loc - stackLoc n 0)
  | _ => none

/-- R285's and R286's conditions on one unit, as far as its two addresses resolve. DESIGN CHOICE: an address of no
stack at all raises ILLEGAL_OPERAND (09 R260, R285; log 50). -/
def State.unitBad (s : State) (which f g : Nat) (d a : Word) (i : Nat) (ld la : Option Nat) : Option Trap :=
  let c := s.core
  let off := BitVec.ofNat 64 (2048 * i)
  let away (l : Option Nat) : Bool := match l with
    | none => false
    | some l => match stackPart l with
      | some y => !(decide (f ≤ y.1) && decide (y.1 < f + g))
      | none => true
  if away ld then some (c.fault 0x02 (d + off) 0 0)
  else if which ≠ 1 ∧ away la then some (c.fault 0x02 (a + off) 0 0)
  else match ld.bind stackPart with
    | none => none
    | some x =>
      if (s.entriesOf x.1).any fun e => !e.isLocal && e.covers x.2 2048 then some (c.fault 0x02 (d + off) 0 0)
      else match la.bind stackPart with
        | some y =>
          if (which = 0 ∧ !(x.1 == y.1 && sameBank x.2 y.2)) ∨ (which = 2 ∧ x.1 ≠ y.1) then some (c.fault 0x02 (d + off) (BitVec.ofNat 64 i) 0)
          else none
        | none => none

/-- BROWCP, BROWZ and BBUFCP. DESIGN CHOICE: a copy of no unit signals one cycle after its issue (09 R285, R287; log 48). -/
def State.unitCopy (s : State) (which : Nat) (e : EW) : State :=
  s.bank e fun f g s =>
    let c := s.core
    let n := c.cur.b.toNat
    let d := c.cur.d
    let a := c.cur.a
    if n = 0 then ((s.signalAt (tokField e.tok 0) 1).occupy 1).done else
    match worstTrap [c.alignFault ((d, 2048) :: (if which = 1 then [] else [(a, 2048)])), if 65536 < n then some (c.fault 0x02 c.cur.b 0 0) else none] with
    | some t => s.raiseT t
    | none =>
      let runs (b : Word) : List (Word × Nat) := (List.range n).map fun i => (b + BitVec.ofNat 64 (2048 * i), 2048)
      let (dl, w1, f1) := s.runsOf .write (runs d)
      let (al, w2, f2) := if which = 1 then (dl, none, []) else s.runsOf .read (runs a)
      let first (l : List (List (Nat × Nat))) (i : Nat) : Option Nat := ((l.getD i []).head?).map (·.1)
      let bad := if (w1.orElse fun _ => w2).isSome then [] else
        [(List.range n).findSome? fun i => s.unitBad which f g d a i (first dl i) (first al i)]
      s.orFault (f1 ++ f2 ++ bad) (w1.orElse fun _ => w2) (if w1.isSome then .write else .read) fun s =>
        s.sendMacro e f g false (.units which d ((List.range n).filterMap fun i => ((first dl i).bind stackPart).map fun x =>
          (x.1 - f, x.2, if which = 1 then 0 else (((first al i).bind stackPart).map (·.2)).getD 0)))

def execBrowcp (_w : FA) (e : EW) (s : State) : Result := .next (s.unitCopy 0 e)
def execBrowz (_w : FA) (e : EW) (s : State) : Result := .next (s.unitCopy 1 e)
def execBbufcp (_w : FA) (e : EW) (s : State) : Result := .next (s.unitCopy 2 e)

/-- BLOAD (R283): the record is the one captured at dispatch. -/
def execBload (w : FA) (e : EW) (s : State) : Result :=
  .next (s.bank e fun f g s =>
    let c := s.core
    let r := c.cur.la
    let base := c.cur.a.toNat
    let ks := c.cur.b.toNat
    let smode := w.fn.toNat % 4
    let en := makeEntry r c.dom (Nat.log2 g) base (if smode = 0 then 0 else c.cur.d.toNat) smode ks (w.fn.getLsbD 2) (w.fn.getLsbD 3)
    let ill (b : Bool) (v : Word) : Option Trap := if b then some (c.fault 0x02 v 0 0) else none
    let rec_ := bloadBad r en ks g
    s.orFault [c.alignFault [(c.cur.a, 2 ^ 20)], ill rec_ (layBase r),
        ill (!rec_ && (decide (2 ^ 37 < base + 2 ^ 20 * en.units) || !s.spaceFree f g base en.units)) c.cur.a,
        ill ((s.replicaIn f g en.key).isSome || !s.entryFree f g) (layBase r)] none .read fun s =>
      s.sendMacro e f g false (.bload en))

/-- BDROP (R284). -/
def execBdrop (_w : FA) (e : EW) (s : State) : Result :=
  .next (s.bank e fun f g s =>
    let key := s.core.cur.a
    match s.replicaIn f g key with
    | some en => if en.dom ≠ s.core.dom then s.raise 0x08 key (BitVec.ofNat 64 en.dom) else s.sendMacro e f g false (.bdrop key)
    | none => s.sendMacro e f g false (.bdrop key))

/-- Every earlier B instruction of the stream has ended, a BJOIN with its arrival, and its accesses are performed at a scope
(R290, R291). -/
def State.bDone (s : State) (scope : Nat) : Bool :=
  s.core.macros.all (·.produced) && !s.own.any fun o => o.stream == 5 && (decide (1 ≤ scope) || (match o.kind with
    | .inCore .. => true
    | .join .. => true
    | _ => false))

/-- Stack `f`'s next arrival waits: the engine takes no request yet (11 R335), or 4096 of the stack's are not applied (R337). -/
def State.joinFull (s : State) (f q : Nat) : Bool :=
  !s.sync.enabled q || decide (4096 ≤ (s.liveCores.flatMap fun k => (s.coreAt k).hold.filter fun e => e.kind.engine == some q && s.holdSource e == 128 + f).length
    + (s.net.filter fun m => m.source == 128 + f && m.kind.engine == some q).length)
/-- BJOIN: a release; it leaves at its commit cycle, issue + 328 in the core's running cycles (R271, R290). -/
def execBjoin (_w : FA) (e : EW) (s : State) : Result :=
  .next (s.bank e fun f _ s =>
    if !s.bDone e.scope.toNat then s.hold else
    match s.syncLoc s.core.cur.a 16 .write s.core.sc.priv.toNat with
    | .bad c i0 i1 => s.raiseLoc c i0 i1
    | .miss va => (s.wantWalk s.core.dom va .write).hold
    | .ok loc =>
      if s.joinFull f (homeQuad loc) then s.hold else
      let perf := [s.nextId]
      (((s.emit (18 + f) (s.core.flow.run + 8) 0 e.scope.toNat [] (.join loc false 0)).signalWhen (tokField e.tok 0) 0 perf [] none).occupy 1).done)

/-- BFENCE (R291). -/
def execBfence (w : FE) (e : EW) (s : State) : Result :=
  .next (s.bank e fun f g s =>
    if !s.bDone e.scope.toNat then s.hold
    else if !w.misc.getLsbD 6 then ((s.signalAt (tokField e.tok 0) 0).occupy 1).done
    else
      let c := s.core
      match worstTrap [c.alignFault [(c.cur.a, 8)], c.sideFault { space := 1, base := c.cur.a, dims := [(8 * g, 1)] } 1] with
      | some t => s.raiseT t
      | none => s.sendMacro e f g true (.bfence c.cur.a.toNat))

end Sys2Proof.Machine
end

