-- ==== Sys2Proof/Machine/Matrix.lean ====
section
/-! DEFINITION. Matrix.lean: the M stream: the ring, the instructions (08 R238 to R246), and the engine's events: steps,
row blocks, drains, slot transfers, stalls and strikes (R219, R222, R229, R235, R244, R252, R253). -/

namespace Sys2Proof.Machine

def State.mapMat (s : State) (f : MatCtx → MatCtx) : State := s.mapCore fun c => { c with mat := f c.mat }
/-- The engine of the current core's quad. -/
def State.eng (s : State) : Quad := quadOf s (s.id / 4)
def State.mapEng (s : State) (f : Quad → Quad) : State := s.setQuad (s.id / 4) (f s.eng)

/-! ### The ring (08 R231 to R234) -/

/-- The size that RSIZE asks for, if the ring must change. -/
def MatCtx.resize (m : MatCtx) : Option Nat :=
  let n := Table.bits m.shadow 32 0 4
  if n = 0 ∨ n + 1 = m.size then none else some (n + 1)
/-- The ring is empty and may take a new size. -/
def MatCtx.free (m : MatCtx) : Bool := m.res == 0 && m.occ == 0 && m.pinMask == 0
/-- The ring in its new size, when it may take it. -/
def MatCtx.sized (m : MatCtx) : MatCtx := match m.resize with
  | some n => if m.free then { m with size := n, h := 0, t := 0 } else m
  | none => m

/-- The slots that a nest targets (R232). -/
def NestMode.slots (size : Nat) : NestMode → List Nat
  | .head h0 f => (List.range (min f size)).map fun i => (h0 + i) % size
  | .keep p => [p]
  | .pin p => [p]
/-- The slot of a step. -/
def NestMode.target (size : Nat) (t : Table) (x : List Nat) : NestMode → Nat
  | .head h0 _ => levels.foldl (fun n l => n + x.getD l 0 * t.qstr l) h0 % size
  | .keep p => p
  | .pin p => p
/-- A slot that the running nest targets is busy (R234). -/
def MatCtx.busy (m : MatCtx) (p : Nat) : Bool := (m.nest.map fun n => (n.mode.slots m.size).contains p).getD false
/-- Slots still in use by an earlier drain, MSAVE or MLOAD (R234). -/
def MatCtx.inUse (m : MatCtx) : List Nat := m.drains.map (·.slot) ++ m.xfers.map (·.slot)

/-- Which slots an MGO would target: its ZERO bit and mode (R241). -/
def MatCtx.goMode (m : MatCtx) (misc : Nat) : Bool × NestMode :=
  let t : Table := m.shadow
  let bits := if misc.testBit 7 then t.bits 32 4 3 else misc % 8
  let p := if misc.testBit 7 then t.bits 32 8 4 else misc / 8 % 16
  (bits.testBit 0, if bits.testBit 2 then .pin p else if bits.testBit 1 then .keep ((m.h + m.size - 1) % m.size) else .head m.h t.foot)

/-! ### The instructions -/

def sigOfE (e : EW) : Nat := tokField e.tok 0

def execMnop (_w : FE) (s : State) : Result := .next (s.occupy 1).done

def execMcfg (w : FC) (e : EW) (l : BitVec 32) (s : State) : Result :=
  .next (s.issue e.tok (sigOfE e) fun s => (((s.post 1 (.nest w.d.toNat l)).signalAt (sigOfE e) 1).occupy 1).done)

/-- A core-local read at `a` of `n` bytes: ALIGNMENT, then ILLEGAL_OPERAND (Table 5.8). -/
def State.scrSpan (s : State) (a : Word) (al n : Nat) : Option Trap :=
  if a.toNat % al ≠ 0 then some (s.core.fault 0x07 a 0 0)
  else if 2 ^ 21 < a.toNat + n then some (s.core.fault 0x02 a 0 0) else none
/-- The POISON fault of a blotted granule among `n` core-local bytes (05 R477). -/
def State.scrBlot (s : State) (a n : Nat) : Option Trap :=
  ((List.range n).find? fun i => s.core.scr.blots.get ((a + i) / 64)).map fun i => s.core.fault 0x09 (BitVec.ofNat 64 ((a + i) / 64 * 64)) 0 0

def execMcfgv (w : FB) (e : EW) (s : State) : Result :=
  .next (s.issue e.tok (sigOfE e) fun s =>
    let a := s.core.cur.a + 4 * w.imm.signExtend 64
    let vals := (List.range 8).map fun j => BitVec.ofNat 32 (leNat (s.core.scr.bytes.readRun (a.toNat + 4 * j) 4))
    let bad := ((List.range 8).find? fun j => !nestLegal (w.d.toNat + j) (vals.getD j 0)).map fun j =>
      s.core.fault 0x02 (BitVec.ofNat 64 (w.d.toNat + j)) 0 0
    match firstFault [s.scrSpan a 4 32, bad, s.scrBlot a.toNat 32] with
    | some t => s.raiseT t
    | none =>
      let s := (List.range 8).foldl (fun s j => s.post 1 (.nest (w.d.toNat + j) (vals.getD j 0))) s
      ((s.signalAt (sigOfE e) 1).occupy 1).done)

/-- The issue checks of MGO (R241): cause and TRAP_INFO0. `m` has its ring sized already. DESIGN CHOICE: the field id is 0 for the
product of the counts, 32 for the ring and its slots, 29 for a sparse type or scale, 41 for the EK of a sparse operand, 28 for a pitch
of either operand (log 47). -/
def MatCtx.goFault (m : MatCtx) (md : NestMode) : Option (Nat × Word) :=
  let t : Table := m.shadow
  let ill (id : Nat) : Option (Nat × Word) := some (0x02, BitVec.ofNat 64 id)
  if (t.pair 24).toNat % 64 ≠ 0 then some (0x07, t.pair 24)
  else if (t.pair 26).toNat % 64 ≠ 0 then some (0x07, t.pair 26)
  else match levels.find? fun l => t.cnt l == 0 with
    | some l => ill l
    | none =>
      if 2 ^ 48 ≤ t.steps then ill 0
      else if !nestLegal 28 (Store.get m.shadow 28) then ill 28
      else if t.bits 32 0 4 = 0 then ill 32
      else if [0, 1].any (fun i => t.pitch i != 0 && decide (t.pitch i < t.dense i)) then ill 28
      else
        let i := t.bits 29 2 1
        if t.bits 29 0 2 ≠ 0 ∧ (!List.contains [11, 12, 13] (t.ty i) || t.bits 28 (12 + i) 1 == 1) then ill 29
        else if t.bits 29 0 2 ≠ 0 ∧ (t.ek + 1) % 4 ≠ 0 then ill 41
        else if m.resize.isSome then ill 32
        else
          let ok := match md with
            | .head _ f => decide (m.res + m.occ + f ≤ m.size)
            | .keep _ => decide (1 ≤ m.res + m.occ) && t.foot == 1
            | .pin p => m.pinMask.getLsbD p && t.foot == 1
          if ok then none else ill 32

def execMgo (w : FE) (e : EW) (s : State) : Result :=
  .next (s.issue e.tok (sigOfE e) fun s =>
    let m := s.core.mat.sized
    let g := m.goMode w.misc.toNat
    if !s.running (24 + s.id / 32) then s.raise 0x0E 0 (BitVec.ofNat 64 (24 + s.id / 32)) else
    if s.core.mat.nest.isSome || s.core.mat.clear != 0 || (g.2.slots m.size).any m.inUse.contains then s.hold else
    match m.goFault g.2 with
    | some f => s.raise f.1 f.2
    | none =>
      let c := s.core.cur
      let nest : Nest := { seq := c.seq, cls := e.cls.toNat, scope := e.scope.toNat, mode := g.2, zero := g.1, count := Table.steps m.shadow, folio := c.folio, slot := c.slot }
      let m1 := { m with active := m.shadow, step := 0, rb := 0, valid := true, nest := some nest }
      let m2 := match g.2 with
        | .head h0 f => { m1 with h := (h0 + f) % m.size, res := f }
        | _ => m1
      (((s.mapMat fun _ => m2).signalWhen (sigOfE e) 0 [] [] (some c.seq)).occupy 1).done)

def execMpin (w : FE) (e : EW) (s : State) : Result :=
  .next (s.issue e.tok (sigOfE e) fun s =>
    let p := w.misc.toNat % 16
    if s.core.mat.clear ≠ 0 then s.hold else
    let m := s.core.mat.sized
    if m.resize.isSome then s.raise 0x02 32
    else if p < m.size then s.raise 0x02 (BitVec.ofNat 64 p)
    else ((((s.mapMat fun _ => m).post 1 (.pin p true (w.misc.getLsbD 4))).signalAt (sigOfE e) 1).occupy 1).done)

def execMunpin (w : FE) (e : EW) (s : State) : Result :=
  .next (s.issue e.tok (sigOfE e) fun s =>
    let p := w.misc.toNat % 16
    if s.core.mat.clear ≠ 0 || s.core.mat.busy p then s.hold
    else (((s.post 1 (.pin p false false)).signalAt (sigOfE e) 1).occupy 1).done)

/-- The alignment checks of MDRAIN (R243): the first address that is no multiple of its element size. -/
def Table.drainAlign (t : Table) (o v : Word) : Option Word :=
  let sz := max 1 (tyBits (t.bits 37 4 4) / 8)
  let out := if t.bits 37 4 4 = 0 then [] else [(t.pair 38 + o, sz), ((Store.get t 40).setWidth 64, sz)]
  let l : List (Word × Nat) := out ++ (if t.bits 37 11 1 = 1 then [(t.pair 33 + v, 4)] else []) ++ (if t.bits 37 12 1 = 1 then [(t.pair 35 + v, 4)] else [])
  (l.find? (fun a => a.1.toNat % a.2 != 0)).map (·.1)

def execMdrain (w : FE) (e : EW) (s : State) : Result :=
  .next (s.issue e.tok (sigOfE e) fun s =>
    let m := s.core.mat
    let t : Table := m.shadow
    let c := s.core.cur
    let pinned := w.misc.getLsbD 12
    let p := if pinned then w.misc.toNat / 2 ^ 13 % 16 else m.t
    if m.clear ≠ 0 || m.busy p then s.hold else
    match t.drainAlign c.a c.b with
    | some a => s.raise 0x07 a
    | none =>
      if t.bits 37 4 4 = 0 ∨ (t.bits 37 4 4 = 13 ∧ t.en % 2 = 0) then s.raise 0x02 37
      else if (if pinned then !m.pinMask.getLsbD p else m.res + m.occ == m.bnd) then s.raise 0x02 (BitVec.ofNat 64 p)
      else
        let d : Drain := { seq := c.seq, slot := p, pinned := pinned, o := c.a, v := c.b, fields := m.shadow, issued := s.eng.cyc, cls := e.cls.toNat,
                           scope := e.scope.toNat, key := srKey s.core 3 0, folio := c.folio, qslot := c.slot }
        let s := s.mapMat fun m => { m with
          drains := m.drains ++ [d]
          t := if pinned then m.t else (m.t + 1) % m.size
          bnd := if pinned then m.bnd else m.bnd + 1 }
        let s := (s.mapEng fun q => { q with epi := q.epi ++ [(s.id, c.seq)] }).mapCore fun c => c.srBump 3 (t.bits 37 8 3)
        ((s.mapCore fun k => if sigOfE e = 7 then k else
          k.addSig { prod := 3, cons := sigOfE e, hand := false, cyc := k.now, perf := [], lands := [], ended := some c.seq, outs := e.scope != 0 }).occupy 1).done)

/-- MSAVE and MLOAD issue alike (R244). -/
def State.slotXfer (s : State) (save : Bool) (w : FB) (e : EW) : State :=
  s.issue e.tok (sigOfE e) fun s =>
    let p := w.d.toNat % 16
    let c := s.core.cur
    let a := c.a + 64 * w.imm.signExtend 64
    if s.core.mat.clear ≠ 0 || s.core.mat.busy p then s.hold
    else if a.toNat % 64 ≠ 0 then s.raise 0x07 a
    else
      let x : Xfer := { ent := some c.ent, seq := c.seq, save := save, slot := p, addr := a, readyAt := s.wall + Config.delay s.freeCtr, cls := e.cls.toNat, scope := e.scope.toNat,
                        folio := c.folio, qslot := c.slot }
      (((s.mapMat fun m => { m with xfers := m.xfers ++ [x] }).bump.mapCore fun k => if sigOfE e = 7 then k else
        k.addSig { prod := 3, cons := sigOfE e, hand := false, cyc := k.now, perf := [], lands := [], ended := some c.seq, outs := e.scope != 0 }).occupy 1).done
def execMsave (w : FB) (e : EW) (s : State) : Result := .next (s.slotXfer true w e)
def execMload (w : FB) (e : EW) (s : State) : Result := .next (s.slotXfer false w e)

def execMstat (w : FE) (e : EW) (s : State) : Result :=
  .next (s.issue e.tok (sigOfE e) fun s =>
    let a := s.core.cur.a
    match s.scrSpan a 16 16 with
    | some t => s.raiseT t
    | none =>
      let bs := natLe 8 s.core.mat.status.toNat ++ natLe 8 s.core.mat.mprog.toNat
      let s := s.mapCore fun c => { c with scrNext := c.scrNext ++ [plainBytes a.toNat bs false] }
      let s := if w.misc.getLsbD 6 then s.mapMat fun m => { m with flags := 0 } else s
      ((s.signalAt (sigOfE e) 0).occupy 1).done)

/-- Every earlier M instruction has completed (R246). -/
def MatCtx.idle (m : MatCtx) : Bool := m.nest.isNone && m.drains.isEmpty && m.xfers.isEmpty
def execMfence (_w : FE) (e : EW) (s : State) : Result :=
  .next (s.issue e.tok (sigOfE e) fun s =>
    if s.core.mat.idle && s.performed (s.openOf 3 (fun _ => true) e.scope.toNat) then ((s.signalAt (sigOfE e) 0).occupy 1).done else s.hold)

/-! ### The engine's running cycle (R23, R219, R252) -/

/-- What the engine drops because its core no longer has it. -/
def State.engLive (s : State) (q : Nat) : State :=
  let e := quadOf s q
  s.setQuad q { e with
    epi := e.epi.filter fun x => (s.coreAt x.1).mat.drains.any fun d => d.seq == x.2 && !d.faulted
    cur := match e.cur with
      | some c => if ((s.coreAt c.core).mat.nest.map fun n => n.seq == c.seq && !n.faulted).getD false then some c else none
      | none => none
    undo := e.undo.filter fun u => decide (e.cyc < u.1 + 320) }

/-- One running cycle of quad `q`'s engine: its counts, and one more cycle of waiting for whatever waits. -/
def Quad.tick (e : Quad) : Quad :=
  { e with cyc := e.cyc + 1, cur := e.cur.map fun c => if c.begun then { c with left := c.left - 1 } else c }
/-- One more engine cycle of waiting: of the nest if its step waits, of the drain `head` that the epilogue unit serves, and of the
transfers (R252). -/
def MatCtx.tick (m : MatCtx) (waits : Bool) (head : Option Nat) : MatCtx :=
  { m with
    clear := if m.clear ≤ 1 then m.clear else m.clear - 1
    nest := m.nest.map fun n => if waits then { n with wait := n.wait.tick } else n
    drains := m.drains.map fun d => if head == some d.seq && d.started && !d.faulted && d.wait.src != 0 then { d with wait := d.wait.tick } else d
    xfers := m.xfers.map fun x => if x.faulted then x else { x with wait := x.wait.tick } }
def State.engTick (s : State) (q : Nat) : State :=
  let e := quadOf s q
  let s := (s.setQuad q e.tick).engLive q
  [0, 1, 2, 3].foldl (fun s i =>
    let k := 4 * q + i
    let c := s.coreAt k
    if (c.strand.map (·.started)).getD false then
      s.setCoreAt k { c with mat := c.mat.tick ((e.cur.map fun u => u.core == k && !u.begun).getD false) (e.epi.head?.bind fun x => if x.1 = k then some x.2 else none) }
    else s) s

/-- SLOT_CLEAR_DONE: the last of the 256 cycles of R219. -/
def execSlotClearDone (s : State) : Result :=
  .next (if s.core.mat.clear = 1 then s.mapMat fun m => { m with clear := 0, slots := [], poison := [] } else s)

/-! ### Order among the M instructions of a core (R247) -/

/-- Bytes that an M instruction still has to write, by virtual address, meet a read; a page whose translation is not at hand may
(log 68). -/
def State.writesMeet (s : State) (va : Word) (n : Nat) (sp : List (Nat × Nat)) : Bool := match s.run .write va n with
  | .ok ps => overlap ps sp
  | .miss _ => !sp.isEmpty
  | .bad _ _ _ => false
/-- A drain's remaining rows meet a read. -/
def State.drainMeets (s : State) (d : Drain) (sp : List (Nat × Nat)) : Bool :=
  let t : Table := d.fields
  (List.range (t.em + 1)).any fun m => decide (d.row ≤ m) &&
    s.writesMeet (t.pair 38 + d.o + BitVec.ofNat 64 m * (Store.get t 40).setWidth 64) ((t.en + 1) * tyBits (t.bits 37 4 4) / 8) sp
/-- An MSAVE's remaining rows meet a read. -/
def State.saveMeets (s : State) (x : Xfer) (sp : List (Nat × Nat)) : Bool :=
  (List.range 128).any fun r => decide (x.row ≤ r) && s.writesMeet (x.addr + BitVec.ofNat 64 (512 * r)) 512 sp
/-- An earlier drain or MSAVE still has to write what a read of `sp` follows: of its class, or bytes of it. -/
def State.writesAhead (s : State) (seq cls : Nat) (sp : List (Nat × Nat)) : Bool :=
  let m := s.core.mat
  m.drains.any (fun d => decide (d.seq < seq) && (d.cls == cls || s.drainMeets d sp))
    || m.xfers.any fun x => decide (x.seq < seq) && x.save && (x.cls == cls || s.saveMeets x sp)
/-- An earlier M instruction still has to make an access that a read of `sp` follows: one of its class, or a write of its bytes. -/
def State.ahead (s : State) (seq cls : Nat) (sp : List (Nat × Nat)) : Bool :=
  let m := s.core.mat
  (m.nest.map fun n => decide (n.seq < seq) && n.cls == cls).getD false || m.xfers.any (fun x => decide (x.seq < seq) && !x.save && x.cls == cls)
    || s.writesAhead seq cls sp
/-- A read of an M instruction waits for order. -/
def State.mOrder (s : State) (seq cls scope : Nat) (sp : List (Nat × Nat)) : Bool := s.ahead seq cls sp || s.earlier 3 seq cls scope sp

/-! ### Steps and row blocks (R221 to R230) -/

/-- The next core with a runnable nest, in rotation (R222). -/
def State.nextNest (s : State) (q : Nat) : Option Nat :=
  let e := quadOf s q
  ([1, 2, 3, 4].map fun i => 4 * q + (e.last + i) % 4).find? fun k =>
    (s.coreAt k).nestRuns

/-- The step's index vector. -/
def MatCtx.x (m : MatCtx) : List Nat := Table.index m.active m.step
def MatCtx.stepSlot (m : MatCtx) (n : Nest) : Nat := n.mode.target m.size m.active m.x

/-- The nest stops with a fault at its row block (R251). -/
def State.nestFault (s : State) (n : Nest) (cause : Nat) (va i3 : Word) (src : Nat) : State :=
  let s := (s.mapMat fun m => { m with nest := some { n with faulted := true, wait := {} } }).mapEng fun q => { q with cur := none }
  s.dropWalkFault.record (opTrap 3 cause n.folio n.slot n.seq va s.core.mat.mprog (BitVec.ofNat 64 src) i3)

/-- Regroup the reads of a block by row. -/
def groupRows : List (Opnd × Nat) → Nat → List (List Byte × Bool) → List Row
  | [], _, _ => []
  | (o, r) :: rest, ek, data => let n := (o.reqs ek r).length
    o.row ek r (data.take n) :: groupRows rest ek (data.drop n)

/-- The first of several requests whose bytes wait for a channel: its source code and address. -/
def State.lateReq (s : State) (reqs : List (Nat × Word × Nat)) (pss : List (List (Nat × Nat))) : Option (Nat × Word) :=
  ((reqs.zip pss).find? fun r => (s.lateAny r.2).isSome).map fun r => (r.1.1, r.1.2.1)
/-- The requests of the row block at MPROG. -/
def MatCtx.blockReqs (m : MatCtx) : List (Nat × Word × Nat) :=
  (Table.fetches m.active m.x m.rb).flatMap fun f => f.1.reqs (Table.ek m.active) f.2
/-- The nest's operands are on their way until a free time; which of them the row block then waits for is free too (R222, R252). -/
def State.fetchBlock (s : State) (k seq : Nat) (n : Nest) (f : Quad → Quad) : State :=
  let c := s.coreAt k
  let rs := c.mat.blockReqs
  let w : Wait := match rs[Config.choice s.freeCtr % rs.length]? with
    | some r => { va := r.2.1, src := r.1 }
    | none => {}
  let s := s.setCoreAt k { c with mat := { c.mat with nest := some { n with wait := w } } }
  State.bump (s.setQuad (k / 4) (f { quadOf s (k / 4) with cur := some { core := k, seq := seq, readyAt := s.wall + Config.delay s.freeCtr } }))

/-- Begin the row block at MPROG, if its addresses resolve and its operands may be read now. -/
def State.beginBlock (s : State) (n : Nest) (st : QStep) : State :=
  let m := s.core.mat
  let t : Table := m.active
  let fs := t.fetches m.x m.rb
  let later (s : State) (w : Wait) : State :=
    (s.mapMat fun m => { m with nest := some { n with wait := w } }).mapEng fun q => { q with cur := some { st with readyAt := s.wall + 1 } }
  match s.runAll .read (fs.flatMap fun f => f.1.reqs t.ek f.2) with
  | .bad src c va i3 => s.nestFault n c va i3 src
  | .miss src va => later (s.wantWalk s.core.dom va) (n.wait.on va src)
  | .ok pss =>
    let ps := pss.flatten
    if s.mOrder n.seq n.cls n.scope ps then later s {} else
    match s.lateReq (fs.flatMap fun f => f.1.reqs t.ek f.2) pss with
    | some r => later s (n.wait.on r.2 r.1)
    | none =>
    let s := s.injectAll ps
    let slot := m.stepSlot n
    let s := if m.rb = 0 && n.zero && t.first m.x then s.mapMat fun m => m.clearSlot slot else s
    let b := t.block s.core.mat.slots slot m.rb (groupRows fs t.ek (pss.map (s.take 3 n.seq)))
    (s.mapMat fun m => { m with nest := some { n with wait := {} } }).mapEng fun q =>
      { q with cur := some { st with begun := true, left := t.blockLen, writes := b.1, poison := b.2.1, flags := b.2.2 } }

/-- MATRIX_STEP: at a step boundary the engine takes the next runnable nest; a row block whose operands are at hand
begins. -/
def execMatrixStep (s : State) : Result :=
  .next (match s.eng.cur with
    | none => match s.nextNest (s.id / 4) with
      | none => s
      | some k => match (s.coreAt k).mat.nest with
        | none => s
        | some n => s.fetchBlock k n.seq n fun q => { q with last := k % 4 }
    | some st =>
      if st.core ≠ s.id || st.begun || decide (s.wall < st.readyAt) then s else
      match s.core.mat.nest with
      | some n => if n.seq = st.seq && !n.faulted then s.beginBlock n st else s
      | none => s)

/-- ROW_BLOCK_WRITE: the row block ends: its rows, poison and flags are written together; after the eighth the step
ends, after the last step the nest (R229, R232). -/
def execRowBlockWrite (s : State) : Result :=
  .next (match s.eng.cur, s.core.mat.nest with
    | some st, some n =>
      if st.core ≠ s.id || !st.begun || st.left != 0 || st.seq != n.seq then s else
      let m := s.core.mat
      let len := Table.blockLen m.active
      let m := { m with
        slots := st.writes.foldl (fun t w => t.set w.1 w.2) m.slots
        poison := st.poison.foldl (fun t g => t.set g true) m.poison
        flags := m.flags ||| st.flags
        rb := m.rb + 1 }
      let s := s.mapEng fun q => { q with undo := q.undo ++ [(q.cyc, len)] }
      if m.rb < 8 then
        (s.mapMat fun _ => m).fetchBlock s.id n.seq n id
      else
        let m := { m with rb := 0, step := m.step + 1 }
        let m := if m.step < n.count then m else
          { m with
            valid := false
            nest := none
            occ := (match n.mode with
              | .head _ f => m.occ + f
              | _ => m.occ)
            ring := m.ring ++ m.reserved
            res := (match n.mode with
              | .head _ _ => 0
              | _ => m.res) }
        (s.mapMat fun _ => m).mapEng fun q => { q with cur := none }
    | _, _ => s)

/-! ### The epilogue unit (R235, R236) -/

/-- The head of the unit's order, when it is a drain of this core. -/
def State.headDrain (s : State) : Option Drain := match s.eng.epi with
  | (k, seq) :: _ => if k = s.id then s.core.mat.drains.find? fun d => d.seq == seq else none
  | [] => none
def State.setDrain (s : State) (d : Drain) : State := s.mapMat fun m => { m with drains := m.drains.map fun x => if x.seq = d.seq then d else x }
/-- What a drain row reads: scales, then biases. -/
def Table.drainReqs (t : Table) (v : Word) : List (Nat × Word × Nat) :=
  (if t.bits 37 11 1 = 1 then [(4, t.pair 33 + v, 4 * (t.en + 1))] else []) ++ (if t.bits 37 12 1 = 1 then [(5, t.pair 35 + v, 4 * (t.en + 1))] else [])

/-- The drain at the head may not start yet: its reads follow writes of earlier M instructions that are not performed; while a page
of theirs is not translated, any such write may be one. -/
def State.drainWaits (s : State) (d : Drain) : Bool :=
  let reqs := Table.drainReqs d.fields d.v
  let waits (sp : List (Nat × Nat)) : Bool := s.writesAhead d.seq d.cls sp || s.earlier 3 d.seq d.cls d.scope sp
  match s.runAll .read reqs with
  | .ok pss => !pss.isEmpty && waits pss.flatten
  | .miss _ _ => (s.core.mat.drains.any fun j => decide (j.seq < d.seq)) || (s.core.mat.xfers.any fun x => decide (x.seq < d.seq) && x.save)
      || s.own.any fun e => e.stream == 3 && decide (e.seq < d.seq) && decide (1 ≤ d.scope) && decide (1 ≤ e.scope)
  | .bad _ _ _ _ => false

/-- DRAIN_START (R235): at the latest of its issue, the previous drain's end, and its ordering wait. -/
def execDrainStart (s : State) : Result :=
  .next (match s.headDrain with
    | none => s
    | some d =>
      if d.started then s
      else if s.drainWaits d then
        State.setDrain (match s.runAll .read (Table.drainReqs d.fields d.v) with
          | .miss _ a => s.wantWalk s.core.dom a
          | _ => s) { d with floor := s.eng.cyc + 2 }
      else
        let c := max (max d.issued s.eng.epiEnd) d.floor
        if s.eng.cyc < c then s else s.setDrain { d with started := true, due := c + 2 })

/-- A drain stops with a fault and leaves the unit's order (R251). -/
def State.drainFault (s : State) (d : Drain) (cause : Nat) (va i3 : Word) (src : Nat) : State :=
  let s := (s.setDrain { d with faulted := true, started := false, wait := {} }).mapEng fun q => { q with epi := q.epi.drop 1, epiEnd := q.cyc }
  s.dropWalkFault.record (opTrap 3 cause d.folio d.qslot d.seq va (BitVec.ofNat 64 d.row) (BitVec.ofNat 64 src) i3)

/-- One output of R235: its bits, flags and poison. -/
def Drain.out (d : Drain) (m : MatCtx) (sc bi : Option (Nat → Nat × Bool)) (n : Nat) : Nat × Fp × Bool :=
  let t : Table := d.fields
  let y0 := (m.slots.get (d.slot * 16384 + d.row * 128 + n)).toNat
  let step (f : Nat → Nat → Nat × Fp) (y : Nat × Fp) (o : Option (Nat → Nat × Bool)) : Nat × Fp := match o with
    | some g => let r := f y.1 (g n).1; (r.1, y.2 ||| r.2)
    | none => y
  let y := step add32 (step mul32 (y0, 0) sc) bi
  let a := act32 (t.bits 37 0 4) y.1
  let ot := t.bits 37 4 4
  let r := if ot = 8 then (a.1, 0) else convert 8 ot (t.bits 37 8 3) true (d.key + BitVec.ofNat 64 (128 * d.row + n)) a.1
  (r.1, y.2 ||| a.2 ||| r.2, m.poison.get (d.slot * 1024 + d.row * 8 + n / 16) || (sc.map fun g => (g n).2).getD false || (bi.map fun g => (g n).2).getD false)

/-- The fp32 vector of a scale or bias read: element and blot. -/
def State.vec32 (s : State) (seq : Nat) (ps : List (Nat × Nat)) : Nat → Nat × Bool :=
  let v := leNat (s.take 3 seq ps).1
  let bl := ps.flatMap fun p => (List.range p.2).map fun k => s.blotOwn 3 seq (p.1 + k) 1
  fun n => (elem v 32 n, bl.getD (4 * n) false)

/-- DRAIN_ROW: one output row; the last one ends the drain and releases its ring slot (R235, R236, R243). -/
def execDrainRow (s : State) : Result :=
  .next (match s.headDrain with
    | none => s
    | some d =>
      if !d.started || decide (s.eng.cyc < d.due) then s else
      let t : Table := d.fields
      let ot := t.bits 37 4 4
      let len := (t.en + 1) * tyBits ot / 8
      let va := t.pair 38 + d.o + BitVec.ofNat 64 d.row * (Store.get t 40).setWidth 64
      let reqs := t.drainReqs d.v
      match s.runAll .read reqs with
      | .bad src c a i3 => s.drainFault d c a i3 src
      | .miss src a => (s.wantWalk s.core.dom a).setDrain { d with due := s.eng.cyc + 1, wait := d.wait.on a src }
      | .ok pss => match s.run .write va len with
        | .bad c a i3 => s.drainFault d c a i3 6
        | .miss a => (s.wantWalk s.core.dom a .write).setDrain { d with due := s.eng.cyc + 1, wait := d.wait.on a 6 }
        | .ok out =>
          match s.lateReq reqs pss with
          | some r => s.setDrain { d with due := s.eng.cyc + 1, wait := d.wait.on r.2 r.1 }
          | none =>
          let s := s.injectAll pss.flatten
          let src (k : Nat) : Option (Nat → Nat × Bool) := ((reqs.zip pss).find? fun r => r.1.1 == k).map fun r => s.vec32 d.seq r.2
          let rs := (List.range (t.en + 1)).map (d.out s.core.mat (src 4) (src 5))
          let bits := tyBits ot
          let bs := natLe len (rs.foldr (fun r n => r.1 + n * 2 ^ bits) 0)
          let s := (s.asOp 3 d.seq d.folio d.qslot).mapMat fun m => { m with flags := rs.foldl (fun f r => f ||| r.2.1) m.flags }
          let s := s.emitCells 1 s.eng.cyc d.cls d.scope (cellsOf out bs fun i => (List.range (max 1 (8 / bits))).any fun j => ((rs.getD (i * 8 / bits + j) (0, 0, false)).2.2))
          if d.row < t.em then s.setDrain { d with row := d.row + 1, due := s.eng.cyc + 2, wait := {} }
          else (s.mapMat fun m => { m.releaseSlot d with drains := m.drains.filter fun x => x.seq != d.seq }).mapEng fun q => { q with epi := q.epi.drop 1, epiEnd := q.cyc })

/-! ### Slot transfers (R244) -/

def State.setXfer (s : State) (x : Xfer) : State := s.mapMat fun m => { m with xfers := m.xfers.map fun y => if y.seq = x.seq then x else y }
def State.xferFault (s : State) (x : Xfer) (cause : Nat) (va i3 : Word) : State :=
  (s.setXfer { x with faulted := true, wait := {} }).dropWalkFault.record (opTrap 3 cause x.folio x.qslot x.seq va (BitVec.ofNat 64 x.row) 7 i3)
/-- The row has moved: the next one, or the transfer's end. -/
def State.xferNext (s : State) (x : Xfer) : State :=
  if x.row < 127 then (s.setXfer { x with row := x.row + 1, readyAt := s.wall + Config.delay s.freeCtr, wait := {} }).bump
  else s.mapMat fun m => { m with xfers := m.xfers.filter fun y => y.seq != x.seq }

/-- The transfer whose next row's data is at hand. -/
def State.dueXfer (s : State) : Option Xfer := s.core.mat.xfers.find? fun x => !x.faulted && decide (x.readyAt ≤ s.wall)

/-- MLOAD_ROW_WRITE: the next row of a transfer moves whole: an MLOAD writes it to the slot, an MSAVE reads it out of
the slot into the hold. -/
def execMloadRowWrite (s : State) : Result :=
  .next (match s.dueXfer with
    | none => s
    | some x =>
      let va := x.addr + BitVec.ofNat 64 (512 * x.row)
      match s.run (if x.save then .write else .read) va 512 with
      | .bad c a i3 => s.xferFault x c a i3
      | .miss a => (s.wantWalk s.core.dom a (if x.save then .write else .read)).setXfer { x with readyAt := s.wall + 1, wait := x.wait.on a 7 }
      | .ok ps =>
        let k := x.slot * 16384 + 128 * x.row
        if x.save then
          let bs := (List.range 128).flatMap fun n => natLe 4 (s.core.mat.slots.get (k + n)).toNat
          let pz := fun i => s.core.mat.poison.get (x.slot * 1024 + 8 * x.row + i / 64)
          let s := s.asOp 3 x.seq x.folio x.qslot
          (s.emitCells 1 s.eng.cyc x.cls x.scope (cellsOf ps bs pz)).xferNext x
        else if s.mOrder x.seq x.cls x.scope ps then s.setXfer { x with readyAt := s.wall + 1, wait := {} }
        else if (s.lateAny ps).isSome then s.setXfer { x with readyAt := s.wall + 1, wait := x.wait.on va 7 }
        else
          let s := s.injectAll ps
          let v := leNat (s.take 3 x.seq ps).1
          let bl := ps.flatMap fun p => (List.range p.2).map fun i => s.blotOwn 3 x.seq (p.1 + i) 1
          (s.mapMat fun m => { m with
            slots := (List.range 128).foldl (fun t n => t.set (k + n) (BitVec.ofNat 32 (elem v 32 n))) m.slots
            poison := (List.range 8).foldl (fun t g => t.set (x.slot * 1024 + 8 * x.row + g) (bl.getD (64 * g) false)) m.poison }).xferNext x)

/-! ### Stalls and strikes (R252, R253) -/

/-- M_STALL: 16,384 engine cycles of waiting for one access raise STALL. -/
def execMStall (s : State) : Result :=
  .next (
    let m := s.core.mat
    match m.nest.bind fun n => if 16384 ≤ n.wait.n ∧ !n.faulted then some n else none with
    | some n => s.nestFault n 0x0C n.wait.va 0 n.wait.src
    | none => match s.headDrain.bind fun d => if 16384 ≤ d.wait.n then some d else none with
      | some d => s.drainFault d 0x0C d.wait.va 0 d.wait.src
      | none => match m.xfers.find? fun x => !x.faulted && decide (16384 ≤ x.wait.n) with
        | some x => s.xferFault x 0x0C (x.addr + BitVec.ofNat 64 (512 * x.row)) 0
        | none => s)

/-- The ends of row blocks that run one after the other from cycle `c`. -/
def redoEnds : Nat → List (Nat × Nat) → List (Nat × Nat)
  | _, [] => []
  | c, u :: r => (c + u.2, u.2) :: redoEnds (c + u.2) r
/-- STRIKE_MATRIX: every unconfirmed row block is recomputed in order, then the one in progress, and every unconfirmed output is
made again in order, with the values they had; none is confirmed until 320 cycles after; the engine's cores count the row blocks
(R253, 14 R438; log 19). -/
def execStrikeMatrix (s : State) : Result :=
  let q := s.id / 4
  let e := quadOf s q
  let again := e.undo.filter fun u => decide (e.cyc < u.1 + 320)
  let extra := (again.map (·.2)).sum
  let held := [0, 1, 2, 3].flatMap fun i => ((s.coreAt (4 * q + i)).hold.filter fun h => h.clk == 1).map (·.leave)
  let len (k : Nat) : Nat := Table.blockLen (s.coreAt k).mat.active
  let e := { e with
    cur := e.cur.map fun c => if c.begun then { c with left := extra + len c.core } else { c with readyAt := max c.readyAt (s.wall + extra) }
    undo := redoEnds e.cyc again
    epiEnd := max e.epiEnd (e.cyc + extra + 2 * held.length) }
  .next ([0, 1, 2, 3].foldl (fun s i =>
    let k := 4 * q + i
    let c := s.coreAt k
    s.setCoreAt k { c with
      strike := again.foldl (fun v _ => satField v 1) c.strike
      hold := c.hold.map fun h => if h.clk = 1 then { h with leave := e.cyc + extra + 2 * ((held.filter fun l => decide (l ≤ h.leave)).length) + 320 } else h
      mat := { c.mat with
        drains := c.mat.drains.map fun d => if d.started then { d with due := max d.due (e.cyc + extra + 2 * held.length + 2) } else d
        xfers := c.mat.xfers.map fun x => { x with readyAt := max x.readyAt (s.wall + extra) } } }) (s.setQuad q e))

end Sys2Proof.Machine
end

