-- ==== Sys2Proof/Machine/Stacks.lean ====
section
/-! DEFINITION. Stacks.lean: the stacks at work (09 R265, R268 to R274, R277, R282 to R288, R291 to R295): windows and
refresh, the serial service of macros, products, hydration, faults and strikes. -/

namespace Sys2Proof.Machine

/-! ### Macros of every core -/

def State.mapStack (s : State) (n : Nat) (f : Stack → Stack) : State := s.setStack n (f (stackOf s n))
/-- The core that holds a strand (32 × node + index). -/
def State.coreFor? (s : State) (owner : Nat) : Option Nat :=
  if s.core.strand.isSome && s.core.owner == owner then some s.id
  else s.liveCores.find? fun k => (s.coreAt k).strand.isSome && (s.coreAt k).owner == owner
/-- A macro by strand and number. -/
def State.macroOf (s : State) (x : Nat × Nat) : Option (Nat × Macro) :=
  match s.coreFor? x.1 with
  | some k => ((s.coreAt k).macros.find? fun m => m.seq == x.2).map fun m => (k, m)
  | none => none
def State.mapMacro (s : State) (x : Nat × Nat) (f : Macro → Macro) : State :=
  s.mapOwner x.1 fun c => { c with macros := c.macros.map fun m => if m.seq = x.2 then f m else m }
def State.mapPos (s : State) (x : Nat × Nat) (p : Nat) (f : MPos → MPos) : State :=
  s.mapMacro x fun m => { m with pos := m.pos.mapIdx fun i q => if i = p then f q else q }
def State.dropMacro (s : State) (x : Nat × Nat) : State :=
  s.mapOwner x.1 fun c => { c with macros := c.macros.filter fun m => m.seq != x.2 }
/-- The cores that are not in their reset state, in rising order. -/
def State.coreOrder (s : State) : List Nat :=
  let ks := s.cores.map (·.1)
  (ks.filter fun k => decide (k < s.id)) ++ s.id :: ks.filter fun k => decide (s.id < k)
/-- Macros of every core on stack `n`, in core order. -/
def State.macrosOn (s : State) (n : Nat) : List (Nat × Nat × Macro) :=
  s.coreOrder.flatMap fun k => let c := s.coreAt k; (c.macros.filter fun m => m.in n).map fun m => (k, c.owner, m)

/-- The KEY that a macro names. -/
def MacroKind.key? : MacroKind → Option Word
  | .product _ key _ _ _ _ _ => some key
  | .bapp key _ _ => some key
  | .bload e => some (Entry.key e)
  | _ => none

/-- An earlier macro that names a KEY, issued by a stream of the same group (R284). -/
def State.keyBusy (s : State) (k : Nat) (m : Macro) (key : Word) : Bool :=
  s.liveCores.any fun j => (s.coreAt j).macros.any fun o => !o.produced && o.kind.key? == some key && o.g0 == m.g0 &&
    (decide (o.at_ < m.at_) || (o.at_ == m.at_ && decide (j < k)) || (j == k && decide (o.seq < m.seq)))

/-- A macro that its stack does not serve now: it has not arrived; its strand has stopped, unless it goes on past that; it has a
fault, or an earlier one of its stream has and it has not started (R292); one of its stream is ahead of it, where the strand has not
stopped it too (log 64); a BDROP waits for its KEY's macros (R284). -/
def State.heldBack (s : State) (n : Nat) (x : Nat × Nat) : Bool :=
  match s.macroOf x with
  | none => true
  | some (k, m) =>
    let c := s.coreAt k
    let stopped := (c.strand.map (·.dormant)).getD true
    !(m.at n).arrived || (stopped && !s.past n m) || m.faulted
      || (c.macros.any fun j => decide (j.seq < m.seq) && ((j.in n && !(j.at n).ended && (!stopped || s.past n j)) || (j.faulted && !(m.at n).started)))
      || (match m.kind with
        | .bdrop key => !(m.at n).started && s.keyBusy k m key
        | _ => false)
/-- The macro that a stack serves: the one started, else the first that may start. -/
def State.served (s : State) (n : Nat) : Option (Nat × Nat) :=
  let live := (stackOf s n).order.filter fun x => !s.heldBack n x
  (live.find? fun x => ((s.macroOf x).map fun m => (m.2.at n).started).getD false).orElse fun _ => live.head?

/-! ### Faults of running macros (R292, R295) -/

/-- Every BJOIN still queued behind faults its join object at once, with the stopped macro's progress word (11 R354); the head itself is
no such one where it has the fault. -/
def State.faultJoins (s : State) (k : Nat) (head : Bool := false) (prog : Nat := 0) : State :=
  let c := s.coreAt k
  ((c.queues.get 5).drop (if head then 1 else 0)).foldl (fun s q =>
    match q.words with
    | w :: _ => if w.toNat / 4 % 256 = 0x0B ∧ q.gate ≠ some false then (match s.resolve c.dom .write q.a c.sc.priv.toNat with
        | (s, .inl loc) => s.send k c.owner (enginePath k (homeQuad loc)) { level := c.sc.priv, domain := BitVec.ofNat 6 c.dom, host := false } (.join loc true (BitVec.ofNat 64 prog))
        | (s, .inr _) => s) else s
    | _ => s) s

/-- A fault of a running macro: its address or KEY, its progress, the group position (R292). -/
def State.macroFault (s : State) (x : Nat × Nat) (cause : Nat) (va : Word) (p : Nat) (i3 : Word) : State :=
  match s.macroOf x with
  | none => s
  | some (k, m) =>
    ((s.mapMacro x fun m => { m with faulted := true, wait := {} }).mapOwner x.1 fun c =>
      c.record (opTrap 5 cause m.folio m.slot m.seq va (BitVec.ofNat 64 m.prog) (BitVec.ofNat 64 p) i3)).faultJoins k false m.prog

/-! ### Arrival and commit (R271, R291) -/

/-- A BFENCE's snapshot of a stack (Table 9.8). -/
def Stack.snapshot (k : Stack) : Word :=
  BitVec.ofNat 64 (k.cyc % 2 ^ 48 + (if k.resetSince then 2 ^ 62 else 0) + (if k.fast then 2 ^ 63 else 0))

def State.arriving (s : State) (n : Nat) : List (Nat × Nat × Macro) :=
  (s.macrosOn n).filter fun x => !(x.2.2.at n).arrived && decide (x.2.2.issue + 8 ≤ (s.coreAt x.1).flow.run) && ((s.coreAt x.1).strand.map fun t => !t.dormant).getD false
def State.committing (s : State) (n : Nat) : List (Nat × Nat × Macro) :=
  (s.macrosOn n).filter fun x => x.2.2.kind.commits && !(x.2.2.at n).committed && decide (x.2.2.issue + 328 ≤ (s.coreAt x.1).flow.run)
    && ((s.coreAt x.1).strand.map fun t => !t.dormant).getD false

/-- Put an effect of a macro into its core's hold. -/
def State.macroEmit (s : State) (o : Nat) (m : Macro) (clk leave : Nat) (k : EffKind) : State :=
  { (s.mapOwner o fun c =>
      let t := { s with core := { c with cur := { c.cur with stream := 5, seq := m.seq } } }
      let after := match k with
        | .inCore .. => []
        | _ => t.before m.cls m.scope false k.spans
      { c with hold := c.hold ++ [{ id := s.nextId, owner := o, src := { level := c.sc.priv, domain := BitVec.ofNat 6 c.dom, host := false }, clk := clk,
                                    leave := leave, stream := 5, cls := m.cls, scope := m.scope, seq := m.seq, after := after, unc := t.uncSpans k,
                                    kind := k }] }) with nextId := s.nextId + 1 }

/-- MACRO_ARRIVAL: macros reach the stack, in core order; a BFENCE takes its snapshot (R271, R291). -/
def execMacroArrival (n : BitVec 4) (s : State) : Result :=
  let st := n.toNat
  .next ((s.arriving st).foldl (fun s x =>
    let k := (x.2.1, x.2.2.seq)
    let p := st - x.2.2.g0
    match x.2.2.kind with
    | .bfence addr =>
      let s := s.macroEmit k.1 x.2.2 (18 + st) (x.2.2.issue + 16) (.inCore 1 (plainBytes (addr + 8 * p) (natLe 8 (stackOf s st).snapshot.toNat) false))
      let s := s.mapPos k p fun q => { q with arrived := true, started := true, ended := true }
      if ((s.macroOf k).map fun m => m.2.pos.all (·.ended)).getD false then s.dropMacro k else s
    | _ => (s.mapPos k p fun q => { q with arrived := true }).mapStack st fun t => { t with order := (t.order.filter (· != k)) ++ [k] }) s)

/-! ### Starting a macro (R271, R272, R277, R282 to R288) -/

/-- Locations that a product reads, as R288 compares them: home bytes of its rows, or a LOCAL replica's own. -/
def State.productReads (s : State) (m : Macro) (key ctl : Word) : List (Nat × Nat) :=
  let w : Ctl := ctl
  (List.range m.g).flatMap fun p =>
    match s.entryFor (m.g0 + p) m key with
    | none => []
    | some e =>
      if e.isLocal then e.reads (m.g0 + p) p w.row0 w.rows
      else (s.homes.filter fun h => h.stack == m.g0 + p && h.base == e.base && (e.rowsIn p h.lane w.row0 w.rows).any fun o =>
        decide (e.laneByte o ≤ h.lb) && decide (h.lb < e.laneByte o + e.rb)).map fun h => (h.loc, h.len)

/-- What a macro writes before it has ended: a product's outputs, an append's home rows, a copy's destination units. -/
def Macro.pending (m : Macro) : List (Nat × Nat) := match m.kind with
  | .product _ _ _ _ _ parts _ => parts.flatten
  | .bapp _ _ rows => rows.flatMap (·.1)
  | .units _ _ us => us.map fun u => (stackLoc (m.g0 + u.1) u.2.1, 2048)
  | _ => []

/-- An earlier write of its stream that the macro waits for (R288). -/
def State.awaits (s : State) (k : Nat) (m : Macro) : Bool :=
  let c := s.coreAt k
  let reads := match m.kind with
    | .product _ key ctl _ _ _ _ => s.productReads m key ctl
    | .bapp _ _ rows => rows.flatMap (·.1)
    | .units which _ us => m.pending ++ if which = 1 then [] else us.map fun u => (stackLoc (m.g0 + u.1) u.2.2, 2048)
    | _ => []
  let acc := match m.kind with
    | .product .. => true
    | .bapp .. => true
    | .units .. => true
    | _ => false
  let hit (cls scope : Nat) (sp : List (Nat × Nat)) : Bool := (cls == m.cls && decide (1 ≤ scope) && decide (1 ≤ m.scope)) || overlap sp reads
  acc && ((c.macros.any fun j => decide (j.seq < m.seq) && !j.produced && !j.pending.isEmpty && hit j.cls j.scope j.pending)
    || (({ s with core := c } : State).own.any fun e => e.stream == 5 && decide (e.seq < m.seq) && !e.kind.isFabric && hit e.cls e.scope e.kind.spans))

/-- The macro at the front can start in this cycle of the stack. -/
def State.canStart (s : State) (n : Nat) : Option (Nat × Nat) :=
  match s.served n with
  | none => none
  | some x => match s.macroOf x with
    | none => none
    | some (k, m) =>
      let p := m.at n
      if p.started || (m.kind.commits && !p.committed) || (m.kind.dram && (stackOf s n).cyc % 64 != 0) || s.awaits k m then none else some x

/-- An append sends its home rows, each a store of its class (R282); from then on they count as its progress (R292). -/
def State.sendRows (s : State) (x : Nat × Nat) (k : Nat) (m : Macro) : State := match m.kind with
  | .bapp _ _ rs =>
    if m.kind.dram || m.prog != 0 then s else
    (rs.foldl (fun s r => s.macroEmit x.1 m 0 (s.coreAt k).flow.conf (.cells (cellsOf r.1 (r.2.map (·.1)) fun i => (r.2.getD i (0, false)).2))) s).mapMacro x
      fun m => { m with prog := rs.length }
  | _ => s

/-- MACRO_COMMIT: the core has confirmed the issue of these macros (R271). An append sends its home rows, unless it waits
behind earlier writes or a fault of its stream (R282, R288, R292). -/
def execMacroCommit (n : BitVec 4) (s : State) : Result :=
  .next ((s.committing n.toNat).foldl (fun s x =>
    let k := (x.2.1, x.2.2.seq)
    let c := s.coreAt x.1
    let s := s.mapPos k (n.toNat - x.2.2.g0) fun q => { q with committed := true }
    if n.toNat ≠ x.2.2.g0 ∨ (c.macros.any fun j => decide (j.seq ≤ x.2.2.seq) && j.faulted) ∨ s.awaits x.1 x.2.2 then s
    else s.sendRows k x.1 x.2.2) s)

/-- Bytes that the lanes of position `p` receive in a BACT: lane, and the range of its source bytes. -/
def bactShare (slice len p : Nat) : List (Nat × Nat × Nat) :=
  (List.range 256).filterMap fun l =>
    if slice = 0 then some (l, 0, len) else
    let a := (256 * p + l) * slice
    if a < len then some (l, a, min slice (len - a)) else none

/-- The windows that each lane of position `p` works for a range of rows (R272). -/
def Entry.lefts (e : Entry) (p row0 cnt : Nat) : Store Nat := (List.range 256).foldl (fun st l => st.set l (e.windows p l row0 cnt)) []
/-- The macro starts in stack `n`: the windows or units ahead of it, or its end. -/
def State.startMacro (s : State) (n : Nat) (x : Nat × Nat) : State :=
  match s.macroOf x with
  | none => s
  | some (k, m) =>
    let p := n - m.g0
    let q := m.at n
    let cyc := (stackOf s n).cyc
    let go (s : State) (f : MPos → MPos) : State := s.mapPos x p fun q => f { q with started := true }
    let rows (s : State) (key : Word) (row0 cnt : Nat) : State :=
      let left : Store Nat := if q.begun then q.left else match s.entryFor n m key with
        | none => []
        | some e => e.lefts p row0 cnt
      go s fun q => { q with left := left, begun := m.kind.dram && !m.kind.isProduct, span := left.foldl (fun a e => max a e.2) 0, endAt := if left.isEmpty then some cyc else none }
    match m.kind with
    | .bact _ slice data => let b := ((bactShare slice data.length p).map (·.2.2)).sum; let b := if slice = 0 then data.length else b
                            go s fun q => { q with endAt := some (cyc + ceilDiv b 512) }
    | .product _ key ctl _ _ _ _ => let w : Ctl := ctl; rows s key w.row0 w.rows
    | .bapp key row0 rs =>
      if m.kind.dram then rows s key row0 rs.length else
      let s := if p ≠ 0 then s else s.sendRows x k m
      go s fun q => { q with endAt := some cyc }
    | .bload e => go (s.putEntry n p e (some x) none) fun q => { q with endAt := some cyc }
    | .bdrop _ => go s fun q => { q with endAt := some cyc }
    | .units which _ us =>
      let mine := us.filter fun u => u.1 == p
      let todo := if which = 2 then [] else if q.begun then q.todo else mine
      let reads := if which ≠ 2 then [] else if q.begun then q.buf.map (·.1) ++ q.reads else mine
      go s fun q => { q with
        begun := true
        todo := todo
        reads := reads
        buf := []
        half := []
        endAt := if todo.isEmpty && reads.isEmpty then some (q.endAt.getD cyc) else none }
    | .bfence _ => go s fun q => { q with endAt := some cyc }

/-! ### Windows (R270, R272, R286) -/

/-- The granule of column `c` of a row carries a blot. -/
def Entry.elemBlot (e : Entry) (m : Mem) (n l o c : Nat) : Bool :=
  (e.locs n l (e.laneByte o + c * wBits e.wtype / 8) ((wBits e.wtype + 7) / 8)).any fun x => m.blotted x.1 x.2
/-- The lane inputs of a product that is not confirmed are kept for it (R293, log 64). -/
def MPos.keep (q : MPos) (k : Stack) : MPos := if q.kept.isSome then q else { q with kept := some (k.act, k.actBlot) }
/-- A BACT of number `seq` writes the lanes of stack `n`: each earlier product keeps its own inputs. -/
def Macro.keepInputs (n : Nat) (k : Stack) (seq : Nat) (j : Macro) : Macro :=
  if decide (j.seq < seq) && j.in n && j.kind.isProduct && !j.produced then { j with pos := j.pos.mapIdx fun i q => if i = n - j.g0 then q.keep k else q } else j
/-- The stack with the inputs that a product reads. -/
def MPos.inputs (q : MPos) (k : Stack) : Stack := match q.kept with
  | some x => { k with act := x.1, actBlot := x.2 }
  | none => k

/-- The bank of an offset, as layer, group and bank; its lane. -/
def bankIx (off : Nat) : Nat := off / 2 ^ 11 % 512
def laneOf (off : Nat) : Nat := off / 2 ^ 12 % 256

/-- Memory as the arrays of a stack hold it, whatever its line cache still shows. -/
def Mem.array (m : Mem) (n : Nat) : Mem := m.showAll (Ahead.meets (stackLoc n 0) (2 ^ 37))
/-- The armed error of 14 R446 fires on what a stack reads from its arrays. -/
def State.arrayReads (s : State) (ps : List (Nat × Nat)) : State :=
  if s.pkg.injCtl.getLsbD 0 then ps.foldl (fun s p => s.strikeRead p.1 p.2 false) s else s
/-- The bytes of a unit of 2 KiB, with blots. -/
def State.unitRead (s : State) (n off : Nat) : List (Byte × Bool) :=
  let m := s.mem.array n
  (m.bytes (stackLoc n off) 2048).mapIdx fun i b => (b, m.blots.get ((stackLoc n off + i) / 64))
/-- A unit is written in its array: location by location, each 64-byte granule whole; loads may see the old bytes until the copy ends
in this stack (R287). -/
def State.unitWrite (s : State) (n off : Nat) (bs : List (Byte × Bool)) : State :=
  let a := stackLoc n off
  let m := s.mem.overtake a 2048 false
  let new : List Ahead := (List.range 256).map fun i =>
    { loc := a + 8 * i, bs := ((bs.drop (8 * i)).take 8).map (·.1), blot := ((bs.drop (8 * i / 64 * 64)).take 64).any (·.2), clear := true }
  let m : Mem := { m with ahead := m.ahead ++ new }
  { s with mem := m.forward s.homes a (bs.map (·.1)) (bs.any (·.2)) }

/-- Units of BROWCP or BROWZ that work in this window: the first of each bank outside refresh. -/
def frontUnits (idle : Nat → Bool) : List Nat → List (Nat × Nat × Nat) → List (Nat × Nat × Nat)
  | _, [] => []
  | seen, u :: r => let b := bankIx u.2.1
    if seen.contains b then frontUnits idle seen r else if idle (laneOf u.2.1) then u :: frontUnits idle (b :: seen) r else frontUnits idle (b :: seen) r

/-- One window of an in-DRAM copy ends (R286); with `stop` no further unit begins (R294). -/
def State.unitWindow (s : State) (n : Nat) (x : Nat × Nat) (which : Nat) (stop : Bool) (q : MPos) : State :=
  let k := stackOf s n
  let idle (l : Nat) : Bool := !k.refreshing.contains l
  match s.macroOf x with
  | none => s
  | some (_, m) =>
    let p := n - m.g0
    let fin (q : MPos) : MPos := if q.todo.isEmpty && q.reads.isEmpty && q.buf.isEmpty then { q with endAt := some (k.cyc + 24) } else q
    if which = 2 then
      let wr := (q.buf.head?).filter fun b => idle (laneOf b.1.2.1)
      let rd := (if stop then none else q.reads.head?).filter fun u => idle (laneOf u.2.2) && !q.buf.any fun b => bankIx b.1.2.1 == bankIx u.2.2
      let s := match rd with
        | some u => s.arrayReads [(stackLoc n u.2.2, 2048)]
        | none => s
      let got := rd.map fun u => (u, s.unitRead n u.2.2)
      let s := match wr with
        | some b => (s.unitWrite n b.1.2.1 b.2).mapMacro x fun m => { m with prog := m.prog + 1 }
        | none => s
      s.mapPos x p fun q => fin { q with
        buf := (if wr.isSome then q.buf.drop 1 else q.buf) ++ got.toList
        reads := if rd.isSome then q.reads.drop 1 else q.reads }
    else
      let work := (frontUnits idle [] q.todo).filter fun u => !stop || q.half.contains (bankIx u.2.1)
      let done := work.filter fun u => q.half.contains (bankIx u.2.1)
      let s := done.foldl (fun s u =>
        let s := if which = 1 then s else s.arrayReads [(stackLoc n u.2.2, 2048)]
        (s.unitWrite n u.2.1 (if which = 1 then List.replicate 2048 (0, false) else s.unitRead n u.2.2)).mapMacro x fun m => { m with prog := m.prog + 1 }) s
      s.mapPos x p fun q => fin { q with
        todo := q.todo.filter fun u => !done.contains u
        half := (work.filter fun u => !done.contains u).map fun u => bankIx u.2.1 }

/-- One row, or the slices of it that `lane` holds, is written in the lanes' storage (R282). -/
def State.appendRow (s : State) (n p : Nat) (e : Entry) (l o : Nat) (bs : List (Byte × Bool)) : State :=
  (e.parts p l o).foldl (fun s y =>
    let b := (bs.drop y.2.1).take y.2.2.1
    { s with mem := s.mem.putLane n e.base l (b.any (·.2)) false (b.length / 4096 + 2) y.2.2.2 (b.map (·.1)) }) s
/-- The rows of a LOCAL append that are written in every lane of the group that holds a part of them. -/
def State.appended (s : State) (m : Macro) (key : Word) (row0 n : Nat) : Nat :=
  ((List.range n).filter fun i => (List.range m.g).all fun p => match s.entryFor (m.g0 + p) m key with
    | none => true
    | some e => let q := m.pos.getD p {}
                q.ended || (List.range 256).all fun l => !e.holds p l (row0 + i) || (q.begun && e.rowDone p l row0 n i (q.left.get l))).length
/-- One window of a LOCAL append ends: the rows that are through in their lanes stand there; with `stop` no further row begins. -/
def State.appendWindow (s : State) (n : Nat) (x : Nat × Nat) (m : Macro) (key : Word) (row0 : Nat) (rs : List (List (Byte × Bool))) (stop : Bool) : State :=
  let k := stackOf s n
  let p := n - m.g0
  let q := m.at n
  match s.entryFor n m key with
  | none => s.mapPos x p fun q => { q with endAt := some k.cyc }
  | some e =>
    let left : Store Nat := q.left.foldl (fun st y =>
      if k.refreshing.contains y.1 || (stop && !e.midRow p y.1 row0 rs.length y.2) then st else st.set y.1 (y.2 - 1)) q.left
    let s := (List.range rs.length).foldl (fun s i => (List.range 256).foldl (fun s l =>
      if e.holds p l (row0 + i) && e.rowDone p l row0 rs.length i (left.get l) && !e.rowDone p l row0 rs.length i (q.left.get l)
      then s.appendRow n p e l (row0 + i) (rs.getD i []) else s) s) s
    let s := s.mapPos x p fun q => { q with left := left, endAt := if left.isEmpty then some k.cyc else none }
    match s.macroOf x with
    | none => s
    | some (_, m) => s.mapMacro x fun j => { j with prog := s.appended m key row0 rs.length }

/-- Cycles from the last lane end of a product to its Pr (R272). -/
def Macro.tail (m : Macro) (which : Nat) : Nat := if which = 0 then 8 else if m.g = 1 then 16 else 40
/-- The repetition of a product is over in a stack: what it had produced already is so anew (R293). -/
def State.reconfirm (s : State) (x : Nat × Nat) : State :=
  match s.macroOf x with
  | none => s
  | some (_, m) => match m.kind, m.outAt with
    | .product which _ _ _ _ _ _, some _ =>
      let pr := (stackOf s m.g0).cyc + m.tail which
      s.mapOwner x.1 fun c => { c with
        macros := c.macros.map fun j => if j.seq = x.2 then { j with outAt := some pr } else j
        hold := c.hold.map fun e => if e.stream = 5 ∧ e.seq = x.2 ∧ e.owner = x.1 ∧ 2 ≤ e.clk ∧ e.clk < 18 then
            { e with leave := pr + (match e.kind with
              | .inCore .. => 328
              | _ => 320) }
          else e }
    | _, _ => s

/-- A window ends: work that a strike undid is repeated first (R293), else the macro served moves on. -/
def State.endWindow (s : State) (n : Nat) : State :=
  let k := stackOf s n
  let work (left : Store Nat) : Store Nat := left.foldl (fun st e => if k.refreshing.contains e.1 then st else st.set e.1 (e.2 - 1)) left
  match k.again with
  | (x, left) :: r =>
    let left := work left
    if left.isEmpty then
      let s := s.setStack n { k with again := r }
      (x.map s.reconfirm).getD s
    else s.setStack n { k with again := (x, left) :: r }
  | [] => match s.served n with
    | none => s
    | some x => match s.macroOf x with
      | none => s
      | some (i, m) =>
        let q := m.at n
        if !q.started || q.endAt.isSome then s else
        match m.kind with
        | .units which _ _ => s.unitWindow n x which (((s.coreAt i).strand.map (·.dormant)).getD true) q
        | .bapp key row0 rs => s.appendWindow n x m key row0 (rs.map (·.2)) (((s.coreAt i).strand.map (·.dormant)).getD true)
        | _ => s.mapPos x (n - m.g0) fun q =>
          let left := work q.left
          { q with left := left, endAt := if left.isEmpty then some k.cyc else none }

/-- One running cycle of a stack: at a boundary the window before it ends, and its refreshes with it. -/
def State.stackCycle (s : State) (n : Nat) : State :=
  let k := stackOf s n
  if k.throttled then s else
  let s := s.setStack n { k with cyc := k.cyc + 1 }
  if (k.cyc + 1) % 64 ≠ 0 then s else (s.endWindow n).mapStack n fun k => { k with
    refreshing := []
    order := k.order.filter fun x => (s.macroOf x).isSome
    undo := k.undo.filter fun u => (s.macroOf u.1).isSome
    again := k.again.filter fun a => (a.1.map fun x => (s.macroOf x).isSome).getD true }

/-- REFRESH_PERIOD_CHANGE: HOT acts at a window boundary (R270). -/
def execRefreshPeriodChange (n : BitVec 4) (s : State) : Result := .next (s.mapStack n.toNat fun k => { k with fast := k.hot })
/-- REFRESH: the lane's bank group takes its refresh window (R270). -/
def execRefresh (n : BitVec 4) (l : BitVec 8) (s : State) : Result :=
  .next (s.mapStack n.toNat fun k => { k with refreshing := k.refreshing ++ [l.toNat] })
/-- The next lane whose refresh window begins at this boundary, while macros, or windows that are repeated, are there to see it. -/
def State.dueRefresh (s : State) (n : Nat) : Option Nat :=
  let k := stackOf s n
  if (k.order.isEmpty && k.again.isEmpty) || k.cyc % 64 != 0 then none else
  (List.range 256).find? fun l => refreshIn k.fast (k.cyc / 64) l && !k.refreshing.contains l

/-! ### Products (R272, R274, R279 to R281) -/

/-- The sums of one position: by slot and output element, with its blot; and the accumulators they leave (R257). -/
def productSums (m : Mem) (k : Stack) (e : Entry) (which n p : Nat) (w : Ctl) : List (Nat × Nat × Bool) × List (Nat × Nat) :=
  let len := chunkLen e.wtype w.aty
  let acc (l j i : Nat) : Nat := 8192 * l + 1024 * j + i
  let slots := (List.range w.nb).map (w.slot0 + ·)
  if which = 0 then
    let rs := (List.range 256).flatMap fun l => (e.rowsIn p l w.row0 w.rows).flatMap fun o =>
      let row := e.row m n p l o
      slots.map fun j => let a := k.acts w.aty l j 0 e.k; (l, j, o, dotLane len row a, row.blot || a.blot)
    (rs.map fun (r : Nat × Nat × Nat × Nat × Bool) => ((r.2.1 - w.slot0) * 65536 + (r.2.2.1 - w.row0), r.2.2.2.1, r.2.2.2.2),
     rs.map fun (r : Nat × Nat × Nat × Nat × Bool) => (acc r.1 r.2.1 (e.rowIx r.2.2.1), r.2.2.2.1))
  else
    let lanes := (List.range 256).map fun l => (l, e.rowsIn p l w.row0 w.rows)
    let part (j i : Nat) (x : Nat × List Nat) : Nat × Bool :=
      if which = 1 then
        (if e.holds p x.1 (w.row0 + i) then
          let row := e.row m n p x.1 (w.row0 + i)
          let a := k.acts w.aty x.1 j 0 (e.share p x.1).2
          (dotLane len row a, row.blot || a.blot)
        else (0, false))
      else
        let rs := x.2.map fun o => (e.row m n p x.1 o, k.acts w.aty x.1 j (o - w.row0) 1, e.elemBlot m n x.1 o i)
        (dotLane len { vals := rs.map fun r => r.1.vals.getD i (.zero false), scales := [], blot := false }
            { vals := rs.map fun r => r.2.1.vals.getD 0 (.zero false), scales := [], blot := false },
          rs.any fun r => r.2.2 || r.2.1.blot)
    let rs := slots.flatMap fun j => (List.range (outCount which e w)).map fun i => (j, i, lanes.map fun x => (x.1, part j i x))
    (rs.map fun (r : Nat × Nat × List (Nat × Nat × Bool)) => ((r.1 - w.slot0) * 65536 + r.2.1, treeSum (r.2.2.map (·.2))),
     rs.flatMap fun (r : Nat × Nat × List (Nat × Nat × Bool)) => r.2.2.map fun x => (acc x.1 r.1 r.2.1, x.2.1))

/-- An output element, rounded once more to OTYPE, with its blot: BMV's rows stand in one position each, the others' sums
combine over the positions (R280, R281). -/
def Macro.outElem (m : Macro) (which : Nat) (w : Ctl) (sr : Word) (key : Nat) : List Byte × Bool :=
  let vs := m.pos.filterMap fun q => (q.vals.find? fun v => v.1 == key).map (·.2)
  let y := if which = 0 ∨ m.g = 1 then vs.headD (0, false) else treeSum vs
  (natLe w.ob (convert 8 w.oty w.orm true (sr + BitVec.ofNat 64 ((key % 65536 + 1024 * (key / 65536)) % 2 ^ 20)) y.1).1, y.2)

/-- Products of the current core whose Pr has come. -/
def State.producing (s : State) : List Macro :=
  s.core.macros.filter fun m => !m.faulted && !m.produced && (match m.outAt with
    | some t => decide (t ≤ (stackOf s m.g0).cyc)
    | none => false) && !s.redoing (s.core.owner, m.seq) && (s.core.strand.map fun t => !t.dormant).getD false

/-- PRODUCT_OUTPUT: at Pr the outputs enter the hold, for the home slices at Pr + 320 or the core at Pr + 328 (R274). -/
def execProductOutput (s : State) : Result :=
  .next (s.producing.foldl (fun s m =>
    let x := (s.core.owner, m.seq)
    match m.kind with
    | .product which _ ctl sp dst parts sr =>
      let w : Ctl := ctl
      let pr := m.outAt.getD 0
      let n := ((m.pos.flatMap (·.vals)).map fun v => v.1 % 65536 + 1).foldl max 0
      let outs (j : Nat) : List (Byte × Bool) := (List.range n).flatMap fun i =>
        let y := m.outElem which w sr (j * 65536 + i)
        y.1.map fun b => (b, y.2)
      let s := if sp = 0 then
          s.macroEmit x.1 m (2 + m.g0) (pr + 320) (.cells ((List.range w.nb).flatMap fun j => let o := outs j; cellsOf (parts.getD j []) (o.map (·.1)) fun i => (o.getD i (0, false)).2))
        else
          s.macroEmit x.1 m (2 + m.g0) (pr + 328) (.inCore sp ((List.range w.nb).flatMap fun j => (outs j).mapIdx fun i b => ⟨dst.toNat + j * w.stride + i, 0xFF, b.1, b.2, false⟩))
      s.mapMacro x fun m => { m with produced := true }
    | _ => s) s)
/-- A product whose outputs have left the hold is over. -/
def Core.trimMacros (c : Core) : Core :=
  { c with macros := c.macros.filter fun m => !m.produced || c.hold.any fun e => e.stream == 5 && e.seq == m.seq && e.owner == c.owner }

/-! ### The end of a macro in a stack (R271, R272, R277, R282, R284, R287) -/

def State.ending (s : State) (n : Nat) : Option (Nat × Nat) :=
  (s.served n).filter fun x => ((s.macroOf x).map fun m => ((m.2.at n).endAt.map fun t => decide (t ≤ (stackOf s n).cyc)).getD false).getD false

/-- What the macro does to stack `n` as it ends there; a copy's line-cache copies are invalid, so loads see what it wrote (R287). -/
def State.endEffect (s : State) (n : Nat) (x : Nat × Nat) (m : Macro) : State :=
  let k := stackOf s n
  let p := n - m.g0
  match m.kind with
  | .bact slot slice data =>
    let cs : LBytes := (bactShare slice data.length p).flatMap fun sh =>
      ((data.drop sh.2.1).take sh.2.2).mapIdx fun i b => ⟨32768 * sh.1 + 4096 * slot + i, 0xFF, b.1, b.2, false⟩
    let s := s.mapOwner x.1 fun c => { c with macros := c.macros.map (Macro.keepInputs n k m.seq) }
    s.setStack n { k with act := setBytes k.act cs, actBlot := setBlots k.actBlot cs }
  | .product which key ctl _ _ _ _ =>
    let w : Ctl := ctl
    match s.entryFor n m key with
    | none => s
    | some e =>
      let s := s.arrayReads (e.reads n p w.row0 w.rows)
      let r := productSums (s.mem.array n) ((m.at n).inputs k) e which n p w
      (s.setStack n { k with
        acc := r.2.foldl (fun st a => st.set a.1 (BitVec.ofNat 32 a.2)) k.acc
        undo := k.undo ++ [(x, e.lefts p w.row0 w.rows)] }).mapPos x p fun q => { q with vals := r.1 }
  | .units _ _ us => { s with mem := s.mem.showAll fun a => us.any fun u => u.1 == p && a.meets (stackLoc n u.2.1) 2048 }
  | .bdrop key =>
    let gone (e : Entry) : Bool := e.valid && e.key == key && 2 ^ e.glog == m.g && e.gpos == p
    let bases := (k.table.filter fun e => gone e.2).map fun e => Entry.base e.2
    { (s.setStack n { k with table := k.table.filter fun e => !gone e.2, hydrate := k.hydrate.filter fun h => !gone (k.table.get h.entry) }) with
      homes := s.homes.filter fun h => !(h.stack == n && bases.contains h.base) }
  | _ => s

/-- It has ended in every stack of its group, a copy in every one that holds a unit of it (R287). -/
def Macro.over (m : Macro) : Bool := match m.kind with
  | .units _ _ us => (List.range m.g).all fun p => !us.any (fun u => u.1 == p) || (m.pos.getD p {}).ended
  | _ => m.pos.all (·.ended)
/-- The macro has ended in every stack: a product has its Pr; any other but BLOAD is over (R272). -/
def State.allEnded (s : State) (x : Nat × Nat) (m : Macro) : State :=
  match m.kind with
  | .product which _ _ _ _ _ _ =>
    s.mapMacro x fun m => { m with outAt := some ((stackOf s m.g0).cyc + m.tail which) }
  | .bload _ => s
  | _ => s.dropMacro x

/-- MACRO_END: the macro served ends in this stack (R271, R272, R277, R286, R287). -/
def execMacroEnd (n : BitVec 4) (s : State) : Result :=
  .next (match s.ending n.toNat with
    | none => s
    | some x => match s.macroOf x with
      | none => s
      | some (_, m) =>
        let s := (s.endEffect n.toNat x m).mapPos x (n.toNat - m.g0) fun q => { q with ended := true }
        let s := s.mapStack n.toNat fun k => { k with order := k.order.filter fun y => y != x }
        match s.macroOf x with
        | none => s
        | some (_, m) => if m.over then s.allEnded x m else s)

/-! ### Hydration (R265, R266, R268, R297) -/

/-- A replica's entry in stack `p` of its group, of which stack `n` holds `e`. -/
def State.partner (s : State) (n : Nat) (e : Entry) (p : Nat) : Option Entry :=
  ((stackOf s (n - e.gpos + p)).table.map (·.2)).find? fun x => Entry.valid x && Entry.key x == e.key && Entry.glog x == e.glog && Entry.gpos x == p
/-- Before a stack reads home lines the replica is registered in its whole group (R265); its own part is registered anew, for
what did not resolve before. -/
def State.registerGroup (s : State) (n : Nat) (e : Entry) (level : Nat) : State :=
  (List.range (2 ^ e.glog)).foldl (fun s p => match s.partner n e p with
    | none => s
    | some x =>
      let m := n - e.gpos + p
      if p = e.gpos ∨ !(s.homes.any fun r => r.stack == m && r.base == Entry.base x) then s.register m x level else s) s

/-- Copy one run of a home row, 64-byte granule by granule. -/
def State.copyHome (s : State) (n : Nat) (e : Entry) (l lb loc len : Nat) : State :=
  let s := s.inject loc len false
  { s with mem := (List.range ((loc + len + 63) / 64 - loc / 64)).foldl (fun m i =>
      let a := max loc (64 * (loc / 64 + i))
      let b := min (loc + len) (64 * (loc / 64 + i) + 64)
      m.putLane n e.base l (s.mem.blots.get (loc / 64 + i)) false 2 (lb + (a - loc)) (s.mem.bytes a (b - a))) s.mem }

/-- How a hydration ends: done, or at an access that waits for a channel, or at a fault; with the rows that are through. -/
inductive HydEnd where
  | done
  | late (va : Word) (ch : Nat)
  | fault (cause : Nat) (va i1 i2 : Word)

/-- Copy one part of a row, page by page. -/
def State.hydPart (n : Nat) (e : Entry) (level l : Nat) : Nat → Word → Nat → Nat → State → State × HydEnd
  | 0, _, _, _, s => (s, .done)
  | fuel + 1, va, len, lb, s =>
    if len = 0 then (s, .done) else
    let k := min len (4096 - va.toNat % 4096)
    match s.resolve e.dom .read va level with
    | (s, .inr f) => (s, .fault f.1 va f.2.1 f.2.2.1)
    | (s, .inl loc) => match s.lateChan loc k with
      | some ch => (s, .late va ch)
      | none => State.hydPart n e level l fuel (va + BitVec.ofNat 64 k) (len - k) (lb + k) (s.copyHome n e l lb loc k)

/-- Copy rows in increasing order, each into the lanes that hold it; counts the rows through. -/
def State.hydRows (n : Nat) (e : Entry) (level : Nat) : List Nat → State → State × HydEnd × Nat
  | [], s => (s, .done, 0)
  | o :: r, s =>
    let parts := ((List.range 256).filter fun l => e.holds e.gpos l o).flatMap fun l => (e.parts e.gpos l o).map fun x => (l, x)
    let t := parts.foldl (fun (a : State × HydEnd) (y : Nat × Bool × Nat × Nat × Nat) => match a.2 with
      | .done => State.hydPart n e level y.1 (y.2.2.2.1 / 4096 + 2) (e.homeVa o y.2) y.2.2.2.1 y.2.2.2.2 a.1
      | _ => a) (s, .done)
    match t.2 with
    | .done => let u := State.hydRows n e level r t.1; (u.1, u.2.1, u.2.2 + 1)
    | f => (t.1, f, 0)

/-- A LOCAL replica's footprint becomes 0 (R266). -/
def State.zeroFill (s : State) (n : Nat) (e : Entry) : State :=
  let lo := stackLoc n e.base
  let hi := lo + 2 ^ 20 * e.units
  let out (a : Nat) : Bool := decide (a < lo) || decide (hi ≤ a)
  (({ s with mem := { s.mem with base := s.mem.base.filter fun c => out c.1, ahead := s.mem.ahead.filter fun a => out a.loc, blots := s.mem.blots.filter fun b => out (b.1 * 64) } } : State).wakeAll lo (hi - lo)).fireAll lo (hi - lo)

/-- The macro stands in a context image. -/
def State.macroSaved (s : State) (x : Nat × Nat) : Bool := s.sched.saved.any fun e => (e.2.bind (·.core)).any fun c => c.owner == x.1 && c.macros.any (·.seq == x.2)
/-- The hydration that is due, if any: its time has come, the host has done its part, every stack of the group holds its entry
(R265), and its BLOAD stands on a core, without a fault open unless the replica was lost (R268). -/
def State.dueHyd (s : State) (n : Nat) : Option Hyd :=
  if !s.running n then none else
  (stackOf s n).hydrate.find? fun h => 
    let e : Entry := (stackOf s n).table.get h.entry
    decide (h.due ≤ s.wall) && h.ticket.isNone && ((List.range (2 ^ e.glog)).all fun p => (s.partner n e p).isSome) && (match h.origin with
    | some x => (match s.macroOf x with
      | some m => (!m.2.faulted || e.state == 3) && (((s.coreAt m.1).strand.map fun t => !t.dormant).getD false)
      | none => !s.macroSaved x)
    | none => true)

/-- Drop a hydration, and its entry and homes where it cannot go on. -/
def State.dropHyd (s : State) (n : Nat) (h : Hyd) (entry : Bool) : State :=
  let k := stackOf s n
  let e : Entry := k.table.get h.entry
  let s := s.setStack n { k with hydrate := k.hydrate.filter (· != h), table := if entry then k.table.set h.entry 0 else k.table }
  if entry then { s with homes := s.homes.filter fun r => !(r.stack == n && r.base == e.base) } else s

/-- An automatic hydration that cannot go on leaves no entry in any stack of its group (R297). -/
def State.dropAuto (s : State) (n : Nat) (e : Entry) : State :=
  (List.range (2 ^ e.glog)).foldl (fun s p =>
    let m := n - e.gpos + p
    let k := stackOf s m
    let mine (x : Entry) : Bool := x.valid && x.key == e.key && x.glog == e.glog && x.gpos == p
    { (s.setStack m { k with table := k.table.filter fun x => !mine x.2, hydrate := k.hydrate.filter fun h => !mine (k.table.get h.entry) }) with
      homes := s.homes.filter fun r => !(r.stack == m && r.base == e.base) }) s
/-- A macro at a queue head that waits for a KEY in a group takes a fault instead (15 Table 15.12). -/
def State.failWaiting (s : State) (f g : Nat) (key : Word) (cause : Nat) (i1 i2 : Word) : State :=
  s.liveCores.foldl (fun s k =>
    let c := s.coreAt k
    match (c.queues.get 5).head? with
    | some q =>
      let op := match q.words with
        | w :: _ => w.toNat / 4 % 256
        | _ => 0
      if c.group? = some (f, g) ∧ q.a = key ∧ 2 ≤ op ∧ op ≤ 5 then
        (s.setCoreAt k (c.record { cause := cause, stream := 5, slot := q.slot, pc := q.folio, i0 := key, i1 := i1, i2 := i2, op := q.seq })).faultJoins k
      else s
    | none => s) s

/-- A BLOAD whose replica is resident in every stack of its group (R283). -/
def State.loaded (s : State) (m : Macro) : Bool := match m.kind with
  | .bload e => m.pos.all (·.ended) && (List.range m.g).all fun p => ((s.partner m.g0 e p).map fun x => Entry.state x == 2).getD false
  | _ => false
/-- STATE 2; a BLOAD whose last stack this was has ended. -/
def State.resident (s : State) (n : Nat) (h : Hyd) : State :=
  let k := stackOf s n
  let s := s.setStack n { k with hydrate := k.hydrate.filter (· != h), table := k.table.set h.entry (Entry.setState (k.table.get h.entry) 2) }
  s.mapCores fun c => { c with macros := c.macros.filter fun m => !s.loaded m }
/-- The rows of a BLOAD that are through (R292): those of every stack together, a row that is split over them once all have it. -/
def State.rowsThrough (s : State) (x : Nat × Nat) (m : Macro) (e : Entry) : Nat :=
  let at_ (p : Nat) : Nat :=
    let mine := ((List.range e.o).filter fun o => (List.range 256).any fun l => e.holds p l o).length
    match (stackOf s (m.g0 + p)).hydrate.find? fun h => h.origin == some x with
    | some h => if e.cols ∧ mine = 0 then e.o else h.rows
    | none => if !(m.pos.getD p {}).ended then 0 else if e.cols then e.o else mine
  let rs := (List.range m.g).map at_
  if e.cols then rs.foldl min e.o else rs.sum

/-- HYDRATION_COMPLETE: the stack's part of a replica is copied from its home and takes STATE 2; a fault is its BLOAD's
(R265, R292); the hydration of a BLOAD that is gone is dropped with its entry (14 R441). -/
def execHydrationComplete (st : BitVec 4) (entry : BitVec 8) (s : State) : Result :=
  let n := st.toNat
  .next (match s.dueHyd n with
    | none => s
    | some h =>
      if h.entry ≠ entry.toNat then s else
      let e : Entry := (stackOf s n).table.get h.entry
      let own := h.origin.bind s.macroOf
      if h.origin.isSome && own.isNone then s.dropHyd n h true else
      if e.isLocal then (s.zeroFill n e).resident n h
      else
        let level := match own with
          | some (k, _) => (s.coreAt k).sc.priv.toNat
          | none => 1
        let rows := ((List.range e.o).filter fun o => (List.range 256).any fun l => e.holds e.gpos l o).drop h.rows
        let r := State.hydRows n e level rows (s.registerGroup n e level)
        let h' : Hyd := { h with
          rows := h.rows + r.2.2
          due := s.wall + 1 }
        let s := (r.1.mapStack n fun k => { k with hydrate := k.hydrate.map fun y => if y = h then h' else y })
        let s := match h.origin with
          | some x => s.mapMacro x fun m => { m with prog := s.rowsThrough x m e }
          | none => s
        match r.2.1 with
        | .done => s.resident n h'
        | .late va ch => (match h.origin with
          | some x => s.mapMacro x fun m => { m with wait := (m.wait.on va (128 + ch)).tick }
          | none => s)
        | .fault c va i1 i2 => (match h.origin with
          | some x => if (own.map fun m => m.2.faulted).getD false then s else s.macroFault x c va e.gpos (i1 ||| i2)
          | none =>
            if e.state = 1 then (s.dropAuto n e).failWaiting (n - e.gpos) (2 ^ e.glog) e.key c i1 i2
            else s.mapStack n fun k => { k with hydrate := k.hydrate.filter (· != h') }))

/-- B_STALL: a home read that has waited 16,384 cycles raises STALL against its BLOAD (R292). -/
def execBStall (s : State) : Result :=
  .next (match s.core.macros.find? fun m => !m.faulted && decide (16384 ≤ m.wait.n) with
    | none => s
    | some m =>
      let p := ((List.range m.g).find? fun p => (stackOf s (m.g0 + p)).hydrate.any fun h => h.origin == some (s.core.owner, m.seq)).getD 0
      s.macroFault (s.core.owner, m.seq) 0x0C m.wait.va p 0)

/-! ### Strikes (R293) -/

/-- STRIKE_LANE: the stack repeats the windows of its unconfirmed products from the next boundary, in order, and what they gave
stays until then; STRIKE_STAT counts each repetition (14 R438). -/
def execStrikeLane (n : BitVec 4) (s : State) : Result :=
  let st := n.toNat
  let k := stackOf s st
  let running := ((s.served st).bind fun x => (s.macroOf x).map fun m => (x, m.2)).filter fun y => (y.2.at st).started && (y.2.at st).endAt.isNone && (match y.2.kind with
    | .product .. => true
    | _ => false)
  let count := k.undo.length + running.toList.length
  let mine (c : Core) : Bool := match c.group? with
    | some g => decide (g.1 ≤ st) && decide (st < g.1 + g.2)
    | none => false
  let s := match running with
    | some (x, m) => (match m.kind with
      | .product _ key ctl _ _ _ _ => let c : Ctl := ctl
                                      (match s.entryFor st m key with
        | some e => s.mapPos x (st - m.g0) fun q => { q with left := e.lefts (st - m.g0) c.row0 c.rows }
        | none => s)
      | _ => s)
    | none => s
  let rest : List (Option (Nat × Nat) × Store Nat) := if k.cyc % 64 = 0 then [] else [(none, [])]
  let s := s.setStack st { stackOf s st with again := if count = 0 then k.again else rest ++ k.undo.map fun u => (some u.1, u.2) }
  .next (s.mapCores fun c => if mine c then { c with strike := (List.range count).foldl (fun v _ => satField v 2) c.strike } else c)

end Sys2Proof.Machine
end

