-- ==== Sys2Proof/Machine/Chip.lean ====
section
/-! DEFINITION. Chip.lean: fencing, reset and loss of chiplets (14 R443 to R445; 01 R16, R32; 08 R255; 09 R268, R292). -/

namespace Sys2Proof.Machine

/-- The status word (Table 14.11). -/
def State.chipStatus (s : State) (k : Nat) : Word :=
  BitVec.ofNat 64 (s.pkg.sockets.get k % 4 + (if k < 16 ∧ s.lost k then 4 else 0) + (if s.pkg.impl.getLsbD k then 256 else 0))
def State.setSocket (s : State) (k v : Nat) : State := { s with pkg := { s.pkg with sockets := s.pkg.sockets.set k v } }

/-! ### What goes with a chiplet -/

/-- A message crosses the boundary of a chiplet: it goes to a stack's own memory or comes from its outputs, comes from a core
die's cores or goes to them, comes from a matrix die's engines. -/
def crosses (socket : Nat) (m : Msg) : Bool :=
  if socket < 16 then m.clk == 2 + socket || m.kind.spans.any fun p => (stackPart p.1).any fun x => x.1 == socket
  else if socket < 24 then m.core / 16 == socket - 16 && (m.clk == 0 || decide (18 ≤ m.clk))
  else m.clk == 1 && m.core / 32 == socket - 24
/-- The boundary closes: a message that the receiving side holds in full is delivered, every other is dropped (R444); which they
are is free, but that nothing reaches the memory that a stack has lost. Also the messages dropped. -/
def State.dropNet (s : State) (socket : Nat) : State × List Msg :=
  let ms := s.net.filter (crosses socket)
  let out := (ms.zipIdx.filter fun x => Config.choice (s.freeCtr + x.2) % 2 == 0 || (decide (socket < 16) && x.1.clk != 2 + socket)).map (·.1)
  (State.bump { s with net := s.net.filter fun m => !out.contains m } ms.length, out)

/-- Strands no longer on the cores `ks` whose effects under `p` are in their holds, or in messages dropped. -/
def State.goneOn (s : State) (ks : List Nat) (p : Eff → Bool) (out : List Msg) : List Nat :=
  let here := ks.filterMap fun k => let c := s.coreAt k
    if c.strand.isSome then some c.owner else none
  ((ks.flatMap fun k => ((s.coreAt k).hold.filter p).map (·.owner)) ++ ((out.filter fun m => !m.kind.query && !m.kind.isReply).map (·.owner))).eraseDups.filter
    fun o => !here.contains o
/-- The DOMAIN and tag of the strand `o`, 32 × node + index. -/
def State.tagOf (s : State) (o : Nat) : Option (Nat × Nat) := (s.node (o / 32)).map fun n => (recDom n.record, recTag n.record)
/-- The tags that a loss purges: those of strands that cannot restart, and of strands that have left with effects not accepted (log 65). -/
def State.lostTags (s : State) (ks gone : List Nat) : List (Nat × Nat) :=
  ((ks.filterMap fun k => (s.coreAt k).strand.bind fun t => if t.restart then none else some (t.dom, t.tag)) ++ gone.filterMap s.tagOf).eraseDups
/-- The stores of the strand `o` that the LLC had not accepted: in the holds of `ks`, of a strand that has left those under `p`,
and in messages dropped. -/
def State.lostStores (s : State) (ks : List Nat) (p : Eff → Bool) (out : List Msg) (o : Nat) : Nat :=
  ((ks.flatMap fun k => (s.coreAt k).hold).filter fun e => p e && e.owner == o && e.kind.isStore).length
    + (out.filter fun m => m.owner == o && m.kind.isStore).length

/-- A strand on a lost chiplet is lost with CHIPLET_LOST: reported as restarted or purged, with the count of its stores that the
LLC had not accepted (R444, R445, 15 R464). -/
def State.reportLost (s : State) (socket op k count : Nat) (tags : List (Nat × Nat)) : State :=
  match (s.coreAt k).strand with
  | none => s
  | some t =>
    let s := if t.restart then s else s.triage { t.report 1 with cause := 0x0E, socket := socket, i1 := BitVec.ofNat 64 socket }
    s.resetEntry 1 socket op (if tags.contains (t.dom, t.tag) then 1 else 0) t.node t.idx t.dom t.tag count
/-- The strands on the cores `ks`, and those that have left the cores `hs` with effects under `p` or in messages dropped, are
reported; the tags that cannot restart, `more` among them, are purged. -/
def State.loseStrands (s : State) (socket op : Nat) (ks hs : List Nat) (p : Eff → Bool) (out : List Msg) (more : List (Nat × Nat)) : State :=
  let gone := s.goneOn hs p out
  let tags := s.lostTags ks gone ++ more
  let s := ks.foldl (fun s k => s.reportLost socket op k (s.lostStores [k] (fun _ => true) out (s.coreAt k).owner) tags) s
  let s := gone.foldl (fun s o => let d := (s.tagOf o).getD (0, 0)
    s.resetEntry 1 socket op 1 (o / 32) (o % 32) d.1 d.2 (s.lostStores hs p out o)) s
  let s := s.mapCores fun c => { c with hold := c.hold.filter fun e => !(gone.contains e.owner && p e) }
  tags.foldl (fun s d => (s.purge d.1 d.2).1) s

/-- A core's own state is gone (Table 1.11). -/
def State.clearCore (s : State) (k : Nat) : State := s.setCoreAt k { flow := { run := (s.coreAt k).flow.run, conf := (s.coreAt k).flow.conf, dom := (s.coreAt k).flow.dom } }
/-- The nodes placed at quad or die scope on a die: it loses their counters with all their strands (11 R347). -/
def State.diesNodes (s : State) (die : Nat) : List (Nat × Node) :=
  s.sched.nodes.filterMap fun e => e.2.bind fun n => if n.phase = 2 ∧ n.scope ≤ 2 ∧ n.live ≠ 0 ∧ dieOf n.scope n.inst = die then some (e.1, n) else none
/-- A RESTARTABLE node waits to be placed again on another die, with the strands that stood on cores; its counters are gone. -/
def State.moveNode (s : State) (h : Nat) : State :=
  let ks := s.liveCores.filter fun k => ((s.coreAt k).strand.map fun t => t.node == h).getD false
  let is := ks.filterMap fun k => (s.coreAt k).strand.map (·.idx)
  let s := ks.foldl State.loseStrand s
  let s := is.foldl (fun s i =>
    let s := s.setRec h i (recState (s.contRec h i) 2)
    { s with sched := { s.sched with saved := s.sched.saved.set (recordKey h i) (some { core := none }) } }) s
  let s := { s with sync := { s.sync with bars := s.sync.bars.filter fun e => !(e.1.2.2.2 == h && decide (e.1.1 ≤ 2)) } }
  match s.node h with
  | none => s
  | some n =>
    let s := s.setNode h (some { n with moved := true, again := n.again ||| BitVec.ofNat 32 (is.map fun i => 2 ^ i).sum })
    if n.moved then s else { s with sched := s.sched.push n.level (h, none) }

/-- A core die: its strands, then all that its cores and their quads' engines held of them. -/
def State.loseCoreDie (s : State) (socket op : Nat) (out : List Msg) : State :=
  let die := socket - 16
  let cores := (List.range 16).map (16 * die + ·)
  let bound (h : Nat) : Bool := s.liveCores.all fun k => ((s.coreAt k).strand.map fun t => t.node != h || t.restart).getD true
  let stay := (s.diesNodes die).filter fun e => !(e.2.record.getLsbD 139 && bound e.1)
  let s := s.loseStrands socket op cores cores (fun _ => true) out (stay.map fun e => (recDom e.2.record, recTag e.2.record))
  let s := (s.diesNodes die).foldl (fun s e => s.moveNode e.1) s
  let s := cores.foldl State.restartOrPurge s
  cores.foldl (fun s k => (s.setQuad (k / 4) ((quadOf s (k / 4)).leave k)).clearCore k) s
/-- A matrix die: rings and contexts of the 32 cores it serves (08 R255), and what its engines' holds kept. -/
def State.loseMatrixDie (s : State) (socket op : Nat) (out : List Msg) : State :=
  let q := socket - 24
  let cores := (List.range 32).map (32 * q + ·)
  let mine (e : Eff) : Bool := e.clk == 1
  let s := s.loseStrands socket op cores cores mine out []
  let s := cores.foldl State.restartOrPurge s
  (List.range 8).foldl (fun s i => s.setQuad (8 * q + i) {}) s

/-- The address or KEY that a lost macro's record names (09 R292). -/
def Macro.named (m : Macro) : Word := match m.kind with
  | .units _ d _ => d + BitVec.ofNat 64 (2048 * m.prog)
  | k => k.key?.getD 0
/-- The macros that were running on a stack fault; their parts start afresh when they resume. -/
def State.loseMacros (s : State) (n : Nat) (out : List Msg) : State :=
  (s.macrosOn n).foldl (fun s x =>
    let k := (x.2.1, x.2.2.seq)
    let q := x.2.2.at n
    let held := ((s.coreAt x.1).hold.any fun e => e.stream == 5 && e.seq == x.2.2.seq && e.owner == x.2.1 && decide (2 ≤ e.clk))
      || out.any fun m => m.clk == 2 + n && m.seq == x.2.2.seq && m.owner == x.2.1
    let hyd := (stackOf s n).hydrate.any fun h => h.origin == some k
    if !((q.arrived && !q.ended) || (q.ended && x.2.2.outAt.isSome && !x.2.2.produced) || (x.2.2.produced && held) || hyd) then s else
    let s := s.mapOwner k.1 fun c => { c with hold := c.hold.filter fun e => !(e.stream == 5 && e.seq == k.2 && e.owner == k.1 && decide (2 ≤ e.clk)) }
    let s := s.macroFault k 0x0E x.2.2.named (n - x.2.2.g0) 0
    s.mapMacro k fun m => { m with
      produced := false
      outAt := none
      pos := m.pos.map fun q => match m.kind with
        | .product .. => {}
        | _ => if q.ended then q else { q.stopped with endAt := none } }) s

/-- Bytes that the spec leaves open, in place of `n` lost ones (log 5). -/
def State.wild (s : State) (loc n : Nat) : State :=
  State.bump { s with mem := { s.mem with base := s.mem.base.writeRun loc ((List.range n).map fun i => Config.byte (s.freeCtr + i)) } } n

/-- A bank stack: macros, lanes, local regions and replicas; each replica takes STATE 3 in its whole group, and one with a home
rehydrates, for its BLOAD where one was at it, by the sequencers (09 R268). Outputs of strands that have left go with it (log 65). -/
def State.loseStack (s : State) (n op : Nat) (out : List Msg) : State :=
  let s := s.loseMacros n out
  let live := s.liveCores.filterMap fun k => let c := s.coreAt k
    if c.strand.isSome then some c.owner else none
  let s := s.loseStrands n op [] s.liveCores (fun e => e.clk == 2 + n && !live.contains e.owner)
    (out.filter fun m => m.clk == 2 + n && !live.contains m.owner) []
  let k := stackOf s n
  let lo := stackLoc n 0
  let here (a : Nat) : Bool := decide (lo ≤ a) && decide (a < lo + 2 ^ 37)
  let es := (k.table.map (·.2)).filter Entry.valid
  let s := s.setStack n { k with
    act := [], actBlot := [], acc := [], order := [], refreshing := [], undo := [], again := [], lost := true, resetSince := true,
    hydrate := k.hydrate.map fun h => { h with rows := 0 } }
  let s : State := { s with mem := { s.mem with base := s.mem.base.filter fun c => !here c.1, ahead := s.mem.ahead.filter fun a => !here a.loc, blots := s.mem.blots.filter fun b => !here (b.1 * 64) } }
  let s := es.foldl (fun s e => s.wild (lo + e.base) (2 ^ 20 * e.units)) s
  es.foldl (fun s e => (List.range (2 ^ e.glog)).foldl (fun s p =>
    let m := n - e.gpos + p
    let t := stackOf s m
    match t.table.find? fun x => Entry.valid x.2 && Entry.key x.2 == e.key && Entry.glog x.2 == e.glog && Entry.gpos x.2 == p with
    | none => s
    | some x =>
      let old := t.hydrate.find? fun h => h.entry == x.1
      let rest := t.hydrate.filter fun h => h.entry != x.1
      (s.setStack m { t with
        table := t.table.set x.1 (Entry.setState x.2 3)
        hydrate := if e.isLocal then rest else rest ++
          [{ entry := x.1, due := s.wall + 1 + Config.delay s.freeCtr, origin := old.bind (·.origin) }] }).bump) s) s

/-- A chiplet is fenced, by an operation (1 fence, 2 reset, 3 loss): what it held is lost, once; a checkpoint that runs fails. -/
def State.fenceChip (s : State) (k op : Nat) : State :=
  if s.pkg.sockets.get k ≠ 0 then s else
  let (s, out) := s.dropNet k
  let s := if k < 16 then s.loseStack k op out else if k < 24 then s.loseCoreDie k op out else s.loseMatrixDie k op out
  let s := s.setSocket k 1
  let s := s.triage { kind := 7, cause := 0x0E, socket := k }
  if s.host.ckptCtl.getLsbD 2 then { s with host := { s.host with ckptCtl := s.host.ckptCtl ||| 0x10, ckptLost := s.host.ckptLost ||| (1 <<< k) } } else s
/-- A reset returns a fenced chiplet to service (R445); what a stack held is lost with it however it was fenced (05 R143). -/
def State.resetChip (s : State) (k : Nat) : State :=
  (if s.pkg.sockets.get k = 0 then s.fenceChip k 2 else if k < 16 then s.loseStack k 2 [] else s).setSocket k 0
/-- The entry that closes an operation (15 R464). -/
def State.closeOp (s : State) (k op : Nat) : State := s.resetEntry 2 k op 0 0 0 0 0 0

/-- Clearlost: every byte outside replica footprints becomes 0; the lost state ends (R445). -/
def State.clearLost (s : State) (n : Nat) : State :=
  let lo := stackLoc n 0
  let es := ((stackOf s n).table.map (·.2)).filter Entry.valid
  let keep (a : Nat) : Bool := decide (a < lo) || decide (lo + 2 ^ 37 ≤ a) || es.any fun e => e.covers (a - lo) 1
  let s := s.mapStack n fun k => { k with lost := false }
  { s with mem := { s.mem with base := s.mem.base.filter fun c => keep c.1, ahead := s.mem.ahead.filter fun a => keep a.loc, blots := s.mem.blots.filter fun b => keep (b.1 * 64) } }

/-! ### CHIPOP -/

/-- CHIPOP on the socket in s[a]: its level, its operand checks, its effect, then the status word at dispatch + 1. -/
def State.chipop (s : State) (w : FB) (level : Nat) (bad : Nat → Bool) (k : Nat → State → State) : State :=
  let n := (s.rs w.a.toNat).toNat % 32
  s.needs level (if 28 ≤ n ∨ bad n then s.raise 0x02 (s.rs w.a.toNat) else
    let t := k n s
    if t.core.strand = none then t.done else (t.postS 1 w.d.toNat (t.chipStatus n)).done)
/-- The core die that holds the issuing core. -/
def State.ownDie (s : State) (n : Nat) : Bool := n == 16 + s.id / 16

def execChipopStatus (w : FB) (s : State) : Result := .next (s.chipop w 1 (fun _ => false) fun _ s => s)
def execChipopFence (w : FB) (s : State) : Result := .next (s.chipop w 2 s.ownDie fun n s => (s.fenceChip n 1).closeOp n 1)
def execChipopReset (w : FB) (s : State) : Result := .next (s.chipop w 2 s.ownDie fun n s => (s.resetChip n).closeOp n 2)
def execChipopClearlost (w : FB) (s : State) : Result := .next (s.chipop w 2 (fun n => decide (16 ≤ n)) fun n s => s.clearLost n)

/-- CHIPLET_LOSS: a link has exhausted its retries (01 R16): the chiplet is fenced, and with FUNC_MODE.CRST the host decides
on its reset (15 Table 15.12). -/
def execChipletLoss (socket : BitVec 5) (s : State) : Result :=
  let k := socket.toNat
  .next (if 28 ≤ k ∨ s.pkg.sockets.get k ≠ 0 then s else
    let s := (s.fenceChip k 3).closeOp k 3
    if s.host.funcMode.getLsbD 6 then s.service 6 s.id [BitVec.ofNat 8 k, 0x0E] else s)

end Sys2Proof.Machine
end

