-- ==== Sys2Proof/Machine/Collective.lean ====
section
/-! DEFINITION. Collective.lean: the collective engines: runs, their steps, their records and ABORT (13 R402 to R409). -/

namespace Sys2Proof.Machine

/-! ### Runs -/

/-- The run at the head of an engine: runs start and go one at a time, in acceptance order (13 R402). -/
def State.headRun (s : State) (q : Nat) : Option Run := (collOf s q).runs.head?
/-! Fields of a step (13 Table 13.9). -/

abbrev CStep := BitVec 128
def stepF (x : CStep) (lo n : Nat) : Nat := (x.extractLsb' lo n).toNat
def stepOp (x : CStep) : Nat := stepF x 0 4
/-- The step a run stands at; past the last it is END. -/
def Run.cur (r : Run) : CStep := r.steps.getD r.step 0
def Run.op (r : Run) : Nat := stepOp r.cur

/-- Legal values of a step in a program of `n` ranks, at index `i`. -/
def badStep (n i : Nat) (x : CStep) : Bool :=
  let op := stepOp x
  decide (6 < op) || stepF x 5 3 != 0 || stepF x 38 26 != 0 || stepF x 74 6 != 0 || stepF x 96 32 != 0
  || (stepF x 4 1 != 0 && op != 1 && op != 3 && op != 4)
  || decide (n ≤ stepF x 8 8) || (stepF x 8 8 != 0 && op != 1 && op != 3)
  || (op == 6 && (decide (i ≤ stepF x 64 8) || stepF x 80 16 == 0))
  || (op != 6 && (stepF x 72 2 != 0 || stepF x 80 16 != 0))

/-- Distinct bytes. -/
def distinct : List Nat → Bool
  | [] => true
  | x :: r => !r.contains x && distinct r

/-- The checks of R404 before the first step. -/
def Run.illegalNow (r : Run) (f : Fabric) : Bool :=
  let h (lo n : Nat) : Nat := runHeader r lo n
  h 22 2 != 0 || h 28 4 != 0 || h 448 64 != 0 || decide (3 < h 24 4) || h 48 16 == 0
  || decide (h 0 8 < h 8 8)
  || (List.range 4).any (fun k => h (128 + 64 * k) 12 != 0 || h (170 + 64 * k) 22 != 0)
  || !distinct r.rtab || r.rtab.any (fun p => decide ((f.podId >>> 8).toNat % 256 < p)) || r.rtab.getD (h 8 8) 256 != f.own
  || (r.steps.mapIdx fun i x => badStep (runN r) i x).any id

/-- ABORT of a collective (13 R409). -/
def execCollAbort (cid : BitVec 16) (s : State) : Result := .next (s.abortAll cid.toNat)

/-- RUN_START: the engine reads the steps and the rank table and checks the program (13 R402, R404). -/
def execRunStart (q : BitVec 2) (s : State) : Result :=
  let q := q.toNat
  .next (match s.headRun q with
    | none => s
    | some r =>
      if r.started || r.stopped then s else
      let n := runHeader r 16 6 + 1
      match State.readAt r.dom r.level 2 (r.va + 64) (16 * n) s with
      | (s, .inr f) => (match State.readAt r.dom r.level 2 (BitVec.ofNat 64 (runHeader r 64 64)) (runN r) s with
        | (s, .inl (tb, _)) => (s.mapRun q r.ticket fun r => { r with started := true, rtab := tb.map (·.toNat) }).runFault q { r with rtab := tb.map (·.toNat) } f.1
        | (s, .inr _) => ((s.mapRun q r.ticket fun r => { r with started := true }).runFault q r f.1).triage
          { kind := 9, cause := f.1, dom := r.dom, tag := r.tag })
      | (s, .inl (bs, _)) =>
        match State.readAt r.dom r.level 2 (BitVec.ofNat 64 (runHeader r 64 64)) (runN r) s with
        | (s, .inr f) =>
          ((s.mapRun q r.ticket fun r => { r with started := true, flt := some f.1 })).triage { kind := 9, cause := f.1, dom := r.dom, tag := r.tag }
        | (s, .inl (tb, _)) =>
          let r' : Run := { r with
            started := true
            rtab := tb.map (·.toNat)
            steps := (List.range n).map fun i => BitVec.ofNat 128 (leNat ((bs.drop (16 * i)).take 16)) }
          s.mapRun q r.ticket fun _ => { r' with illegal := r'.illegalNow s.fab })

/-! ### Where a step's granules lie (13 R405) -/

/-- The step's chunk index. -/
def Run.chunk0 (r : Run) : Nat :=
  let x := r.cur
  let l : Int := ((r.ctr.getD (stepF x 36 2) 0 : Nat) : Int)
  ((((runHeader r 8 8 : Nat) : Int) + (x.extractLsb' 20 8).toInt + (x.extractLsb' 28 8).toInt * l) % ((runN r : Nat) : Int)).toNat
/-- The chunks a step covers. -/
def Run.chunks (r : Run) : List Nat := (List.range (stepF r.cur 64 8 + 1)).map fun i => (r.chunk0 + i) % runN r
/-- Granules of 64 bytes in a step. -/
def Run.grans (r : Run) : Nat := (stepF r.cur 64 8 + 1) * (runChunk r / 64)
/-- The window offset of granule `i` of the step in buffer `k`. -/
def Run.granOff (r : Run) (k i : Nat) : Nat :=
  let per := runChunk r / 64
  runBuf r k + (r.chunk0 + i / per) % runN r * runChunk r + i % per * 64
def Run.acc (r : Run) : Option Nat := if r.cur.getLsbD 4 then some (runHeader r 24 4) else none
def Run.next (r : Run) : Run := { r with step := r.step + 1, chunk := 0 }
/-- One more granule of the step done. -/
def Run.advance (r : Run) : Run := if r.chunk + 1 < r.grans then { r with chunk := r.chunk + 1 } else r.next

/-- The peer of a SEND or RRS. -/
def Run.peer (r : Run) : Nat := r.rtab.getD ((runHeader r 8 8 + stepF r.cur 8 8) % runN r) 0

/-- Read one granule locally: location bytes and blot, under R392 with this package as the origin. -/
def State.readGran (s : State) (off : Nat) : Option (State × List Byte × Bool) :=
  (s.window s.fab.own off 64 1).map fun loc => let s := s.inject loc 64 false; (s, s.bytesAt loc 64, s.mem.blotted loc 64)

/-- Send one granule as a counted write (13 R405, R406). -/
def State.sendGran (s : State) (q : Nat) (r : Run) : State :=
  let t := r.peer
  if 4096 ≤ s.unacked t then s else
  if !s.fab.reach t then s.runFault q r 0x16 else
  match s.readGran (r.granOff (stepF r.cur 16 2) r.chunk) with
  | none => s.runFault q r 0x06
  | some (s, bs, blot) =>
    let req : FabReq := { origin := 0, target := 0, txn := 0, off := BitVec.ofNat 42 (r.granOff (stepF r.cur 18 2) r.chunk), data := bs, blots := [blot],
                          op := .counted r.acc.isSome (BitVec.ofNat 4 (runHeader r 24 4)) }
    let txn := s.fab.txn.get t
    let s := State.fabSend { s with nextId := s.nextId + 1 } s.nextId none 0 t none req [] { cause := 0, stream := 0, slot := 0, pc := 0 }
    s.mapRun q r.ticket fun r => { r.advance with unacked := r.unacked ++ [(t, txn)] }

/-- Locations of the tiles of the step's source chunks; `none` where one lies outside a window or carved storage. -/
def State.tiles (s : State) (r : Run) : Option (List Nat) :=
  r.chunks.foldr (fun j (acc : Option (List Nat)) => acc.bind fun ls =>
    (List.range (runChunk r / 4096)).foldr (fun t (acc : Option (List Nat)) => acc.bind fun ls =>
      (s.window s.fab.own (runBuf r (stepF r.cur 16 2) + j * runChunk r + t * 4096) 4096 1).bind fun loc =>
        if rangeOf (paOf loc) = .carve then some (loc :: ls) else none) (some ls)) (some [])
def State.allReady (s : State) (r : Run) : Bool := match s.tiles r with
  | none => true
  | some ls => ls.all s.mem.tileReady
/-- Consumption clears the counter and READY of each tile (13 R407). -/
def Mem.consume (m : Mem) (ls : List Nat) : Mem :=
  { m with tiles := ls.foldl (fun t l => t.set (Mem.tileOf l) (t.get (Mem.tileOf l) / 256 * 256)) m.tiles }

/-- The run whose turn it is, at a step of this operation. -/
def State.runAt (s : State) (q op : Nat) : Option Run := (s.headRun q).bind fun r => if r.started && !r.stopped && r.op == op then some r else none

/-! ### The steps (13 R405) -/

def execCollSend (q : BitVec 2) (s : State) : Result :=
  .next (match s.runAt q.toNat 1 with
    | none => s
    | some r => s.sendGran q.toNat r)

def execCollRecv (q : BitVec 2) (s : State) : Result :=
  .next (match s.runAt q.toNat 2 with
    | none => s
    | some r => match s.tiles r with
      | none => s.runFault q.toNat r 0x06
      | some ls =>
        if !ls.all s.mem.tileReady then s else
        State.mapRun { s with mem := s.mem.consume ls } q.toNat r.ticket Run.next)

def execCollRrs (q : BitVec 2) (s : State) : Result :=
  .next (match s.runAt q.toNat 3 with
    | none => s
    | some r =>
      if 0 < r.chunk then s.sendGran q.toNat r else
      match s.tiles r with
      | none => s.runFault q.toNat r 0x06
      | some ls =>
        if !ls.all s.mem.tileReady || decide (4096 ≤ s.unacked r.peer) then s else
        State.sendGran { s with mem := s.mem.consume ls } q.toNat r)

def execCollCopy (q : BitVec 2) (s : State) : Result :=
  .next (match s.runAt q.toNat 4 with
    | none => s
    | some r => match s.readGran (r.granOff (stepF r.cur 16 2) r.chunk) with
      | none => s.runFault q.toNat r 0x06
      | some (s, bs, blot) =>
        let off := r.granOff (stepF r.cur 18 2) r.chunk
        match s.window s.fab.own off 64 (if r.acc.isSome then 10 else 2) with
        | none => s.runFault q.toNat r 0x06
        | some loc =>
          let bad := blot || (r.acc.isSome && s.mem.blotted loc 64)
          let data := match r.acc with
            | some red => redBytes red (s.bytesAt loc 64) bs
            | none => bs
          (s.commit loc data bad portAgent).mapRun q.toNat r.ticket fun r => if bad then (r.blotAt off).advance else r.advance)

def execCollWait (q : BitVec 2) (s : State) : Result :=
  .next (match s.runAt q.toNat 5 with
    | none => s
    | some r => if r.unacked.isEmpty then s.mapRun q.toNat r.ticket Run.next else s)

/-- L[LCNT] counts up, and the body runs again while it is below COUNT. -/
def execCollLoop (q : BitVec 2) (s : State) : Result :=
  .next (match s.runAt q.toNat 6 with
    | none => s
    | some r =>
      let x := r.cur
      let l := stepF x 72 2
      let v := r.ctr.getD l 0 + 1
      let set (v : Nat) : List Nat := (List.range 4).map fun i => if i = l then v else r.ctr.getD i 0
      s.mapRun q.toNat r.ticket fun r =>
        if v < stepF x 80 16 then { r with ctr := set v, step := stepF x 64 8, chunk := 0 } else { r.next with ctr := set 0 })

/-! ### The end of a run (13 R405, R409) -/

def Run.record (r : Run) : BitVec 512 :=
  let b (x : Bool) (n : Nat) : Nat := if x then n else 0
  packAt 512 [(0, 1 + b (r.flt.isSome || r.aborted || r.illegal) 2 + b r.aborted 4 + b r.illegal 8), (1, r.flt.getD 0), (4, r.ticket),
    (8, r.blots), (16, r.firstBlot.toNat), (24, r.step % 256), (32, r.ctr.getD 0 0), (34, r.ctr.getD 1 0), (36, r.ctr.getD 2 0), (38, r.ctr.getD 3 0)]

/-- The run may end: stopped, or at END with every counted write acknowledged. -/
def Run.ended (r : Run) : Bool := r.stopped || (r.started && r.op == 0 && r.unacked.isEmpty)

/-- END: the record is written, as a release, and the run leaves its engine; a run that cannot write it is reported. -/
def execCollEnd (q : BitVec 2) (s : State) : Result :=
  let q := q.toNat
  .next (match (collOf s q).runs.find? Run.ended with
    | none => s
    | some r =>
      if r.started && !r.stopped && (s.headRun q).map (·.ticket) != some r.ticket then s else
      let s := s.setColl q { collOf s q with runs := (collOf s q).runs.filter fun x => x.ticket != r.ticket }
      let va : Word := BitVec.ofNat 64 (runHeader r 384 64)
      let rep : Report := { kind := 9, cause := r.flt.getD 0, i0 := va, dom := r.dom, tag := r.tag }
      if va.toNat % 64 ≠ 0 then s.triage { rep with cause := 0x07 } else
      match s.resolve r.dom .write va r.level with
      | (s, .inl loc) => s.commit loc (bvBytes r.record) false { level := BitVec.ofNat 2 r.level, domain := BitVec.ofNat 6 r.dom, host := false }
      | (s, .inr f) => s.triage { rep with cause := f.1 })

end Sys2Proof.Machine
end

