-- ==== Sys2Proof/Decode.lean ====
section
/-! DEFINITION. Decode.lean: the decoder of one instruction, total on any words, and the encoder, from 02 Tables 2.2,
2.3, 2.7 and 2.8.
A refusal is the decode sub-code of 02 Table 2.6. Instr has more constructors with fields than Lean's runtime has
object tags, so the functions that build one are noncomputable; the kernel evaluates them, and Machine/Direct.lean runs
an instruction from its words without building it. -/

namespace Sys2Proof
open Machine

/-- The instruction of space S in words without a defect. -/
noncomputable def buildS (_len opc : Nat) (a b _c : SlotWord) : Instr :=
  match opc with
  | 0 => .nop (FE.dec a)
  | 1 => .br (FD.dec a)
  | 2 => .brc (FD.dec a)
  | 3 => .call (FD.dec a)
  | 4 => .calli (FA.dec a)
  | 5 => .ret (FE.dec a)
  | 6 => .jmpi (FA.dec a)
  | 7 => .loop (FD.dec a)
  | 8 => .loopset (FB.dec a)
  | 9 => .exit (FE.dec a)
  | 10 => .yield (FE.dec a)
  | 11 => .suspend (FE.dec a)
  | 12 => .seal (FE.dec a)
  | 13 => .trap (FE.dec a)
  | 14 => .brk (FE.dec a)
  | 16 => .add (FA.dec a)
  | 17 => .sub (FA.dec a)
  | 18 => .mul (FA.dec a)
  | 19 => .mulh (FA.dec a)
  | 20 => .mulhn (FA.dec a)
  | 21 => .div (FA.dec a)
  | 22 => .divn (FA.dec a)
  | 23 => .rem (FA.dec a)
  | 24 => .remn (FA.dec a)
  | 25 => .and (FA.dec a)
  | 26 => .or (FA.dec a)
  | 27 => .xor (FA.dec a)
  | 28 => .andn (FA.dec a)
  | 29 => .shl (FA.dec a)
  | 30 => .shr (FA.dec a)
  | 31 => .sha (FA.dec a)
  | 32 => .rot (FA.dec a)
  | 33 => .min (FA.dec a)
  | 34 => .max (FA.dec a)
  | 35 => .minn (FA.dec a)
  | 36 => .maxn (FA.dec a)
  | 37 => .clz (FA.dec a)
  | 38 => .ctz (FA.dec a)
  | 39 => .popc (FA.dec a)
  | 40 => .ext (FA.dec a)
  | 41 => .extn (FA.dec a)
  | 42 => .ins (FA.dec a)
  | 43 => .sel (FA.dec a)
  | 44 => .lea (FA.dec a)
  | 45 => .cmp (FA.dec a)
  | 48 => .movi (FC.dec a)
  | 49 => if a.extractLsb' 16 1 = 1 then .movlHi (FC.dec a) b else .movl (FC.dec a) b
  | 50 => .movhi (FC.dec a)
  | 51 => .addi (FB.dec a)
  | 52 => .muli (FB.dec a)
  | 53 => .andi (FB.dec a)
  | 54 => .ori (FB.dec a)
  | 55 => .xori (FB.dec a)
  | 56 => .shli (FB.dec a)
  | 57 => .shri (FB.dec a)
  | 58 => .shai (FB.dec a)
  | 59 => .cmpi (FB.dec a)
  | 60 => .pand (FA.dec a)
  | 61 => .por (FA.dec a)
  | 62 => .pxor (FA.dec a)
  | 63 => if a.extractLsb' 28 4 = 1 then .movpToP (FA.dec a) else if a.extractLsb' 28 4 = 2 then .movpToB (FA.dec a) else if a.extractLsb' 28 4 = 3 then .movpFromB (FA.dec a) else if a.extractLsb' 28 4 = 4 then .movpToK (FA.dec a) else if a.extractLsb' 28 4 = 5 then .movpFromK (FA.dec a) else if a.extractLsb' 28 4 = 6 then .movpFromLc (FA.dec a) else if a.extractLsb' 28 4 = 7 then .movpKToP (FA.dec a) else .movpFromP (FA.dec a)
  | 64 => .fadd (FA.dec a)
  | 65 => .fsub (FA.dec a)
  | 66 => .fmul (FA.dec a)
  | 67 => .ffma (FA.dec a)
  | 68 => .fdiv (FA.dec a)
  | 69 => .fsqrt (FA.dec a)
  | 70 => .fmin (FA.dec a)
  | 71 => .fmax (FA.dec a)
  | 72 => .fabs (FA.dec a)
  | 73 => .fneg (FA.dec a)
  | 74 => .fcmp (FA.dec a)
  | 75 => .fcvti (FA.dec a)
  | 76 => .icvtf (FA.dec a)
  | 80 => .ld (FB.dec a) (MW.dec b)
  | 81 => .st (FB.dec a) (MW.dec b)
  | 82 => .lds (FB.dec a) (MW.dec b)
  | 83 => .sts (FB.dec a) (MW.dec b)
  | 84 => .fence (FC.dec a)
  | 85 => .waitw (FB.dec a) (MW.dec b)
  | 86 => .lrec (FB.dec a) (MW.dec b)
  | 87 => .tkwait (FE.dec a)
  | 88 => .tksig (FE.dec a)
  | 96 => .aadd (FA.dec a) (MW.dec b)
  | 97 => .aand (FA.dec a) (MW.dec b)
  | 98 => .aor (FA.dec a) (MW.dec b)
  | 99 => .axor (FA.dec a) (MW.dec b)
  | 100 => .amin (FA.dec a) (MW.dec b)
  | 101 => .amax (FA.dec a) (MW.dec b)
  | 102 => .aminn (FA.dec a) (MW.dec b)
  | 103 => .amaxn (FA.dec a) (MW.dec b)
  | 104 => .aswp (FA.dec a) (MW.dec b)
  | 105 => .acas (FA.dec a) (MW.dec b)
  | 106 => .afadd (FA.dec a) (MW.dec b)
  | 107 => .ainc (FA.dec a) (MW.dec b)
  | 108 => .radd (FA.dec a) (MW.dec b)
  | 109 => .rand (FA.dec a) (MW.dec b)
  | 110 => .ror (FA.dec a) (MW.dec b)
  | 111 => .rxor (FA.dec a) (MW.dec b)
  | 112 => .rmin (FA.dec a) (MW.dec b)
  | 113 => .rmax (FA.dec a) (MW.dec b)
  | 114 => .rfadd (FA.dec a) (MW.dec b)
  | 115 => .rbfadd (FA.dec a) (MW.dec b)
  | 128 => .bar (FA.dec a)
  | 129 => .barv (FA.dec a)
  | 130 => .bwait (FA.dec a)
  | 131 => .trig (FA.dec a)
  | 132 => .gwait (FA.dec a)
  | 133 => .spawn (FA.dec a)
  | 134 => .nsub (FA.dec a)
  | 135 => .prio (FA.dec a)
  | 136 => .jarv (FA.dec a)
  | 137 => .jwait (FA.dec a)
  | 138 => .watch (FA.dec a)
  | 139 => .unwatch (FA.dec a)
  | 144 => .pld (FA.dec a) (MW.dec b)
  | 145 => if a.extractLsb' 28 4 = 8 then .pstBlock (FA.dec a) (MW.dec b) else .pst (FA.dec a) (MW.dec b)
  | 146 => .pfaa (FA.dec a) (MW.dec b)
  | 147 => .pcas (FA.dec a) (MW.dec b)
  | 148 => .pred (FA.dec a) (MW.dec b)
  | 149 => .pfence (FA.dec a) (MW.dec b)
  | 150 => .clrun (FA.dec a) (MW.dec b)
  | 151 => .clwait (FA.dec a) (MW.dec b)
  | 224 => .mfs (FC.dec a)
  | 225 => .mts (FC.dec a)
  | 226 => .svc (FE.dec a)
  | 227 => if a.extractLsb' 10 2 = 1 then .rftSkip (FE.dec a) else if a.extractLsb' 10 2 = 2 then .rftPark (FE.dec a) else if a.extractLsb' 10 2 = 3 then .rftRestart (FE.dec a) else .rftResume (FE.dec a)
  | 228 => .tlbi (FA.dec a)
  | 229 => .tlbia (FE.dec a)
  | 230 => if a.extractLsb' 28 4 = 1 then .llcopUncarve (FA.dec a) (MW.dec b) else if a.extractLsb' 28 4 = 2 then .llcopClean (FA.dec a) (MW.dec b) else if a.extractLsb' 28 4 = 3 then .llcopFlush (FA.dec a) (MW.dec b) else .llcopCarve (FA.dec a) (MW.dec b)
  | 231 => .purge (FA.dec a)
  | 232 => if a.extractLsb' 22 10 = 1 then .chipopFence (FB.dec a) else if a.extractLsb' 22 10 = 2 then .chipopReset (FB.dec a) else if a.extractLsb' 22 10 = 3 then .chipopClearlost (FB.dec a) else .chipopStatus (FB.dec a)
  | 233 => .wfi (FE.dec a)
  | _ => .nop (FE.dec a)

/-- The instruction of space V in words without a defect. -/
noncomputable def buildV (len opc : Nat) (a b c : SlotWord) : Instr :=
  match opc with
  | 0 => .vnop (FV.dec a)
  | 1 => .vview (FV.dec a) (VW.dec b) c
  | 2 => .tview (FV.dec a) (VW.dec b) c
  | 3 => if len = 1 then .vmov32 (FV.dec a) else .vmov64 (FV.dec a) (VW.dec b)
  | 4 => if len = 1 then .vxmov32 (FV.dec a) else .vxmov64 (FV.dec a) (VW.dec b)
  | 5 => if len = 1 then .vbcast32 (FV.dec a) else .vbcast64 (FV.dec a) (VW.dec b)
  | 6 => if len = 1 then .vtos32 (FV.dec a) else .vtos64 (FV.dec a) (VW.dec b)
  | 7 => if len = 1 then .vmset32 (FV.dec a) else .vmset64 (FV.dec a) (VW.dec b)
  | 8 => if len = 1 then .vmand32 (FV.dec a) else .vmand64 (FV.dec a) (VW.dec b)
  | 9 => if len = 1 then .vmor32 (FV.dec a) else .vmor64 (FV.dec a) (VW.dec b)
  | 10 => if len = 1 then .vmxor32 (FV.dec a) else .vmxor64 (FV.dec a) (VW.dec b)
  | 11 => if len = 1 then .vmpop32 (FV.dec a) else .vmpop64 (FV.dec a) (VW.dec b)
  | 12 => .vtkw (FV.dec a)
  | 13 => .vtks (FV.dec a)
  | 16 => if len = 1 then .vadd32 (FV.dec a) else .vadd64 (FV.dec a) (VW.dec b)
  | 17 => if len = 1 then .vsub32 (FV.dec a) else .vsub64 (FV.dec a) (VW.dec b)
  | 18 => if len = 1 then .vadds32 (FV.dec a) else .vadds64 (FV.dec a) (VW.dec b)
  | 19 => if len = 1 then .vsubs32 (FV.dec a) else .vsubs64 (FV.dec a) (VW.dec b)
  | 20 => if len = 1 then .vmul32 (FV.dec a) else .vmul64 (FV.dec a) (VW.dec b)
  | 21 => if len = 1 then .vmulh32 (FV.dec a) else .vmulh64 (FV.dec a) (VW.dec b)
  | 22 => if len = 1 then .vmulw32 (FV.dec a) else .vmulw64 (FV.dec a) (VW.dec b)
  | 23 => .vmac (FV.dec a) (VW.dec b)
  | 24 => .vmacw (FV.dec a) (VW.dec b)
  | 25 => .vdot4 (FV.dec a) (VW.dec b)
  | 26 => if len = 1 then .vand32 (FV.dec a) else .vand64 (FV.dec a) (VW.dec b)
  | 27 => if len = 1 then .vor32 (FV.dec a) else .vor64 (FV.dec a) (VW.dec b)
  | 28 => if len = 1 then .vxor32 (FV.dec a) else .vxor64 (FV.dec a) (VW.dec b)
  | 29 => if len = 1 then .vshl32 (FV.dec a) else .vshl64 (FV.dec a) (VW.dec b)
  | 30 => if len = 1 then .vshr32 (FV.dec a) else .vshr64 (FV.dec a) (VW.dec b)
  | 31 => if len = 1 then .vsha32 (FV.dec a) else .vsha64 (FV.dec a) (VW.dec b)
  | 32 => if len = 1 then .vmin32 (FV.dec a) else .vmin64 (FV.dec a) (VW.dec b)
  | 33 => if len = 1 then .vmax32 (FV.dec a) else .vmax64 (FV.dec a) (VW.dec b)
  | 34 => if len = 1 then .vabs32 (FV.dec a) else .vabs64 (FV.dec a) (VW.dec b)
  | 35 => if len = 1 then .vneg32 (FV.dec a) else .vneg64 (FV.dec a) (VW.dec b)
  | 36 => if len = 1 then .vcmp32 (FV.dec a) else .vcmp64 (FV.dec a) (VW.dec b)
  | 37 => .vsel (FV.dec a) (VW.dec b)
  | 38 => .vaddmin (FV.dec a) (VW.dec b)
  | 39 => .vaddmax (FV.dec a) (VW.dec b)
  | 40 => if len = 1 then .vclz32 (FV.dec a) else .vclz64 (FV.dec a) (VW.dec b)
  | 41 => if len = 1 then .vpopc32 (FV.dec a) else .vpopc64 (FV.dec a) (VW.dec b)
  | 48 => if len = 1 then .vfadd32 (FV.dec a) else .vfadd64 (FV.dec a) (VW.dec b)
  | 49 => if len = 1 then .vfsub32 (FV.dec a) else .vfsub64 (FV.dec a) (VW.dec b)
  | 50 => if len = 1 then .vfmul32 (FV.dec a) else .vfmul64 (FV.dec a) (VW.dec b)
  | 51 => .vfma (FV.dec a) (VW.dec b)
  | 52 => .vfms (FV.dec a) (VW.dec b)
  | 53 => .vfnma (FV.dec a) (VW.dec b)
  | 54 => if len = 1 then .vfmin32 (FV.dec a) else .vfmin64 (FV.dec a) (VW.dec b)
  | 55 => if len = 1 then .vfmax32 (FV.dec a) else .vfmax64 (FV.dec a) (VW.dec b)
  | 56 => if len = 1 then .vfabs32 (FV.dec a) else .vfabs64 (FV.dec a) (VW.dec b)
  | 57 => if len = 1 then .vfneg32 (FV.dec a) else .vfneg64 (FV.dec a) (VW.dec b)
  | 58 => if len = 1 then .vfcmp32 (FV.dec a) else .vfcmp64 (FV.dec a) (VW.dec b)
  | 59 => if len = 1 then .vfdiv32 (FV.dec a) else .vfdiv64 (FV.dec a) (VW.dec b)
  | 60 => if len = 1 then .vfsqrt32 (FV.dec a) else .vfsqrt64 (FV.dec a) (VW.dec b)
  | 61 => if len = 1 then .vsfn32 (FV.dec a) else .vsfn64 (FV.dec a) (VW.dec b)
  | 62 => .vcvt (FV.dec a) (VW.dec b)
  | 63 => .vqnt (FV.dec a) (VW.dec b)
  | 64 => .vdqnt (FV.dec a) (VW.dec b)
  | 80 => if len = 1 then .vshup32 (FV.dec a) else .vshup64 (FV.dec a) (VW.dec b)
  | 81 => if len = 1 then .vshdn32 (FV.dec a) else .vshdn64 (FV.dec a) (VW.dec b)
  | 82 => if len = 1 then .vrot32 (FV.dec a) else .vrot64 (FV.dec a) (VW.dec b)
  | 83 => .vperm (FV.dec a) (VW.dec b)
  | 84 => if len = 1 then .vred32 (FV.dec a) else .vred64 (FV.dec a) (VW.dec b)
  | 85 => if len = 1 then .vscan32 (FV.dec a) else .vscan64 (FV.dec a) (VW.dec b)
  | 86 => if len = 1 then .vzip32 (FV.dec a) else .vzip64 (FV.dec a) (VW.dec b)
  | 87 => if len = 1 then .vuzp32 (FV.dec a) else .vuzp64 (FV.dec a) (VW.dec b)
  | 88 => if len = 1 then .vext32 (FV.dec a) else .vext64 (FV.dec a) (VW.dec b)
  | 89 => if len = 1 then .vcompr32 (FV.dec a) else .vcompr64 (FV.dec a) (VW.dec b)
  | 90 => if len = 1 then .vexpd32 (FV.dec a) else .vexpd64 (FV.dec a) (VW.dec b)
  | 91 => if len = 1 then .vtrn32 (FV.dec a) else .vtrn64 (FV.dec a) (VW.dec b)
  | 92 => if len = 1 then .viota32 (FV.dec a) else .viota64 (FV.dec a) (VW.dec b)
  | 96 => .vld (FV.dec a) (VW.dec b) (MW.dec c)
  | 97 => .vst (FV.dec a) (VW.dec b) (MW.dec c)
  | 98 => .vldsd (FV.dec a) (VW.dec b) (MW.dec c)
  | 99 => .vstsd (FV.dec a) (VW.dec b) (MW.dec c)
  | 100 => .vldx (FV.dec a) (VW.dec b) (MW.dec c)
  | 101 => .vstx (FV.dec a) (VW.dec b) (MW.dec c)
  | 102 => .vldt (FV.dec a) (VW.dec b) (MW.dec c)
  | 103 => .vstt (FV.dec a) (VW.dec b) (MW.dec c)
  | 104 => .vldb (FV.dec a) (VW.dec b) (MW.dec c)
  | _ => .vnop (FV.dec a)

/-- The instruction of space M in words without a defect. -/
noncomputable def buildM (_len opc : Nat) (a b c : SlotWord) : Instr :=
  match opc with
  | 0 => .mnop (FE.dec a)
  | 1 => .mcfg (FC.dec a) (EW.dec b) c
  | 2 => .mcfgv (FB.dec a) (EW.dec b)
  | 3 => .mgo (FE.dec a) (EW.dec b)
  | 4 => .mpin (FE.dec a) (EW.dec b)
  | 5 => .munpin (FE.dec a) (EW.dec b)
  | 6 => .mdrain (FE.dec a) (EW.dec b)
  | 7 => .msave (FB.dec a) (EW.dec b)
  | 8 => .mload (FB.dec a) (EW.dec b)
  | 9 => .mstat (FE.dec a) (EW.dec b)
  | 10 => .mfence (FE.dec a) (EW.dec b)
  | _ => .mnop (FE.dec a)

/-- The instruction of space C in words without a defect. -/
noncomputable def buildC (_len opc : Nat) (a b _c : SlotWord) : Instr :=
  match opc with
  | 0 => .cnop (FE.dec a)
  | 1 => .cpy (FA.dec a) (EW.dec b)
  | 2 => .cpy2 (FA.dec a) (EW.dec b)
  | 3 => .cpyt (FA.dec a) (EW.dec b)
  | 4 => if a.extractLsb' 28 4 = 1 then .cpyxScale (FA.dec a) (EW.dec b) else if a.extractLsb' 28 4 = 2 then .cpyxAdd (FA.dec a) (EW.dec b) else if a.extractLsb' 28 4 = 3 then .cpyxReduce (FA.dec a) (EW.dec b) else .cpyxCast (FA.dec a) (EW.dec b)
  | 5 => .cfill (FA.dec a) (EW.dec b)
  | 6 => .csig (FA.dec a) (EW.dec b)
  | 7 => .cpref (FA.dec a) (EW.dec b)
  | 8 => if a.extractLsb' 28 4 = 1 then .cflushInval (FA.dec a) (EW.dec b) else if a.extractLsb' 28 4 = 2 then .cflushDiscard (FA.dec a) (EW.dec b) else .cflushClean (FA.dec a) (EW.dec b)
  | 9 => .cfence (FE.dec a) (EW.dec b)
  | _ => .cnop (FE.dec a)

/-- The instruction of space B in words without a defect. -/
noncomputable def buildB (_len opc : Nat) (a b _c : SlotWord) : Instr :=
  match opc with
  | 0 => .bnop (FE.dec a)
  | 1 => .bact (FA.dec a) (EW.dec b)
  | 2 => .bmv (FA.dec a) (EW.dec b)
  | 3 => .bmvc (FA.dec a) (EW.dec b)
  | 4 => .bvm (FA.dec a) (EW.dec b)
  | 5 => .bapp (FA.dec a) (EW.dec b)
  | 6 => .browcp (FA.dec a) (EW.dec b)
  | 7 => .browz (FA.dec a) (EW.dec b)
  | 8 => .bbufcp (FA.dec a) (EW.dec b)
  | 9 => .bload (FA.dec a) (EW.dec b)
  | 10 => .bdrop (FA.dec a) (EW.dec b)
  | 11 => .bjoin (FA.dec a) (EW.dec b)
  | 12 => .bfence (FE.dec a) (EW.dec b)
  | _ => .bnop (FE.dec a)

/-- The decoder: the instruction that stream `st` reads from these words, or the lowest sub-code of its slot (02 R57).
Words beyond the instruction are ignored; missing words read as 0. -/
noncomputable def decode (st : Nat) (ws : List SlotWord) : Except SubCode Instr :=
  let a := ws.headD 0
  let b := ws.getD 1 0
  let c := ws.getD 2 0
  match defect st a b c with
  | some e => .error e
  | none => match spaceOf st with
    | none => .error 0x02
    | some .s => .ok (buildS (lenOf a) (opcOf a) a b c)
    | some .v => .ok (buildV (lenOf a) (opcOf a) a b c)
    | some .m => .ok (buildM (lenOf a) (opcOf a) a b c)
    | some .c => .ok (buildC (lenOf a) (opcOf a) a b c)
    | some .b => .ok (buildB (lenOf a) (opcOf a) a b c)

/-- The words of an instruction (02 R45, R47); an event has none. -/
def encode : Instr → List SlotWord
  | .nop w => [w.enc 0 1]
  | .br w => [w.enc 1 1]
  | .brc w => [w.enc 2 1]
  | .call w => [w.enc 3 1]
  | .calli w => [w.enc 4 1]
  | .ret w => [w.enc 5 1]
  | .jmpi w => [w.enc 6 1]
  | .loop w => [w.enc 7 1]
  | .loopset w => [w.enc 8 1]
  | .exit w => [w.enc 9 1]
  | .yield w => [w.enc 10 1]
  | .suspend w => [w.enc 11 1]
  | .seal w => [w.enc 12 1]
  | .trap w => [w.enc 13 1]
  | .brk w => [w.enc 14 1]
  | .add w => [w.enc 16 1]
  | .sub w => [w.enc 17 1]
  | .mul w => [w.enc 18 1]
  | .mulh w => [w.enc 19 1]
  | .mulhn w => [w.enc 20 1]
  | .div w => [w.enc 21 1]
  | .divn w => [w.enc 22 1]
  | .rem w => [w.enc 23 1]
  | .remn w => [w.enc 24 1]
  | .and w => [w.enc 25 1]
  | .or w => [w.enc 26 1]
  | .xor w => [w.enc 27 1]
  | .andn w => [w.enc 28 1]
  | .shl w => [w.enc 29 1]
  | .shr w => [w.enc 30 1]
  | .sha w => [w.enc 31 1]
  | .rot w => [w.enc 32 1]
  | .min w => [w.enc 33 1]
  | .max w => [w.enc 34 1]
  | .minn w => [w.enc 35 1]
  | .maxn w => [w.enc 36 1]
  | .clz w => [w.enc 37 1]
  | .ctz w => [w.enc 38 1]
  | .popc w => [w.enc 39 1]
  | .ext w => [w.enc 40 1]
  | .extn w => [w.enc 41 1]
  | .ins w => [w.enc 42 1]
  | .sel w => [w.enc 43 1]
  | .lea w => [w.enc 44 1]
  | .cmp w => [w.enc 45 1]
  | .movi w => [w.enc 48 1]
  | .movl w l => [w.enc 49 2, l]
  | .movlHi w l => [w.enc 49 2, l]
  | .movhi w => [w.enc 50 1]
  | .addi w => [w.enc 51 1]
  | .muli w => [w.enc 52 1]
  | .andi w => [w.enc 53 1]
  | .ori w => [w.enc 54 1]
  | .xori w => [w.enc 55 1]
  | .shli w => [w.enc 56 1]
  | .shri w => [w.enc 57 1]
  | .shai w => [w.enc 58 1]
  | .cmpi w => [w.enc 59 1]
  | .pand w => [w.enc 60 1]
  | .por w => [w.enc 61 1]
  | .pxor w => [w.enc 62 1]
  | .movpFromP w => [w.enc 63 1]
  | .movpToP w => [w.enc 63 1]
  | .movpToB w => [w.enc 63 1]
  | .movpFromB w => [w.enc 63 1]
  | .movpToK w => [w.enc 63 1]
  | .movpFromK w => [w.enc 63 1]
  | .movpFromLc w => [w.enc 63 1]
  | .movpKToP w => [w.enc 63 1]
  | .fadd w => [w.enc 64 1]
  | .fsub w => [w.enc 65 1]
  | .fmul w => [w.enc 66 1]
  | .ffma w => [w.enc 67 1]
  | .fdiv w => [w.enc 68 1]
  | .fsqrt w => [w.enc 69 1]
  | .fmin w => [w.enc 70 1]
  | .fmax w => [w.enc 71 1]
  | .fabs w => [w.enc 72 1]
  | .fneg w => [w.enc 73 1]
  | .fcmp w => [w.enc 74 1]
  | .fcvti w => [w.enc 75 1]
  | .icvtf w => [w.enc 76 1]
  | .ld w m => [w.enc 80 2, m.enc]
  | .st w m => [w.enc 81 2, m.enc]
  | .lds w m => [w.enc 82 2, m.enc]
  | .sts w m => [w.enc 83 2, m.enc]
  | .fence w => [w.enc 84 1]
  | .waitw w m => [w.enc 85 2, m.enc]
  | .lrec w m => [w.enc 86 2, m.enc]
  | .tkwait w => [w.enc 87 1]
  | .tksig w => [w.enc 88 1]
  | .aadd w m => [w.enc 96 2, m.enc]
  | .aand w m => [w.enc 97 2, m.enc]
  | .aor w m => [w.enc 98 2, m.enc]
  | .axor w m => [w.enc 99 2, m.enc]
  | .amin w m => [w.enc 100 2, m.enc]
  | .amax w m => [w.enc 101 2, m.enc]
  | .aminn w m => [w.enc 102 2, m.enc]
  | .amaxn w m => [w.enc 103 2, m.enc]
  | .aswp w m => [w.enc 104 2, m.enc]
  | .acas w m => [w.enc 105 2, m.enc]
  | .afadd w m => [w.enc 106 2, m.enc]
  | .ainc w m => [w.enc 107 2, m.enc]
  | .radd w m => [w.enc 108 2, m.enc]
  | .rand w m => [w.enc 109 2, m.enc]
  | .ror w m => [w.enc 110 2, m.enc]
  | .rxor w m => [w.enc 111 2, m.enc]
  | .rmin w m => [w.enc 112 2, m.enc]
  | .rmax w m => [w.enc 113 2, m.enc]
  | .rfadd w m => [w.enc 114 2, m.enc]
  | .rbfadd w m => [w.enc 115 2, m.enc]
  | .bar w => [w.enc 128 1]
  | .barv w => [w.enc 129 1]
  | .bwait w => [w.enc 130 1]
  | .trig w => [w.enc 131 1]
  | .gwait w => [w.enc 132 1]
  | .spawn w => [w.enc 133 1]
  | .nsub w => [w.enc 134 1]
  | .prio w => [w.enc 135 1]
  | .jarv w => [w.enc 136 1]
  | .jwait w => [w.enc 137 1]
  | .watch w => [w.enc 138 1]
  | .unwatch w => [w.enc 139 1]
  | .pld w m => [w.enc 144 2, m.enc]
  | .pst w m => [w.enc 145 2, m.enc]
  | .pstBlock w m => [w.enc 145 2, m.enc]
  | .pfaa w m => [w.enc 146 2, m.enc]
  | .pcas w m => [w.enc 147 2, m.enc]
  | .pred w m => [w.enc 148 2, m.enc]
  | .pfence w m => [w.enc 149 2, m.enc]
  | .clrun w m => [w.enc 150 2, m.enc]
  | .clwait w m => [w.enc 151 2, m.enc]
  | .mfs w => [w.enc 224 1]
  | .mts w => [w.enc 225 1]
  | .svc w => [w.enc 226 1]
  | .rftResume w => [w.enc 227 1]
  | .rftSkip w => [w.enc 227 1]
  | .rftPark w => [w.enc 227 1]
  | .rftRestart w => [w.enc 227 1]
  | .tlbi w => [w.enc 228 1]
  | .tlbia w => [w.enc 229 1]
  | .llcopCarve w m => [w.enc 230 2, m.enc]
  | .llcopUncarve w m => [w.enc 230 2, m.enc]
  | .llcopClean w m => [w.enc 230 2, m.enc]
  | .llcopFlush w m => [w.enc 230 2, m.enc]
  | .purge w => [w.enc 231 1]
  | .chipopStatus w => [w.enc 232 1]
  | .chipopFence w => [w.enc 232 1]
  | .chipopReset w => [w.enc 232 1]
  | .chipopClearlost w => [w.enc 232 1]
  | .wfi w => [w.enc 233 1]
  | .vnop w => [w.enc 0 1]
  | .vview w v l => [w.enc 1 3, v.enc, l]
  | .tview w v l => [w.enc 2 3, v.enc, l]
  | .vmov32 w => [w.enc 3 1]
  | .vmov64 w v => [w.enc 3 2, v.enc]
  | .vxmov32 w => [w.enc 4 1]
  | .vxmov64 w v => [w.enc 4 2, v.enc]
  | .vbcast32 w => [w.enc 5 1]
  | .vbcast64 w v => [w.enc 5 2, v.enc]
  | .vtos32 w => [w.enc 6 1]
  | .vtos64 w v => [w.enc 6 2, v.enc]
  | .vmset32 w => [w.enc 7 1]
  | .vmset64 w v => [w.enc 7 2, v.enc]
  | .vmand32 w => [w.enc 8 1]
  | .vmand64 w v => [w.enc 8 2, v.enc]
  | .vmor32 w => [w.enc 9 1]
  | .vmor64 w v => [w.enc 9 2, v.enc]
  | .vmxor32 w => [w.enc 10 1]
  | .vmxor64 w v => [w.enc 10 2, v.enc]
  | .vmpop32 w => [w.enc 11 1]
  | .vmpop64 w v => [w.enc 11 2, v.enc]
  | .vtkw w => [w.enc 12 1]
  | .vtks w => [w.enc 13 1]
  | .vadd32 w => [w.enc 16 1]
  | .vadd64 w v => [w.enc 16 2, v.enc]
  | .vsub32 w => [w.enc 17 1]
  | .vsub64 w v => [w.enc 17 2, v.enc]
  | .vadds32 w => [w.enc 18 1]
  | .vadds64 w v => [w.enc 18 2, v.enc]
  | .vsubs32 w => [w.enc 19 1]
  | .vsubs64 w v => [w.enc 19 2, v.enc]
  | .vmul32 w => [w.enc 20 1]
  | .vmul64 w v => [w.enc 20 2, v.enc]
  | .vmulh32 w => [w.enc 21 1]
  | .vmulh64 w v => [w.enc 21 2, v.enc]
  | .vmulw32 w => [w.enc 22 1]
  | .vmulw64 w v => [w.enc 22 2, v.enc]
  | .vmac w v => [w.enc 23 2, v.enc]
  | .vmacw w v => [w.enc 24 2, v.enc]
  | .vdot4 w v => [w.enc 25 2, v.enc]
  | .vand32 w => [w.enc 26 1]
  | .vand64 w v => [w.enc 26 2, v.enc]
  | .vor32 w => [w.enc 27 1]
  | .vor64 w v => [w.enc 27 2, v.enc]
  | .vxor32 w => [w.enc 28 1]
  | .vxor64 w v => [w.enc 28 2, v.enc]
  | .vshl32 w => [w.enc 29 1]
  | .vshl64 w v => [w.enc 29 2, v.enc]
  | .vshr32 w => [w.enc 30 1]
  | .vshr64 w v => [w.enc 30 2, v.enc]
  | .vsha32 w => [w.enc 31 1]
  | .vsha64 w v => [w.enc 31 2, v.enc]
  | .vmin32 w => [w.enc 32 1]
  | .vmin64 w v => [w.enc 32 2, v.enc]
  | .vmax32 w => [w.enc 33 1]
  | .vmax64 w v => [w.enc 33 2, v.enc]
  | .vabs32 w => [w.enc 34 1]
  | .vabs64 w v => [w.enc 34 2, v.enc]
  | .vneg32 w => [w.enc 35 1]
  | .vneg64 w v => [w.enc 35 2, v.enc]
  | .vcmp32 w => [w.enc 36 1]
  | .vcmp64 w v => [w.enc 36 2, v.enc]
  | .vsel w v => [w.enc 37 2, v.enc]
  | .vaddmin w v => [w.enc 38 2, v.enc]
  | .vaddmax w v => [w.enc 39 2, v.enc]
  | .vclz32 w => [w.enc 40 1]
  | .vclz64 w v => [w.enc 40 2, v.enc]
  | .vpopc32 w => [w.enc 41 1]
  | .vpopc64 w v => [w.enc 41 2, v.enc]
  | .vfadd32 w => [w.enc 48 1]
  | .vfadd64 w v => [w.enc 48 2, v.enc]
  | .vfsub32 w => [w.enc 49 1]
  | .vfsub64 w v => [w.enc 49 2, v.enc]
  | .vfmul32 w => [w.enc 50 1]
  | .vfmul64 w v => [w.enc 50 2, v.enc]
  | .vfma w v => [w.enc 51 2, v.enc]
  | .vfms w v => [w.enc 52 2, v.enc]
  | .vfnma w v => [w.enc 53 2, v.enc]
  | .vfmin32 w => [w.enc 54 1]
  | .vfmin64 w v => [w.enc 54 2, v.enc]
  | .vfmax32 w => [w.enc 55 1]
  | .vfmax64 w v => [w.enc 55 2, v.enc]
  | .vfabs32 w => [w.enc 56 1]
  | .vfabs64 w v => [w.enc 56 2, v.enc]
  | .vfneg32 w => [w.enc 57 1]
  | .vfneg64 w v => [w.enc 57 2, v.enc]
  | .vfcmp32 w => [w.enc 58 1]
  | .vfcmp64 w v => [w.enc 58 2, v.enc]
  | .vfdiv32 w => [w.enc 59 1]
  | .vfdiv64 w v => [w.enc 59 2, v.enc]
  | .vfsqrt32 w => [w.enc 60 1]
  | .vfsqrt64 w v => [w.enc 60 2, v.enc]
  | .vsfn32 w => [w.enc 61 1]
  | .vsfn64 w v => [w.enc 61 2, v.enc]
  | .vcvt w v => [w.enc 62 2, v.enc]
  | .vqnt w v => [w.enc 63 2, v.enc]
  | .vdqnt w v => [w.enc 64 2, v.enc]
  | .vshup32 w => [w.enc 80 1]
  | .vshup64 w v => [w.enc 80 2, v.enc]
  | .vshdn32 w => [w.enc 81 1]
  | .vshdn64 w v => [w.enc 81 2, v.enc]
  | .vrot32 w => [w.enc 82 1]
  | .vrot64 w v => [w.enc 82 2, v.enc]
  | .vperm w v => [w.enc 83 2, v.enc]
  | .vred32 w => [w.enc 84 1]
  | .vred64 w v => [w.enc 84 2, v.enc]
  | .vscan32 w => [w.enc 85 1]
  | .vscan64 w v => [w.enc 85 2, v.enc]
  | .vzip32 w => [w.enc 86 1]
  | .vzip64 w v => [w.enc 86 2, v.enc]
  | .vuzp32 w => [w.enc 87 1]
  | .vuzp64 w v => [w.enc 87 2, v.enc]
  | .vext32 w => [w.enc 88 1]
  | .vext64 w v => [w.enc 88 2, v.enc]
  | .vcompr32 w => [w.enc 89 1]
  | .vcompr64 w v => [w.enc 89 2, v.enc]
  | .vexpd32 w => [w.enc 90 1]
  | .vexpd64 w v => [w.enc 90 2, v.enc]
  | .vtrn32 w => [w.enc 91 1]
  | .vtrn64 w v => [w.enc 91 2, v.enc]
  | .viota32 w => [w.enc 92 1]
  | .viota64 w v => [w.enc 92 2, v.enc]
  | .vld w v m => [w.enc 96 3, v.enc, m.enc]
  | .vst w v m => [w.enc 97 3, v.enc, m.enc]
  | .vldsd w v m => [w.enc 98 3, v.enc, m.enc]
  | .vstsd w v m => [w.enc 99 3, v.enc, m.enc]
  | .vldx w v m => [w.enc 100 3, v.enc, m.enc]
  | .vstx w v m => [w.enc 101 3, v.enc, m.enc]
  | .vldt w v m => [w.enc 102 3, v.enc, m.enc]
  | .vstt w v m => [w.enc 103 3, v.enc, m.enc]
  | .vldb w v m => [w.enc 104 3, v.enc, m.enc]
  | .mnop w => [w.enc 0 1]
  | .mcfg w e l => [w.enc 1 3, e.enc, l]
  | .mcfgv w e => [w.enc 2 2, e.enc]
  | .mgo w e => [w.enc 3 2, e.enc]
  | .mpin w e => [w.enc 4 2, e.enc]
  | .munpin w e => [w.enc 5 2, e.enc]
  | .mdrain w e => [w.enc 6 2, e.enc]
  | .msave w e => [w.enc 7 2, e.enc]
  | .mload w e => [w.enc 8 2, e.enc]
  | .mstat w e => [w.enc 9 2, e.enc]
  | .mfence w e => [w.enc 10 2, e.enc]
  | .cnop w => [w.enc 0 1]
  | .cpy w e => [w.enc 1 2, e.enc]
  | .cpy2 w e => [w.enc 2 2, e.enc]
  | .cpyt w e => [w.enc 3 2, e.enc]
  | .cpyxCast w e => [w.enc 4 2, e.enc]
  | .cpyxScale w e => [w.enc 4 2, e.enc]
  | .cpyxAdd w e => [w.enc 4 2, e.enc]
  | .cpyxReduce w e => [w.enc 4 2, e.enc]
  | .cfill w e => [w.enc 5 2, e.enc]
  | .csig w e => [w.enc 6 2, e.enc]
  | .cpref w e => [w.enc 7 2, e.enc]
  | .cflushClean w e => [w.enc 8 2, e.enc]
  | .cflushInval w e => [w.enc 8 2, e.enc]
  | .cflushDiscard w e => [w.enc 8 2, e.enc]
  | .cfence w e => [w.enc 9 2, e.enc]
  | .bnop w => [w.enc 0 1]
  | .bact w e => [w.enc 1 2, e.enc]
  | .bmv w e => [w.enc 2 2, e.enc]
  | .bmvc w e => [w.enc 3 2, e.enc]
  | .bvm w e => [w.enc 4 2, e.enc]
  | .bapp w e => [w.enc 5 2, e.enc]
  | .browcp w e => [w.enc 6 2, e.enc]
  | .browz w e => [w.enc 7 2, e.enc]
  | .bbufcp w e => [w.enc 8 2, e.enc]
  | .bload w e => [w.enc 9 2, e.enc]
  | .bdrop w e => [w.enc 10 2, e.enc]
  | .bjoin w e => [w.enc 11 2, e.enc]
  | .bfence w e => [w.enc 12 2, e.enc]
  | .groupDispatch | .icacheFill | .resultWrite | .landing | .lateDataFreeze | .lateDataArrival | .lateStall
  | .mStall | .bStall | .cStall | .egressRelease | .signalGiven | .trapDelivery | .wfiTimeout | .slotClearDone
  | .matrixStep | .rowBlockWrite | .drainStart | .drainRow | .mloadRowWrite | .strikeMatrix | .copyPiece | .copyEnd
  | .granuleLanding | .macroArrival _ | .macroCommit _ | .productOutput | .hydrationComplete _ _ | .refresh _ _
  | .refreshPeriodChange _ | .strikeLane _ | .llcAccept | .pageWalk | .syncRequestApply | .barrierArrival
  | .joinArrival | .queryReply | .podPhaseReady _ _ | .bcfgWrite _ _ _ | .bcfgFlt _ _ | .bcfgClr _ _
  | .syncOvfWrite _ _ | .nodeCommit _ _ | .nodeDispatch | .strandStart | .nodeAging _ | .nodeComplete _
  | .preemptionRequest _ _ | .preemption | .strandResume | .suspendWake _ _ | .strikeCore | .chipletLoss _
  | .drawerRetrain _ | .retrainDone _ | .ductusTableWrite _ _ _ | .frameBoundary _ | .keySlotWrite _ _ _
  | .fabricRequest _ | .fabricReply _ | .frameReplay _ | .peerRetrain _ | .runStart _ | .collSend _ | .collRecv _
  | .collRrs _ | .collCopy _ | .collWait _ | .collLoop _ | .collEnd _ | .countedWrite _ | .collAbort _ | .powerGood
  | .setready | .packageReset | .hostWrite _ _ _ | .hostRead _ _ _ | .ckptGo | .ckptComplete | .ckptRestore
  | .ckptRestoreComplete | .wakeWordWrite _ _ | .funcModeWrite _ | .serviceReply _ _ _ | .serviceRingConsWrite _
  | .triageTailWrite _ | .resetReportTailWrite _ | .attestation _ | .d3hotEntry | .d0Entry
  | .systemBlockWrite _ _ _ | .freezeAssert | .freezeRelease | .throttle _ | .hotSet _ | .hotClear _
  | .overtempReset | .peerPortTrained _ | .macroEnd _ => []

/-- The words in a table word of `nbits` bits: 32 bits each, the first lowest; higher bits read 0. -/
def tableWords (w : Nat) : List SlotWord :=
  [BitVec.ofNat 32 w, BitVec.ofNat 32 (w / 2 ^ 32), BitVec.ofNat 32 (w / 2 ^ 64)]

/-- The stream of a table word: a word does not say its stream (02 R29, R58), so S, VX, M, C, B are tried in that order
and the first whose space accepts the word answers (log 7). -/
def tableStream (w : Nat) : Option Nat :=
  [0, 1, 3, 4, 5].find? fun st =>
    defect st ((tableWords w).headD 0) ((tableWords w).getD 1 0) ((tableWords w).getD 2 0) == none

/-- The instruction that the decoder reads from a table word. -/
noncomputable def decodeTableWord (nbits w : Nat) : Option Instr :=
  match tableStream (w % 2 ^ nbits) with
  | none => none
  | some st => (decode st (tableWords (w % 2 ^ nbits))).toOption

end Sys2Proof
end

