-- ==== Sys2Proof/Machine/Control.lean ====
section
/-! DEFINITION. Control.lean: control transfer and modulo-scheduled loops (02 R36, R37; 04 R124 to R130), and NOP. -/

namespace Sys2Proof.Machine

/-- A control transfer to slot 1 of a folio: the next group dispatches `delay` cycles on, once the target has passed the
entry check of 02 R36 (04 Table 4.7). -/
def State.goto (s : State) (target : Word) (delay : Nat) (link : Option (Nat × Word)) : State :=
  s.mapCore fun c => { c with
    pc := { folio := target, slot := 1, entry := some { folio := c.cur.folio, slot := c.cur.slot, link := link } }
    flow := { c.flow with next := c.now + delay } }

/-- F + 32 × disp17 (02 R36). -/
def dispTarget (f : Word) (w : FD) : Word := f + (w.disp.signExtend 64) * 32
/-- F + 32: the return point (02 R37). -/
def linkOf (s : State) : Word := s.core.cur.folio + 32

def execNop (_w : FE) (s : State) : Result := .next s.done
def execBr (w : FD) (s : State) : Result := .next (s.goto (dispTarget s.core.cur.folio w) 2 none).done
def execBrc (w : FD) (s : State) : Result :=
  .next (if s.rp w.p.toNat ^^ w.neg.getLsbD 0 then s.goto (dispTarget s.core.cur.folio w) 2 none else s).done
def execCall (w : FD) (s : State) : Result :=
  .next ((s.postS 1 63 (linkOf s)).goto (dispTarget s.core.cur.folio w) 2 none).done
def execCalli (w : FA) (s : State) : Result :=
  .next ((s.post 1 (.link (s.core.sIx 63) (linkOf s))).goto (s.rs w.a.toNat) 3 (some (s.core.sIx 63, s.rs 63))).done
def execRet (_w : FE) (s : State) : Result := .next (s.goto (s.rs 63) 3 none).done
def execJmpi (w : FA) (s : State) : Result := .next (s.goto (s.rs w.a.toNat) 3 none).done

/-- The writes of loop state one cycle on. -/
def State.postLoop (s : State) (lc : Word) (n st : Nat) (k : Nat → Bool) : State :=
  (List.range 8).foldl (fun t j => t.post 1 (.k j (k j))) (s.post 1 (.loop lc n st))

/-- The stage predicates after one LOOP (04 R130). -/
def loopK (c : Scalar) (lc : Word) (j : Nat) : Bool :=
  if j = 0 then lc != 0 else if j < c.st then c.k.get (j - 1) else false

def execLoop (w : FD) (s : State) : Result :=
  let c := s.core.sc
  let lc := if c.lc = 0 then 0 else c.lc - 1
  let s1 := s.postLoop lc c.n c.st (loopK c lc)
  let s2 := (List.range c.n).foldl (fun t i => t.post 1 (.b i (c.b.get ((i + 1) % c.n)))) s1
  .next (if (List.range c.st).any (loopK c lc) then s2.goto (dispTarget s.core.cur.folio w) 1 none else s2).done

def execLoopset (w : FB) (s : State) : Result :=
  .next (s.postLoop (s.rs w.a.toNat) (w.d.toNat % 8 + 1) (w.d.toNat / 8 + 1) fun j => w.imm.getLsbD j).done

end Sys2Proof.Machine
end

