-- ==== Sys2Proof/Machine/Direct.lean ====
section
/-! DEFINITION. Direct.lean: running an instruction from its words: the meaning of each opcode (02 Tables 2.7, 2.8) applied
to the fields of its words. It answers what exec answers on the decoded instruction, without building it. -/

namespace Sys2Proof.Machine

/-- Running an instruction of space S. -/
def runS (_len opc : Nat) (a b _c : SlotWord) (s : State) : Result :=
  match opc with
  | 0 => execNop (FE.dec a) s
  | 1 => execBr (FD.dec a) s
  | 2 => execBrc (FD.dec a) s
  | 3 => execCall (FD.dec a) s
  | 4 => execCalli (FA.dec a) s
  | 5 => execRet (FE.dec a) s
  | 6 => execJmpi (FA.dec a) s
  | 7 => execLoop (FD.dec a) s
  | 8 => execLoopset (FB.dec a) s
  | 9 => execExit (FE.dec a) s
  | 10 => execYield (FE.dec a) s
  | 11 => execSuspend (FE.dec a) s
  | 12 => execSeal (FE.dec a) s
  | 13 => execTrap (FE.dec a) s
  | 14 => execBrk (FE.dec a) s
  | 16 => execAdd (FA.dec a) s
  | 17 => execSub (FA.dec a) s
  | 18 => execMul (FA.dec a) s
  | 19 => execMulh (FA.dec a) s
  | 20 => execMulhn (FA.dec a) s
  | 21 => execDiv (FA.dec a) s
  | 22 => execDivn (FA.dec a) s
  | 23 => execRem (FA.dec a) s
  | 24 => execRemn (FA.dec a) s
  | 25 => execAnd (FA.dec a) s
  | 26 => execOr (FA.dec a) s
  | 27 => execXor (FA.dec a) s
  | 28 => execAndn (FA.dec a) s
  | 29 => execShl (FA.dec a) s
  | 30 => execShr (FA.dec a) s
  | 31 => execSha (FA.dec a) s
  | 32 => execRot (FA.dec a) s
  | 33 => execMin (FA.dec a) s
  | 34 => execMax (FA.dec a) s
  | 35 => execMinn (FA.dec a) s
  | 36 => execMaxn (FA.dec a) s
  | 37 => execClz (FA.dec a) s
  | 38 => execCtz (FA.dec a) s
  | 39 => execPopc (FA.dec a) s
  | 40 => execExt (FA.dec a) s
  | 41 => execExtn (FA.dec a) s
  | 42 => execIns (FA.dec a) s
  | 43 => execSel (FA.dec a) s
  | 44 => execLea (FA.dec a) s
  | 45 => execCmp (FA.dec a) s
  | 48 => execMovi (FC.dec a) s
  | 49 => if a.extractLsb' 16 1 = 1 then execMovlHi (FC.dec a) b s else execMovl (FC.dec a) b s
  | 50 => execMovhi (FC.dec a) s
  | 51 => execAddi (FB.dec a) s
  | 52 => execMuli (FB.dec a) s
  | 53 => execAndi (FB.dec a) s
  | 54 => execOri (FB.dec a) s
  | 55 => execXori (FB.dec a) s
  | 56 => execShli (FB.dec a) s
  | 57 => execShri (FB.dec a) s
  | 58 => execShai (FB.dec a) s
  | 59 => execCmpi (FB.dec a) s
  | 60 => execPand (FA.dec a) s
  | 61 => execPor (FA.dec a) s
  | 62 => execPxor (FA.dec a) s
  | 63 => if a.extractLsb' 28 4 = 1 then execMovpToP (FA.dec a) s else if a.extractLsb' 28 4 = 2 then execMovpToB (FA.dec a) s else if a.extractLsb' 28 4 = 3 then execMovpFromB (FA.dec a) s else if a.extractLsb' 28 4 = 4 then execMovpToK (FA.dec a) s else if a.extractLsb' 28 4 = 5 then execMovpFromK (FA.dec a) s else if a.extractLsb' 28 4 = 6 then execMovpFromLc (FA.dec a) s else if a.extractLsb' 28 4 = 7 then execMovpKToP (FA.dec a) s else execMovpFromP (FA.dec a) s
  | 64 => execFadd (FA.dec a) s
  | 65 => execFsub (FA.dec a) s
  | 66 => execFmul (FA.dec a) s
  | 67 => execFfma (FA.dec a) s
  | 68 => execFdiv (FA.dec a) s
  | 69 => execFsqrt (FA.dec a) s
  | 70 => execFmin (FA.dec a) s
  | 71 => execFmax (FA.dec a) s
  | 72 => execFabs (FA.dec a) s
  | 73 => execFneg (FA.dec a) s
  | 74 => execFcmp (FA.dec a) s
  | 75 => execFcvti (FA.dec a) s
  | 76 => execIcvtf (FA.dec a) s
  | 80 => execLd (FB.dec a) (MW.dec b) s
  | 81 => execSt (FB.dec a) (MW.dec b) s
  | 82 => execLds (FB.dec a) (MW.dec b) s
  | 83 => execSts (FB.dec a) (MW.dec b) s
  | 84 => execFence (FC.dec a) s
  | 85 => execWaitw (FB.dec a) (MW.dec b) s
  | 86 => execLrec (FB.dec a) (MW.dec b) s
  | 87 => execTkwait (FE.dec a) s
  | 88 => execTksig (FE.dec a) s
  | 96 => execAadd (FA.dec a) (MW.dec b) s
  | 97 => execAand (FA.dec a) (MW.dec b) s
  | 98 => execAor (FA.dec a) (MW.dec b) s
  | 99 => execAxor (FA.dec a) (MW.dec b) s
  | 100 => execAmin (FA.dec a) (MW.dec b) s
  | 101 => execAmax (FA.dec a) (MW.dec b) s
  | 102 => execAminn (FA.dec a) (MW.dec b) s
  | 103 => execAmaxn (FA.dec a) (MW.dec b) s
  | 104 => execAswp (FA.dec a) (MW.dec b) s
  | 105 => execAcas (FA.dec a) (MW.dec b) s
  | 106 => execAfadd (FA.dec a) (MW.dec b) s
  | 107 => execAinc (FA.dec a) (MW.dec b) s
  | 108 => execRadd (FA.dec a) (MW.dec b) s
  | 109 => execRand (FA.dec a) (MW.dec b) s
  | 110 => execRor (FA.dec a) (MW.dec b) s
  | 111 => execRxor (FA.dec a) (MW.dec b) s
  | 112 => execRmin (FA.dec a) (MW.dec b) s
  | 113 => execRmax (FA.dec a) (MW.dec b) s
  | 114 => execRfadd (FA.dec a) (MW.dec b) s
  | 115 => execRbfadd (FA.dec a) (MW.dec b) s
  | 128 => execBar (FA.dec a) s
  | 129 => execBarv (FA.dec a) s
  | 130 => execBwait (FA.dec a) s
  | 131 => execTrig (FA.dec a) s
  | 132 => execGwait (FA.dec a) s
  | 133 => execSpawn (FA.dec a) s
  | 134 => execNsub (FA.dec a) s
  | 135 => execPrio (FA.dec a) s
  | 136 => execJarv (FA.dec a) s
  | 137 => execJwait (FA.dec a) s
  | 138 => execWatch (FA.dec a) s
  | 139 => execUnwatch (FA.dec a) s
  | 144 => execPld (FA.dec a) (MW.dec b) s
  | 145 => if a.extractLsb' 28 4 = 8 then execPstBlock (FA.dec a) (MW.dec b) s else execPst (FA.dec a) (MW.dec b) s
  | 146 => execPfaa (FA.dec a) (MW.dec b) s
  | 147 => execPcas (FA.dec a) (MW.dec b) s
  | 148 => execPred (FA.dec a) (MW.dec b) s
  | 149 => execPfence (FA.dec a) (MW.dec b) s
  | 150 => execClrun (FA.dec a) (MW.dec b) s
  | 151 => execClwait (FA.dec a) (MW.dec b) s
  | 224 => execMfs (FC.dec a) s
  | 225 => execMts (FC.dec a) s
  | 226 => execSvc (FE.dec a) s
  | 227 => if a.extractLsb' 10 2 = 1 then execRftSkip (FE.dec a) s else if a.extractLsb' 10 2 = 2 then execRftPark (FE.dec a) s else if a.extractLsb' 10 2 = 3 then execRftRestart (FE.dec a) s else execRftResume (FE.dec a) s
  | 228 => execTlbi (FA.dec a) s
  | 229 => execTlbia (FE.dec a) s
  | 230 => if a.extractLsb' 28 4 = 1 then execLlcopUncarve (FA.dec a) (MW.dec b) s else if a.extractLsb' 28 4 = 2 then execLlcopClean (FA.dec a) (MW.dec b) s else if a.extractLsb' 28 4 = 3 then execLlcopFlush (FA.dec a) (MW.dec b) s else execLlcopCarve (FA.dec a) (MW.dec b) s
  | 231 => execPurge (FA.dec a) s
  | 232 => if a.extractLsb' 22 10 = 1 then execChipopFence (FB.dec a) s else if a.extractLsb' 22 10 = 2 then execChipopReset (FB.dec a) s else if a.extractLsb' 22 10 = 3 then execChipopClearlost (FB.dec a) s else execChipopStatus (FB.dec a) s
  | 233 => execWfi (FE.dec a) s
  | _ => execNop (FE.dec a) s

/-- Running an instruction of space V. -/
def runV (len opc : Nat) (a b c : SlotWord) (s : State) : Result :=
  match opc with
  | 0 => execVnop (FV.dec a) s
  | 1 => execVview (FV.dec a) (VW.dec b) c s
  | 2 => execTview (FV.dec a) (VW.dec b) c s
  | 3 => if len = 1 then execVmov32 (FV.dec a) s else execVmov64 (FV.dec a) (VW.dec b) s
  | 4 => if len = 1 then execVxmov32 (FV.dec a) s else execVxmov64 (FV.dec a) (VW.dec b) s
  | 5 => if len = 1 then execVbcast32 (FV.dec a) s else execVbcast64 (FV.dec a) (VW.dec b) s
  | 6 => if len = 1 then execVtos32 (FV.dec a) s else execVtos64 (FV.dec a) (VW.dec b) s
  | 7 => if len = 1 then execVmset32 (FV.dec a) s else execVmset64 (FV.dec a) (VW.dec b) s
  | 8 => if len = 1 then execVmand32 (FV.dec a) s else execVmand64 (FV.dec a) (VW.dec b) s
  | 9 => if len = 1 then execVmor32 (FV.dec a) s else execVmor64 (FV.dec a) (VW.dec b) s
  | 10 => if len = 1 then execVmxor32 (FV.dec a) s else execVmxor64 (FV.dec a) (VW.dec b) s
  | 11 => if len = 1 then execVmpop32 (FV.dec a) s else execVmpop64 (FV.dec a) (VW.dec b) s
  | 12 => execVtkw (FV.dec a) s
  | 13 => execVtks (FV.dec a) s
  | 16 => if len = 1 then execVadd32 (FV.dec a) s else execVadd64 (FV.dec a) (VW.dec b) s
  | 17 => if len = 1 then execVsub32 (FV.dec a) s else execVsub64 (FV.dec a) (VW.dec b) s
  | 18 => if len = 1 then execVadds32 (FV.dec a) s else execVadds64 (FV.dec a) (VW.dec b) s
  | 19 => if len = 1 then execVsubs32 (FV.dec a) s else execVsubs64 (FV.dec a) (VW.dec b) s
  | 20 => if len = 1 then execVmul32 (FV.dec a) s else execVmul64 (FV.dec a) (VW.dec b) s
  | 21 => if len = 1 then execVmulh32 (FV.dec a) s else execVmulh64 (FV.dec a) (VW.dec b) s
  | 22 => if len = 1 then execVmulw32 (FV.dec a) s else execVmulw64 (FV.dec a) (VW.dec b) s
  | 23 => execVmac (FV.dec a) (VW.dec b) s
  | 24 => execVmacw (FV.dec a) (VW.dec b) s
  | 25 => execVdot4 (FV.dec a) (VW.dec b) s
  | 26 => if len = 1 then execVand32 (FV.dec a) s else execVand64 (FV.dec a) (VW.dec b) s
  | 27 => if len = 1 then execVor32 (FV.dec a) s else execVor64 (FV.dec a) (VW.dec b) s
  | 28 => if len = 1 then execVxor32 (FV.dec a) s else execVxor64 (FV.dec a) (VW.dec b) s
  | 29 => if len = 1 then execVshl32 (FV.dec a) s else execVshl64 (FV.dec a) (VW.dec b) s
  | 30 => if len = 1 then execVshr32 (FV.dec a) s else execVshr64 (FV.dec a) (VW.dec b) s
  | 31 => if len = 1 then execVsha32 (FV.dec a) s else execVsha64 (FV.dec a) (VW.dec b) s
  | 32 => if len = 1 then execVmin32 (FV.dec a) s else execVmin64 (FV.dec a) (VW.dec b) s
  | 33 => if len = 1 then execVmax32 (FV.dec a) s else execVmax64 (FV.dec a) (VW.dec b) s
  | 34 => if len = 1 then execVabs32 (FV.dec a) s else execVabs64 (FV.dec a) (VW.dec b) s
  | 35 => if len = 1 then execVneg32 (FV.dec a) s else execVneg64 (FV.dec a) (VW.dec b) s
  | 36 => if len = 1 then execVcmp32 (FV.dec a) s else execVcmp64 (FV.dec a) (VW.dec b) s
  | 37 => execVsel (FV.dec a) (VW.dec b) s
  | 38 => execVaddmin (FV.dec a) (VW.dec b) s
  | 39 => execVaddmax (FV.dec a) (VW.dec b) s
  | 40 => if len = 1 then execVclz32 (FV.dec a) s else execVclz64 (FV.dec a) (VW.dec b) s
  | 41 => if len = 1 then execVpopc32 (FV.dec a) s else execVpopc64 (FV.dec a) (VW.dec b) s
  | 48 => if len = 1 then execVfadd32 (FV.dec a) s else execVfadd64 (FV.dec a) (VW.dec b) s
  | 49 => if len = 1 then execVfsub32 (FV.dec a) s else execVfsub64 (FV.dec a) (VW.dec b) s
  | 50 => if len = 1 then execVfmul32 (FV.dec a) s else execVfmul64 (FV.dec a) (VW.dec b) s
  | 51 => execVfma (FV.dec a) (VW.dec b) s
  | 52 => execVfms (FV.dec a) (VW.dec b) s
  | 53 => execVfnma (FV.dec a) (VW.dec b) s
  | 54 => if len = 1 then execVfmin32 (FV.dec a) s else execVfmin64 (FV.dec a) (VW.dec b) s
  | 55 => if len = 1 then execVfmax32 (FV.dec a) s else execVfmax64 (FV.dec a) (VW.dec b) s
  | 56 => if len = 1 then execVfabs32 (FV.dec a) s else execVfabs64 (FV.dec a) (VW.dec b) s
  | 57 => if len = 1 then execVfneg32 (FV.dec a) s else execVfneg64 (FV.dec a) (VW.dec b) s
  | 58 => if len = 1 then execVfcmp32 (FV.dec a) s else execVfcmp64 (FV.dec a) (VW.dec b) s
  | 59 => if len = 1 then execVfdiv32 (FV.dec a) s else execVfdiv64 (FV.dec a) (VW.dec b) s
  | 60 => if len = 1 then execVfsqrt32 (FV.dec a) s else execVfsqrt64 (FV.dec a) (VW.dec b) s
  | 61 => if len = 1 then execVsfn32 (FV.dec a) s else execVsfn64 (FV.dec a) (VW.dec b) s
  | 62 => execVcvt (FV.dec a) (VW.dec b) s
  | 63 => execVqnt (FV.dec a) (VW.dec b) s
  | 64 => execVdqnt (FV.dec a) (VW.dec b) s
  | 80 => if len = 1 then execVshup32 (FV.dec a) s else execVshup64 (FV.dec a) (VW.dec b) s
  | 81 => if len = 1 then execVshdn32 (FV.dec a) s else execVshdn64 (FV.dec a) (VW.dec b) s
  | 82 => if len = 1 then execVrot32 (FV.dec a) s else execVrot64 (FV.dec a) (VW.dec b) s
  | 83 => execVperm (FV.dec a) (VW.dec b) s
  | 84 => if len = 1 then execVred32 (FV.dec a) s else execVred64 (FV.dec a) (VW.dec b) s
  | 85 => if len = 1 then execVscan32 (FV.dec a) s else execVscan64 (FV.dec a) (VW.dec b) s
  | 86 => if len = 1 then execVzip32 (FV.dec a) s else execVzip64 (FV.dec a) (VW.dec b) s
  | 87 => if len = 1 then execVuzp32 (FV.dec a) s else execVuzp64 (FV.dec a) (VW.dec b) s
  | 88 => if len = 1 then execVext32 (FV.dec a) s else execVext64 (FV.dec a) (VW.dec b) s
  | 89 => if len = 1 then execVcompr32 (FV.dec a) s else execVcompr64 (FV.dec a) (VW.dec b) s
  | 90 => if len = 1 then execVexpd32 (FV.dec a) s else execVexpd64 (FV.dec a) (VW.dec b) s
  | 91 => if len = 1 then execVtrn32 (FV.dec a) s else execVtrn64 (FV.dec a) (VW.dec b) s
  | 92 => if len = 1 then execViota32 (FV.dec a) s else execViota64 (FV.dec a) (VW.dec b) s
  | 96 => execVld (FV.dec a) (VW.dec b) (MW.dec c) s
  | 97 => execVst (FV.dec a) (VW.dec b) (MW.dec c) s
  | 98 => execVldsd (FV.dec a) (VW.dec b) (MW.dec c) s
  | 99 => execVstsd (FV.dec a) (VW.dec b) (MW.dec c) s
  | 100 => execVldx (FV.dec a) (VW.dec b) (MW.dec c) s
  | 101 => execVstx (FV.dec a) (VW.dec b) (MW.dec c) s
  | 102 => execVldt (FV.dec a) (VW.dec b) (MW.dec c) s
  | 103 => execVstt (FV.dec a) (VW.dec b) (MW.dec c) s
  | 104 => execVldb (FV.dec a) (VW.dec b) (MW.dec c) s
  | _ => execVnop (FV.dec a) s

/-- Running an instruction of space M. -/
def runM (_len opc : Nat) (a b c : SlotWord) (s : State) : Result :=
  match opc with
  | 0 => execMnop (FE.dec a) s
  | 1 => execMcfg (FC.dec a) (EW.dec b) c s
  | 2 => execMcfgv (FB.dec a) (EW.dec b) s
  | 3 => execMgo (FE.dec a) (EW.dec b) s
  | 4 => execMpin (FE.dec a) (EW.dec b) s
  | 5 => execMunpin (FE.dec a) (EW.dec b) s
  | 6 => execMdrain (FE.dec a) (EW.dec b) s
  | 7 => execMsave (FB.dec a) (EW.dec b) s
  | 8 => execMload (FB.dec a) (EW.dec b) s
  | 9 => execMstat (FE.dec a) (EW.dec b) s
  | 10 => execMfence (FE.dec a) (EW.dec b) s
  | _ => execMnop (FE.dec a) s

/-- Running an instruction of space C. -/
def runC (_len opc : Nat) (a b _c : SlotWord) (s : State) : Result :=
  match opc with
  | 0 => execCnop (FE.dec a) s
  | 1 => execCpy (FA.dec a) (EW.dec b) s
  | 2 => execCpy2 (FA.dec a) (EW.dec b) s
  | 3 => execCpyt (FA.dec a) (EW.dec b) s
  | 4 => if a.extractLsb' 28 4 = 1 then execCpyxScale (FA.dec a) (EW.dec b) s else if a.extractLsb' 28 4 = 2 then execCpyxAdd (FA.dec a) (EW.dec b) s else if a.extractLsb' 28 4 = 3 then execCpyxReduce (FA.dec a) (EW.dec b) s else execCpyxCast (FA.dec a) (EW.dec b) s
  | 5 => execCfill (FA.dec a) (EW.dec b) s
  | 6 => execCsig (FA.dec a) (EW.dec b) s
  | 7 => execCpref (FA.dec a) (EW.dec b) s
  | 8 => if a.extractLsb' 28 4 = 1 then execCflushInval (FA.dec a) (EW.dec b) s else if a.extractLsb' 28 4 = 2 then execCflushDiscard (FA.dec a) (EW.dec b) s else execCflushClean (FA.dec a) (EW.dec b) s
  | 9 => execCfence (FE.dec a) (EW.dec b) s
  | _ => execCnop (FE.dec a) s

/-- Running an instruction of space B. -/
def runB (_len opc : Nat) (a b _c : SlotWord) (s : State) : Result :=
  match opc with
  | 0 => execBnop (FE.dec a) s
  | 1 => execBact (FA.dec a) (EW.dec b) s
  | 2 => execBmv (FA.dec a) (EW.dec b) s
  | 3 => execBmvc (FA.dec a) (EW.dec b) s
  | 4 => execBvm (FA.dec a) (EW.dec b) s
  | 5 => execBapp (FA.dec a) (EW.dec b) s
  | 6 => execBrowcp (FA.dec a) (EW.dec b) s
  | 7 => execBrowz (FA.dec a) (EW.dec b) s
  | 8 => execBbufcp (FA.dec a) (EW.dec b) s
  | 9 => execBload (FA.dec a) (EW.dec b) s
  | 10 => execBdrop (FA.dec a) (EW.dec b) s
  | 11 => execBjoin (FA.dec a) (EW.dec b) s
  | 12 => execBfence (FE.dec a) (EW.dec b) s
  | _ => execBnop (FE.dec a) s

/-- Running the instruction that stream `st` reads from these words; words with a defect are not run (the front end
faults on them before this, 02 R57). -/
def runWords (st : Nat) (ws : List SlotWord) (s : State) : Result :=
  let a := ws.headD 0
  let b := ws.getD 1 0
  let c := ws.getD 2 0
  match defect st a b c with
  | some _ => .next s.hold
  | none => match spaceOf st with
    | none => .next s.hold
    | some .s => runS (lenOf a) (opcOf a) a b c s
    | some .v => runV (lenOf a) (opcOf a) a b c s
    | some .m => runM (lenOf a) (opcOf a) a b c s
    | some .c => runC (lenOf a) (opcOf a) a b c s
    | some .b => runB (lenOf a) (opcOf a) a b c s

end Sys2Proof.Machine
end

