-- ==== Sys2Proof/Machine/Uses.lean ====
section
/-! DEFINITION. Uses.lean: the registers that an instruction reads and writes, as the group rules count them (02 R41 to
R43), and its reads of scalar operands at dispatch. -/

namespace Sys2Proof.Machine

/-- A register of a file (02 R42): the file and the number; the loop count is a file of its own. -/
structure Reg where
  file : Nat
  n : Nat
  deriving DecidableEq, Repr

def rS (n : BitVec 6) : Reg := ⟨0, n.toNat⟩
def rP (n : BitVec 6) : Reg := ⟨1, n.toNat % 16⟩
def rB (n : Nat) : Reg := ⟨2, n % 8⟩
def rK (n : Nat) : Reg := ⟨3, n % 8⟩
def rL (n : Nat) : Reg := ⟨4, n % 16⟩
/-- Vector, mask and tile registers of the cluster of stream `st`, 1 for X. -/
def rV (st n : Nat) : Reg := ⟨4 + st, n % 64⟩
def rM (st n : Nat) : Reg := ⟨6 + st, n % 16⟩
def rT (st n : Nat) : Reg := ⟨8 + st, n % 8⟩
def rLc : Reg := ⟨11, 0⟩
/-- A register group of `k` vector registers (06 R183). -/
def rVs (st n k : Nat) : List Reg := (List.range k).map fun i => rV st (n + i)
def allB : List Reg := (List.range 8).map rB
def allK : List Reg := (List.range 8).map rK
/-- s0 and p0 break no rule. -/
def Reg.exempt (r : Reg) : Bool := r.n == 0 && decide (r.file ≤ 1)

/-- What an instruction reads and what it writes. -/
structure Uses where
  rd : List Reg := []
  wr : List Reg := []
  deriving DecidableEq, Repr

/-- A base register that a space-1 address adds (05 R140). -/
def useBrel (m : MW) : List Reg := if m.space = 1 ∧ m.cls.getLsbD 3 then [rB m.cls.toNat] else []

/-- Stream S. -/
def usesS (opc : Nat) (w b : SlotWord) : Uses :=
  let f := FA.dec w
  let m := MW.dec b
  let rr (rd : List Reg) : Uses := { rd := rd, wr := [rS f.d] }
  let fn := f.fn.toNat
  match opc with
  | 0x02 => { rd := [⟨1, (FD.dec w).p.toNat⟩] }
  | 0x03 => { wr := [rS 63] }
  | 0x04 => { rd := [rS f.a], wr := [rS 63] }
  | 0x05 => { rd := [rS 63] }
  | 0x06 => { rd := [rS f.a] }
  | 0x07 => { rd := rLc :: allB ++ allK, wr := rLc :: allB ++ allK }
  | 0x08 => { rd := [rS f.a], wr := rLc :: allK }
  | 0x0B => { rd := [rS f.d, rS f.a] }
  | 0x0C => { rd := [rS 1, rS 2, rS 3, rS 4, rS 62] }
  | 0x0D => { rd := [⟨1, (w.extractLsb' 26 4).toNat⟩] }
  | 0x2A => rr [rS f.a, rS f.b, rS f.d]
  | 0x2B => rr [rS f.a, rS f.b, ⟨1, fn⟩]
  | 0x2D => { rd := [rS f.a, rS f.b], wr := [rP f.d] }
  | 0x30 => rr []
  | 0x31 => rr (if w.extractLsb' 16 16 = 0 then [] else [rS f.d])
  | 0x32 => rr [rS f.d]
  | 0x3B => { rd := [rS f.a], wr := [rP f.d] }
  | 0x3C | 0x3D | 0x3E => { rd := [rP f.a, rP f.b], wr := [rP f.d] }
  | 0x3F => match fn with
    | 0 => rr ((List.range 16).map fun i => ⟨1, i⟩)
    | 1 => { rd := [rS f.a], wr := (List.range 16).map fun i => ⟨1, i⟩ }
    | 2 => { rd := [rS f.a], wr := [rB f.d.toNat] }
    | 3 => rr [rB f.a.toNat]
    | 4 => { rd := [rS f.a], wr := allK }
    | 5 => rr allK
    | 6 => rr [rLc]
    | _ => { rd := [rK f.a.toNat], wr := [rP f.d] }
  | 0x43 => rr [rS f.a, rS f.b, rS f.d]
  | 0x4A => { rd := [rS f.a, rS f.b], wr := [rP f.d] }
  | 0x50 | 0x52 => rr (rS f.a :: useBrel m)
  | 0x51 | 0x53 | 0x55 => { rd := rS f.a :: rS f.d :: useBrel m }
  | 0x56 => { rd := rS f.a :: useBrel m, wr := [rL f.d.toNat] }
  | 0x69 => rr [rS f.a, rS f.b, rS f.d]
  | 0x80 | 0x81 | 0x84 => rr []
  | 0x82 | 0x85 | 0x86 | 0x87 | 0x89 | 0x8B => rr [rS f.a]
  | 0x88 => { rd := [rS f.a, rS f.b] }
  | 0x8A => rr [rS f.a, rS f.b, rS (f.b + 1)]
  | 0x90 | 0x96 => rr [rS f.a]
  | 0x91 => { rd := [rS f.a, rS f.b, rS f.d] }
  | 0x93 => rr [rS f.a, rS f.b, rS f.d]
  | 0x94 | 0x95 => { rd := [rS f.a, rS f.b] }
  | 0xE0 => rr []
  | 0xE1 => { rd := [rS f.d] }
  | 0xE4 | 0xE6 => { rd := [rS f.a, rS f.b] }
  | 0xE7 => rr [rS f.a, rS f.b]
  | 0xE8 => rr [rS f.a]
  | n =>
    if (0x10 ≤ n ∧ n ≤ 0x2C) ∨ (0x40 ≤ n ∧ n ≤ 0x4C) ∨ (0x60 ≤ n ∧ n ≤ 0x6B) ∨ n = 0x92 ∨ n = 0x97 then rr [rS f.a, rS f.b]
    else if 0x33 ≤ n ∧ n ≤ 0x3A then rr [rS f.a]
    else if 0x6C ≤ n ∧ n ≤ 0x73 then { rd := [rS f.a, rS f.b] }
    else {}

/-- The registers of a vector instruction in stream `st`; `len` is its LEN. -/
def usesV (st len opc : Nat) (w b c : SlotWord) : Uses :=
  let f := FV.dec w
  let v := if len = 1 then VW.plain else VW.dec b
  let m := MW.dec c
  let va := rV st f.va.toNat
  let vb := rV st f.vb.toNat
  let vc := rV st v.vc.toNat
  let vd := rV st f.vd.toNat
  let gate := if v.stgen = 1 then [rK v.mask.toNat] else if v.mask = 0 then [] else [rM st v.mask.toNat]
  let mk (rd wr : List Reg) : Uses := { rd := gate ++ rd, wr := wr }
  let pair := rVs st f.vd.toNat 2
  let md := [rM st f.vd.toNat]
  let idx := rVs st f.vb.toNat (idxK f.ty v.ty2)
  let bits := tyBits f.ty.toNat
  let src := tyBits v.ty2.toNat
  match opc with
  | 0x00 | 0x0C | 0x0D => {}
  | 0x01 => mk [] []
  | 0x02 => mk [] [rT st f.vd.toNat]
  | 0x03 => mk [va] [vd]
  | 0x04 => mk [va] [rV (3 - st) f.vd.toNat]
  | 0x05 => mk [rS f.va] [vd]
  | 0x06 => mk [va, rS f.vb] [rS f.vd]
  | 0x07 => mk [rS f.va] md
  | 0x08 | 0x09 | 0x0A => mk [rM st f.va.toNat, rM st f.vb.toNat] md
  | 0x0B => mk [rM st f.va.toNat] [rS f.vd]
  | 0x16 => mk [va, vb] pair
  | 0x17 | 0x19 | 0x26 | 0x27 | 0x33 | 0x34 | 0x35 => mk [va, vb, vc] [vd]
  | 0x18 => mk (va :: vb :: rVs st v.vc.toNat 2) pair
  | 0x22 | 0x23 | 0x28 | 0x29 | 0x38 | 0x39 | 0x3C | 0x3D | 0x54 | 0x55 | 0x59 | 0x5A => mk [va] [vd]
  | 0x24 | 0x3A => mk [va, vb] md
  | 0x25 => mk [va, vb, rM st v.vc.toNat] [vd]
  | 0x3E => mk (rVs st f.va.toNat (max 1 (src / bits))) (rVs st f.vd.toNat (max 1 (bits / src)))
  | 0x3F => mk [va, rS f.vb] [vd, vc]
  | 0x40 => mk [va, vc, rS f.vb] [vd]
  | 0x50 | 0x51 => mk [va, rS f.vb, rS v.vc] [vd]
  | 0x52 => mk [va, rS f.vb] [vd]
  | 0x53 => mk (va :: idx) [vd]
  | 0x56 | 0x5B => mk [va, vb] pair
  | 0x57 => mk (rVs st f.va.toNat 2) pair
  | 0x58 => mk [va, vb, rS v.vc] [vd]
  | 0x5C => mk [rS f.va] [vd]
  | 0x60 | 0x68 => mk (rS f.va :: useBrel m) [vd]
  | 0x61 => mk (rS f.va :: vd :: useBrel m) []
  | 0x62 => mk (rS f.va :: rS f.vb :: useBrel m) [vd]
  | 0x63 => mk (rS f.va :: rS f.vb :: vd :: useBrel m) []
  | 0x64 => mk (rS f.va :: useBrel m ++ idx) [vd]
  | 0x65 => mk (rS f.va :: vd :: useBrel m ++ idx) []
  | 0x66 | 0x67 => mk (rS f.va :: rS f.vb :: rT st f.vd.toNat :: useBrel m) []
  | _ => mk [va, vb] [vd]

/-- Scalar operands that an M, C or B instruction captures. -/
def usesE (st len opc : Nat) (w b : SlotWord) : Uses :=
  let f := FA.dec w
  let e := EW.dec b
  let gate := if len ≠ 1 ∧ !(st == 4 && opc == 4) ∧ e.xop.getLsbD 12 then [rK (e.xop.toNat / 512)] else []
  let mk (rd : List Reg) : Uses := { rd := gate ++ rd }
  match st, opc with
  | 3, 0x02 | 3, 0x07 | 3, 0x08 => mk [rS f.a]
  | 3, 0x06 => mk [rS f.d, rS f.a]
  | 3, 0x09 => mk [rS f.d]
  | 3, _ => mk []
  | 4, 0x01 | 4, 0x05 => mk [rS f.a, rS f.b, rS f.d]
  | 4, 0x02 | 4, 0x04 => mk [rS f.a, rS f.b, rS (f.b + 1), rS f.d]
  | 4, 0x03 => mk [rS f.a, rS f.d, rL f.fn.toNat, rL f.b.toNat]
  | 4, 0x06 => mk [rS f.a, rS f.d]
  | 4, 0x07 | 4, 0x08 => mk [rS f.a, rS f.b]
  | 4, _ => mk []
  | _, 0x00 => mk []
  | _, 0x09 => mk [rS f.a, rS f.b, rS f.d, rL e.xop.toNat]
  | _, 0x0A | _, 0x0B => mk [rS f.a]
  | _, 0x0C => mk [rS f.d]
  | _, _ => mk [rS f.a, rS f.b, rS f.d]

/-- What the instruction in these words reads and writes, s0 and p0 apart. -/
def usesOf (st : Nat) (w b c : SlotWord) : Uses :=
  let u := if st = 0 then usesS (opcOf w) w b else if st ≤ 2 then usesV st (lenOf w) (opcOf w) w b c else usesE st (lenOf w) (opcOf w) w b
  { rd := u.rd.filter fun r => !r.exempt, wr := u.wr.filter fun r => !r.exempt }

/-- R42: one of two instructions reads or writes a register that the other writes. -/
def Uses.clash (a b : Uses) : Bool :=
  b.wr.any (fun r => a.rd.contains r || a.wr.contains r) || a.wr.any fun r => b.rd.contains r

/-- Other readings of a second word that share no register with it: of S, with another CLASS; of a vector instruction, with vc
half a file away, another mask or gate and every type that sizes a group; of an engine, with another stage gate and record
(02 Table 2.3). -/
def rereads (st : Nat) : List SlotWord :=
  if st = 0 then [0x7]
  else if st ≤ 2 then (List.range 16).map fun i => BitVec.ofNat 32 (0x003E0000 + i * 0x400000)
  else [0x70780000]
/-- The uses that two readings share. -/
def Uses.both (a b : Uses) : Uses := { rd := a.rd.filter b.rd.contains, wr := a.wr.filter b.wr.contains }
/-- The registers that the first `k` words name: those that stay in other readings of a later word. -/
def usesUpTo (st k : Nat) (w b c : SlotWord) : Uses :=
  let u := usesOf st w b c
  let u := if k ≤ 2 then u.both (usesOf st w b (c ^^^ 7)) else u
  if k ≤ 1 then (rereads st).foldl (fun u x => u.both (usesOf st w (b ^^^ x) c)) u else u
/-- The first word with which an instruction breaks R42 against earlier ones (R57). -/
def Uses.clashAt (a : Uses) (st : Nat) (w b c : SlotWord) : Option Nat :=
  if a.clash (usesOf st w b c) then [0, 1, 2].find? fun k => a.clash (usesUpTo st (k + 1) w b c) else none

/-- R43's S instructions, each last in its group. -/
def lastInGroup (st opc : Nat) : Bool :=
  st == 0 && [0x01, 0x02, 0x03, 0x04, 0x05, 0x06, 0x07, 0x09, 0x0A, 0x0B, 0x0D, 0x0E, 0xE2, 0xE3, 0xE9].contains opc

end Sys2Proof.Machine
end

