-- ==== Sys2Proof/Machine/Group.lean ====
section
/-! DEFINITION. Group.lean: assembling a group from its folios with its decode faults (02 R38 to R44, R57), capturing the
operands of engine instructions (04 R132, 02 R62), and the event GROUP_DISPATCH (02 R44, 04 R133 to R135, 14 R417). -/

namespace Sys2Proof.Machine

/-! ### Assembly -/

/-- What a folio's slots come to: the group still open, closed before slot `j`, or a defect: sub-code, charged slot and
the lead slot of its instruction (log 24). -/
inductive Part where
  | opened (slots : List GSlot) (uses : Uses) (last : Bool)
  | closed (slots : List GSlot) (j : Nat)
  | bad (sub slot lead : Nat)
  deriving DecidableEq, Repr

/-- The least of several sub-codes. -/
def leastSub (cs : List (Option Nat)) : Option Nat :=
  cs.foldl (fun m x => match m, x with
    | some a, some b => some (min a b)
    | none, x => x
    | m, none => m) none

/-- The lead word in a slot is a SEAL (12 R372). -/
def isSeal (st : Nat) (w : SlotWord) : Bool := st == 0 && opcOf w == 0x0C && lenOf w == 1
/-- A SEAL leads in a slot from `k` on and before `j`. -/
def sealBefore (ws : List SlotWord) : Nat → Nat → Nat → Bool
  | 0, _, _ => false
  | fuel + 1, k, j =>
    if j ≤ k then false
    else if streamOf ws k = 7 then sealBefore ws fuel (k + 1) j
    else isSeal (streamOf ws k) (slotWord ws k) || sealBefore ws fuel (k + max 1 (lenOf (slotWord ws k))) j

/-- The least defect of the instruction whose lead slot is `j`, as 256 × its word + sub-code (R57). -/
def slotDefect (ws : List SlotWord) (j : Nat) (slots : List GSlot) (u : Uses) (last : Bool) : Option SubCode :=
  let st := streamOf ws j
  let w := slotWord ws j
  let w1 := slotWord ws (j + 1)
  let w2 := slotWord ws (j + 2)
  let len := lenOf w
  leastSub [
    (defect st w w1 w2),
    if 7 < j + len - 1 then some 0x05 else none,
    ([1, 2].find? fun k => decide (k < len) && (streamOf ws (j + k) != st || stopOf ws (j + k))).map fun k => 256 * k + 0x05,
    if (slots.filter fun g => g.stream == st).length < (if st = 0 then 2 else 1) then none else some 0x08,
    (u.clashAt st w w1 w2).map fun k => 256 * k + 0x09,
    if last || sealBefore ws 8 1 j then some 0x0A else none]

/-- The slots of a folio from `j` on, added to the open group (02 R38 to R43, R57). -/
def folioPart (folio : Word) (ws : List SlotWord) : Nat → Nat → List GSlot → Uses → Bool → Part
  | 0, _, slots, u, last => .opened slots u last
  | fuel + 1, j, slots, u, last =>
    if 7 < j then .opened slots u last
    else
      let st := streamOf ws j
      if st = 7 then
        if emptySlot ws j then folioPart folio ws fuel (j + 1) slots u last else .bad 0x03 j j
      else
        let w := slotWord ws j
        let w1 := slotWord ws (j + 1)
        let w2 := slotWord ws (j + 2)
        let len := lenOf w
        let mine := usesOf st w w1 w2
        match slotDefect ws j slots u last with
        | some d => .bad (d % 256) (j + d / 256) j
        | none =>
          let slots := slots ++ [{ folio := folio, slot := j, stream := st, words := [w, w1, w2].take len }]
          if stopOf ws j then .closed slots (j + len)
          else folioPart folio ws fuel (j + len) slots { rd := u.rd ++ mine.rd, wr := u.wr ++ mine.wr } (lastInGroup st (opcOf w))

/-- What assembling comes to: a group, a folio to wait for (with the point from which only empty slots led to it, if no
instruction came before), or a fault. -/
inductive Asm where
  | group (g : Group)
  | absent (folio : Word) (empty : Bool)
  | fault (t : Trap)
  deriving DecidableEq, Repr

/-- Assemble the group at slot `j` of `folio`; `first` in the folio where it starts (02 R40). -/
def Core.assemble (c : Core) : Nat → Word → Nat → Bool → List GSlot → Uses → Bool → Asm
  | 0, folio, _, _, _, _, _ => .absent folio false
  | fuel + 1, folio, j, first, slots, u, last =>
    match c.folioAt folio with
    | .absent => .absent folio slots.isEmpty
    | .bad cause i0 i1 i2 => .fault { cause := cause, stream := 0, slot := j, pc := folio, i0 := i0, i1 := i1, i2 := i2 }
    | .words ws =>
      let bad (sub slot lead : Nat) : Asm :=
        .fault { cause := 0x01, stream := 0, slot := lead, pc := folio, i0 := BitVec.ofNat 64 (sub + 256 * slot) }
      if !first && isEntry ws && !slots.isEmpty then .group { slots := slots, nextFolio := folio, nextSlot := 1 }
      else if (rubric ws).toNat / 2 ^ 29 ≠ 0 then bad 0x04 0 0
      else match folioPart folio ws 8 j slots u last with
        | .bad sub slot lead => bad sub slot lead
        | .closed slots k =>
          .group (if k ≤ 7 then { slots := slots, nextFolio := folio, nextSlot := k } else { slots := slots, nextFolio := folio + 32, nextSlot := 1 })
        | .opened slots u last => c.assemble fuel (folio + 32) 1 false slots u last

/-! ### Captures -/

/-- The scalar operands of an engine instruction as its queue entry holds them (04 R132, 05 R140, 10 R310). -/
def Core.capture (c : Core) (seq : Nat) (g : GSlot) : QEnt :=
  let a := g.words.headD 0
  let b := g.words.getD 1 0
  let opc := opcOf a
  let f := FA.dec a
  let v := VW.dec b
  let e := EW.dec b
  let m := MW.dec (g.words.getD 2 0)
  let vec := decide (g.stream ≤ 2)
  let long := decide (2 ≤ g.words.length)
  let misc := (FE.dec a).misc.toNat
  let ra := if g.stream = 3 ∧ (opc = 0x06 ∨ opc = 0x09) ∨ g.stream = 5 ∧ opc = 0x0C then misc % 64 else f.a.toNat
  let rb := if g.stream = 3 ∧ opc = 0x06 then misc / 64 % 64 else f.b.toNat
  { seq := seq
    folio := g.folio
    slot := g.slot
    words := g.words
    a := c.rs ra
    b := c.rs rb
    b1 := c.rs ((rb + 1) % 64)
    d := c.rs f.d.toNat
    c := if vec && long then c.rs v.vc.toNat else 0
    brel := if vec && g.words.length == 3 && m.space == 1 && m.cls.getLsbD 3 then c.sc.b.get (m.cls.toNat % 8) else 0
    gate :=
      if vec && long && v.stgen == 1 then some (c.sc.k.get (v.mask.toNat % 8))
      else if !vec && long && e.xop.getLsbD 12 && !(g.stream == 4 && opc == 0x04) then some (c.sc.k.get (e.xop.toNat / 512 % 8))
      else none
    la := if g.stream = 4 ∧ opc = 0x03 then c.sc.lrec.get f.fn.toNat else if g.stream = 5 ∧ opc = 0x09 then c.sc.lrec.get (e.xop.toNat % 16) else 0
    lb := if g.stream = 4 ∧ opc = 0x03 then c.sc.lrec.get (f.b.toNat % 16) else 0 }

/-- The captured operands as the meaning of an issuing entry reads them. -/
def QEnt.cur (q : QEnt) (st : Nat) : Cur :=
  { folio := q.folio, slot := q.slot, stream := st, seq := q.seq, words := q.words, a := q.a, b := q.b, b1 := q.b1, d := q.d, c := q.c, brel := q.brel,
    gate := q.gate, la := q.la, lb := q.lb }

/-- The entries of a group's engine instructions join their queues in slot order (02 R44). -/
def Core.enqueue (c : Core) (es : List (Nat × QEnt)) : Core :=
  { c with queues := es.foldl (fun q e => q.set e.1 (q.get e.1 ++ [e.2])) c.queues }

/-! ### Dispatch -/

/-- A group's S instructions in slot order: the state in which all have their effect; the state that holds only what
waiting and faulting ones changed; their faults; the instructions that wait. -/
structure SRun where
  all : State
  own : State
  traps : List Trap := []
  held : List Nat := []

/-- Run S instruction `g`, the `i`th of its group, on a state. -/
def State.runS1 (s : State) (g : GSlot) (i : Nat) (gr : Group) : Result :=
  runWords 0 g.words (s.mapCore fun c => { c with
    cur := { folio := g.folio, slot := g.slot, stream := 0, seq := c.flow.seq + i, first := c.flow.seq, nextFolio := gr.nextFolio, nextSlot := gr.nextSlot }
    out := .done })

/-- One more S instruction: the run behind its group's earlier ones says whether it waits or faults; where it does so by
itself too, its own changes (a query, a walk) stand. -/
def SRun.step (r : SRun) (g : GSlot) (i : Nat) (gr : Group) : Host.Outcome SRun Fault Refusal :=
  match r.all.runS1 g i gr, r.own.runS1 g i gr with
  | .next t, .next o =>
    let own := if o.core.out = .done then r.own else o
    .next (match t.core.out with
    | .done => { r with all := t }
    | .hold => { r with own := own, held := r.held ++ [opcOf (g.words.headD 0)] }
    | .trap τ => { r with own := own, traps := r.traps ++ [τ] })
  | .fault e, _ => .fault e
  | .refused e, _ => .refused e
  | _, .fault e => .fault e
  | _, .refused e => .refused e

def SRun.steps (gr : Group) : List (GSlot × Nat) → SRun → Host.Outcome SRun Fault Refusal
  | [], r => .next r
  | (g, i) :: l, r => match r.step g i gr with
    | .next r => SRun.steps gr l r
    | .fault e => .fault e
    | .refused e => .refused e

/-- Nothing dispatches in this cycle (04 R135). -/
def State.stalled (s : State) : State := s.mapCore fun c => { c with flow := { c.flow with dispatched := true } }

/-- The instructions whose wait counts toward pre-emption (12 R380, 11 R360), by opcode: BAR, BWAIT, GWAIT, JWAIT, WAITW,
WATCH, UNWATCH. -/
def waitOpc (opc : Nat) : Bool := [0x80, 0x82, 0x84, 0x89, 0x55, 0x8A, 0x8B].contains opc
def Core.countWait (c : Core) (held : List Nat) : Core :=
  if held.any waitOpc then { c with strand := c.strand.map fun t => { t with waitRuns := t.waitRuns + 1 } } else c

/-- The first group of the last folio of a block requests the next block at its dispatch (04 R133): that block. -/
def Core.nextBlock (c : Core) (g : Group) : Option Word :=
  (g.slots.find? fun x => x.folio.toNat % 256 == 224).bind fun x => match c.folioAt x.folio with
    | .words ws => if ([1, 2, 3, 4, 5, 6, 7].filter fun j => decide (j < x.slot)).all fun j => emptySlot ws j then some (x.folio + 32) else none
    | _ => none
def State.prefetch (s : State) (g : Group) : State := match g.ahead with
  | some a => s.requestBlock a
  | none => s

/-- The point after a group, and the cycle after it. -/
def Core.advance (c : Core) (g : Group) : Core :=
  { c with
    pc := { folio := g.nextFolio, slot := g.nextSlot }
    flow := { c.flow with next := c.now + 1 } }

/-- A group dispatches whole, is held back, or faults (02 R44, 04 R135, 14 R417). -/
def State.dispatch (s : State) (g : Group) : Result :=
  let c := s.core
  let eng := g.slots.zipIdx.filter fun x => x.1.stream != 0
  if c.trap.active && !eng.isEmpty then .next (s.mapCore fun c => { c with dbl := some (c.dbl.getD (none, 2)) })
  else if eng.any fun x => decide (16 ≤ (c.queues.get x.1.stream).length) then .next s.stalled
  else
    let entries := eng.map fun x => (x.1.stream, c.capture (c.flow.seq + x.2) x.1)
    match SRun.steps g (g.slots.zipIdx.filter fun x => x.1.stream == 0) { all := s.mapCore fun c => c.advance g, own := s } with
    | .fault e => .fault e
    | .refused e => .refused e
    | .next r =>
      if !r.held.isEmpty then .next ((r.own.mapCore fun c => ({ c with group := some g }).countWait r.held).stalled)
      else match r.traps with
        | _ :: _ => .next (r.own.mapCore fun c => r.traps.foldl Core.record { c with group := none })
        | [] =>
          if r.all.core.strand.isNone then .next r.all
          else .next ((r.all.mapCore fun c => { (c.enqueue entries) with
            flow := { c.flow with
              seq := c.flow.seq + g.slots.length
              dispatched := true }
            group := none
            strand := c.strand.map fun t => { t with waitRuns := 0 } }).prefetch g)

/-- A failed branch target (02 R36): the fault stands at the branch, the attempted target is the resume point, and CALLI's
link register is as if the link had not been written (04 R125, R127). -/
def Core.badTarget (c : Core) (a : Arrive) : Core :=
  let c := c.record { cause := 0x03, stream := 0, slot := a.slot, pc := a.folio, i0 := c.pc.folio }
  { c with
    pc := { folio := c.pc.folio }
    sc := match a.link with
      | some (r, v) => { c.sc with s := c.sc.s.set r v }
      | none => c.sc }

/-- A fetch or decode fault is precise at this dispatch (02 R44, 04 R134); a block whose fill brought it can be requested
anew. -/
def State.groupFault (s : State) (t : Trap) : State :=
  s.mapCore fun c => (if t.cause = 0x01 then c else c.dropFill (blockOf t.pc)).record t

/-- The group at the point, once its entry check has passed. -/
def State.dispatchHere (s : State) : Result :=
  match s.core.group with
  | some g => s.dispatch g
  | none => match s.core.assemble 1032 s.core.pc.folio s.core.pc.slot true [] {} false with
    | .group g => s.dispatch { g with ahead := s.core.nextBlock g }
    | .fault t => .next (s.groupFault t)
    | .absent folio empty =>
      .next ((s.mapCore fun c => if empty && folio != c.pc.folio then { c with pc := { folio := folio } } else c).requestBlock folio).stalled

/-- GROUP_DISPATCH. -/
def execGroupDispatch (s : State) : Result :=
  if s.core.strand.isNone then .next s else
  match s.core.pc.entry with
  | none => s.dispatchHere
  | some a =>
    if s.core.pc.folio.toNat % 32 ≠ 0 then .next (s.mapCore fun c => c.badTarget a) else
    match s.core.folioAt s.core.pc.folio with
    | .absent => .next (s.requestBlock s.core.pc.folio).stalled
    | .bad cause i0 i1 i2 => .next (s.groupFault { cause := cause, stream := 0, slot := 1, pc := s.core.pc.folio, i0 := i0, i1 := i1, i2 := i2 })
    | .words ws =>
      if isEntry ws then (s.mapCore fun c => { c with pc := { c.pc with entry := none } }).dispatchHere
      else .next (s.mapCore fun c => c.badTarget a)

end Sys2Proof.Machine
end

