-- ==== Sys2Proof/Machine/CoreEv.lean ====
section
/-! DEFINITION. CoreEv.lean: what falls due on a core: results and landings (02 R62, R63; 05 R150 to R152), freezes for late
data and STALL (01 R24 to R26), effects leaving their hold (05 R174), and signals (05 R157). -/

namespace Sys2Proof.Machine

/-! ### RESULT_WRITE and LANDING -/

/-- A pending write that is due on the clock that runs: the strand's, or the handler's in trap state (14 R419). -/
def Core.pendDue (c : Core) (p : Pend) : Bool := p.hand == c.trap.active && decide (p.due ≤ c.now)
/-- Which of two writes of one cycle comes first: lower rank (03 R90), then program order (02 R63). -/
def Pend.before (a b : Pend) : Bool := decide (a.rank < b.rank) || (a.rank == b.rank && decide (a.seq < b.seq))
def firstPend : List Pend → Option Pend
  | [] => none
  | p :: r => match firstPend r with
    | none => some p
    | some q => if q.before p then some q else some p
def Core.duePend (c : Core) : Option Pend := firstPend (c.pend.filter c.pendDue)

/-- A landing whose cycle has come on its clock. -/
def Core.landDue (c : Core) (l : Land) : Bool := l.hand == c.trap.active && decide (l.due ≤ c.now)
def firstLand : List Land → Option Land
  | [] => none
  | l :: r => match firstLand r with
    | none => some l
    | some m => if m.seq < l.seq then some m else some l
def State.dueLand (s : State) : Option Land := firstLand (s.core.lands.filter fun l => s.core.landDue l && s.arrived l)

/-- RESULT_WRITE: the first write due takes effect (02 R62, R63). -/
def execResultWrite (s : State) : Result :=
  .next (match s.core.duePend with
    | none => s
    | some p => (s.mapCore fun c => { c with pend := c.pend.erase p }).applyWr p.wr)

/-- LANDING: the first load due whose data is here lands (05 R150, R152). -/
def execLanding (s : State) : Result :=
  .next (match s.dueLand with
    | none => s
    | some l => s.land l)

/-! ### Late data (01 R24 to R26; 10 R323) -/

/-- The strand runs: it is started and has not stopped for its write-back. -/
def Core.runs (c : Core) : Bool := match c.strand with
  | some t => t.started && !t.dormant
  | none => false

/-- A landing, or a granule of a timed copy, that falls due in the next cycle and whose data is not here. -/
def State.lateLand (s : State) : Option Land :=
  s.core.lands.find? fun l => l.hand == s.core.trap.active && decide (l.due ≤ s.core.now + 1) && !s.arrived l
def State.lateGran (s : State) : Option (Copy × Gran) :=
  if s.core.trap.active then none else
  s.core.cpy.copies.findSome? fun k => if !k.timed then none else
    (k.grans.find? fun g => decide (g.due ≤ s.core.now + 1) && !g.here s.wall).map fun g => (k, g)
def State.late (s : State) : Bool := s.core.runs && (s.lateLand.isSome || s.lateGran.isSome)

def Core.freeze (c : Core) (on : Bool) (n : Nat) : Core :=
  { c with flow := { c.flow with
    frozen := on
    stall := n } }

/-- LATE_DATA_FREEZE: the core freezes before the cycle in which the late data would land (R24). -/
def execLateDataFreeze (s : State) : Result :=
  .next (if s.late && !s.core.flow.frozen then s.mapCore fun c => c.freeze true 0 else s)
/-- LATE_DATA_ARRIVAL: the data is here, the core runs on and its stall counter clears (R25, R26). -/
def execLateDataArrival (s : State) : Result :=
  .next (if s.core.flow.frozen && !s.late then s.mapCore fun c => c.freeze false 0 else s)

/-- The channel, with bit 7, or the port that a late landing waits for (10 R326, log 31). -/
def State.lateName (s : State) (l : Land) : Nat :=
  if l.fabric then
    match s.fab.out.find? fun o => o.land == some l.id with
    | some o => s.fab.portOf o.target
    | none => 0
  else match l.src with
    | .mem (p :: _) => 128 + ((s.lateChan p.1 p.2).getD (paOf p.1 / 256 % 128))
    | _ => 128 + l.addr.toNat / 256 % 128

/-- STALL: 16,384 frozen cycles end the freeze with a fault of the instruction that waits (R26). -/
def execLateStall (s : State) : Result :=
  .next (if s.core.flow.stall < 16384 then s else
    let t := s.mapCore fun c => c.freeze false 0
    match s.lateLand with
    | some l => t.record { cause := 0x0C, stream := l.stream, slot := l.slot, pc := l.pc, i0 := l.addr, i2 := BitVec.ofNat 64 (s.lateName l), op := l.seq }
    | none => match s.lateGran with
      | some (k, g) => t.record { cause := 0x0C, stream := 4, slot := k.slot, pc := k.folio, i0 := g.va, i2 := BitVec.ofNat 64 (128 + g.ch), op := k.seq }
      | none => t)

/-! ### EGRESS_RELEASE (05 R147, R174; 11 Table 11.2) -/

/-- The count of the unit that holds an effect. -/
def State.unitClock (s : State) (clk : Nat) : Nat :=
  if clk = 0 then s.core.flow.conf else if clk = 1 then (quadOf s (s.id / 4)).cyc
  else if clk < 18 then (stackOf s (clk - 2)).cyc else s.core.flow.run
/-- The hold of an effect is over. An output for the core's own storage is written in a cycle of the core, a BJOIN arrives in a
cycle of its stack (09 R271, R274), and what a stack repeats stays. -/
def State.effDue (s : State) (e : Eff) : Bool :=
  decide (e.leave ≤ s.unitClock e.clk) && (decide (e.clk < 2) || decide (18 ≤ e.clk) || !s.redoing (e.owner, e.seq)) && (match e.kind with
    | .inCore .. => s.core.flow.begun
    | .join .. => decide (e.clk < 18) || !(stackOf s (e.clk - 18)).throttled
    | _ => true)
/-- What the core sends only once everything that it follows is performed (11 R343, R346, R354). -/
def EffKind.waits : EffKind → Bool
  | .atomic _ _ _ _ _ _ (some _) => true
  | .barrier .. => true
  | .join .. => true
  | .watch .. => true
  | .trig => true
  | .spawn .. => true
  | .nsub .. => true
  | .purge .. => true
  | .clrun .. => true
  | _ => false
/-- The first effect that leaves: a unit's effects leave in issue order (05 R174); `stuck` are the units passed over. -/
def State.dueEffFrom (s : State) : List Nat → List Eff → Option Eff
  | _, [] => none
  | stuck, e :: r =>
    if stuck.contains e.clk || !s.effDue e then s.dueEffFrom stuck r
    else if e.kind.waits && !s.performed e.after then s.dueEffFrom (e.clk :: stuck) r
    else some e
def State.dueEff (s : State) : Option Eff := s.dueEffFrom [] s.core.hold

/-- How long an effect is on its way beside contention: to its engine and through it, to a barrier, or, to memory and the
pool, a time that no rule fixes. -/
def State.pathTime (s : State) (k : EffKind) : Nat :=
  let eng (loc : Nat) : Nat := enginePath s.id (homeQuad loc) + 4 + (if s.sync.resident loc then 0 else 40)
  match k with
  | .atomic loc .. => eng loc
  | .watch loc .. => eng loc
  | .join loc .. => enginePath s.id (homeQuad loc) + 1 + (if s.sync.resident loc then 0 else 40)
  | .unwatch h _ => enginePath s.id (h.toNat / 64 % 4) + 1
  | .barrier sc _ b _ _ => barPath s.id sc b + 1
  | _ => 0
/-- The effect as a message to the unit that applies it. -/
def State.sendEff (s : State) (e : Eff) : State :=
  let x := s.takeTxn (s.holdSource e) e.kind
  let t := s.pathTime e.kind
  State.bump { x.1 with net := x.1.net ++
    [{ id := e.id, owner := e.owner, core := s.id, at_ := s.wall + t + s.contend e.kind s.id t, seq := e.seq, stream := e.stream, cls := e.cls,
       scope := e.scope, after := e.after, narrow := e.narrow, unc := e.unc, src := e.src, txn := x.2, source := s.holdSource e, clk := e.clk, kind := e.kind }] }

/-- An effect leaves its hold (R174): requests for peers join the fabric, outputs for the core's own storage are written,
anything else is on its way to the unit that applies it. -/
def State.release (s : State) (e : Eff) : State :=
  let s := s.mapCore fun c => { c with hold := c.hold.filter (·.id != e.id) }
  match e.kind with
  | .fabric req t land tr => s.fabSend e.id (some e.owner) e.cls t land req e.after tr
  | .inCore sp bs =>
    s.mapCore fun c =>
      if sp ≤ 1 then { c with scrNext := c.scrNext ++ [bs] }
      else if c.strand.isSome && c.owner == e.owner then c.setCluster (sp == 3) ((c.cluster (sp == 3)).put bs)
      else c
  | _ => s.sendEff e

/-- EGRESS_RELEASE: the first effect whose 320 cycles are over leaves. -/
def execEgressRelease (s : State) : Result :=
  .next (match s.dueEff with
    | none => s
    | some e => (s.release e).mapCore Core.trimMacros)

/-! ### SIGNAL_GIVEN (05 R156, R157) -/

/-- Every condition of a pending signal holds (Table 5.9). -/
def State.sigReady (s : State) (g : Sig) : Bool :=
  decide (g.cyc ≤ (if g.hand then s.core.flow.hcycle else s.core.flow.cycle)) && s.performed g.perf
    && g.lands.all (fun l => !s.core.lands.any (·.id == l))
    && (match g.ended with
      | none => true
      | some n => !s.core.working g.prod n && (!g.outs || !s.own.any fun e => e.stream == g.prod && e.seq == n))

/-- The first pending signal that is its pair's oldest and whose conditions hold; `before` are those passed over. -/
def State.dueSigFrom (s : State) : List Sig → List Sig → Option Sig
  | [], _ => none
  | g :: r, before =>
    if before.any (fun h => h.prod == g.prod && h.cons == g.cons) || !s.sigReady g then s.dueSigFrom r (g :: before) else some g
def State.dueSig (s : State) : Option Sig := s.dueSigFrom s.core.sigs []

/-- SIGNAL_GIVEN. -/
def execSignalGiven (s : State) : Result :=
  .next (match s.dueSig with
    | none => s
    | some g => s.mapCore fun c => c.give g)

end Sys2Proof.Machine
end

