-- ==== Sys2Proof/Machine/Ckpt.lean ====
section
/-! DEFINITION. Ckpt.lean: the checkpoint of the package and its restore (15 R455 to R458): GO, CHECKPOINT_COMPLETE,
RESTORE, RESTORE_COMPLETE. -/

namespace Sys2Proof.Machine

/-! ### The image (15 Tables 15.10 and 15.11) -/

/-- Carve units in carve-map order: bit 4q + u of the map is unit u of quadrant q. -/
def State.carveMap (s : State) : List Nat := (List.range 16).filter s.mem.carved.contains

def b2n (b : Bool) (n : Nat) : Nat := if b then n else 0

/-- Section 1: a node. -/
def Node.bytes (n : Node) (h : Nat) : List Byte :=
  natLe 128 n.record.toNat ++ natLe 2 h ++ natLe 2 n.preds ++ natLe 2 n.early ++ natLe 1 n.level ++ natLe 1 n.pass
    ++ natLe 1 (b2n (n.phase == 1) 1 + b2n (n.phase == 2) 2 + b2n n.pinned 4 + b2n (n.phase == 3) 8)
    ++ natLe 1 n.scope ++ natLe 1 n.inst ++ natLe 1 ((n.group.map (·.1)).getD 0xFF) ++ natLe 1 n.status ++ natLe 3 0
    ++ natLe 4 n.trig.toNat ++ natLe 4 n.exited.toNat ++ natLe 4 n.live.toNat ++ natLe 100 0
def State.nodeList (s : State) : List (Nat × Node) := s.sched.nodes.filterMap fun e => e.2.map fun n => (e.1, n)

/-- Section 5: a barrier counter. -/
def barBytes (k : Nat × Nat × Nat × Nat) (b : Bar) : List Byte :=
  let wide := decide (3 ≤ k.1)
  natLe 1 k.1 ++ natLe 1 k.2.2.1 ++ natLe 1 k.2.1 ++ natLe 1 0 ++ natLe 2 (if wide then 0 else k.2.2.2) ++ natLe 2 b.p ++ natLe 2 b.a ++ natLe 2 b.exp
    ++ natLe 1 (b2n b.faulted 1) ++ natLe 3 0 ++ natLe 8 (if wide then b.word.toNat else 0) ++ natLe 8 0
/-- Section 6: a suspended strand's waiter, and a watch entry. -/
def Waiter.bytes (w : Waiter) (i dom : Nat) : List Byte :=
  natLe 1 1 ++ natLe 1 (homeQuad w.loc) ++ natLe 1 i ++ natLe 1 w.cond ++ natLe 1 (b2n w.w32 1) ++ natLe 1 dom ++ natLe 2 0 ++ natLe 8 w.loc
    ++ natLe 8 w.v.toNat ++ natLe 8 (w.node + w.idx * 2 ^ 14) ++ natLe 32 0
def Watch.bytes (w : Watch) (k : Nat) : List Byte :=
  natLe 1 2 ++ natLe 1 (k / 64) ++ natLe 1 (k % 64) ++ natLe 1 w.cond ++ natLe 1 (b2n w.w32 1) ++ natLe 1 w.dom ++ natLe 2 0 ++ natLe 8 w.loc
    ++ natLe 8 w.v.toNat ++ natLe 8 w.recLoc ++ natLe 32 0
/-- Section 7: a collective run, and an engine's count. -/
def Run.bytes (r : Run) (q i : Nat) : List Byte :=
  natLe 1 q ++ natLe 1 i ++ natLe 1 r.dom ++ natLe 1 0 ++ natLe 4 r.ticket ++ natLe 8 r.va.toNat ++ natLe 1 r.step ++ natLe 7 0
    ++ ((List.range 4).flatMap fun j => natLe 2 (r.ctr.getD j 0)) ++ natLe 64 r.header.toNat ++ natLe 32 0
def countBytes (q : Nat) (n : BitVec 32) : List Byte := natLe 1 q ++ natLe 1 0xFF ++ natLe 2 0 ++ natLe 4 n.toNat ++ natLe 120 0

/-- The replicas of a stack that have a home. -/
def State.homed (s : State) (n : Nat) : List Entry := ((stackOf s n).table.map (·.2)).filter fun e => Entry.valid e && !Entry.isLocal e
/-- Section 9: the runs of a stack's bytes outside those footprints, in units of 1 MiB: first unit and length. -/
def freeRuns (fs : List (Nat × Nat)) : Nat → Nat → List (Nat × Nat)
  | 0, _ => []
  | fuel + 1, u =>
    if 2 ^ 17 ≤ u then [] else
    match fs.find? fun f => decide (f.1 ≤ u) && decide (u < f.1 + f.2) with
    | some f => freeRuns fs fuel (f.1 + f.2)
    | none =>
      let e := (fs.filter fun f => decide (u < f.1)).foldl (fun m f => min m f.1) (2 ^ 17)
      (u, e - u) :: freeRuns fs fuel e
def State.localRuns (s : State) (n : Nat) : List (Nat × Nat) :=
  let fs := (s.homed n).map fun e => (e.base / 2 ^ 20, max 1 e.units)
  freeRuns fs (2 * fs.length + 2) 0

/-- Section 11: the bound groups: first stack, size, handle. -/
def State.groups (s : State) : List (Nat × Nat × Nat) := s.nodeList.filterMap fun e => e.2.group.map fun g => (g.1, g.2, e.1)

/-- The context images in handle and strand order, with the bytes of each. -/
def State.savedImages (s : State) : List (Nat × Saved × Chunk) :=
  s.sched.saved.filterMap fun e => e.2.bind fun v => v.core.map fun c => (e.1, v, Chunk.pad c.imageChunk 64)

/-- The sections: how many entries each has, and its bytes. -/
def State.sections (s : State) : List (Nat × Chunk) :=
  let nodes := s.nodeList
  let list (bs : List (List Byte)) : Nat × Chunk := (bs.length, chunk bs.flatten)
  let imgs := s.savedImages
  let runs := s.fab.coll.flatMap fun e => (e.2.getD {}).runs.mapIdx fun i r => Run.bytes r e.1 i
  let watches := s.sync.watch.filterMap fun e => e.2.map fun w => Watch.bytes w e.1
  let waits := (s.sync.waiters.filter fun w => w.kind == 2).mapIdx fun i w => Waiter.bytes w i (((s.node w.node).map fun n => recDom n.record).getD 0)
  let locals := (List.range 16).flatMap fun n => (s.localRuns n).map fun r => (n, r)
  [list (nodes.map fun e => e.2.bytes e.1),
   (4, chunk ([3, 2, 1, 0].flatMap fun l => natLe 4 (s.sched.fifo.get l).length ++ (s.sched.fifo.get l).flatMap fun x => natLe 2 x.1)),
   list (s.sched.records.map fun e => natLe 64 e.2.toNat),
   (imgs.length, chunkJoin (imgs.flatMap fun e =>
      [chunk (natLe 2 (e.1 / 32) ++ natLe 1 (e.1 % 32) ++ natLe 5 0 ++ natLe 8 e.2.2.1 ++ natLe 48 0), e.2.2])),
   list (s.sync.bars.map fun e => barBytes e.1 e.2),
   list (waits ++ watches),
   list (runs ++ (List.range 4).map fun q => countBytes q (collOf s q).count),
   (s.carveMap.length, chunkJoin (s.carveMap.flatMap fun u =>
      [s.mem.base.slice (0x8000000000000 + u * 2 ^ 26) (2 ^ 26), chunk ((List.range 16384).flatMap fun i => natLe 2 (s.mem.tiles.get (u * 16384 + i)))])),
   (locals.length, chunkJoin (locals.flatMap fun x =>
      [chunk (natLe 1 x.1 ++ natLe 3 0 ++ natLe 4 x.2.2 ++ natLe 8 (x.2.1 * 2 ^ 20)), s.mem.base.slice (stackLoc x.1 (x.2.1 * 2 ^ 20)) (x.2.2 * 2 ^ 20)])),
   (16, chunk ((List.range 16).flatMap fun n => (List.range 256).flatMap fun i => natLe 64 ((stackOf s n).table.get i).toNat)),
   (s.groups.length, chunkJoin (s.groups.flatMap fun g =>
      chunk (natLe 1 g.1 ++ natLe 1 g.2.1 ++ natLe 2 g.2.2 ++ natLe 12 0) :: (List.range g.2.1).flatMap fun p =>
        (List.range 256).flatMap fun l => [(stackOf s (g.1 + p)).act.slice (32768 * l) 32768, wordsChunk (stackOf s (g.1 + p)).acc (8192 * l) 8192]))]

/-- Where each section stands: kind, entry count, offset, bytes. -/
def sectionTable : Nat → Nat → List (Nat × Chunk) → List (Nat × Nat × Nat × Nat)
  | _, _, [] => []
  | kind, off, (n, c) :: r => (kind, n, off, c.1) :: sectionTable (kind + 1) (off + ceilDiv c.1 4096 * 4096) r

/-- The 4096-byte header. -/
def State.ckptHeader (s : State) (tab : List (Nat × Nat × Nat × Nat)) (total : Nat) (failed : Bool) : List Byte :=
  [0x5A, 0x48, 0x43, 0x4B] ++ natLe 2 1 ++ natLe 2 (if failed then 2 else 1) ++ natLe 8 total ++ natLe 8 s.fab.podId.toNat
    ++ natLe 2 (s.carveMap.map fun u => 2 ^ u).sum ++ natLe 4 s.host.ckptLost.toNat ++ natLe 2 11 ++ natLe 32 0
    ++ (tab.flatMap fun x => natLe 4 x.1 ++ natLe 4 x.2.1 ++ natLe 8 x.2.2.1 ++ natLe 8 x.2.2.2 ++ natLe 8 0) ++ natLe 3680 0

/-- CKPT_BASE's address. -/
def State.ckptBase (s : State) : Nat := (s.host.ckptBase &&& 0x000FFFFFFFFFF000).toNat

/-- The granules of section 4 that carry a blot: each image stands behind its locator (05 R477). -/
def State.savedBlots (s : State) : List Nat :=
  (s.savedImages.foldl (fun (a : Nat × List Nat) e =>
    (a.1 + 1 + e.2.2.1 / 64, a.2 ++ ((e.2.1.core.map Core.imageBlots).getD []).map (a.1 + 1 + ·))) (0, [])).2
/-- What goes with an image beside its sections (01 Table 1.11). -/
def State.besideNow (s : State) : Beside :=
  { bars := s.sync.bars.filter fun e => e.1.1 == 4 && (e.2.own || !e.2.ready.isEmpty)
    lanes := s.groups.foldl (fun t g => (List.range g.2.1).foldl (fun t p => t.set (g.1 + p) (stackOf s (g.1 + p)).actBlot) t) []
    blots := s.mem.blots.filter fun b => match rangeOf (paOf (64 * b.1)) with
      | .carve => true
      | .stack n => !(s.homed n).any fun e => e.covers (64 * b.1 - stackLoc n 0) 1
      | _ => false
    runs := s.fab.coll.flatMap fun e => (e.2.getD {}).runs.map fun r => (e.1, r)
    nodes := s.nodeList }

/-- Where the bytes of each context image stand in a section 4 at `base`. -/
def State.imagePlaces (s : State) (base : Nat) : List (Nat × Nat × Nat) :=
  (s.savedImages.foldl (fun (a : Nat × List (Nat × Nat × Nat)) e => (a.1 + 64 + e.2.2.1, a.2 ++ [(e.1, a.1 + 64, e.2.2.1)])) (base, [])).2
/-- The image is written at CKPT_BASE; past the installed capacity nothing is, and the checkpoint fails (R456, R457). The
written-back strands resume from it; what it does not hold of them stays beside it as data (log 40). -/
def State.writeImage (s : State) : State :=
  let base := s.ckptBase
  let secs := s.sections
  let tab := sectionTable 1 4096 secs
  let total := 4096 + (secs.map fun x => ceilDiv x.2.1 4096 * 4096).sum
  let past := decide (s.mem.installed < base + total)
  let failed := past || s.host.ckptLost != 0
  let top := s.mem.installed
  let m := (secs.zip tab).foldl (fun m x => Mem.putChunk m (base + x.2.2.2.1) x.1.2 top (if x.2.1 = 4 then s.savedBlots else [])) s.mem
  let saved := (s.imagePlaces (base + ((tab.find? fun x => x.1 == 4).map fun x => x.2.2.1).getD 0)).foldl (fun (t : Store (Option Saved)) x =>
    t.set x.1 ((t.get x.1).map fun v => { v with area := x.2 })) s.sched.saved
  { s with
    sched := { s.sched with saved := if past then s.sched.saved else saved }
    mem := m.putChunk base (chunk (s.ckptHeader tab total failed)) top
    images := (s.images.filter fun x => x.1 != base) ++ s.savedImages.map fun e => (base, e.1, e.2.1)
    beside := (s.beside.filter fun x => x.1 != base) ++ [(base, s.besideNow)]
    host := { s.host with ckptCtl := if past then s.host.ckptCtl ||| 0x10 else s.host.ckptCtl } }

/-! ### Reading an image (R458) -/

/-- The little-endian number of `n` bytes at an offset of the image. -/
def State.img (s : State) (off n : Nat) : Nat := leNat (s.mem.bytes (s.ckptBase + off) n)
/-- The section of this kind: entry count, offset. -/
def State.sec (s : State) (kind : Nat) : Nat × Nat :=
  match (List.range 11).find? fun i => s.img (64 + 32 * i) 4 == kind with
  | some i => (s.img (64 + 32 * i + 4) 4, s.img (64 + 32 * i + 8) 8)
  | none => (0, 0)
/-- Offsets of a section's entries of `size` bytes. -/
def State.entries (s : State) (kind size : Nat) : List Nat :=
  let x := s.sec kind
  (List.range x.1).map fun i => x.2 + size * i

/-- The sockets that an image names: those of its stacks, and the core dies of its placed nodes (log 40). -/
def State.imageSockets (s : State) : List Nat :=
  List.range 16 ++ (s.entries 1 256).flatMap fun o =>
    if s.img (o + 136) 1 / 2 % 2 = 1 then
      let sc := s.img (o + 137) 1
      let i := s.img (o + 138) 1
      if sc = 1 then [16 + i / 4] else if sc = 2 then [16 + i] else (List.range 8).map (16 + ·)
    else []

/-- The checks of R458. -/
def State.restorable (s : State) : Bool :=
  (s.host.boot &&& 0xF).toNat ≥ 6 && s.nodeList.isEmpty
    && s.mem.bytes s.ckptBase 4 == [0x5A, 0x48, 0x43, 0x4B] && s.img 4 2 == 1 && s.img 6 2 % 2 == 1
    && s.img 16 8 == s.fab.podId.toNat && s.imageSockets.all fun k => s.pkg.sockets.get k == 0

/-- What goes with the image at CKPT_BASE beside its sections. -/
def State.besideRead (s : State) : Beside := ((s.beside.find? fun x => x.1 == s.ckptBase).map (·.2)).getD {}

/-- Bytes of the image from `off` become the bytes from `loc`, `n` long. -/
def State.copyIn (s : State) (off loc n : Nat) : State :=
  let src := s.ckptBase + off
  let out (a : Nat) : Bool := decide (a < loc) || decide (loc + n ≤ a)
  let c := s.mem.raw.slice src n
  { s with mem := { s.mem with base := c.2.foldl (fun (b : Memory) (x : Host.Cell) => b.write (loc + x.1) x.2) (s.mem.base.filter fun (x : Host.Cell) => out x.1) } }

/-- Step 1: the carve units, their data and tile states. -/
def State.loadCarve (s : State) : State :=
  let map := s.img 24 2
  let us := (List.range 16).filter map.testBit
  let o := (s.sec 8).2
  let s := { s with mem := us.foldl (fun m u => { m.clearUnit u with carved := m.carved.filter (· != u) ++ [u] }) s.mem }
  (us.mapIdx fun i u => (i, u)).foldl (fun s x =>
    let at_ := o + x.1 * (2 ^ 26 + 32768)
    let s := s.copyIn at_ (0x8000000000000 + x.2 * 2 ^ 26) (2 ^ 26)
    { s with mem := { s.mem with tiles := (List.range 16384).foldl (fun t i => t.set (x.2 * 16384 + i) (s.img (at_ + 2 ^ 26 + 2 * i) 2)) s.mem.tiles } }) s

/-- Step 2: the runs of stack-local bytes, one after the other. -/
def State.loadRuns : Nat → Nat → State → State
  | 0, _, s => s
  | k + 1, o, s =>
    let n := s.img (o + 4) 4 * 2 ^ 20
    State.loadRuns k (o + 16 + n) (s.copyIn (o + 16) (stackLoc (s.img o 1 % 16) (s.img (o + 8) 8)) n)
/-- Step 2: the residency tables; every replica with a home rehydrates (09 R268). -/
def State.loadTables (s : State) : State :=
  let o := (s.sec 10).2
  (List.range 16).foldl (fun s n =>
    let es : Store (BitVec 512) := (List.range 256).foldl (fun t i => t.set i (BitVec.ofNat 512 (s.img (o + 16384 * n + 64 * i) 64))) []
    let hs := es.filter fun x => Entry.valid x.2 && !Entry.isLocal x.2
    let table := hs.foldl (fun t x => t.set x.1 (Entry.setState x.2 3)) es
    let hyd := hs.mapIdx fun i x => ({ entry := x.1, due := s.wall + 1 + Config.delay (s.freeCtr + i) } : Hyd)
    (s.mapStack n fun k => { k with table := table, hydrate := hyd }).bump hs.length) s

/-- Steps 1 and 2: the blots that go with those bytes. -/
def State.loadBlots (s : State) : State :=
  let here := s.mem.blots.filter fun b => match rangeOf (paOf (64 * b.1)) with
    | .stack _ => false
    | _ => true
  { s with mem := { s.mem with blots := s.besideRead.blots.foldl (fun t b => Store.set t b.1 b.2) here } }

/-- Step 3: barriers, waiters and watches, collective runs. -/
def State.loadSync (s : State) : State :=
  let bars := (s.entries 5 32).map fun o =>
    let sc := s.img o 1
    let w := s.img (o + 16) 8
    ((sc, s.img (o + 2) 1, s.img (o + 1) 1, if 3 ≤ sc then 0 else s.img (o + 4) 2),
      ({ p := s.img (o + 6) 2, a := s.img (o + 8) 2, exp := s.img (o + 10) 2, faulted := s.img (o + 12) 1 != 0, dom := if 3 ≤ sc then w / 2 ^ 16 % 64 else 0 } : Bar))
  let six := s.entries 6 64
  let waits := (six.filter fun o => s.img o 1 == 1).map fun o =>
    let x := s.img (o + 24) 8
    ({ core := 0, id := 0, loc := s.img (o + 8) 8, kind := 2, cond := s.img (o + 3) 1, w32 := s.img (o + 4) 1 != 0, v := BitVec.ofNat 64 (s.img (o + 16) 8), node := x % 2 ^ 14, idx := x / 2 ^ 14 % 32, txn := 0 } : Waiter)
  let watch := (six.filter fun o => s.img o 1 == 2).foldl (fun (t : Store (Option Watch)) o =>
    t.set (64 * (s.img (o + 1) 1 % 4) + s.img (o + 2) 1 % 64) (some { loc := s.img (o + 8) 8, cond := s.img (o + 3) 1, w32 := s.img (o + 4) 1 != 0, v := BitVec.ofNat 64 (s.img (o + 16) 8), recLoc := s.img (o + 24) 8, dom := s.img (o + 5) 1 })) []
  let bars := bars.map fun x => (x.1, match s.besideRead.bars.find? fun y => y.1 == x.1 with
    | some y => { x.2 with own := y.2.own, ready := y.2.ready }
    | none => x.2)
  let seven := s.entries 7 128
  let s := { s with sync := { ovf := s.sync.ovf, bars := bars, waiters := waits, watch := watch } }
  seven.foldl (fun s o =>
    let q := s.img o 1 % 4
    let c := collOf s q
    if s.img (o + 1) 1 = 0xFF then s.setColl q { c with count := BitVec.ofNat 32 (s.img (o + 4) 4) }
    else
      let t := (s.besideRead.runs.find? fun x => x.1 == q && x.2.ticket == s.img (o + 4) 4).map (·.2)
      let r : Run := { ticket := s.img (o + 4) 4, core := 0, dom := s.img (o + 2) 1, tag := (t.map (·.tag)).getD (Config.choice s.freeCtr % 65536), level := (t.map (·.level)).getD 1, blots := (t.map (·.blots)).getD 0, firstBlot := (t.map (·.firstBlot)).getD (-1), va := BitVec.ofNat 64 (s.img (o + 8) 8), header := BitVec.ofNat 512 (s.img (o + 32) 64), step := s.img (o + 16) 1, ctr := (List.range 4).map fun j => s.img (o + 24 + 2 * j) 2 }
      (s.setColl q { c with runs := c.runs ++ [r] }).bump) s

/-- A list that could be read. -/
def listOf : List Nat ⊕ PartFault → List Nat
  | .inl l => l
  | .inr _ => []
/-- Step 3: continuation records, nodes. The lists that a record points to are read again. -/
def State.loadNodes (s : State) : State :=
  let recs : Store (BitVec 512) := (s.entries 3 64).foldl (fun t o =>
    let r := BitVec.ofNat 512 (s.img o 64)
    t.set (recordKey ((r.extractLsb' 208 14).toNat) ((r.extractLsb' 222 5).toNat)) r) []
  let s := { s with sched := { s.sched with records := recs } }
  let hs := s.entries 1 256
  let s := hs.foldl (fun s o =>
    let h := s.img (o + 128) 2 % 16384
    let r := BitVec.ofNat 1024 (s.img o 128)
    let f := s.img (o + 136) 1
    let a := s.readList (recDom r) (recW r 384) 64 2
    let b := a.1.readList (recDom r) (recW r 768) 8 24
    let live := BitVec.ofNat 32 (s.img (o + 152) 4)
    let fs := s.img (o + 139) 1
    let old := (s.besideRead.nodes.find? fun x => x.1 == h).map (·.2)
    let started := (List.range 32).any fun i => (s.contRec h i).getLsbD 2
    b.1.setNode h (some {
      record := r, preds := s.img (o + 130) 2, early := s.img (o + 132) 2, level := s.img (o + 134) 1, pass := s.img (o + 135) 1,
      phase := if f / 8 % 2 = 1 then 3 else if f / 2 % 2 = 1 then 2 else if f % 2 = 1 then 1 else 0,
      pinned := f / 4 % 2 == 1, scope := s.img (o + 137) 1, inst := s.img (o + 138) 1,
      group := if fs = 0xFF then none else some (fs, 2 ^ (recGlog r - 1)),
      status := s.img (o + 140) 1, trig := BitVec.ofNat 32 (s.img (o + 144) 4), exited := BitVec.ofNat 32 (s.img (o + 148) 4), live := live,
      succ := listOf a.2, ccb := (listOf b.2).map fun d => (BitVec.ofNat 64 d, BitVec.ofNat 64 (d / 2 ^ 64), BitVec.ofNat 64 (d / 2 ^ 128)),
      issued := started, auto := match old with
        | some n => n.auto
        | none => if recPlace r = 3 ∧ (f / 2 % 2 = 1 ∨ fs ≠ 0xFF) then some (fs != 0xFF) else none,
      faultPred := (old.map (·.faultPred)).getD false, spare := (old.map (·.spare)).getD [], moved := (old.map (·.moved)).getD false, again := (old.map (·.again)).getD 0,
      spawned := live &&& ~~~(BitVec.ofNat 32 (2 ^ recWidth r - 1)), placedAt := s.wall })) s
  s.nodeList.foldl (fun s e => e.2.succ.foldl (fun s q => s.mapNode q fun m => { m with predHandles := m.predHandles ++ [e.1] }) s) s

/-- Step 4: a node's group is bound again: the recorded one when it is free, else another of its size; the lanes are loaded. -/
def State.loadLanes : Nat → Nat → State → State
  | 0, _, s => s
  | k + 1, o, s =>
    let f := s.img o 1 % 16
    let g := max 1 (s.img (o + 1) 1)
    let h := s.img (o + 2) 2 % 16384
    let s := s.mapNode h fun n => { n with group := none }
    let fs := s.freeGroups h g
    let f' := if fs.contains f then f else fs.headD f
    let s := s.mapNode h fun n => { n with group := some (f', g) }
    let s := (List.range g).foldl (fun s p =>
      let at_ := o + 16 + p * 2 ^ 24
      let src := s.ckptBase + at_
      let cells := s.mem.raw.slice src (2 ^ 24)
      let act := (cells.2.filter fun (c : Host.Cell) => decide (c.1 % 65536 < 32768)).map fun c => (c.1 / 65536 * 32768 + c.1 % 65536, c.2)
      let words := (cells.2.filter fun (c : Host.Cell) => decide (32768 ≤ c.1 % 65536)).foldl (fun (t : Store (BitVec 32)) (c : Host.Cell) =>
        let j := c.1 / 65536 * 8192 + (c.1 % 65536 - 32768) / 4
        Store.set t j (Store.get t j ||| ((c.2.setWidth 32 : BitVec 32) <<< (8 * (c.1 % 4))))) ([] : Store (BitVec 32))
      s.mapStack (f' + p) fun x => { x with act := act, acc := words, actBlot := s.besideRead.lanes.get (f + p) }) s
    State.loadLanes k (o + 16 + g * 2 ^ 24) s

/-- The context images of section 4: strand, address, length. -/
def State.imageList (s : State) : Nat → Nat → List (Nat × Nat × Nat)
  | 0, _ => []
  | k + 1, o =>
    let n := s.img (o + 8) 8
    (recordKey (s.img o 2 % 16384) (s.img (o + 2) 1 % 32), s.ckptBase + o + 64, n) :: State.imageList s k (o + 64 + ceilDiv n 64 * 64)
/-- A strand as its node and record name it, for an image that nothing stands beside. -/
def State.bareCore (s : State) (key pa : Nat) : Core :=
  match s.node (key / 32) with
  | none => {}
  | some n => { strand := some { node := key / 32, idx := key % 32, dom := recDom n.record, tag := recTag n.record, restart := (s.contRec (key / 32) (key % 32)).getLsbD 0,
                                 group := n.group, scope := n.scope, inst := n.inst, spneed := leNat (s.mem.bytes (pa + 0x28) 4) % 2 ^ 22 / 1024, ready := 0, started := true,
                                 triggered := n.trig.getLsbD (key % 32) }
                pc := { folio := 0 } }
/-- Steps 4 and 5: the pool's order and the written-back strands, each with its context image (log 40). -/
def State.loadPool (s : State) : State :=
  let base := s.ckptBase
  let list := s.imageList (s.sec 4).1 (s.sec 4).2
  let saved : Store (Option Saved) := s.sched.records.foldl (fun t e =>
    let st := (e.2.extractLsb' 56 4).toNat
    match list.find? fun x => x.1 == e.1 with
    | some p =>
      let v : Saved := ((s.images.find? fun x => x.1 == base && x.2.1 == e.1).map (·.2.2)).getD { core := some (s.bareCore e.1 p.2.1), parked := st == 3 }
      t.set e.1 (some { v with area := p.2, core := v.core.map fun c => { c with strand := c.strand.map fun y => { y with group := (s.node y.node).bind (·.group) } } })
    | none => if st = 2 then t.set e.1 (some { core := none }) else t) []
  let s := { s with sched := { s.sched with saved := saved } }
  let o := (s.sec 2).2
  let level (s : State) (o l : Nat) : State × Nat :=
    let n := s.img o 4
    ((List.range n).foldl (fun s i =>
      let h := s.img (o + 4 + 2 * i) 2 % 16384
      match s.node h with
      | none => s
      | some m =>
        if m.phase = 1 then { s with sched := s.sched.push l (h, none) }
        else
          let used := [0, 1, 2, 3].flatMap fun j => s.sched.fifo.get j
          match s.sched.saved.find? fun e => e.1 / 32 == h && !used.contains (h, some (e.1 % 32)) && ((e.2.map fun v => !v.parked && v.waitCh.isNone).getD false) with
          | some e => { s with sched := s.sched.push l (h, some (e.1 % 32)) }
          | none => s) s, o + 4 + 2 * n)
  let a := level s o 3
  let b := level a.1 a.2 2
  let c := level b.1 b.2 1
  (level c.1 c.2 0).1

/-! ### Events -/

/-- GO: BUSY is set (with the write itself), dispatch of nodes stops and every strand is asked to stop (R455). -/
def execCkptGo (s : State) : Result :=
  .next (if s.host.ckptWant = some false then
      let h := { s.host with
        ckptWant := none
        ckptCtl := s.host.ckptCtl ||| 4 }
      { s with host := h }.mapCores fun c => { c with strand := c.strand.map fun (t : Strand) => if t.dormant then t else { t with preempt := true } }
    else s)

/-- Every strand is written back, every effect and request is done, every collective run stands between steps (R455). -/
def State.ckptReady (s : State) : Bool :=
  s.host.ckptCtl.getLsbD 2 && !s.host.restoring
    && (s.liveCores.all fun k => (s.coreAt k).strand.isNone && (s.coreAt k).hold.isEmpty)
    && s.net.isEmpty && s.fab.out.isEmpty && s.sched.woken.isEmpty
    && s.fab.coll.all fun e => match e.2 with
      | some c => c.runs.all fun r => r.chunk == 0 && r.unacked.isEmpty
      | none => true

/-- DONE is set, BUSY clears, and the held commits are admitted (R455). -/
def State.ckptEnd (s : State) : State :=
  let held := s.host.heldCommits
  let h := { s.host with
    ckptCtl := (s.host.ckptCtl &&& ~~~(4 : BitVec 5)) ||| 8
    heldCommits := []
    restoring := false }
  held.foldl (fun s c => s.commitRecord c.1 c.2.1 c.2.2) { s with host := h }

/-- CHECKPOINT_COMPLETE: the image and every dirty line are written. -/
def execCkptComplete (s : State) : Result :=
  .next (if s.ckptReady then ({ s with mem := (s.mem.showAll fun _ => true).writeBack }.writeImage).ckptEnd else s)

/-- RESTORE: the checks of R458; if one fails, FAILED is set and nothing is loaded. -/
def execCkptRestore (s : State) : Result :=
  .next (if s.host.ckptWant = some true then
      let s := { s with host := { s.host with ckptWant := none } }
      if s.restorable then { s with host := { s.host with ckptCtl := s.host.ckptCtl ||| 4, restoring := true } }
      else { s with host := { s.host with ckptCtl := (s.host.ckptCtl &&& ~~~(4 : BitVec 5)) ||| 0x10 } }
    else s)
/-- RESTORE_COMPLETE: the image is loaded, reply caches and transaction numbers start afresh, and DONE is set (R458). -/
def execCkptRestoreComplete (s : State) : Result :=
  .next (if !s.host.restoring then s else
    let s := { s with mem := s.mem.writeBack }.loadCarve
    let s := State.loadRuns (s.sec 9).1 (s.sec 9).2 s
    let s := s.loadBlots.loadTables.loadSync.loadNodes
    let s := (State.loadLanes (s.sec 11).1 (s.sec 11).2 s).loadPool
    State.ckptEnd { s with fab := { s.fab with txn := [], cache := [] } })

end Sys2Proof.Machine
end

