-- ==== Sys2Proof/Machine/Outside.lean ====
section
/-! DEFINITION. Outside.lean: the outside world (15): bring-up and resets, the host port, service replies, attestation, power
and thermal events, and links that retrain (10 R326; 12 R370). -/

namespace Sys2Proof.Machine

def State.mapHost (s : State) (f : HostPart → HostPart) : State := { s with host := f s.host }

/-! ### Bring-up and package reset (R453, R460; 01 R32, R33) -/

/-- BOOT_STATUS takes a step and an error; the part halts on an error, and after step 6 bring-up is the firmware's (R453). -/
def State.atStep (s : State) (step err : Nat) : State :=
  State.bump (s.mapHost fun h => { h with
    boot := (h.boot &&& ~~~(0xFF : Word)) ||| BitVec.ofNat 64 (step + 16 * err)
    bootDue := if err = 0 ∧ step < 6 then some (s.wall + 1 + Config.delay s.freeCtr) else none })
/-- The digests of the chiplets that verify stand behind the firmware's, in socket order, 64 bytes each (R453, R454). -/
def State.measure (s : State) (mask : Nat) : State :=
  let n := ((List.range 28).filter fun k => !mask.testBit k).length
  (s.mapHost fun h => { h with mlog := h.mlog.writeRun 64 ((List.range (64 * n)).map fun i => Config.byte (s.freeCtr + i)) }).bump (64 * n)
/-- The next step of bring-up. Which chiplets' links and firmware are good, and whether a link or the memory stops it, is open (log 5). -/
def State.bootStep (s : State) : State :=
  let bad := Config.choice s.freeCtr % 2 == 1
  match (s.host.boot &&& 0xF).toNat with
  | 0 => (s.mapHost fun h => { h with image := h.staging }).atStep 1 0
  | 1 =>
    if Config.signed s.host.image then
      (s.mapHost fun h => { h with mlog := h.mlog.writeRun 0 ((List.range 64).map (Config.digest h.image)) }).atStep 2 0
    else s.atStep 2 1
  | 2 =>
    let mask := Config.choice (s.freeCtr + 1) % 2 ^ 28
    let s := s.bump 2
    if bad then s.atStep 3 2 else
    let s := (List.range 28).foldl (fun s k => if mask.testBit k then s.setSocket k 1 else s) (s.measure mask)
    (s.mapHost fun h => { h with boot := h.boot ||| BitVec.ofNat 64 (mask * 2 ^ 9) }).atStep 3 0
  | 3 => if bad then s.bump.atStep 4 3 else { s.bump with drawer := { s.drawer with ductus := [], written := [] } }.atStep 4 0
  | 4 =>
    let m := ((s.mem.dirty.map fun e => e.1 / 64).eraseDups).foldl (fun m l => m.discardLine (64 * l)) s.mem
    State.atStep { s with
      llc := []
      mem := { m with
        base := m.base.filter fun c => rangeOf (paOf c.1) != .carve
        blots := m.blots.filter fun b => rangeOf (paOf (64 * b.1)) != .carve
        kept := []
        carved := []
        tiles := [] } } 5 0
  | 5 => s.atStep 6 0
  | _ => s.mapHost fun h => { h with bootDue := none }
/-- POWER_GOOD: bring-up begins (R453); each of its steps takes an unstated time. -/
def execPowerGood (s : State) : Result :=
  .next (if s.host.boot ≠ 0 ∨ s.host.bootDue.isSome then s else s.atStep 0 0)

/-- The package after reset: the LLC written back, drawer memory kept, all else as at power-on (Table 1.11). The counts
that number free values and effects go on, so that none repeats. -/
def State.packageReset (s : State) : State :=
  let m := s.mem.writeBack
  { State.reset with
    mem := { base := m.base.filter fun c => rangeOf (paOf c.1) == .drawer
             blots := m.blots.filter fun b => rangeOf (paOf (64 * b.1)) == .drawer
             keyed := m.keyed
             installed := m.installed }
    pkg := { impl := s.pkg.impl, cuts := s.pkg.cuts }
    wall := s.wall
    images := s.images
    beside := s.beside
    inputs := s.inputs
    nextId := s.nextId
    freeCtr := s.freeCtr }
def execPackageReset (s : State) : Result := .next s.packageReset
/-- OVERTEMP_RESET: a die above 110 °C (R460). -/
def execOvertempReset (s : State) : Result := .next s.packageReset

/-! ### The host port (R449, R461) -/

/-- The host as an agent. -/
def hostAgent : Agent := { level := 2, domain := 0, host := true }
/-- A byte that BAR2 reaches: drawer memory, the carve window or stack-local DRAM outside the faulting parts. -/
def State.barByte (s : State) (pa : Nat) : Bool :=
  !s.mem.hole pa && (match rangeOf pa with
    | .drawer => true
    | .carve => true
    | .stack n => !s.lost n
    | _ => false)
def State.barOk (s : State) (pa n : Nat) : Bool := (List.range n).all fun i => s.barByte (pa + i)
/-- The aligned 8-byte units of an access: offset and length. -/
def unitsOf (pa n : Nat) : List (Nat × Nat) :=
  (List.range ((pa + n + 7) / 8 - pa / 8)).map fun i =>
    let a := max pa (8 * (pa / 8 + i))
    (a, min (pa + n) (8 * (pa / 8 + i) + 8) - a)

/-- HOST_WRITE: its units in increasing order, each as a class-15 store; one byte out of bounds and nothing changes. -/
def execHostWrite (bar2 : Bool) (off : BitVec 36) (bytes : List (BitVec 8)) (s : State) : Result :=
  .next (if s.host.freeze then s
    else if bar2 then
      let pa := s.host.hwin.toNat + off.toNat
      if !s.barOk pa bytes.length then s else
      (unitsOf pa bytes.length).foldl (fun s u => s.commit u.1 ((bytes.drop (u.1 - pa)).take u.2) false hostAgent) s
    else if 0x10000000 < off.toNat + bytes.length then s
    else s.commit (0xB000000000000 + off.toNat) bytes false hostAgent)

/-- HOST_READ: the completion: bytes and the poisoned indication, or none for an unsupported request. -/
def execHostRead (bar2 : Bool) (off : BitVec 36) (size : BitVec 13) (s : State) : Result :=
  let n := size.toNat
  .next (if s.host.freeze then s.mapHost fun h => { h with lastRead := none }
    else if bar2 then
      let pa := s.host.hwin.toNat + off.toNat
      if !s.barOk pa n then s.mapHost fun h => { h with lastRead := none } else
      let s := s.inject pa n false
      s.mapHost fun h => { h with lastRead := some (s.bytesAt pa n, s.mem.blotted pa n) }
    else if 0x10000000 < off.toNat + n then s.mapHost fun h => { h with lastRead := none }
    else s.mapHost fun h => { h with lastRead := some (s.bytesAt (0xB000000000000 + off.toNat) n, false) })

/-! ### Links (10 R326, 13 R387, R452) -/

/-- A written-back strand that waited in STATE 3 for a channel or port goes back to the pool (14 R425, 10 R326). -/
def State.releaseWaiting (s : State) : State :=
  s.sched.saved.foldl (fun s e => match e.2 with
    | some v => match v.waitCh with
      | some w => if s.stillOut w ∨ v.parked then s else
        { s with sched := { s.sched with saved := s.sched.saved.set e.1 (some { v with waitCh := none }) } }.returnToPool (e.1 / 32) (e.1 % 32)
      | none => s
    | none => s) s

/-- DRAWER_RETRAIN: the channel carries no frames; with FUNC_MODE.TRAIN the host is asked (15 Table 15.12). -/
def State.retrainCh (s : State) (ch : Nat) : State :=
  if s.drawer.retrain.contains ch then s else { s with drawer := { s.drawer with retrain := s.drawer.retrain ++ [ch] } }
def execDrawerRetrain (ch : BitVec 7) (s : State) : Result :=
  let t := s.retrainCh ch.toNat
  .next (if s.host.funcMode.getLsbD 4 then t.service 4 t.id ([0, BitVec.ofNat 8 ch.toNat, 0, 0] ++ natLe 4 1) else t)
/-- RETRAIN_DONE: the channel carries frames again, unless it was taken out of service. -/
def execRetrainDone (ch : BitVec 7) (s : State) : Result :=
  .next (if s.drawer.dead.contains ch.toNat then s
    else State.releaseWaiting { s with drawer := { s.drawer with retrain := s.drawer.retrain.filter (· != ch.toNat) } })

/-- A link is taken out of service: 0 drawer channel, 1 peer port, 2 UCIe socket. -/
def State.dropLink (s : State) (kind ix : Nat) : State :=
  let s := s.triage { kind := 8, socket := if kind = 2 then ix else 0xFF }
  match kind with
  | 0 => let t := s.retrainCh (ix % 128); { t with drawer := { t.drawer with dead := ix % 128 :: t.drawer.dead } }
  | 1 => { s with fab := { s.fab with portUp := s.fab.portUp &&& ~~~((1 : BitVec 16) <<< (ix % 16)) } }
  | _ => if ix < 28 then (s.fenceChip ix 3).closeOp ix 3 else s

/-! ### Service replies (R462, Table 15.12) -/

def resByte (res : BitVec 192) (i : Nat) : Nat := (res.extractLsb' (8 * (i - 40)) 8).toNat

/-- The address of the entry at which a walk ends, from the entry at `pa` at level `l`. -/
def State.entryAt (s : State) (va : Word) : Nat → Nat → Nat
  | 0, pa => pa
  | l + 1, pa =>
    let e : Word := BitVec.ofNat 64 (leNat (s.bytesAt pa 8))
    if !e.getLsbD 0 || e.getLsbD 3 || l == 0 then pa else s.entryAt va l ((e.extractLsb' 12 40).toNat * 4096 + 8 * tableIndex va l)
/-- The host's answer to a walk: its leaf passes R428's checks, R429's double read if it is CRIT; or its fault. -/
def State.hostWalk (s : State) (w : Walk) (status : Nat) (res : BitVec 192) : State × WalkEnd :=
  let level := resByte res 48
  let e := res.extractLsb' 0 64
  let root := ((s.host.roots.get w.dom).extractLsb' 11 41).toNat * 2048 + 8 * (w.va.extractLsb' 48 8).toNat
  if status ≠ 0 then (s, .fault 0x05 (BitVec.ofNat 64 (resByte res 49 + 16 * level)) 0)
  else if !e.getLsbD 0 ∨ !e.getLsbD 3 then (s, .fault 0x05 (BitVec.ofNat 64 (2 + 16 * level)) 0)
  else if level = 1 ∨ level = 2 then s.doubleRead (s.entryAt w.va 5 root) e (leafEntry w.dom w.va e level)
  else (s, .fault 0x05 (BitVec.ofNat 64 (4 + 16 * level)) 0)
/-- A host's walk ends. An entry on its way that is blotted, or read with an uncorrectable error, faults as in hardware mode (14
R430). -/
def State.walkReply (s : State) (id status : Nat) (res : BitVec 192) : State :=
  match s.liveCores.find? fun k => (s.coreAt k).walks.any fun w => w.ticket == some id with
  | none => s
  | some k =>
    let home := s.id
    let s := s.focus k
    match s.core.walks.find? fun w => w.ticket == some id with
    | none => s.focus home
    | some w =>
      let own := s.walk w.dom w.va
      let r := match own.2 with
        | .fault 0x17 i1 i2 => if i2 = 2 then s.hostWalk w status res else (own.1, .fault 0x17 i1 i2)
        | _ => s.hostWalk w status res
      (r.1.endWalk w r.2).focus home

/-- The host's dispatch answer: placed as it says where that keeps R28, R259, R367 and R368, else by the part's own choice, which
the error-triage log names as kind 0 (log 88). -/
def State.dispReply (s : State) (handle inst : Nat) : State :=
  if handle = 0xFFFF then s else
  let x := s.nextItem
  let s := s.decided
  match x with
  | some (h, none) => match (s.node h).bind (s.placement h), s.node h with
    | some (own, grp), some n =>
      let legal := h == handle && n.groupSize == 0 && recPlace n.record != 1 && !n.moved && (s.fits h (scopeOf (recWidth n.record)) (recWidth n.record)).contains inst
      let used := if legal then inst else own
      (if handle = h ∧ inst = used then s else s.triage { kind := 0, node := handle }).dispatch_ h used grp
    | _, _ => s
  | _ => s

/-- The hydrations that a request to the host stands for: done, or failed, and then the waiting macros miss. -/
def State.hydReply (s : State) (id status : Nat) (req : List Byte) : State :=
  let f := ((req.getD 0 0).toNat) % 16
  let g := (req.getD 1 0).toNat
  let key := BitVec.ofNat 64 (leNat ((req.drop 8).take 8))
  if status = 0 then
    (List.range g).foldl (fun s p => ((stackOf s (f + p)).hydrate.filter fun h => h.ticket == some id).foldl (fun s h => s.resident (f + p) h) s) s
  else
    let s := (List.range g).foldl (fun s p => ((stackOf s (f + p)).hydrate.filter fun h => h.ticket == some id).foldl (fun s h => s.dropHyd (f + p) h true) s) s
    s.failWaiting f g key 0x0F 2 0

/-- SERVICE_REPLY: acts on the request that carries this sequence number. -/
def execServiceReply (seq : BitVec 32) (status : BitVec 8) (res : BitVec 192) (s : State) : Result :=
  let t := s.mapHost fun h => { h with svcFresh := h.svcFresh.filter (· != seq.toNat % 16320) }
  .next (match t.host.svcWait.find? fun r => r.seq == some seq.toNat with
    | none => t
    | some r =>
      let t := t.mapHost fun h => { h with svcWait := h.svcWait.filter fun x => x.id != r.id }
      let st := status.toNat
      match r.func with
      | 0 => t.walkReply r.id st res
      | 1 => t.dispReply (resByte res 40 + 256 * resByte res 41) (resByte res 44)
      | 2 => t.hydReply r.id st r.req
      | 4 => if resByte res 40 = 1 then t.dropLink (r.req.getD 0 0).toNat (r.req.getD 1 0).toNat else t
      | 5 => (match resByte res 40 with
        | 1 => (t.purge (resByte res 41 % 64) (resByte res 42 + 256 * resByte res 43)).1
        | 2 => t.bcfgFlt false (resByte res 44 % 64)
        | 3 => t.bcfgFlt true (resByte res 44 % 16)
        | _ => t)
      | 6 => let k := (r.req.getD 0 0).toNat
             if resByte res 40 = 1 ∧ k < 28 then (t.resetChip k).closeOp k 2 else t
      | _ => t)

/-- The reply half that the host wrote last, if it answers a request: the event that acts on it. -/
def State.freshReply (s : State) : Option (Option Instr) :=
  s.host.svcFresh.head?.map fun i =>
    let half := s.host.svcRing.readRun (64 * i + 32) 32
    let seq := leNat (half.take 4)
    if s.host.svcWait.any fun r => r.seq == some seq && seq % 16320 == i then
      some (.serviceReply (BitVec.ofNat 32 seq) (half.getD 4 0) (BitVec.ofNat 192 (leNat (half.drop 8)))) else none

/-! ### Attestation (R454) -/

/-- ATTESTATION: the log and the nonce, their signature of 29,792 bytes, and the device's 64-byte public key, at mailbox offset
0x40 (log 18). -/
def execAttestation (nonce : BitVec 256) (s : State) : Result :=
  .next ((s.mapHost fun h => { h with
    nonceFresh := false
    mailbox := (h.mailbox.writeRun 0 (natLe 32 nonce.toNat)).writeRun 0x40
      (h.mlog.readRun 0 1856 ++ natLe 32 nonce.toNat ++ ((List.range 29792).map fun i => Config.byte (s.freeCtr + i)) ++ (List.range 64).map Config.deviceKey) }).bump 29792)

/-! ### Power and temperature (R447, R448, R459, R460) -/

def execD3hotEntry (s : State) : Result := .next (s.mapHost fun h => { h with d3hot := true })
def execD0Entry (s : State) : Result := .next (s.mapHost fun h => { h with d3hot := false })
/-- FREEZE_ASSERT: every clock stops at this boundary. -/
def execFreezeAssert (s : State) : Result := .next (s.mapHost fun h => { h with freeze := true })
/-- FREEZE_RELEASE: the part goes on from the same cycle; drawer channels and peer ports retrain. -/
def execFreezeRelease (s : State) : Result :=
  .next (if !s.host.freeze then s else
    let s := s.mapHost fun h => { h with freeze := false }
    { s with
      drawer := { s.drawer with retrain := List.range 128 }
      fab := { s.fab with portUp := 0, retrain := s.fab.retrain ||| s.fab.portUp } })

/-- A domain's number among the 128 cores, the 32 matrix engines and the 16 stacks. -/
def domCode : FreezeDomain → Nat
  | .core k => k.toNat
  | .matrix q => 128 + q.toNat
  | .stack n => 160 + n.toNat
/-- THROTTLE: the domain loses this wall cycle, unless it has lost 56 of the last 64 (R459). -/
def execThrottle (dom : FreezeDomain) (s : State) : Result :=
  let near := s.pkg.cuts.filter fun x => decide (s.wall < x.2 + 64) && x != (domCode dom, s.wall)
  .next (if 56 ≤ (near.filter fun x => x.1 == domCode dom).length then s else
  let s := { s with pkg := { s.pkg with cuts := near ++ [(domCode dom, s.wall)] } }
  match dom with
    | .core k => let c := s.coreAt k.toNat; s.setCoreAt k.toNat { c with flow := { c.flow with throttled := true } }
    | .matrix q => s.setQuad q.toNat { quadOf s q.toNat with throttled := true }
    | .stack n => s.mapStack n.toNat fun k => { k with throttled := true })

/-- HOT_SET at 85 °C and HOT_CLEAR below 80 °C (R460). -/
def execHotSet (n : BitVec 4) (s : State) : Result := .next (s.mapStack n.toNat fun k => { k with hot := true })
def execHotClear (n : BitVec 4) (s : State) : Result := .next (s.mapStack n.toNat fun k => { k with hot := false })

/-! ### The firmware controller (R453) -/

/-- The controller as an agent. -/
def fwAgent : Agent := { level := 2, domain := 0, host := false }
def State.fwAct (s : State) : FwAct → State
  | .read pa n => if (List.range n).all fun i => rangeOf (pa + i) == .drawer && !s.mem.hole (pa + i) then s.inject pa n false else s
  | .write pa bytes =>
    if (List.range bytes.length).all fun i => rangeOf (pa + i) == .drawer && !s.mem.hole (pa + i) then
      (unitsOf pa bytes.length).foldl (fun s u => s.commit u.1 ((bytes.drop (u.1 - pa)).take u.2) false fwAgent) s
    else s
  | .reset k => if 28 ≤ k ∨ s.host.funcMode.getLsbD 6 ∨ s.pkg.sockets.get k = 0 then s else (s.resetChip k).closeOp k 2
  | .drop kind ix => if s.host.funcMode.getLsbD 4 then s else s.dropLink kind ix

end Sys2Proof.Machine
end

