-- ==== Sys2Proof/Machine/Dispatch.lean ====
section
/-! DEFINITION. Dispatch.lean: the meaning of each instruction and event, one arm per constructor. -/

namespace Sys2Proof.Machine

def exec (i : Instr) (s : State) : Host.Outcome State Fault Refusal :=
  match i with
  | .groupDispatch => Sys2Proof.Machine.execGroupDispatch s
  | .icacheFill => Sys2Proof.Machine.execIcacheFill s
  | .resultWrite => Sys2Proof.Machine.execResultWrite s
  | .landing => Sys2Proof.Machine.execLanding s
  | .lateDataFreeze => Sys2Proof.Machine.execLateDataFreeze s
  | .lateDataArrival => Sys2Proof.Machine.execLateDataArrival s
  | .lateStall => Sys2Proof.Machine.execLateStall s
  | .mStall => Sys2Proof.Machine.execMStall s
  | .bStall => Sys2Proof.Machine.execBStall s
  | .cStall => Sys2Proof.Machine.execCStall s
  | .egressRelease => Sys2Proof.Machine.execEgressRelease s
  | .signalGiven => Sys2Proof.Machine.execSignalGiven s
  | .trapDelivery => Sys2Proof.Machine.execTrapDelivery s
  | .wfiTimeout => Sys2Proof.Machine.execWfiTimeout s
  | .slotClearDone => Sys2Proof.Machine.execSlotClearDone s
  | .matrixStep => Sys2Proof.Machine.execMatrixStep s
  | .rowBlockWrite => Sys2Proof.Machine.execRowBlockWrite s
  | .drainStart => Sys2Proof.Machine.execDrainStart s
  | .drainRow => Sys2Proof.Machine.execDrainRow s
  | .mloadRowWrite => Sys2Proof.Machine.execMloadRowWrite s
  | .strikeMatrix => Sys2Proof.Machine.execStrikeMatrix s
  | .copyPiece => Sys2Proof.Machine.execCopyPiece s
  | .copyEnd => Sys2Proof.Machine.execCopyEnd s
  | .granuleLanding => Sys2Proof.Machine.execGranuleLanding s
  | .macroArrival stack => Sys2Proof.Machine.execMacroArrival stack s
  | .macroCommit stack => Sys2Proof.Machine.execMacroCommit stack s
  | .productOutput => Sys2Proof.Machine.execProductOutput s
  | .hydrationComplete stack entry => Sys2Proof.Machine.execHydrationComplete stack entry s
  | .refresh stack lane => Sys2Proof.Machine.execRefresh stack lane s
  | .refreshPeriodChange stack => Sys2Proof.Machine.execRefreshPeriodChange stack s
  | .strikeLane stack => Sys2Proof.Machine.execStrikeLane stack s
  | .llcAccept => Sys2Proof.Machine.execLlcAccept s
  | .pageWalk => Sys2Proof.Machine.execPageWalk s
  | .syncRequestApply => Sys2Proof.Machine.execSyncRequestApply s
  | .barrierArrival => Sys2Proof.Machine.execBarrierArrival s
  | .joinArrival => Sys2Proof.Machine.execJoinArrival s
  | .queryReply => Sys2Proof.Machine.execQueryReply s
  | .podPhaseReady pkg b => Sys2Proof.Machine.execPodPhaseReady pkg b s
  | .bcfgWrite pod b v => Sys2Proof.Machine.execBcfgWrite pod b v s
  | .bcfgFlt pod b => Sys2Proof.Machine.execBcfgFlt pod b s
  | .bcfgClr pod b => Sys2Proof.Machine.execBcfgClr pod b s
  | .syncOvfWrite q v => Sys2Proof.Machine.execSyncOvfWrite q v s
  | .nodeCommit slot src => Sys2Proof.Machine.execNodeCommit slot src s
  | .nodeDispatch => Sys2Proof.Machine.execNodeDispatch s
  | .strandStart => Sys2Proof.Machine.execStrandStart s
  | .nodeAging h => Sys2Proof.Machine.execNodeAging h s
  | .nodeComplete h => Sys2Proof.Machine.execNodeComplete h s
  | .preemptionRequest h strand => Sys2Proof.Machine.execPreemptionRequest h strand s
  | .preemption => Sys2Proof.Machine.execPreemption s
  | .strandResume => Sys2Proof.Machine.execStrandResume s
  | .suspendWake h strand => Sys2Proof.Machine.execSuspendWake h strand s
  | .strikeCore => Sys2Proof.Machine.execStrikeCore s
  | .chipletLoss socket => Sys2Proof.Machine.execChipletLoss socket s
  | .drawerRetrain ch => Sys2Proof.Machine.execDrawerRetrain ch s
  | .retrainDone ch => Sys2Proof.Machine.execRetrainDone ch s
  | .ductusTableWrite ch sl v => Sys2Proof.Machine.execDuctusTableWrite ch sl v s
  | .frameBoundary ch => Sys2Proof.Machine.execFrameBoundary ch s
  | .keySlotWrite k dw v => Sys2Proof.Machine.execKeySlotWrite k dw v s
  | .fabricRequest r => Sys2Proof.Machine.execFabricRequest r s
  | .fabricReply r => Sys2Proof.Machine.execFabricReply r s
  | .frameReplay port => Sys2Proof.Machine.execFrameReplay port s
  | .peerRetrain port => Sys2Proof.Machine.execPeerRetrain port s
  | .runStart q => Sys2Proof.Machine.execRunStart q s
  | .collSend q => Sys2Proof.Machine.execCollSend q s
  | .collRecv q => Sys2Proof.Machine.execCollRecv q s
  | .collRrs q => Sys2Proof.Machine.execCollRrs q s
  | .collCopy q => Sys2Proof.Machine.execCollCopy q s
  | .collWait q => Sys2Proof.Machine.execCollWait q s
  | .collLoop q => Sys2Proof.Machine.execCollLoop q s
  | .collEnd q => Sys2Proof.Machine.execCollEnd q s
  | .countedWrite r => Sys2Proof.Machine.execCountedWrite r s
  | .collAbort cid => Sys2Proof.Machine.execCollAbort cid s
  | .powerGood => Sys2Proof.Machine.execPowerGood s
  | .setready => Sys2Proof.Machine.execSetready s
  | .packageReset => Sys2Proof.Machine.execPackageReset s
  | .hostWrite bar2 off bytes => Sys2Proof.Machine.execHostWrite bar2 off bytes s
  | .hostRead bar2 off size => Sys2Proof.Machine.execHostRead bar2 off size s
  | .ckptGo => Sys2Proof.Machine.execCkptGo s
  | .ckptComplete => Sys2Proof.Machine.execCkptComplete s
  | .ckptRestore => Sys2Proof.Machine.execCkptRestore s
  | .ckptRestoreComplete => Sys2Proof.Machine.execCkptRestoreComplete s
  | .wakeWordWrite core v => Sys2Proof.Machine.execWakeWordWrite core v s
  | .funcModeWrite v => Sys2Proof.Machine.execFuncModeWrite v s
  | .serviceReply seq status res => Sys2Proof.Machine.execServiceReply seq status res s
  | .serviceRingConsWrite v => Sys2Proof.Machine.execServiceRingConsWrite v s
  | .triageTailWrite v => Sys2Proof.Machine.execTriageTailWrite v s
  | .resetReportTailWrite v => Sys2Proof.Machine.execResetReportTailWrite v s
  | .attestation nonce => Sys2Proof.Machine.execAttestation nonce s
  | .d3hotEntry => Sys2Proof.Machine.execD3hotEntry s
  | .d0Entry => Sys2Proof.Machine.execD0Entry s
  | .systemBlockWrite off v src => Sys2Proof.Machine.execSystemBlockWrite off v src s
  | .freezeAssert => Sys2Proof.Machine.execFreezeAssert s
  | .freezeRelease => Sys2Proof.Machine.execFreezeRelease s
  | .throttle dom => Sys2Proof.Machine.execThrottle dom s
  | .hotSet stack => Sys2Proof.Machine.execHotSet stack s
  | .hotClear stack => Sys2Proof.Machine.execHotClear stack s
  | .overtempReset => Sys2Proof.Machine.execOvertempReset s
  | .peerPortTrained port => Sys2Proof.Machine.execPeerPortTrained port s
  | .macroEnd stack => Sys2Proof.Machine.execMacroEnd stack s
  | .nop w => Sys2Proof.Machine.execNop w s
  | .br w => Sys2Proof.Machine.execBr w s
  | .brc w => Sys2Proof.Machine.execBrc w s
  | .call w => Sys2Proof.Machine.execCall w s
  | .calli w => Sys2Proof.Machine.execCalli w s
  | .ret w => Sys2Proof.Machine.execRet w s
  | .jmpi w => Sys2Proof.Machine.execJmpi w s
  | .loop w => Sys2Proof.Machine.execLoop w s
  | .loopset w => Sys2Proof.Machine.execLoopset w s
  | .exit w => Sys2Proof.Machine.execExit w s
  | .yield w => Sys2Proof.Machine.execYield w s
  | .suspend w => Sys2Proof.Machine.execSuspend w s
  | .seal w => Sys2Proof.Machine.execSeal w s
  | .trap w => Sys2Proof.Machine.execTrap w s
  | .brk w => Sys2Proof.Machine.execBrk w s
  | .add w => Sys2Proof.Machine.execAdd w s
  | .sub w => Sys2Proof.Machine.execSub w s
  | .mul w => Sys2Proof.Machine.execMul w s
  | .mulh w => Sys2Proof.Machine.execMulh w s
  | .mulhn w => Sys2Proof.Machine.execMulhn w s
  | .div w => Sys2Proof.Machine.execDiv w s
  | .divn w => Sys2Proof.Machine.execDivn w s
  | .rem w => Sys2Proof.Machine.execRem w s
  | .remn w => Sys2Proof.Machine.execRemn w s
  | .and w => Sys2Proof.Machine.execAnd w s
  | .or w => Sys2Proof.Machine.execOr w s
  | .xor w => Sys2Proof.Machine.execXor w s
  | .andn w => Sys2Proof.Machine.execAndn w s
  | .shl w => Sys2Proof.Machine.execShl w s
  | .shr w => Sys2Proof.Machine.execShr w s
  | .sha w => Sys2Proof.Machine.execSha w s
  | .rot w => Sys2Proof.Machine.execRot w s
  | .min w => Sys2Proof.Machine.execMin w s
  | .max w => Sys2Proof.Machine.execMax w s
  | .minn w => Sys2Proof.Machine.execMinn w s
  | .maxn w => Sys2Proof.Machine.execMaxn w s
  | .clz w => Sys2Proof.Machine.execClz w s
  | .ctz w => Sys2Proof.Machine.execCtz w s
  | .popc w => Sys2Proof.Machine.execPopc w s
  | .ext w => Sys2Proof.Machine.execExt w s
  | .extn w => Sys2Proof.Machine.execExtn w s
  | .ins w => Sys2Proof.Machine.execIns w s
  | .sel w => Sys2Proof.Machine.execSel w s
  | .lea w => Sys2Proof.Machine.execLea w s
  | .cmp w => Sys2Proof.Machine.execCmp w s
  | .movi w => Sys2Proof.Machine.execMovi w s
  | .movl w l => Sys2Proof.Machine.execMovl w l s
  | .movlHi w l => Sys2Proof.Machine.execMovlHi w l s
  | .movhi w => Sys2Proof.Machine.execMovhi w s
  | .addi w => Sys2Proof.Machine.execAddi w s
  | .muli w => Sys2Proof.Machine.execMuli w s
  | .andi w => Sys2Proof.Machine.execAndi w s
  | .ori w => Sys2Proof.Machine.execOri w s
  | .xori w => Sys2Proof.Machine.execXori w s
  | .shli w => Sys2Proof.Machine.execShli w s
  | .shri w => Sys2Proof.Machine.execShri w s
  | .shai w => Sys2Proof.Machine.execShai w s
  | .cmpi w => Sys2Proof.Machine.execCmpi w s
  | .pand w => Sys2Proof.Machine.execPand w s
  | .por w => Sys2Proof.Machine.execPor w s
  | .pxor w => Sys2Proof.Machine.execPxor w s
  | .movpFromP w => Sys2Proof.Machine.execMovpFromP w s
  | .movpToP w => Sys2Proof.Machine.execMovpToP w s
  | .movpToB w => Sys2Proof.Machine.execMovpToB w s
  | .movpFromB w => Sys2Proof.Machine.execMovpFromB w s
  | .movpToK w => Sys2Proof.Machine.execMovpToK w s
  | .movpFromK w => Sys2Proof.Machine.execMovpFromK w s
  | .movpFromLc w => Sys2Proof.Machine.execMovpFromLc w s
  | .movpKToP w => Sys2Proof.Machine.execMovpKToP w s
  | .fadd w => Sys2Proof.Machine.execFadd w s
  | .fsub w => Sys2Proof.Machine.execFsub w s
  | .fmul w => Sys2Proof.Machine.execFmul w s
  | .ffma w => Sys2Proof.Machine.execFfma w s
  | .fdiv w => Sys2Proof.Machine.execFdiv w s
  | .fsqrt w => Sys2Proof.Machine.execFsqrt w s
  | .fmin w => Sys2Proof.Machine.execFmin w s
  | .fmax w => Sys2Proof.Machine.execFmax w s
  | .fabs w => Sys2Proof.Machine.execFabs w s
  | .fneg w => Sys2Proof.Machine.execFneg w s
  | .fcmp w => Sys2Proof.Machine.execFcmp w s
  | .fcvti w => Sys2Proof.Machine.execFcvti w s
  | .icvtf w => Sys2Proof.Machine.execIcvtf w s
  | .ld w m => Sys2Proof.Machine.execLd w m s
  | .st w m => Sys2Proof.Machine.execSt w m s
  | .lds w m => Sys2Proof.Machine.execLds w m s
  | .sts w m => Sys2Proof.Machine.execSts w m s
  | .fence w => Sys2Proof.Machine.execFence w s
  | .waitw w m => Sys2Proof.Machine.execWaitw w m s
  | .lrec w m => Sys2Proof.Machine.execLrec w m s
  | .tkwait w => Sys2Proof.Machine.execTkwait w s
  | .tksig w => Sys2Proof.Machine.execTksig w s
  | .aadd w m => Sys2Proof.Machine.execAadd w m s
  | .aand w m => Sys2Proof.Machine.execAand w m s
  | .aor w m => Sys2Proof.Machine.execAor w m s
  | .axor w m => Sys2Proof.Machine.execAxor w m s
  | .amin w m => Sys2Proof.Machine.execAmin w m s
  | .amax w m => Sys2Proof.Machine.execAmax w m s
  | .aminn w m => Sys2Proof.Machine.execAminn w m s
  | .amaxn w m => Sys2Proof.Machine.execAmaxn w m s
  | .aswp w m => Sys2Proof.Machine.execAswp w m s
  | .acas w m => Sys2Proof.Machine.execAcas w m s
  | .afadd w m => Sys2Proof.Machine.execAfadd w m s
  | .ainc w m => Sys2Proof.Machine.execAinc w m s
  | .radd w m => Sys2Proof.Machine.execRadd w m s
  | .rand w m => Sys2Proof.Machine.execRand w m s
  | .ror w m => Sys2Proof.Machine.execRor w m s
  | .rxor w m => Sys2Proof.Machine.execRxor w m s
  | .rmin w m => Sys2Proof.Machine.execRmin w m s
  | .rmax w m => Sys2Proof.Machine.execRmax w m s
  | .rfadd w m => Sys2Proof.Machine.execRfadd w m s
  | .rbfadd w m => Sys2Proof.Machine.execRbfadd w m s
  | .bar w => Sys2Proof.Machine.execBar w s
  | .barv w => Sys2Proof.Machine.execBarv w s
  | .bwait w => Sys2Proof.Machine.execBwait w s
  | .trig w => Sys2Proof.Machine.execTrig w s
  | .gwait w => Sys2Proof.Machine.execGwait w s
  | .spawn w => Sys2Proof.Machine.execSpawn w s
  | .nsub w => Sys2Proof.Machine.execNsub w s
  | .prio w => Sys2Proof.Machine.execPrio w s
  | .jarv w => Sys2Proof.Machine.execJarv w s
  | .jwait w => Sys2Proof.Machine.execJwait w s
  | .watch w => Sys2Proof.Machine.execWatch w s
  | .unwatch w => Sys2Proof.Machine.execUnwatch w s
  | .pld w m => Sys2Proof.Machine.execPld w m s
  | .pst w m => Sys2Proof.Machine.execPst w m s
  | .pstBlock w m => Sys2Proof.Machine.execPstBlock w m s
  | .pfaa w m => Sys2Proof.Machine.execPfaa w m s
  | .pcas w m => Sys2Proof.Machine.execPcas w m s
  | .pred w m => Sys2Proof.Machine.execPred w m s
  | .pfence w m => Sys2Proof.Machine.execPfence w m s
  | .clrun w m => Sys2Proof.Machine.execClrun w m s
  | .clwait w m => Sys2Proof.Machine.execClwait w m s
  | .mfs w => Sys2Proof.Machine.execMfs w s
  | .mts w => Sys2Proof.Machine.execMts w s
  | .svc w => Sys2Proof.Machine.execSvc w s
  | .rftResume w => Sys2Proof.Machine.execRftResume w s
  | .rftSkip w => Sys2Proof.Machine.execRftSkip w s
  | .rftPark w => Sys2Proof.Machine.execRftPark w s
  | .rftRestart w => Sys2Proof.Machine.execRftRestart w s
  | .tlbi w => Sys2Proof.Machine.execTlbi w s
  | .tlbia w => Sys2Proof.Machine.execTlbia w s
  | .llcopCarve w m => Sys2Proof.Machine.execLlcopCarve w m s
  | .llcopUncarve w m => Sys2Proof.Machine.execLlcopUncarve w m s
  | .llcopClean w m => Sys2Proof.Machine.execLlcopClean w m s
  | .llcopFlush w m => Sys2Proof.Machine.execLlcopFlush w m s
  | .purge w => Sys2Proof.Machine.execPurge w s
  | .chipopStatus w => Sys2Proof.Machine.execChipopStatus w s
  | .chipopFence w => Sys2Proof.Machine.execChipopFence w s
  | .chipopReset w => Sys2Proof.Machine.execChipopReset w s
  | .chipopClearlost w => Sys2Proof.Machine.execChipopClearlost w s
  | .wfi w => Sys2Proof.Machine.execWfi w s
  | .vnop w => Sys2Proof.Machine.execVnop w s
  | .vview w v l => Sys2Proof.Machine.execVview w v l s
  | .tview w v l => Sys2Proof.Machine.execTview w v l s
  | .vmov32 w => Sys2Proof.Machine.execVmov32 w s
  | .vmov64 w v => Sys2Proof.Machine.execVmov64 w v s
  | .vxmov32 w => Sys2Proof.Machine.execVxmov32 w s
  | .vxmov64 w v => Sys2Proof.Machine.execVxmov64 w v s
  | .vbcast32 w => Sys2Proof.Machine.execVbcast32 w s
  | .vbcast64 w v => Sys2Proof.Machine.execVbcast64 w v s
  | .vtos32 w => Sys2Proof.Machine.execVtos32 w s
  | .vtos64 w v => Sys2Proof.Machine.execVtos64 w v s
  | .vmset32 w => Sys2Proof.Machine.execVmset32 w s
  | .vmset64 w v => Sys2Proof.Machine.execVmset64 w v s
  | .vmand32 w => Sys2Proof.Machine.execVmand32 w s
  | .vmand64 w v => Sys2Proof.Machine.execVmand64 w v s
  | .vmor32 w => Sys2Proof.Machine.execVmor32 w s
  | .vmor64 w v => Sys2Proof.Machine.execVmor64 w v s
  | .vmxor32 w => Sys2Proof.Machine.execVmxor32 w s
  | .vmxor64 w v => Sys2Proof.Machine.execVmxor64 w v s
  | .vmpop32 w => Sys2Proof.Machine.execVmpop32 w s
  | .vmpop64 w v => Sys2Proof.Machine.execVmpop64 w v s
  | .vtkw w => Sys2Proof.Machine.execVtkw w s
  | .vtks w => Sys2Proof.Machine.execVtks w s
  | .vadd32 w => Sys2Proof.Machine.execVadd32 w s
  | .vadd64 w v => Sys2Proof.Machine.execVadd64 w v s
  | .vsub32 w => Sys2Proof.Machine.execVsub32 w s
  | .vsub64 w v => Sys2Proof.Machine.execVsub64 w v s
  | .vadds32 w => Sys2Proof.Machine.execVadds32 w s
  | .vadds64 w v => Sys2Proof.Machine.execVadds64 w v s
  | .vsubs32 w => Sys2Proof.Machine.execVsubs32 w s
  | .vsubs64 w v => Sys2Proof.Machine.execVsubs64 w v s
  | .vmul32 w => Sys2Proof.Machine.execVmul32 w s
  | .vmul64 w v => Sys2Proof.Machine.execVmul64 w v s
  | .vmulh32 w => Sys2Proof.Machine.execVmulh32 w s
  | .vmulh64 w v => Sys2Proof.Machine.execVmulh64 w v s
  | .vmulw32 w => Sys2Proof.Machine.execVmulw32 w s
  | .vmulw64 w v => Sys2Proof.Machine.execVmulw64 w v s
  | .vmac w v => Sys2Proof.Machine.execVmac w v s
  | .vmacw w v => Sys2Proof.Machine.execVmacw w v s
  | .vdot4 w v => Sys2Proof.Machine.execVdot4 w v s
  | .vand32 w => Sys2Proof.Machine.execVand32 w s
  | .vand64 w v => Sys2Proof.Machine.execVand64 w v s
  | .vor32 w => Sys2Proof.Machine.execVor32 w s
  | .vor64 w v => Sys2Proof.Machine.execVor64 w v s
  | .vxor32 w => Sys2Proof.Machine.execVxor32 w s
  | .vxor64 w v => Sys2Proof.Machine.execVxor64 w v s
  | .vshl32 w => Sys2Proof.Machine.execVshl32 w s
  | .vshl64 w v => Sys2Proof.Machine.execVshl64 w v s
  | .vshr32 w => Sys2Proof.Machine.execVshr32 w s
  | .vshr64 w v => Sys2Proof.Machine.execVshr64 w v s
  | .vsha32 w => Sys2Proof.Machine.execVsha32 w s
  | .vsha64 w v => Sys2Proof.Machine.execVsha64 w v s
  | .vmin32 w => Sys2Proof.Machine.execVmin32 w s
  | .vmin64 w v => Sys2Proof.Machine.execVmin64 w v s
  | .vmax32 w => Sys2Proof.Machine.execVmax32 w s
  | .vmax64 w v => Sys2Proof.Machine.execVmax64 w v s
  | .vabs32 w => Sys2Proof.Machine.execVabs32 w s
  | .vabs64 w v => Sys2Proof.Machine.execVabs64 w v s
  | .vneg32 w => Sys2Proof.Machine.execVneg32 w s
  | .vneg64 w v => Sys2Proof.Machine.execVneg64 w v s
  | .vcmp32 w => Sys2Proof.Machine.execVcmp32 w s
  | .vcmp64 w v => Sys2Proof.Machine.execVcmp64 w v s
  | .vsel w v => Sys2Proof.Machine.execVsel w v s
  | .vaddmin w v => Sys2Proof.Machine.execVaddmin w v s
  | .vaddmax w v => Sys2Proof.Machine.execVaddmax w v s
  | .vclz32 w => Sys2Proof.Machine.execVclz32 w s
  | .vclz64 w v => Sys2Proof.Machine.execVclz64 w v s
  | .vpopc32 w => Sys2Proof.Machine.execVpopc32 w s
  | .vpopc64 w v => Sys2Proof.Machine.execVpopc64 w v s
  | .vfadd32 w => Sys2Proof.Machine.execVfadd32 w s
  | .vfadd64 w v => Sys2Proof.Machine.execVfadd64 w v s
  | .vfsub32 w => Sys2Proof.Machine.execVfsub32 w s
  | .vfsub64 w v => Sys2Proof.Machine.execVfsub64 w v s
  | .vfmul32 w => Sys2Proof.Machine.execVfmul32 w s
  | .vfmul64 w v => Sys2Proof.Machine.execVfmul64 w v s
  | .vfma w v => Sys2Proof.Machine.execVfma w v s
  | .vfms w v => Sys2Proof.Machine.execVfms w v s
  | .vfnma w v => Sys2Proof.Machine.execVfnma w v s
  | .vfmin32 w => Sys2Proof.Machine.execVfmin32 w s
  | .vfmin64 w v => Sys2Proof.Machine.execVfmin64 w v s
  | .vfmax32 w => Sys2Proof.Machine.execVfmax32 w s
  | .vfmax64 w v => Sys2Proof.Machine.execVfmax64 w v s
  | .vfabs32 w => Sys2Proof.Machine.execVfabs32 w s
  | .vfabs64 w v => Sys2Proof.Machine.execVfabs64 w v s
  | .vfneg32 w => Sys2Proof.Machine.execVfneg32 w s
  | .vfneg64 w v => Sys2Proof.Machine.execVfneg64 w v s
  | .vfcmp32 w => Sys2Proof.Machine.execVfcmp32 w s
  | .vfcmp64 w v => Sys2Proof.Machine.execVfcmp64 w v s
  | .vfdiv32 w => Sys2Proof.Machine.execVfdiv32 w s
  | .vfdiv64 w v => Sys2Proof.Machine.execVfdiv64 w v s
  | .vfsqrt32 w => Sys2Proof.Machine.execVfsqrt32 w s
  | .vfsqrt64 w v => Sys2Proof.Machine.execVfsqrt64 w v s
  | .vsfn32 w => Sys2Proof.Machine.execVsfn32 w s
  | .vsfn64 w v => Sys2Proof.Machine.execVsfn64 w v s
  | .vcvt w v => Sys2Proof.Machine.execVcvt w v s
  | .vqnt w v => Sys2Proof.Machine.execVqnt w v s
  | .vdqnt w v => Sys2Proof.Machine.execVdqnt w v s
  | .vshup32 w => Sys2Proof.Machine.execVshup32 w s
  | .vshup64 w v => Sys2Proof.Machine.execVshup64 w v s
  | .vshdn32 w => Sys2Proof.Machine.execVshdn32 w s
  | .vshdn64 w v => Sys2Proof.Machine.execVshdn64 w v s
  | .vrot32 w => Sys2Proof.Machine.execVrot32 w s
  | .vrot64 w v => Sys2Proof.Machine.execVrot64 w v s
  | .vperm w v => Sys2Proof.Machine.execVperm w v s
  | .vred32 w => Sys2Proof.Machine.execVred32 w s
  | .vred64 w v => Sys2Proof.Machine.execVred64 w v s
  | .vscan32 w => Sys2Proof.Machine.execVscan32 w s
  | .vscan64 w v => Sys2Proof.Machine.execVscan64 w v s
  | .vzip32 w => Sys2Proof.Machine.execVzip32 w s
  | .vzip64 w v => Sys2Proof.Machine.execVzip64 w v s
  | .vuzp32 w => Sys2Proof.Machine.execVuzp32 w s
  | .vuzp64 w v => Sys2Proof.Machine.execVuzp64 w v s
  | .vext32 w => Sys2Proof.Machine.execVext32 w s
  | .vext64 w v => Sys2Proof.Machine.execVext64 w v s
  | .vcompr32 w => Sys2Proof.Machine.execVcompr32 w s
  | .vcompr64 w v => Sys2Proof.Machine.execVcompr64 w v s
  | .vexpd32 w => Sys2Proof.Machine.execVexpd32 w s
  | .vexpd64 w v => Sys2Proof.Machine.execVexpd64 w v s
  | .vtrn32 w => Sys2Proof.Machine.execVtrn32 w s
  | .vtrn64 w v => Sys2Proof.Machine.execVtrn64 w v s
  | .viota32 w => Sys2Proof.Machine.execViota32 w s
  | .viota64 w v => Sys2Proof.Machine.execViota64 w v s
  | .vld w v m => Sys2Proof.Machine.execVld w v m s
  | .vst w v m => Sys2Proof.Machine.execVst w v m s
  | .vldsd w v m => Sys2Proof.Machine.execVldsd w v m s
  | .vstsd w v m => Sys2Proof.Machine.execVstsd w v m s
  | .vldx w v m => Sys2Proof.Machine.execVldx w v m s
  | .vstx w v m => Sys2Proof.Machine.execVstx w v m s
  | .vldt w v m => Sys2Proof.Machine.execVldt w v m s
  | .vstt w v m => Sys2Proof.Machine.execVstt w v m s
  | .vldb w v m => Sys2Proof.Machine.execVldb w v m s
  | .mnop w => Sys2Proof.Machine.execMnop w s
  | .mcfg w e l => Sys2Proof.Machine.execMcfg w e l s
  | .mcfgv w e => Sys2Proof.Machine.execMcfgv w e s
  | .mgo w e => Sys2Proof.Machine.execMgo w e s
  | .mpin w e => Sys2Proof.Machine.execMpin w e s
  | .munpin w e => Sys2Proof.Machine.execMunpin w e s
  | .mdrain w e => Sys2Proof.Machine.execMdrain w e s
  | .msave w e => Sys2Proof.Machine.execMsave w e s
  | .mload w e => Sys2Proof.Machine.execMload w e s
  | .mstat w e => Sys2Proof.Machine.execMstat w e s
  | .mfence w e => Sys2Proof.Machine.execMfence w e s
  | .cnop w => Sys2Proof.Machine.execCnop w s
  | .cpy w e => Sys2Proof.Machine.execCpy w e s
  | .cpy2 w e => Sys2Proof.Machine.execCpy2 w e s
  | .cpyt w e => Sys2Proof.Machine.execCpyt w e s
  | .cpyxCast w e => Sys2Proof.Machine.execCpyxCast w e s
  | .cpyxScale w e => Sys2Proof.Machine.execCpyxScale w e s
  | .cpyxAdd w e => Sys2Proof.Machine.execCpyxAdd w e s
  | .cpyxReduce w e => Sys2Proof.Machine.execCpyxReduce w e s
  | .cfill w e => Sys2Proof.Machine.execCfill w e s
  | .csig w e => Sys2Proof.Machine.execCsig w e s
  | .cpref w e => Sys2Proof.Machine.execCpref w e s
  | .cflushClean w e => Sys2Proof.Machine.execCflushClean w e s
  | .cflushInval w e => Sys2Proof.Machine.execCflushInval w e s
  | .cflushDiscard w e => Sys2Proof.Machine.execCflushDiscard w e s
  | .cfence w e => Sys2Proof.Machine.execCfence w e s
  | .bnop w => Sys2Proof.Machine.execBnop w s
  | .bact w e => Sys2Proof.Machine.execBact w e s
  | .bmv w e => Sys2Proof.Machine.execBmv w e s
  | .bmvc w e => Sys2Proof.Machine.execBmvc w e s
  | .bvm w e => Sys2Proof.Machine.execBvm w e s
  | .bapp w e => Sys2Proof.Machine.execBapp w e s
  | .browcp w e => Sys2Proof.Machine.execBrowcp w e s
  | .browz w e => Sys2Proof.Machine.execBrowz w e s
  | .bbufcp w e => Sys2Proof.Machine.execBbufcp w e s
  | .bload w e => Sys2Proof.Machine.execBload w e s
  | .bdrop w e => Sys2Proof.Machine.execBdrop w e s
  | .bjoin w e => Sys2Proof.Machine.execBjoin w e s
  | .bfence w e => Sys2Proof.Machine.execBfence w e s

end Sys2Proof.Machine
end

