-- ==== Sys2Proof/Machine/Sched.lean ====
section
/-! DEFINITION. Sched.lean: what the package does next: a wall cycle of its units, in the order of log 4, event by event
(01 R23 to R30; 05 R174 to R177; 12 R367 to R382). -/

namespace Sys2Proof.Machine

/-- The next thing that happens: an event, the issue of a queue's head on the current core, time and bookkeeping alone, or
nothing any more. -/
inductive Plan where
  | event (s : State) (i : Instr)
  | issue (s : State) (st : Nat)
  | tick (s : State)
  | stop

/-! ### Inputs (log 1) -/

/-- An event that comes from outside the package, or is a write of the host or of the firmware controller (15 R453). -/
def isOutside : Instr → Bool
  | .powerGood => true
  | .packageReset => true
  | .overtempReset => true
  | .setready => true
  | .hostWrite .. => true
  | .hostRead .. => true
  | .systemBlockWrite .. => true
  | .syncOvfWrite .. => true
  | .ductusTableWrite .. => true
  | .keySlotWrite .. => true
  | .wakeWordWrite .. => true
  | .funcModeWrite .. => true
  | .serviceRingConsWrite .. => true
  | .triageTailWrite .. => true
  | .resetReportTailWrite .. => true
  | .bcfgWrite .. => true
  | .bcfgFlt .. => true
  | .bcfgClr .. => true
  | .nodeCommit .. => true
  | .preemptionRequest .. => true
  | .serviceReply .. => true
  | .freezeAssert => true
  | .freezeRelease => true
  | .throttle .. => true
  | .hotSet .. => true
  | .hotClear .. => true
  | .d3hotEntry => true
  | .d0Entry => true
  | .drawerRetrain .. => true
  | .retrainDone .. => true
  | .frameReplay .. => true
  | .peerRetrain .. => true
  | .peerPortTrained .. => true
  | .fabricRequest .. => true
  | .fabricReply .. => true
  | .countedWrite .. => true
  | .podPhaseReady .. => true
  | .collAbort .. => true
  | .strikeCore => true
  | .strikeMatrix => true
  | .strikeLane .. => true
  | .chipletLoss .. => true
  | _ => false
/-- What acts while the FREEZE input stops every clock, and in a part that bring-up has halted (14 R447, 15 R453). -/
def whenStopped : Instr → Bool
  | .freezeRelease => true
  | .hostRead .. => true
  | .hostWrite .. => true
  | .packageReset => true
  | .overtempReset => true
  | _ => false

/-- Take an input out of the list; one that is no outside event does nothing. -/
def State.takeInput (s : State) (f : Input → Bool) : Option Plan :=
  (takeFirst f s.inputs).map fun x =>
    let t : State := { s with inputs := x.2 }
    match x.1.fw with
    | some a => .tick (t.fwAct a)
    | none => if isOutside x.1.ev then .event (t.focus x.1.core) x.1.ev else .tick t

/-- The input acts in a part whose clocks are stopped, and is due. -/
def State.staysDue (s : State) (i : Input) : Bool := i.fw.isNone && whenStopped i.ev && decide (i.at_ ≤ s.wall)
/-- Bring-up has halted the part (15 R453). -/
def State.halted (s : State) : Bool := s.host.boot &&& 0xF0 != 0

/-! ### The host (15) -/

def State.planHost (s : State) : Option Plan :=
  if (s.host.bootDue.map fun d => decide (d ≤ s.wall)).getD false then some (.tick s.bootStep) else
  (match s.freshReply with
  | some (some i) => some (.event s i)
  | some none => some (.tick { s with host := { s.host with svcFresh := s.host.svcFresh.drop 1 } })
  | none =>
    if s.host.nonceFresh then some (.event s (.attestation (BitVec.ofNat 256 (leNat (s.host.mailbox.readRun 0 32)))))
    else match s.host.ckptWant with
      | some false => some (.event s .ckptGo)
      | some true => some (.event s .ckptRestore)
      | none =>
        if s.host.restoring then some (.event s .ckptRestoreComplete)
        else if s.host.ckptCtl.getLsbD 2 && s.ckptReady then some (.event s .ckptComplete) else none)

/-! ### Messages, the pool, the collective engines, the fabric -/

def State.planNet (s : State) : Option Plan :=
  if s.net.isEmpty then none else
  if (s.firstMsg 0).isSome then some (.event s .llcAccept)
  else if (s.firstMsg 1).isSome then some (.event s .syncRequestApply)
  else if (s.firstMsg 2).isSome then some (.event s .barrierArrival)
  else if (s.firstMsg 3).isSome then some (.event s .joinArrival)
  else if (s.firstMsg 4).isSome then some (.event s .queryReply)
  else none

/-- The host chooses the next node while FUNC_MODE.DISP is 1: one request at a time (15 R452, R462). -/
def State.askHost (s : State) : Option Plan :=
  let h := ((s.poolItems.find? fun x => x.2.isNone).map (·.1)).getD 0
  let idle := (List.range 128).foldl (fun m k => if s.idle k then m + 2 ^ k else m) 0
  some (.tick (s.service 1 s.id (natLe 8 h ++ natLe 16 idle)))

/-- Mark the strands that the dispatcher pre-empts beside the first. -/
def State.askStop (s : State) (k : Nat) : State :=
  let c := s.coreAt k
  s.setCoreAt k { c with strand := c.strand.map fun t => { t with preempt := true } }

def State.planPool (s : State) : Option Plan :=
  if s.sched.nodes.isEmpty then none else
  match s.sched.nodes.find? fun e => s.canComplete e.1 with
  | some e => some (.event s (.nodeComplete (BitVec.ofNat 14 e.1)))
  | none =>
    match s.sched.nodes.find? fun e => (e.2.map fun n => decide (64 ≤ n.pass) && n.phase == 1 && (decide (n.level < 3) || s.pinned.isNone)).getD false with
    | some e => some (.event s (.nodeAging (BitVec.ofNat 14 e.1)))
    | none =>
      match s.sched.woken.find? fun x => ((s.sched.saved.get (recordKey x.1 x.2)).map (·.parked)).getD false with
      | some x => some (.event s (.suspendWake (BitVec.ofNat 14 x.1) (BitVec.ofNat 5 x.2)))
      | none =>
        if !s.dispatching then none else
        let t := s.decided
        if t.sched.nodes != s.sched.nodes then some (.tick t) else
        match s.nextItem with
        | some (_, none) =>
          if s.host.svcWait.any fun r => r.func == 1 then none
          else if s.host.funcMode.getLsbD 1 then t.askHost else some (.event t .nodeDispatch)
        | some (_, some _) => some (.event t .strandResume)
        | none => match t.victims with
          | [] => none
          | k :: r => (t.coreAt k).strand.map fun x =>
            .event (r.foldl State.askStop t) (.preemptionRequest (BitVec.ofNat 14 x.node) (BitVec.ofNat 5 x.idx))

/-- The next step of the engine of quadrant `q`; a checkpoint lets a step that has begun go on, and starts none (R455). -/
def State.planRun (s : State) (q : Nat) : Option Plan :=
  let b : BitVec 2 := BitVec.ofNat 2 q
  let busy := s.host.ckptCtl.getLsbD 2
  match (collOf s q).runs.find? Run.ended with
  | some r =>
    if r.started && !r.stopped && (s.headRun q).map (·.ticket) != some r.ticket then none else some (.event s (.collEnd b))
  | none => match s.headRun q with
    | none => none
    | some r =>
      if !r.started then (if busy then none else some (.event s (.runStart b)))
      else if busy && r.chunk == 0 then none
      else match r.op with
        | 1 => if 4096 ≤ s.unacked r.peer then none else some (.event s (.collSend b))
        | 2 => if s.allReady r then some (.event s (.collRecv b)) else none
        | 3 => if (r.chunk == 0 && !s.allReady r) || decide (4096 ≤ s.unacked r.peer) then none else some (.event s (.collRrs b))
        | 4 => some (.event s (.collCopy b))
        | 5 => if r.unacked.isEmpty then some (.event s (.collWait b)) else none
        | 6 => some (.event s (.collLoop b))
        | _ => none
def State.planColl (s : State) : Option Plan := if s.fab.coll.isEmpty then none else [0, 1, 2, 3].findSome? s.planRun

/-- Requests of the package to itself, and requests whose target can no longer be reached (13 R389, R390, R395). -/
def State.planFab (s : State) : Option Plan :=
  if !s.fab.others.all s.fab.reach && !s.podPending.isEmpty then some (.tick s.podLost) else
  s.fab.out.findSome? fun o =>
    if !s.fab.reach o.target then some (.event s (.fabricReply { target := BitVec.ofNat 8 o.target, txn := o.txn, ans := .unreachable }))
    else if o.target ≠ s.fab.own then none
    else match s.fab.cache.find? fun e => e.1 == (o.target, o.txn) with
      | some e => if s.fabLeft o = 0 then some (.event s (.fabricReply { target := BitVec.ofNat 8 o.target, txn := o.txn, ans := e.2 })) else none
      | none =>
        if decide (s.fabLeft o ≤ 32) && s.performed o.after && s.fabAdmits o.req then some (.event s (if isCounted o.req.op then .countedWrite o.req else .fabricRequest o.req))
        else none

/-- Frame boundaries of drawer channels with entries written (10 R320). -/
def State.planFrames (s : State) : Option Plan :=
  if s.wall % 62 ≠ 0 then none else s.drawer.written.head?.map fun e => .event s (.frameBoundary (BitVec.ofNat 7 (e.1 / 64)))

/-! ### The start of a wall cycle (01 R23 to R26, R30) -/

/-- Every arithmetic domain is clock-gated (14 R448). -/
def State.gated (s : State) : Bool := s.host.d3hot

/-- What an access waits for: numbers of effects and loads that come before it, and theirs in turn. `fuel` bounds the chain. -/
def State.chain (s : State) : Nat → List Nat → List Nat
  | 0, ids => ids
  | fuel + 1, ids =>
    let more := ((s.core.lands.filter fun l => ids.contains l.id).flatMap fun l => l.waitFor ++ l.soft.map (·.1))
      ++ (s.core.hold.filter fun e => ids.contains e.id).flatMap (·.after) ++ (s.net.filter fun m => ids.contains m.id).flatMap (·.after)
    let fresh := more.filter fun i => !ids.contains i
    if fresh.isEmpty then ids else s.chain fuel (ids ++ fresh.eraseDups)
/-- The effect that a load's reply comes of. -/
def EffKind.landOf : EffKind → Option Nat
  | .atomic _ _ _ _ _ _ l => l
  | .fabric _ _ l _ => l
  | _ => none
/-- The core is frozen for data that waits for an effect in its own hold: the hold goes on counting, as 05 R175 has it (log 41). -/
def State.heldUp (s : State) : Bool :=
  let mine := s.core.hold.filter fun e => e.clk == 0
  let late := s.core.lands.filter fun l => l.hand == s.core.trap.active && decide (l.due ≤ s.core.now + 1) && !s.arrived l
  let first := late.flatMap fun l => l.waitFor ++ l.soft.map (·.1) ++ (s.core.hold.filter fun e => e.kind.landOf == some l.id).map (·.id)
  let ids := s.chain (s.core.lands.length + s.core.hold.length + s.net.length) first
  mine.any (fun e => ids.contains e.id) || (!mine.isEmpty && (match s.lateGran with
    | some (k, g) => g.data.isNone && (s.behind k || s.clashes k [(g.loc, g.len)] [] || s.earlier 4 k.seq k.cls k.scope [(g.loc, g.len)] || s.unreduced k [(g.loc, g.len)])
    | none => false))

/-- The core is frozen for the reply of a fabric request: its round trip goes on counting, as 13 R390 has it (log 41). -/
def State.replyUp (s : State) : Bool :=
  s.core.lands.any fun l => l.fabric && l.hand == s.core.trap.active && decide (l.due ≤ s.core.now + 1) && !s.arrived l

/-- One wall cycle of a core: none while it is throttled or gated; a frozen core counts toward STALL; else a running
cycle, of the strand or its handler once the strand is started. `held`: its hold counts in a freeze too; `trip`: its round trips do. -/
def Core.clock (c : Core) (off held trip : Bool) : Core :=
  if off || c.flow.throttled then c
  else if c.flow.frozen then
    let c := c.freeze true (c.flow.stall + 1)
    { c with flow := { c.flow with conf := c.flow.conf + held.toNat, dom := c.flow.dom + trip.toNat } }
  else
    let runs := c.runs
    { c with flow := { c.flow with
      run := c.flow.run + 1
      conf := c.flow.conf + 1
      dom := c.flow.dom + 1
      cycle := if runs && !c.trap.active then c.flow.cycle + 1 else c.flow.cycle
      hcycle := if runs && c.trap.active then c.flow.hcycle + 1 else c.flow.hcycle
      begun := true } }

/-- An upset of a TLB entry of core `k`: which, if any, is free (14 R429; log 87). -/
def State.upset (s : State) (k : Nat) : State :=
  let c := s.coreAt k
  if c.tlb.isEmpty then s else
  (s.setCoreAt k { c with tlb := c.tlb.mapIdx fun i e => if i = Config.choice s.freeCtr then { e with bad := true } else e }).bump
def State.beginCycle (s : State) : State :=
  let off := s.gated
  let held := s.liveCores.filter fun k => (s.coreAt k).flow.frozen && (s.focus k).heldUp
  let trip := s.liveCores.filter fun k => (s.focus k).replyUp
  let s := s.liveCores.foldl (fun s k => s.setCoreAt k ((s.coreAt k).clock off (held.contains k) (trip.contains k))) s
  let s := if off then s else (List.range 32).foldl (fun s q => if (quadOf s q).throttled then s else s.engTick q) s
  let s := if off then s else (List.range 16).foldl State.stackCycle s
  { s.liveCores.foldl State.upset s.unveil with begun := true }

/-- Freezes for late data begin and end between cycles. -/
def State.planFreeze (s : State) : Option Plan :=
  s.liveCores.findSome? fun k =>
    let t := s.focus k
    if t.core.flow.throttled then none
    else if t.core.flow.frozen && !t.late then some (.event t .lateDataArrival)
    else if !t.core.flow.frozen && t.late then some (.event t .lateDataFreeze)
    else none

/-! ### Units beside the cores -/

def State.planStack (s : State) (n : Nat) : Option Plan :=
  let k := stackOf s n
  let b : BitVec 4 := BitVec.ofNat 4 n
  if k = {} || k.throttled || s.gated then none
  else if k.cyc % 64 == 0 && k.hot != k.fast then some (.event s (.refreshPeriodChange b))
  else match s.dueRefresh n with
    | some l => some (.event s (.refresh b (BitVec.ofNat 8 l)))
    | none =>
      if !(s.arriving n).isEmpty then some (.event s (.macroArrival b))
      else if !(s.committing n).isEmpty then some (.event s (.macroCommit b))
      else if (s.ending n).isSome then some (.event s (.macroEnd b))
      else match s.canStart n with
        | some x => some (.tick (s.startMacro n x))
        | none => (s.dueHyd n).map fun h => .event s (.hydrationComplete b (BitVec.ofNat 8 h.entry))
def State.planStacks (s : State) : Option Plan := (List.range 16).findSome? s.planStack

/-- The matrix engine's work for the current core. -/
def State.planMatrix (s : State) : Option Plan :=
  let e := s.eng
  let m := s.core.mat
  if e.throttled || s.gated || !s.core.runs then none
  else if m.clear = 1 then some (.event s .slotClearDone)
  else if (m.nest.any fun n => !n.faulted && decide (16384 ≤ n.wait.n)) || (s.headDrain.any fun d => decide (16384 ≤ d.wait.n))
      || m.xfers.any fun x => !x.faulted && decide (16384 ≤ x.wait.n) then some (.event s .mStall)
  else if s.headDrain.any fun d => !d.started && (if s.drainWaits d then d.floor != e.cyc + 2 else decide (max (max d.issued e.epiEnd) d.floor ≤ e.cyc)) then
    some (.event s .drainStart)
  else if s.headDrain.any fun d => d.started && decide (d.due ≤ e.cyc) then some (.event s .drainRow)
  else if (match e.cur, m.nest with
    | some st, some n => st.core == s.id && st.begun && st.left == 0 && st.seq == n.seq
    | _, _ => false) then some (.event s .rowBlockWrite)
  else if (match e.cur with
    | none => s.nextNest (s.id / 4) == some s.id
    | some st => st.core == s.id && !st.begun && decide (st.readyAt ≤ s.wall)) then some (.event s .matrixStep)
  else if s.dueXfer.isSome then some (.event s .mloadRowWrite)
  else none

/-- The copy engine's work for the current core, in a running cycle (01 R23), and its bank stream's. -/
def State.planCopy (s : State) : Option Plan :=
  if !s.core.runs || s.gated then none
  else if s.core.flow.begun && s.core.cpy.copies.any fun k => !k.faulted && decide (16384 ≤ k.wait.n) then some (.event s .cStall)
  else if s.core.flow.begun && s.dueCopy.isSome then some (.event s .copyPiece)
  else if s.core.flow.begun && s.core.cpy.copies.any fun k => s.copyOver k then some (.event s .copyEnd)
  else if s.core.macros.any fun m => !m.faulted && decide (16384 ≤ m.wait.n) then some (.event s .bStall)
  else if !s.producing.isEmpty then some (.event s .productOutput)
  else none

/-- Walks and instruction fills of the current core. -/
def State.planFetch (s : State) : Option Plan :=
  if s.dueWalk.isSome then some (.event s .pageWalk)
  else if s.dueFill.isSome then some (.event s .icacheFill)
  else none

/-! ### A core's turn -/

/-- The first in program order of the landings and the timed copies with granules that are due. -/
def State.dueArrival (s : State) : Option (Nat × Instr) :=
  match s.dueLand, if s.core.trap.active then none else s.dueGran with
  | some l, some k => some (if l.seq ≤ k.seq then (l.seq, .landing) else (k.seq, .granuleLanding))
  | some l, none => some (l.seq, .landing)
  | none, some k => some (k.seq, .granuleLanding)
  | none, none => none
/-- Which of the results, landings and granules that are due comes first: later in program order writes last (02 R63, 03 R90). -/
def State.planDue (s : State) : Option Plan :=
  match s.core.duePend, s.dueArrival with
  | some p, some a => some (.event s (if p.rank = 0 ∧ p.seq ≤ a.1 then .resultWrite else a.2))
  | some _, none => some (.event s .resultWrite)
  | none, some a => some (.event s a.2)
  | none, none => none

/-- The streams whose head may issue: not in trap state, past its occupancy, once in a cycle, without a fault of its own,
and not in the cycle of its own dispatch: heads issue before the cycle's group dispatches (02 R61, 05 R160, 14 R417, R419). -/
def Core.heads (c : Core) : List Nat :=
  if c.trap.active || c.flow.dispatched then [] else
  [1, 2, 3, 4, 5].filter fun st => !(c.queues.get st).isEmpty && decide (c.flow.occ.get st ≤ c.flow.cycle) && !c.flow.issued.contains st
    && !c.recs.any (·.stream == st)

/-- A fault is delivered at this point (14 R417); a WFI that it wakes dispatches first (14 R426). -/
def Core.traps (c : Core) : Bool :=
  c.dbl.isSome || (!c.trap.active && !c.recs.isEmpty && !c.flow.dispatched && c.flow.wfi.isNone)
/-- STALL ends the freeze that it comes from (14 R417). -/
def Core.stallTraps (c : Core) : Bool := c.dbl.isSome || (!c.trap.active && c.recs.any fun t => t.cause == 0x0C && !t.running)

/-- The strand stops here, or its image is due (12 R380, R381). -/
def State.stops (s : State) : Bool := match s.core.strand with
  | none => false
  | some t =>
    if t.dormant then s.drained
    else t.preempt && t.started && !s.core.trap.active && !s.core.unsettled &&
      (!t.shorted || s.host.ckptCtl.getLsbD 2 || (s.takeArea s.core.imageUnits).isSome)

/-- The strand's clears and copies are done (01 R30). -/
def State.startsNow (s : State) : Bool := match s.core.strand with
  | none => false
  | some t => !t.started && !t.dormant && decide (t.ready ≤ s.core.flow.run) && (s.node t.node).isSome

/-- The running cycle of a core, in its order. -/
def State.planCycle (s : State) : Option Plan :=
  let c := s.core
  (s.planDue).orElse fun _ =>
  if s.dueSig.isSome then some (.event s .signalGiven)
  else if c.wfiOver then some (.event s .wfiTimeout)
  else if !c.runs then (if s.stops then some (.event s .preemption) else if s.startsNow then some (.event s .strandStart) else none)
  else match c.heads with
    | st :: _ => some (.issue s st)
    | [] =>
      if c.traps then some (.event s .trapDelivery)
      else if !c.flow.dispatched && decide (c.flow.next ≤ c.now) then some (.event s .groupDispatch)
      else if s.stops then some (.event s .preemption)
      else none

def State.planCore (s : State) : Option Plan :=
  if s.dueEff.isSome then some (.event s .egressRelease)
  else (s.planFetch).orElse fun _ => (s.planMatrix).orElse fun _ => (s.planCopy).orElse fun _ =>
    if s.core.flow.begun then s.planCycle
    else if 16384 ≤ s.core.flow.stall then some (.event s .lateStall)
    else if s.core.stallTraps then some (.event s .trapDelivery)
    else if s.stops && (s.core.strand.map (·.dormant)).getD false then some (.event s .preemption)
    else none

/-! ### The end of a wall cycle -/

/-- Stores to the scratchpad are seen from the next cycle on (05 R176); the marks of this cycle end. -/
def Core.endCycle (c : Core) : Core :=
  { c with
    scr := c.scrNext.foldl Scratch.put c.scr
    scrNext := []
    cpy := if c.flow.begun then c.cpy.tick else c.cpy
    flow := { c.flow with
      begun := false
      dispatched := false
      issued := []
      fresh := []
      throttled := false } }

def State.endCycle (s : State) : State :=
  let id := s.id
  let s := s.liveCores.foldl (fun s k => ((s.focus k).sampleCore).sampleGrans) s
  let s := (s.focus id).mapCores Core.endCycle
  let s := (List.range 32).foldl (fun s q => if (quadOf s q).throttled then s.setQuad q { quadOf s q with throttled := false } else s) s
  let s := (List.range 16).foldl (fun s n => if (stackOf s n).throttled then s.mapStack n fun k => { k with throttled := false } else s) s
  { s with
    ticked := []
    begun := false
    wall := s.wall + 1
    fab := { s.fab with aborts := [], readies := [] } }

/-- The cores in turn; when every one is through, the wall cycle ends. -/
def State.planTurn (s : State) : Plan :=
  match s.liveCores.find? fun k => !s.ticked.contains k with
  | none => .tick s.endCycle
  | some k =>
    let t := s.focus k
    match t.planCore with
    | some p => p
    | none => .tick { t with ticked := t.ticked ++ [k] }

/-- What happens next. -/
def State.plan (s : State) : Plan :=
  if s.halted then
    if s.inputs.isEmpty then .stop
    else match s.takeInput s.staysDue with
      | some p => p
      | none => .tick { s with wall := s.wall + 1 }
  else if s.host.freeze then (s.takeInput fun i => i.fw.isNone && whenStopped i.ev).getD (.tick s)
  else if s.host.boot = 0 ∧ s.host.bootDue = none then .event s .powerGood
  else
    match (s.takeInput fun i => decide (i.at_ ≤ s.wall)).orElse fun _ => (s.planHost).orElse fun _ => (s.planNet).orElse fun _ =>
        (s.planPool).orElse fun _ => (s.planColl).orElse fun _ => (s.planFab).orElse fun _ =>
        if s.begun then s.planStacks else (s.planFrames).orElse fun _ => s.planFreeze with
    | some p => p
    | none => if s.begun then s.planTurn else .tick s.beginCycle

/-! ### The issue of an engine instruction (02 R52, R61; 14 R417) -/

/-- The head of a queue leaves it, waits, or faults precise to its queue. -/
def State.issueHead (s : State) (st : Nat) : Result :=
  match s.core.queues.get st with
  | [] => .next s
  | q :: _ =>
    match runWords st q.words (s.mapCore fun c => { c with
        cur := q.cur st
        out := .done
        flow := { c.flow with issued := c.flow.issued ++ [st] } }) with
    | .fault e => .fault e
    | .refused e => .refused e
    | .next t => match t.core.out with
      | .done => .next (t.mapCore fun c => { c with queues := c.queues.set st ((c.queues.get st).drop 1) })
      | .hold => .next t
      | .trap f => .next (if st = 5 then (t.record f).faultJoins t.id true else t.record f)

/-- One step of the package. -/
def Plan.run : Plan → Result
  | .event s i => exec i s
  | .issue s st => s.issueHead st
  | .tick s => .next s
  | .stop => .fault .bringUpHalted

end Sys2Proof.Machine
end

