-- ==== Sys2Proof/Machine/Step.lean ====
section
/-! DEFINITION. Step.lean: one step of the package, and placing an instruction where the next step runs it. -/

namespace Sys2Proof.Machine

/-- One step: the next event of the package, the issue of an engine instruction, or a tick of its clocks (log 4). -/
def step (s : State) : Host.Outcome State Fault Refusal := s.plan.run

/-- The rubric of a folio that holds one instruction of stream `st` and of `len` words, alone in its group, from slot 1. -/
def oneRubric (st len : Nat) : SlotWord :=
  BitVec.ofNat 32 ((List.range 7).foldl (fun n j => n + (if j = 0 then st + 8 else if j < len then st else 7) * 16 ^ j) (2 ^ 28))
/-- The bytes of that folio (02 R34). -/
def oneFolio (st : Nat) (ws : List SlotWord) : List Byte :=
  ((oneRubric st ws.length :: ws) ++ List.replicate (7 - ws.length) 0).flatMap fun (w : SlotWord) => natLe 4 w.toNat
/-- The block of the instruction cache in which that folio stands. -/
def oneBlock (folio : Word) (st : Nat) (ws : List SlotWord) : IBlock :=
  let at_ := folio.toNat % 256
  { tag := blockTag folio.toNat, data := List.replicate at_ 0 ++ oneFolio st ws ++ List.replicate (224 - at_) 0 }

/-- A strand that runs on the core, READY, in a cycle that has begun, with nothing in it to come first. Where the core has
none, a strand whose record asks for both clusters whole (12 Table 12.1). -/
def State.runningStrand (s : State) : State :=
  let strand : Strand := s.core.strand.getD { node := 0, idx := 0, dom := 0, tag := 0, restart := false, group := none, scope := 1, inst := 0, spneed := 0, ready := 0 }
  let flow : Flow := { s.core.flow with
    next := 0
    begun := true
    dispatched := false
    issued := [] }
  let whole (x : Cluster) : Cluster := if s.core.strand.isSome then x else { x with size := 131072 }
  { s with
    begun := true
    host := { s.host with
      boot := 0x107
      bootDue := none }
    core := { s.core with
      x := whole s.core.x
      y := whole s.core.y
      strand := some { strand with started := true }
      flow := flow } }

/-- The state with the instruction of these bits where the next step runs it (log 2): an S instruction alone in the folio
at the pc, in the instruction cache; an instruction of another stream at the head of its queue, its operands captured. -/
def State.withFetchWord (s : State) (nbits w : Nat) : State :=
  let w := w % 2 ^ nbits
  let st := (tableStream w).getD 0
  let ws := (tableWords w).take (max 1 (lenOf (BitVec.ofNat 32 w)))
  let t := s.runningStrand
  let folio : Word := canon ((t.core.pc.folio >>> 5) <<< 5)
  if st = 0 then
    t.mapCore fun c => { c.setBlock folio.toNat (some (oneBlock folio 0 ws)) with
      pc := { folio := folio }
      group := none }
  else
    t.mapCore fun c => { c with queues := c.queues.set st [c.capture c.flow.seq { folio := folio, slot := 1, stream := st, words := ws }] }

end Sys2Proof.Machine
end

