-- ==== Sys2Proof/Safety.lean ====
section
/-! DEFINITION. Safety.lean: the words in which claims speak of a run: what an instruction's meaning came to, and the parts
of the machine that a step may leave as they were. -/

namespace Sys2Proof.Machine

/-- The instruction has its effect: a next state in which it neither waits nor faults (02 R61, 14 R417). -/
def Runs (i : Instr) (s t : State) : Prop := exec i s = .next t ∧ t.core.out = .done
/-- The instruction waits: a next state that holds its group or its queue (04 R126, R135). -/
def Waits (i : Instr) (s t : State) : Prop := exec i s = .next t ∧ t.core.out = .hold
/-- The instruction raises a fault precise to itself (14 R417). -/
def Faults (i : Instr) (s : State) (f : Trap) : Prop := ∃ t, exec i s = .next t ∧ t.core.out = .trap f

/-- A step that the machine takes: it neither stops nor refuses. -/
def Goes (s t : State) : Prop := step s = .next t

end Sys2Proof.Machine
end

