-- ==== Sys2Proof/WellFormed.lean ====
section
/-! DEFINITION. WellFormed.lean: an instruction is well formed in a stream when it belongs to the stream's opcode space,
its words have no defect (02 R56), and, where several rows of the opcode table share an opcode, the field that selects
the row selects this one. -/

namespace Sys2Proof

/-- The field that selects one row among those of an opcode holds the row's own value (02 Tables 2.7 and 2.8). -/
def Instr.selected : Instr → Bool
  | .movl w _ => w.imm.getLsbD 0 == false
  | .movlHi w _ => w.imm.getLsbD 0
  | .movpFromP w => w.fn == 0
  | .movpToP w => w.fn == 1
  | .movpToB w => w.fn == 2
  | .movpFromB w => w.fn == 3
  | .movpToK w => w.fn == 4
  | .movpFromK w => w.fn == 5
  | .movpFromLc w => w.fn == 6
  | .movpKToP w => w.fn == 7
  | .pst w _ => w.fn != 8
  | .pstBlock w _ => w.fn == 8
  | .rftResume w => w.misc.extractLsb' 0 2 == 0
  | .rftSkip w => w.misc.extractLsb' 0 2 == 1
  | .rftPark w => w.misc.extractLsb' 0 2 == 2
  | .rftRestart w => w.misc.extractLsb' 0 2 == 3
  | .llcopCarve w _ => w.fn == 0
  | .llcopUncarve w _ => w.fn == 1
  | .llcopClean w _ => w.fn == 2
  | .llcopFlush w _ => w.fn == 3
  | .chipopStatus w => w.imm == 0
  | .chipopFence w => w.imm == 1
  | .chipopReset w => w.imm == 2
  | .chipopClearlost w => w.imm == 3
  | .cpyxCast w _ => w.fn == 0
  | .cpyxScale w _ => w.fn == 1
  | .cpyxAdd w _ => w.fn == 2
  | .cpyxReduce w _ => w.fn == 3
  | .cflushClean w _ => w.fn == 0
  | .cflushInval w _ => w.fn == 1
  | .cflushDiscard w _ => w.fn == 2
  | _ => true

/-- Well formed in stream `st`. -/
def Instr.wf (st : Nat) (i : Instr) : Bool :=
  i.space.isSome && i.space == Machine.spaceOf st && i.selected &&
    Machine.defect st ((encode i).headD 0) ((encode i).getD 1 0) ((encode i).getD 2 0) == none

/-- The proposition that `i` is well formed in stream `st`. -/
abbrev WellFormed (st : Nat) (i : Instr) : Prop := i.wf st = true

end Sys2Proof
end

