-- ==== Sys2Proof/Certificates/Slice0/Obligations.lean ====
section
/-! DEFINITION. Obligations.lean: the statements about the machine, rule by rule of the spec, and the words they are said in. An
instruction's statement gives the whole next state, so what it leaves unchanged is stated with what it changes. -/

namespace Sys2Proof.Claims
open Sys2Proof.Machine

/-! ### What an instruction leaves pending -/

/-- A write of the instruction being run, due `lat` cycles from now (02 R62, R63). -/
def res (s : State) (lat rank : Nat) (wr : Wr) : Pend :=
  { due := (if s.core.trap.active then s.core.flow.hcycle else s.core.flow.cycle) + lat, rank := rank, seq := s.core.cur.seq,
    stream := s.core.cur.stream, hand := s.core.trap.active, wr := wr }

/-- The write of s[d]: none for s0; in trap state s56 to s63 are the handler's bank (04 R105, 14 R419). -/
def resS (s : State) (lat d : Nat) (v : Word) : List Pend :=
  if d = 0 then [] else [res s lat 0 (.s (if s.core.trap.active ∧ 56 ≤ d then d + 8 else d) v)]

/-- The write of p[d]: none for p0; in trap state p12 to p15 are the handler's bank (04 R105, 14 R419). -/
def resP (s : State) (lat d : Nat) (v : Bool) : List Pend :=
  if d = 0 then [] else [res s lat 0 (.p (if s.core.trap.active ∧ 12 ≤ d then d + 4 else d) v)]

/-- FPSTAT bits set in the cycle of the result (03 R90). -/
def resF (s : State) (lat : Nat) (f : Fp) : List Pend := if f = 0 then [] else [res s lat 1 (.fpset f)]

/-- `s` with the instruction done and these writes pending: nothing else of the machine differs. -/
def gives (s : State) (ps : List Pend) : State :=
  { s with core := { s.core with
      pend := s.core.pend ++ ps
      out := .done } }

/-- `s` with the instruction raising a fault against itself (14 R417): nothing else of the machine differs. -/
def raises (s : State) (cause : Nat) (i0 i1 i2 : Word) : State :=
  { s with core := { s.core with
      out := .trap { cause := cause, stream := s.core.cur.stream, slot := s.core.cur.slot, pc := s.core.cur.folio,
                     i0 := i0, i1 := i1, i2 := i2, op := s.core.cur.seq } } }

/-! ### Integer instructions, on bit vectors of the operand width (04 R107 to R110) -/

/-- The operand width that fn bits 1:0 give. -/
def width (fn : BitVec 4) : Nat := if fn.getLsbD 1 then (if fn.getLsbD 0 then 8 else 16) else (if fn.getLsbD 0 then 32 else 64)

/-- The result of an integer instruction, extended as fn bit 2 says; `op` takes s[a] and s[b] at the width, and s[b]. -/
def intResult (w : FA) (s : State) (op : (n : Nat) → BitVec n → BitVec n → Word → BitVec n) : Word :=
  let r := op (width w.fn) ((s.rs w.a.toNat).setWidth (width w.fn)) ((s.rs w.b.toNat).setWidth (width w.fn)) (s.rs w.b.toNat)
  if w.fn.getLsbD 2 then r.setWidth 64 else r.signExtend 64

/-- An integer instruction: latency and operation. -/
abbrev IntRow := (FA → Instr) × Nat × ((n : Nat) → BitVec n → BitVec n → Word → BitVec n)

/-- The integer instructions ADD to XOR (04 Table 4.3, R110). -/
def intInstrs1 : List IntRow :=
  [(.add, 1, fun _ a b _ => a + b),
   (.sub, 1, fun _ a b _ => a - b),
   (.mul, 3, fun _ a b _ => a * b),
   (.mulh, 3, fun n a b _ => (a.signExtend (2 * n) * b.signExtend (2 * n)).extractLsb' n n),
   (.mulhn, 3, fun n a b _ => (a.setWidth (2 * n) * b.setWidth (2 * n)).extractLsb' n n),
   (.div, 18, fun _ a b _ => if b = 0 then -1 else a.sdiv b),
   (.divn, 18, fun _ a b _ => if b = 0 then -1 else a / b),
   (.rem, 18, fun _ a b _ => if b = 0 then a else a.srem b),
   (.remn, 18, fun _ a b _ => if b = 0 then a else a % b),
   (.and, 1, fun _ a b _ => a &&& b),
   (.or, 1, fun _ a b _ => a ||| b),
   (.xor, 1, fun _ a b _ => a ^^^ b)]

/-- The integer instructions ANDN to POPC (04 Table 4.3, R109). -/
def intInstrs2 : List IntRow :=
  [(.andn, 1, fun _ a b _ => a &&& ~~~b),
   (.shl, 1, fun n a _ m => if m.toNat < n then a <<< m.toNat else 0),
   (.shr, 1, fun n a _ m => if m.toNat < n then a >>> m.toNat else 0),
   (.sha, 1, fun n a _ m => if m.toNat < n then a.sshiftRight m.toNat else if a.msb then -1 else 0),
   (.rot, 1, fun n a _ m => a.rotateRight (m.toNat % n)),
   (.min, 1, fun _ a b _ => if a.slt b then a else b),
   (.max, 1, fun _ a b _ => if a.slt b then b else a),
   (.minn, 1, fun _ a b _ => if a.ult b then a else b),
   (.maxn, 1, fun _ a b _ => if a.ult b then b else a),
   (.clz, 1, fun n a _ _ => BitVec.ofNat n ((List.range n).takeWhile fun i => !a.getMsbD i).length),
   (.ctz, 1, fun n a _ _ => BitVec.ofNat n ((List.range n).takeWhile fun i => !a.getLsbD i).length),
   (.popc, 1, fun n a _ _ => BitVec.ofNat n ((List.range n).filter fun i => a.getLsbD i).length)]

end Sys2Proof.Claims

open Sys2Proof Sys2Proof.Machine Sys2Proof.Claims

/-- Every integer instruction answers a next state: its operation of 04 Table 4.3 on its operands at the width of fn, with
the extension of fn, is pending for s[d] at its latency, and nothing else of the machine differs (04 R107, R109, R110). -/
def Obligations.IntegerInstructions : Prop :=
  ∀ e ∈ intInstrs1 ++ intInstrs2, ∀ (w : FA) (s : State), exec (e.1 w) s = .next (gives s (resS s e.2.1 w.d.toNat (intResult w s e.2.2)))

namespace Sys2Proof.Claims
open Sys2Proof.Machine

/-! ### Bit fields (04 R111) -/

/-- Bits of x from pos upward, `len` of them, bit by bit; bits above 63 read as 0. -/
def fieldBit (x : Word) (pos len i : Nat) : Bool := decide (i < len) && x.getLsbD (pos + i)
/-- pos = s[b] bits 5:0; len = s[b] bits 14:8, at most 64. -/
def posOf (b : Word) : Nat := b.toNat % 64
def lenOf' (b : Word) : Nat := min 64 (b.toNat / 256 % 128)

/-- What EXT, EXTN and INS write, by the bits of the result. -/
def isExt (a b r : Word) : Prop :=
  ∀ i < 64, r.getLsbD i = if i < lenOf' b then fieldBit a (posOf b) (lenOf' b) i
    else if lenOf' b = 0 then false else fieldBit a (posOf b) (lenOf' b) (lenOf' b - 1)
def isExtn (a b r : Word) : Prop := ∀ i < 64, r.getLsbD i = fieldBit a (posOf b) (lenOf' b) i
def isIns (d a b r : Word) : Prop :=
  ∀ i < 64, r.getLsbD i = if posOf b ≤ i ∧ i < posOf b + lenOf' b then a.getLsbD (i - posOf b) else d.getLsbD i

/-- The conditions of 04 Table 4.4 on integers. -/
def cmpHolds (fn : Nat) (a b : Word) : Prop :=
  match fn with
  | 0 => a = b
  | 1 => a ≠ b
  | 2 => a.toInt < b.toInt
  | 3 => b.toInt ≤ a.toInt
  | 4 => b.toInt < a.toInt
  | 5 => a.toInt ≤ b.toInt
  | 6 => a.toNat < b.toNat
  | 7 => b.toNat ≤ a.toNat
  | 8 => b.toNat < a.toNat
  | 9 => a.toNat ≤ b.toNat
  | _ => False

/-- A 10-bit immediate as a signed 64-bit word. -/
def sx10 (i : BitVec 10) : Word := BitVec.ofInt 64 i.toInt

/-- The defect of a word pair as the front end sees it in stream S (02 R57). -/
def defectOf (a : SlotWord) : Option SubCode := defect 0 a 0 0

end Sys2Proof.Claims

/-- EXT, EXTN and INS answer a next state: a word with the bits that 04 R111 gives is pending for s[d] one cycle on, and
nothing else of the machine differs. -/
def Sys2Proof.Claims.FieldInstructions : Prop :=
  ∀ (w : FA) (s : State),
    (∃ r, isExt (s.rs w.a.toNat) (s.rs w.b.toNat) r ∧ exec (.ext w) s = .next (gives s (resS s 1 w.d.toNat r)))
    ∧ (∃ r, isExtn (s.rs w.a.toNat) (s.rs w.b.toNat) r ∧ exec (.extn w) s = .next (gives s (resS s 1 w.d.toNat r)))
    ∧ (∃ r, isIns (s.rs w.d.toNat) (s.rs w.a.toNat) (s.rs w.b.toNat) r ∧ exec (.ins w) s = .next (gives s (resS s 1 w.d.toNat r)))

/-- SEL takes s[a] where predicate fn is 1 and s[b] where it is 0; LEA adds s[b] shifted left by fn; CMP writes the
condition of 04 Table 4.4 to predicate d; each at latency 1, with nothing else changed (04 R112, R113). -/
def Sys2Proof.Claims.SelectAndCompare : Prop :=
  ∀ (w : FA) (s : State),
    exec (.sel w) s = .next (gives s (resS s 1 w.d.toNat (if s.rp w.fn.toNat = true then s.rs w.a.toNat else s.rs w.b.toNat)))
    ∧ exec (.lea w) s = .next (gives s (resS s 1 w.d.toNat
        (BitVec.ofNat 64 ((s.rs w.a.toNat).toNat + (s.rs w.b.toNat).toNat * 2 ^ w.fn.toNat))))
    ∧ (∃ p : Bool, (p = true ↔ cmpHolds w.fn.toNat (s.rs w.a.toNat) (s.rs w.b.toNat))
        ∧ exec (.cmp w) s = .next (gives s (resP s 1 w.d.toNat p)))

/-- CMP with bits 5:4 of d 0 and fn up to 9 has no defect; any other is ILLEGAL_ENCODING with sub-code 0x0D (04 R113). -/
def Sys2Proof.Claims.CompareEncodings : Prop :=
  ∀ w : FA, defectOf (w.enc 0x2D 1) = if w.d.toNat < 16 ∧ w.fn.toNat < 10 then none else some 0x0D

/-- MOVI, MOVL, MOVL with H and MOVHI answer a next state in which their constant is pending for s[d] one cycle on: the
sign-extended literal, or the literal over the bits of s[d] that keep their value (04 R114). -/
def Sys2Proof.Claims.PlaceConstants : Prop :=
  ∀ (w : FC) (l : BitVec 32) (s : State),
    exec (.movi w) s = .next (gives s (resS s 1 w.d.toNat (BitVec.ofInt 64 w.imm.toInt)))
    ∧ exec (.movl w l) s = .next (gives s (resS s 1 w.d.toNat (BitVec.ofInt 64 l.toInt)))
    ∧ exec (.movlHi w l) s = .next (gives s (resS s 1 w.d.toNat
        (BitVec.ofNat 64 (l.toNat * 2 ^ 32 + (s.rs w.d.toNat).toNat % 2 ^ 32))))
    ∧ exec (.movhi w) s = .next (gives s (resS s 1 w.d.toNat
        (BitVec.ofNat 64 (w.imm.toNat * 2 ^ 48 + (s.rs w.d.toNat).toNat % 2 ^ 48))))

/-- ADDI, MULI, ANDI, ORI and XORI act as their register forms at 64 bits with a sign-extended immediate; SHLI, SHRI and
SHAI shift by an immediate from 0 to 63; CMPI compares under d bits 5:4 into predicate d bits 3:0 (04 R115, R116). -/
def Sys2Proof.Claims.ImmediateInstructions : Prop :=
  ∀ (w : FB) (s : State),
    let a := s.rs w.a.toNat
    exec (.addi w) s = .next (gives s (resS s 1 w.d.toNat (a + sx10 w.imm)))
    ∧ exec (.muli w) s = .next (gives s (resS s 3 w.d.toNat (a * sx10 w.imm)))
    ∧ exec (.andi w) s = .next (gives s (resS s 1 w.d.toNat (a &&& sx10 w.imm)))
    ∧ exec (.ori w) s = .next (gives s (resS s 1 w.d.toNat (a ||| sx10 w.imm)))
    ∧ exec (.xori w) s = .next (gives s (resS s 1 w.d.toNat (a ^^^ sx10 w.imm)))
    ∧ (w.imm.toNat < 64 →
        exec (.shli w) s = .next (gives s (resS s 1 w.d.toNat (BitVec.ofNat 64 (a.toNat * 2 ^ w.imm.toNat))))
        ∧ exec (.shri w) s = .next (gives s (resS s 1 w.d.toNat (BitVec.ofNat 64 (a.toNat / 2 ^ w.imm.toNat))))
        ∧ exec (.shai w) s = .next (gives s (resS s 1 w.d.toNat (BitVec.ofInt 64 (a.toInt / (2 ^ w.imm.toNat : Nat))))))
    ∧ (∃ p : Bool, (p = true ↔ cmpHolds (w.d.toNat / 16) a (sx10 w.imm))
        ∧ exec (.cmpi w) s = .next (gives s (resP s 1 (w.d.toNat % 16) p)))

/-- SHLI, SHRI and SHAI with a bit of imm10 above 5 are ILLEGAL_ENCODING with sub-code 0x0D (04 R115). -/
def Sys2Proof.Claims.ShiftEncodings : Prop :=
  ∀ (w : FB) (opc : BitVec 8), opc = 0x38 ∨ opc = 0x39 ∨ opc = 0x3A →
    defectOf (w.enc opc 1) = if w.imm.toNat < 64 then none else some 0x0D

/-- PAND, POR and PXOR combine two predicates, each negated where its bit of fn says so (04 R117). -/
def Sys2Proof.Claims.PredicateLogic : Prop :=
  ∀ (w : FA) (s : State),
    let x := s.rp w.a.toNat != w.fn.getLsbD 0
    let y := s.rp w.b.toNat != w.fn.getLsbD 1
    exec (.pand w) s = .next (gives s (resP s 1 w.d.toNat (x && y)))
    ∧ exec (.por w) s = .next (gives s (resP s 1 w.d.toNat (x || y)))
    ∧ exec (.pxor w) s = .next (gives s (resP s 1 w.d.toNat (x != y)))

/-- The eight transfers of 04 Table 4.5: what each leaves pending one cycle on, with nothing else changed. -/
def Sys2Proof.Claims.PredicateMoves : Prop :=
  ∀ (w : FA) (s : State),
    (∃ r : Word, (∀ j, r.getLsbD j = (decide (j < 16) && s.rp j)) ∧ r.getLsbD 0 = true
        ∧ exec (.movpFromP w) s = .next (gives s (resS s 1 w.d.toNat r)))
    ∧ exec (.movpToP w) s = .next (gives s
        ([1, 2, 3, 4, 5, 6, 7, 8, 9, 10, 11, 12, 13, 14, 15].flatMap fun j => resP s 1 j ((s.rs w.a.toNat).getLsbD j)))
    ∧ exec (.movpToB w) s = .next (gives s [res s 1 0 (.b w.d.toNat ((s.rs w.a.toNat).extractLsb' 0 32))])
    ∧ exec (.movpFromB w) s = .next (gives s (resS s 1 w.d.toNat (0#32 ++ s.core.sc.b.get w.a.toNat)))
    ∧ exec (.movpToK w) s = .next (gives s
        ([0, 1, 2, 3, 4, 5, 6, 7].map fun j => res s 1 0 (.k j ((s.rs w.a.toNat).getLsbD j))))
    ∧ (∃ r : Word, (∀ j, r.getLsbD j = (decide (j < 8) && s.core.sc.k.get j))
        ∧ exec (.movpFromK w) s = .next (gives s (resS s 1 w.d.toNat r)))
    ∧ exec (.movpFromLc w) s = .next (gives s (resS s 1 w.d.toNat s.core.sc.lc))
    ∧ exec (.movpKToP w) s = .next (gives s (resP s 1 w.d.toNat (s.core.sc.k.get w.a.toNat)))

namespace Sys2Proof.Claims
open Sys2Proof.Machine

/-! ### Scalar floating point, on the 32 bits of an operand (04 R119 to R123) -/

/-- Bits 31:0 of s[n]. -/
def f32 (s : State) (n : BitVec 6) : Nat := (s.rs n.toNat).toNat % 2 ^ 32
def nan32 (x : Nat) : Prop := 0x7F800000 < x % 2 ^ 31
def inf32 (x : Nat) : Prop := x % 2 ^ 31 = 0x7F800000
def zero32 (x : Nat) : Prop := x % 2 ^ 31 = 0
/-- The sign bit of the exclusive OR of two signs. -/
def xsign (x y : Nat) : Nat := (x / 2 ^ 31 + y / 2 ^ 31) % 2 * 2 ^ 31

/-- A rounding instruction's fp32 result with its FPSTAT bits at its latency; SR takes the next number of its stream's
counter (04 R123, 03 R95). -/
def givesFp (s : State) (w : FA) (lat : Nat) (r : Word) (f : Fp) : State :=
  let t := gives s (resS s lat w.d.toNat r ++ resF s lat f)
  if w.fn.toNat % 8 = 5 then
    { t with core := { t.core with sc := { t.core.sc with srcnt := s.core.sc.srcnt.set 0 (s.core.sc.srcnt.get 0 + 1) } } }
  else t

/-- The key of a scalar stochastic rounding: stream 0, element 0 (03 R95). -/
def srKey0 (s : State) : Word := s.core.sc.srseed + (s.core.sc.srcnt.get 0).setWidth 64 * 0x100001

/-- One rounding of an exact value with its flags. -/
def rounded (s : State) (w : FA) (x : Machine.Num × Fp) : Nat × Fp :=
  let r := roundTo fp32 x.1 (w.fn.toNat % 8) false (srKey0 s)
  (r.1, x.2 ||| r.2)

/-- The order of two fp32 encodings that are no NaN, with −0 below +0, and with −0 equal to +0. -/
def rank32 (x : Nat) : Int := if x < 2 ^ 31 then (x : Int) else -((x - 2 ^ 31 : Nat) : Int) - 1
def ord32 (x : Nat) : Int := if x < 2 ^ 31 then (x : Int) else -((x - 2 ^ 31 : Nat) : Int)

/-- The FCMP conditions of 04 R121. -/
def fcmpHolds (fn a b : Nat) : Prop :=
  match fn with
  | 0 => ¬nan32 a ∧ ¬nan32 b ∧ ord32 a = ord32 b
  | 1 => nan32 a ∨ nan32 b ∨ ord32 a ≠ ord32 b
  | 2 => ¬nan32 a ∧ ¬nan32 b ∧ ord32 a < ord32 b
  | 3 => ¬nan32 a ∧ ¬nan32 b ∧ ord32 a ≤ ord32 b
  | 4 => ¬nan32 a ∧ ¬nan32 b ∧ ord32 b < ord32 a
  | 5 => ¬nan32 a ∧ ¬nan32 b ∧ ord32 b ≤ ord32 a
  | 6 => nan32 a ∨ nan32 b
  | _ => ¬nan32 a ∧ ¬nan32 b

/-- The result of FMIN and FMAX (03 R97): the operand that is no NaN, the canonical NaN if neither is. -/
def isMinmax (max : Bool) (a b r : Nat) : Prop :=
  (nan32 a → nan32 b → r = 0x7FC00000) ∧ (nan32 a → ¬nan32 b → r = b) ∧ (¬nan32 a → nan32 b → r = a)
  ∧ (¬nan32 a → ¬nan32 b → (r = a ∨ r = b) ∧ (if max then rank32 a ≤ rank32 r ∧ rank32 b ≤ rank32 r else rank32 r ≤ rank32 a ∧ rank32 r ≤ rank32 b))

/-! ### Control transfer (02 R36, R37; 04 R124 to R126) -/

/-- `s` with the next group at slot 1 of `target`, `delay` cycles on, once the target has passed its entry check; `link`
is the register that a failed CALLI restores, with its value. -/
def jumps (s : State) (target : Word) (delay : Nat) (link : Option (Nat × Word)) : State :=
  { s with core := { s.core with
      pc := { folio := target, slot := 1, entry := some { folio := s.core.cur.folio, slot := s.core.cur.slot, link := link } }
      flow := { s.core.flow with next := s.core.now + delay } } }

/-- F + 32 × disp17. -/
def target17 (s : State) (w : FD) : Word := s.core.cur.folio + BitVec.ofInt 64 (32 * w.disp.toInt)

/-! ### Loop state (04 R129, R130) -/

/-- The writes of LC, n, st and k one cycle on. -/
def loopWrites (s : State) (lc : Word) (n st : Nat) (k : Nat → Bool) : List Pend :=
  res s 1 0 (.loop lc n st) :: [0, 1, 2, 3, 4, 5, 6, 7].map fun j => res s 1 0 (.k j (k j))

/-- LC after one LOOP. -/
def nextLc (c : Scalar) : Word := if c.lc.toNat = 0 then 0 else BitVec.ofNat 64 (c.lc.toNat - 1)
/-- k'[j] after one LOOP. -/
def nextK (c : Scalar) (j : Nat) : Bool :=
  match j with
  | 0 => decide (nextLc c ≠ 0)
  | j + 1 => decide (j + 1 < c.st) && c.k.get j

end Sys2Proof.Claims

/-- Every rounding scalar instruction answers a next state: the exact value of its operation is rounded once by rm, and the
result with its status bits is pending at its latency (04 Table 4.6, R119, R122, R123; 03 R92, R95). -/
def Sys2Proof.Claims.ScalarFloatRounding : Prop :=
  ∀ (w : FA) (s : State),
    let a := v32 (f32 s w.a)
    let b := v32 (f32 s w.b)
    let d := v32 (f32 s w.d)
    let rm := w.fn.toNat % 8
    let out (lat : Nat) (x : Machine.Num × Fp) : State := givesFp s w lat (BitVec.ofNat 64 (rounded s w x).1) (rounded s w x).2
    exec (.fadd w) s = .next (out 4 (Machine.Num.add rm a b))
    ∧ exec (.fsub w) s = .next (out 4 (Machine.Num.add rm a b.neg))
    ∧ exec (.fmul w) s = .next (out 4 (Machine.Num.mul a b))
    ∧ exec (.ffma w) s = .next (out 4 (Machine.Num.fma rm a b d))
    ∧ exec (.fdiv w) s = .next (out 14 (Machine.Num.div a b))
    ∧ exec (.fsqrt w) s = .next (out 14 (Machine.Num.sqrt a))
    ∧ exec (.icvtf w) s = .next (out 4 (Machine.Num.ofInt (if w.fn.toNat < 8 then (s.rs w.a.toNat).toInt else (s.rs w.a.toNat).toNat), 0))
    ∧ (let r := toInt a 64 (decide (w.fn.toNat < 8)) rm (srKey0 s)
       exec (.fcvti w) s = .next (givesFp s w 4 (BitVec.ofInt 64 r.1) r.2))

/-- FMIN, FMAX, FABS, FNEG and FCMP answer a next state two cycles on, raise nothing and are exact on the encodings: the
smaller or larger operand, the sign cleared or inverted, a NaN made canonical, the condition of R121 (04 R120, R121; 03 R97). -/
def Sys2Proof.Claims.ScalarFloatExact : Prop :=
  ∀ (w : FA) (s : State),
    let a := f32 s w.a
    let b := f32 s w.b
    (∃ r, isMinmax false a b r ∧ exec (.fmin w) s = .next (gives s (resS s 2 w.d.toNat (BitVec.ofNat 64 r))))
    ∧ (∃ r, isMinmax true a b r ∧ exec (.fmax w) s = .next (gives s (resS s 2 w.d.toNat (BitVec.ofNat 64 r))))
    ∧ (∃ r, (nan32 a → r = 0x7FC00000) ∧ (¬nan32 a → r = a % 2 ^ 31)
        ∧ exec (.fabs w) s = .next (gives s (resS s 2 w.d.toNat (BitVec.ofNat 64 r))))
    ∧ (∃ r, (nan32 a → r = 0x7FC00000) ∧ (¬nan32 a → r = (a + 2 ^ 31) % 2 ^ 32)
        ∧ exec (.fneg w) s = .next (gives s (resS s 2 w.d.toNat (BitVec.ofNat 64 r))))
    ∧ (∃ p : Bool, (p = true ↔ fcmpHolds w.fn.toNat a b)
        ∧ exec (.fcmp w) s = .next (gives s (resP s 2 w.d.toNat p)))

/-- The special cases of 04 R120: a NaN operand gives 0x7FC00000 and raises nothing; the invalid operations give it and
set IV; division of a finite non-zero value by zero gives a signed infinity and sets DZ; the signed zeros of division; and
the square roots of −0 and +∞. -/
def Obligations.ScalarFloatSpecialCases : Prop :=
  ∀ (w : FA) (s : State),
    let a := f32 s w.a
    let b := f32 s w.b
    let d := f32 s w.d
    let nan (lat : Nat) (f : Fp) : State := givesFp s w lat 0x7FC00000 f
    (nan32 a ∨ nan32 b → exec (.fadd w) s = .next (nan 4 0) ∧ exec (.fsub w) s = .next (nan 4 0)
        ∧ exec (.fmul w) s = .next (nan 4 0) ∧ exec (.fdiv w) s = .next (nan 14 0))
    ∧ (nan32 a ∨ nan32 b ∨ nan32 d → exec (.ffma w) s = .next (nan 4 0))
    ∧ (nan32 a → exec (.fsqrt w) s = .next (nan 14 0))
    ∧ ((zero32 a ∧ inf32 b) ∨ (inf32 a ∧ zero32 b) → exec (.fmul w) s = .next (nan 4 fIV)
        ∧ (¬nan32 d → exec (.ffma w) s = .next (nan 4 fIV)))
    ∧ (inf32 a → inf32 b → a ≠ b → exec (.fadd w) s = .next (nan 4 fIV))
    ∧ (inf32 a → inf32 b → a = b → exec (.fsub w) s = .next (nan 4 fIV))
    ∧ ((zero32 a ∧ zero32 b) ∨ (inf32 a ∧ inf32 b) → exec (.fdiv w) s = .next (nan 14 fIV))
    ∧ (¬nan32 a → 2 ^ 31 < a → exec (.fsqrt w) s = .next (nan 14 fIV))
    ∧ (¬nan32 a → ¬inf32 a → ¬zero32 a → zero32 b →
        exec (.fdiv w) s = .next (givesFp s w 14 (BitVec.ofNat 64 (0x7F800000 + xsign a b)) fDZ))
    ∧ (zero32 a → ¬nan32 b → ¬zero32 b → exec (.fdiv w) s = .next (givesFp s w 14 (BitVec.ofNat 64 (xsign a b)) 0))
    ∧ (¬nan32 a → ¬inf32 a → inf32 b → exec (.fdiv w) s = .next (givesFp s w 14 (BitVec.ofNat 64 (xsign a b)) 0))
    ∧ (a = 2 ^ 31 → exec (.fsqrt w) s = .next (givesFp s w 14 (BitVec.ofNat 64 (2 ^ 31)) 0))
    ∧ (a = 0x7F800000 → exec (.fsqrt w) s = .next (givesFp s w 14 0x7F800000 0))

/-- Control transfers answer a next state: the target of 02 R36, the cycle of 04 Table 4.7, the link F + 32 in s63, and
nothing else changed (04 R124 to R128). -/
def Obligations.ControlTransfers : Prop :=
  ∀ (s : State),
    (∀ w : FE, exec (.nop w) s = .next (gives s []))
    ∧ (∀ w : FD, exec (.br w) s = .next (gives (jumps s (target17 s w) 2 none) []))
    ∧ (∀ w : FD, s.rp w.p.toNat ≠ w.neg.getLsbD 0 → exec (.brc w) s = .next (gives (jumps s (target17 s w) 2 none) []))
    ∧ (∀ w : FD, s.rp w.p.toNat = w.neg.getLsbD 0 → exec (.brc w) s = .next (gives s []))
    ∧ (∀ w : FD, exec (.call w) s = .next (gives (jumps s (target17 s w) 2 none) (resS s 1 63 (s.core.cur.folio + 32))))
    ∧ (∀ w : FA, exec (.calli w) s =
        .next (gives (jumps s (s.rs w.a.toNat) 3 (some (if s.core.trap.active then 71 else 63, s.rs 63)))
          [res s 1 0 (.link (if s.core.trap.active then 71 else 63) (s.core.cur.folio + 32))]))
    ∧ (∀ w : FE, exec (.ret w) s = .next (gives (jumps s (s.rs 63) 3 none) []))
    ∧ (∀ w : FA, exec (.jmpi w) s = .next (gives (jumps s (s.rs w.a.toNat) 3 none) []))

/-- LOOPSET reads s[a] and, with latency 1, writes LC, n, st and k; imm10 bits at or above st make the group raise
ILLEGAL_ENCODING with sub-code 0x0D (04 R129). -/
def Sys2Proof.Claims.LoopSetup : Prop :=
  (∀ (w : FB) (s : State), exec (.loopset w) s =
    .next (gives s (loopWrites s (s.rs w.a.toNat) (w.d.toNat % 8 + 1) (w.d.toNat / 8 + 1) fun j => w.imm.getLsbD j)))
  ∧ ∀ w : FB, ((∀ j < 10, w.d.toNat / 8 + 1 ≤ j → w.imm.getLsbD j = false) → defectOf (w.enc 0x08 1) = none)
      ∧ ((∃ j < 10, w.d.toNat / 8 + 1 ≤ j ∧ w.imm.getLsbD j = true) → defectOf (w.enc 0x08 1) = some 0x0D)

/-- LOOP counts LC down, shifts the stage predicates up, rotates b0 to b(n−1), all one cycle on, and branches while a live
stage is left (04 R130). -/
def Sys2Proof.Claims.LoopClose : Prop :=
  ∀ (w : FD) (s : State),
    let c := s.core.sc
    let ws := loopWrites s (nextLc c) c.n c.st (nextK c)
      ++ (List.range c.n).map fun i => res s 1 0 (.b i (c.b.get ((i + 1) % c.n)))
    ((∃ j < c.st, nextK c j = true) → exec (.loop w) s = .next (gives (jumps s (target17 s w) 1 none) ws))
    ∧ ((∀ j < c.st, nextK c j = false) → exec (.loop w) s = .next (gives s ws))
    ∧ (defectOf (w.enc 0x07 1) = none ↔ w.p = 0 ∧ w.neg = 0)

/-- A register reads what was last written to it and no other register changes: s0 reads 0 and p0 reads 1 whatever falls
due, and in trap state a write to s56 to s63 or p12 to p15 leaves the strand's own registers alone (04 R105, 14 R419). -/
def Obligations.RegisterFiles : Prop :=
  ∀ c : Core, Store.wf c.sc.s = true → Store.wf c.sc.p = true →
    c.rs 0 = 0 ∧ c.rp 0 = true
    ∧ (∀ n m v, 0 < n → n < 64 → 0 < m → m < 64 → (c.apply (.s (c.sIx n) v)).rs m = if m = n then v else c.rs m)
    ∧ (∀ n m v, 0 < n → n < 16 → 0 < m → m < 16 → (c.apply (.p (c.pIx n) v)).rp m = if m = n then v else c.rp m)
    ∧ (∀ n m v, 0 < n → n < 64 → 0 < m → m < 64 → (c.apply (.link (c.sIx n) v)).rs m = if m = n then v else c.rs m)
    ∧ (∀ n v, (c.apply (.s n v)).rs 0 = 0 ∧ (c.apply (.p n true)).rp 0 = true ∧ (c.apply (.p n false)).rp 0 = true)
    ∧ (c.trap.active = true → ∀ n v, 56 ≤ n → n < 64 → ∀ k < 64, (c.apply (.s (c.sIx n) v)).sc.s.get k = c.sc.s.get k)
    ∧ (c.trap.active = true → ∀ n v, 12 ≤ n → n < 16 → ∀ k < 16, (c.apply (.p (c.pIx n) v)).sc.p.get k = c.sc.p.get k)

namespace Sys2Proof.Claims
open Sys2Proof.Machine

/-! ### Loads, stores and requests -/

/-- The address s[a] + the signed 20-bit offset of a format B access, and s[a] + the signed 10-bit offset of format A
(02 R48). -/
def addrB (s : State) (w : FB) (m : MW) : Word := s.rs w.a.toNat + BitVec.ofInt 64 (m.offext ++ w.imm).toInt
def addrA (s : State) (w : FA) (m : MW) : Word := s.rs w.a.toNat + BitVec.ofInt 64 m.offext.toInt

/-- `s` with the instruction done and the load `l` in flight; it has taken a number and a free value, and nothing else of
the machine differs. -/
def loading (s : State) (l : Land) : State :=
  { s with
    nextId := s.nextId + 1
    freeCtr := s.freeCtr + 1
    core := { s.core with
      lands := s.core.lands ++ [l]
      out := .done } }

/-- `s` with the effect `e` at the end of this core's egress hold, and these writes pending: nothing else differs. -/
def holding (s : State) (e : Eff) (ps : List Pend) : State :=
  { s with
    nextId := s.nextId + 1
    core := { s.core with
      hold := s.core.hold ++ [e]
      pend := s.core.pend ++ ps
      out := .done } }

/-- An effect of the core's own pipeline that leaves its hold 320 cycles on (05 R174), made by this strand. -/
def heldEff (s : State) (e : Eff) (cls scope : Nat) (k : EffKind) : Prop :=
  e.id = s.nextId ∧ e.owner = s.core.owner ∧ e.src = s.core.agent ∧ e.clk = 0 ∧ e.leave = s.core.flow.conf + 320
  ∧ e.stream = s.core.cur.stream ∧ e.seq = s.core.cur.seq ∧ e.cls = cls ∧ e.scope = scope ∧ e.kind = k

/-- A landing-buffer entry of the instruction at hand. -/
def landOf (s : State) (l : Land) (cls scope : Nat) (entry : Bool) (lat : Nat) (dest : LandDest) (src : LandSrc) (addr : Word) : Prop :=
  l.id = s.nextId ∧ l.seq = s.core.cur.seq ∧ l.stream = s.core.cur.stream ∧ l.slot = s.core.cur.slot ∧ l.pc = s.core.cur.folio
  ∧ l.cls = cls ∧ l.scope = scope ∧ l.hand = s.core.trap.active ∧ l.entry = entry ∧ l.due = s.core.now + lat ∧ l.dest = dest
  ∧ l.src = src ∧ l.addr = addr ∧ l.fault = none

/-- Where a register of the current bank stands. -/
def place64 (s : State) (d : Nat) : Nat := if s.core.trap.active ∧ 56 ≤ d then d + 8 else d

/-- The three scalar loads: meaning, destination and size. -/
def scalarLoads (s : State) (w : FB) : List ((FB → MW → Instr) × LandDest × Nat) :=
  [(.ld, .s (place64 s w.d.toNat) 8 false, 8), (.lds, .s (place64 s w.d.toNat) 4 false, 4), (.lrec, .l (w.d.toNat % 16), 64)]

/-- The latency of a load: LAND, or 8 with LAND 0 (05 R154). -/
def landLat (m : MW) : Nat := if m.land = 0 then 8 else m.land.toNat

/-- The two scalar stores and the little-endian bytes that they store. -/
def scalarStores (s : State) (w : FB) : List ((FB → MW → Instr) × List Byte) :=
  [(.st, (List.range 8).map fun i => (s.rs w.d.toNat).extractLsb' (8 * i) 8),
   (.sts, (List.range 4).map fun i => (s.rs w.d.toNat).extractLsb' (8 * i) 8)]

/-- The bytes at a scratchpad offset (05 R138). -/
def scrBytes (s : State) (off n : Nat) : List Byte := (List.range n).map fun i => s.core.scr.bytes.read (off + i)

/-! ### Atomics (11 R340 to R345) -/

/-- The width in bytes that fn gives: .i64, .i32, and 2 bytes for RBFADD. -/
def amoWidth (w : FA) : Nat := if w.fn.getLsbD 1 then 2 else if w.fn.getLsbD 0 then 4 else 8

/-- The atomics that return the old value, and the reductions that return nothing, with their codes. -/
def returning : List ((FA → MW → Instr) × Nat) :=
  [(.aadd, 0x60), (.aand, 0x61), (.aor, 0x62), (.axor, 0x63), (.amin, 0x64), (.amax, 0x65), (.aminn, 0x66), (.amaxn, 0x67),
   (.aswp, 0x68), (.acas, 0x69), (.afadd, 0x6A), (.ainc, 0x6B)]
def reductions : List ((FA → MW → Instr) × Nat) :=
  [(.radd, 0x6C), (.rand, 0x6D), (.ror, 0x6E), (.rxor, 0x6F), (.rmin, 0x70), (.rmax, 0x71), (.rfadd, 0x72), (.rbfadd, 0x73)]

/-- The new value of an integer operation of 11 Table 11.3 on `n`-bit values: memory m, operand v, comparand c; `none` is
no write. `u` says that RMIN and RMAX compare as unsigned. -/
def atomicNew (op : Nat) (u : Bool) (n : Nat) (m v c : BitVec n) : Option (BitVec n) :=
  match op with
  | 0x60 => some (m + v)
  | 0x61 => some (m &&& v)
  | 0x62 => some (m ||| v)
  | 0x63 => some (m ^^^ v)
  | 0x64 => some (if m.toInt ≤ v.toInt then m else v)
  | 0x65 => some (if m.toInt ≤ v.toInt then v else m)
  | 0x66 => some (if m.toNat ≤ v.toNat then m else v)
  | 0x67 => some (if m.toNat ≤ v.toNat then v else m)
  | 0x68 => some v
  | 0x69 => if m = c then some v else none
  | 0x6B => some (if v.toNat ≤ m.toNat then 0 else m + 1)
  | 0x6C => some (m + v)
  | 0x6D => some (m &&& v)
  | 0x6E => some (m ||| v)
  | 0x6F => some (m ^^^ v)
  | 0x70 => some (if u then (if m.toNat ≤ v.toNat then m else v) else if m.toInt ≤ v.toInt then m else v)
  | 0x71 => some (if u then (if m.toNat ≤ v.toNat then v else m) else if m.toInt ≤ v.toInt then v else m)
  | _ => none

/-! ### Replies to a held group (11 R360) -/

/-- `s` with the query `h` gone. -/
def unheld (s : State) (h : Held) : State :=
  { s with core := { s.core with helds := s.core.helds.filter fun x => x.id != h.id } }

/-- The query of the instruction at hand has this reply. -/
def replied (s : State) (h : Held) (v : Word) : Prop :=
  s.core.helds.find? (fun x => x.folio == s.core.cur.folio && x.slot == s.core.cur.slot) = some h ∧ h.reply = some (v, none)

/-- The instructions that wait for a reply and write it to s[d], whatever their operands. -/
noncomputable def answeredS : List (FA → Instr) := [.jwait, .watch, .spawn, .nsub, .prio, .purge]

end Sys2Proof.Claims

/-- A scalar load whose address lies in the scratchpad answers a next state: its bytes, or a blot, as the scratchpad holds
them, land at issue + LAND, and nothing else of the machine differs (05 R138, R140, R150, R151, R154). -/
def Sys2Proof.Claims.ScratchpadLoads : Prop :=
  ∀ (w : FB) (m : MW) (s : State), ∀ e ∈ scalarLoads s w, ∀ off,
    s.core.place m.space.toNat (addrB s w m) (s.core.brel m.space.toNat m.cls) e.2.2 e.2.2 = .scr off →
    s.core.earlyRead 1 off e.2.2 = false → (m.land = 0 ∨ s.core.entries < 64) →
    ∃ l, exec (e.1 w m) s = .next (loading s l)
      ∧ landOf s l 0 0 (decide (m.land ≠ 0)) (landLat m) e.2.1 (.mem []) (BitVec.ofNat 64 (off / 64 * 64))
      ∧ (∃ b, l.data = some (scrBytes s off e.2.2, b) ∧ (b = true ↔ ∃ i < e.2.2, s.core.scr.blots.get ((off + i) / 64) = true))

/-- A scalar load from global or spill space that translates answers a next state: it holds an entry, samples memory at a
free time and lands at issue + LAND (05 R139, R141, R150, R151, R154). -/
def Sys2Proof.Claims.GlobalLoads : Prop :=
  ∀ (w : FB) (m : MW) (s : State), ∀ e ∈ scalarLoads s w, ∀ va loc,
    s.core.place m.space.toNat (addrB s w m) (s.core.brel m.space.toNat m.cls) e.2.2 e.2.2 = .glob va →
    s.xlate s.core.dom s.core.level.toNat .read va = .ok loc → s.core.entries < 64 →
    ∃ l, exec (e.1 w m) s = .next (loading s l)
      ∧ landOf s l m.cls.toNat m.scope.toNat true (landLat m) e.2.1 (.mem [(loc, e.2.2)]) va ∧ l.data = none

/-- ST and STS answer a next state: into the scratchpad their bytes are seen from the next cycle on; to global or spill
space they wait in the egress hold for 320 cycles as a store of those bytes at the translated location; no other byte and
nothing else changes (05 R154, R174, R176). -/
def Sys2Proof.Claims.ScalarAccessStores : Prop :=
  ∀ (w : FB) (m : MW) (s : State), ∀ e ∈ scalarStores s w,
    (∀ off, s.core.place m.space.toNat (addrB s w m) (s.core.brel m.space.toNat m.cls) e.2.length e.2.length = .scr off →
      exec (e.1 w m) s = .next { s with core := { s.core with
        scrNext := s.core.scrNext ++ [e.2.mapIdx fun i b => { at_ := off + i, mask := 0xFF, val := b, blot := false }]
        out := .done } })
    ∧ (∀ va loc, s.core.place m.space.toNat (addrB s w m) (s.core.brel m.space.toNat m.cls) e.2.length e.2.length = .glob va →
      s.xlate s.core.dom s.core.level.toNat .write va = .ok loc →
      ∃ h, exec (e.1 w m) s = .next (holding s h []) ∧ heldEff s h m.cls.toNat m.scope.toNat (.store [(loc, e.2)] false))

/-- A misaligned scalar load or store raises MISALIGNED with its address and does nothing else (05 R140, Table 5.8). -/
def Sys2Proof.Claims.MisalignedAccesses : Prop :=
  ∀ (w : FB) (m : MW) (s : State) (n : Nat) (i : Instr),
    (i, n) ∈ [(Instr.ld w m, 8), (Instr.lds w m, 4), (Instr.lrec w m, 64), (Instr.st w m, 8), (Instr.sts w m, 4)] →
    let a := addrB s w m + s.core.brel m.space.toNat m.cls
    a.toNat % n ≠ 0 → exec i s = .next (raises s 0x07 a 0 0)

/-- FENCE completes when every S access of its classes in earlier groups is performed at its scope, and orders those of its
own group before the accesses to come; it waits before; TKWAIT consumes one token per wait field when all are there; TKSIG
adds one pending token, or raises TOKEN_OVERFLOW when the pair's counter stands at 15; WAITW on the scratchpad completes
when its condition holds there (05 R156 to R161, 11 R356). That it judges behind the earlier S instructions of its group is the
model's reading (log 66). -/
def Obligations.FencesAndTokens : Prop :=
  ∀ (s : State),
    (∀ w : FC, s.openBefore w.imm (w.d.toNat % 8) = [] → (w.d.toNat % 8 = 4 → s.core.openFab w.imm = false) →
      ∃ fs, exec (.fence w) s = .next (gives { s with core := { s.core with fences := fs } } [])
        ∧ (s.openS w.imm (w.d.toNat % 8) ≠ [] → (w.imm, w.d.toNat % 8, s.openS w.imm (w.d.toNat % 8)) ∈ fs)
        ∧ ∀ f ∈ s.core.fences, ∀ i ∈ f.2.2, s.unperformed i = true → ∃ g ∈ fs, g.1 = f.1 ∧ g.2.1 = f.2.1 ∧ i ∈ g.2.2)
    ∧ (∀ w : FC, s.openBefore w.imm (w.d.toNat % 8) ≠ [] ∨ (w.d.toNat % 8 = 4 ∧ s.core.openFab w.imm = true) →
      exec (.fence w) s = .next s.hold)
    ∧ (∀ w : FE, s.core.tokReady 0 (tkwaitFields w) = true →
      exec (.tkwait w) s = .next { s with core := { s.core.tokTake 0 (tkwaitFields w) with out := .done } })
    ∧ (∀ w : FE, s.core.tokReady 0 (tkwaitFields w) = false → exec (.tkwait w) s = .next s.hold)
    ∧ (∀ w : FE, let q := w.misc.toNat % 8
      s.core.given.get q + s.core.pendTok.get q < 15 →
      ∃ g : Sig, g.prod = 0 ∧ g.cons = q ∧ g.perf = s.openS (w.misc.extractLsb' 6 16) (w.misc.toNat / 8 % 8) ∧ g.lands = []
        ∧ exec (.tksig w) s = .next { s with core := { s.core with
            pendTok := s.core.pendTok.set q (s.core.pendTok.get q + 1)
            sigs := s.core.sigs ++ [g]
            out := .done } })
    ∧ (∀ w : FE, let q := w.misc.toNat % 8
      15 ≤ s.core.given.get q + s.core.pendTok.get q → exec (.tksig w) s = .next (raises s 0x10 (BitVec.ofNat 64 q) 0 0))
    ∧ (∀ (w : FB) (m : MW) (off : Nat), m.space = 1 →
      let size := if m.land.getLsbD 3 then 4 else 8
      s.core.place 1 (addrB s w m) (s.core.brel 1 m.cls) size size = .scr off → s.core.earlyRead 1 off size = false →
      (s.core.scrRead off size).2 = false →
      exec (.waitw w m) s = .next (if waitCond (m.land.toNat % 8) (m.land.getLsbD 3) (BitVec.ofNat 64 (leNat (scrBytes s off size))) (s.rs w.d.toNat)
        then gives s [] else s.hold))

/-- An atomic whose operand translates to plain memory answers a next state: the operation waits in the egress hold with
its operands, and a returning one holds a landing entry for the old value; a reduction has none (11 R340, R342, R343). -/
def Sys2Proof.Claims.AtomicsIssue : Prop :=
  ∀ (w : FA) (m : MW) (s : State) (loc : Nat),
    s.syncLoc (addrA s w m) (amoWidth w) .write = .ok loc → s.engineFull (homeQuad loc) = false →
    (∀ e ∈ returning, s.core.entries < 64 → s.core.preempting = false →
      ∃ (l : Land) (h : Eff), landOf s l m.cls.toNat m.scope.toNat true m.land.toNat
          (.s (place64 s w.d.toNat) (amoWidth w) (decide (w.fn.getLsbD 2 = false))) .reply (addrA s w m)
        ∧ l.data = none
        ∧ heldEff (loading s l) h m.cls.toNat m.scope.toNat
            (.atomic loc (amoWidth w) e.2 (s.rs w.b.toNat) (s.rs w.d.toNat) (w.fn.getLsbD 2) (some l.id))
        ∧ exec (e.1 w m) s = .next (holding (loading s l) h []))
    ∧ (∀ e ∈ reductions, ∃ h : Eff,
        heldEff s h m.cls.toNat m.scope.toNat (.atomic loc (amoWidth w) e.2 (s.rs w.b.toNat) (s.rs w.d.toNat) (w.fn.getLsbD 2) none)
        ∧ exec (e.1 w m) s = .next (holding s h []))

/-- The value that an integer atomic leaves in memory, on bit vectors of its width (11 Table 11.3); the others round one
fp32 or bf16 sum to nearest even. -/
def Sys2Proof.Claims.AtomicValues : Prop :=
  (∀ (op n : Nat) (u : Bool) (m v c : BitVec n), 0 < n → (0x60 ≤ op ∧ op ≤ 0x71 ∧ op ≠ 0x6A) →
    amoNew op u n m.toNat v.toNat c.toNat = (atomicNew op u n m v c).map BitVec.toNat)
  ∧ ∀ (u : Bool) (n m v c : Nat),
    amoNew 0x6A u n m v c = some (roundTo fp32 (Machine.Num.add 0 (v32 m) (v32 v)).1 0 false 0).1
    ∧ amoNew 0x72 u n m v c = some (roundTo fp32 (Machine.Num.add 0 (v32 m) (v32 v)).1 0 false 0).1
    ∧ amoNew 0x73 u n m v c = some (roundTo bf16 (Machine.Num.add 0 (bf16.value m) (bf16.value v)).1 0 false 0).1

/-- JARV and BARV, and TRIG the first time, send their request through the egress hold as releases at package scope, BARV
with the phase in which the arrival will count in s[d]; a second TRIG does nothing (11 R346, R350, R354, 12 R377). -/
def Sys2Proof.Claims.ArrivalsIssue : Prop :=
  ∀ (w : FA) (s : State),
    (∀ loc, s.syncLoc (s.rs w.a.toNat) 16 .write = .ok loc → s.engineFull (homeQuad loc) = false →
      ∃ h, heldEff s h 0 3 (.join loc (w.fn.getLsbD 0) (s.rs w.b.toNat)) ∧ exec (.jarv w) s = .next (holding s h []))
    ∧ (∀ k, s.barKeyOf w = .inl k → s.barFull k = false →
      ∃ h, heldEff s h 0 3 (.barrier k.1 k.2.1 k.2.2.1 k.2.2.2 none)
        ∧ exec (.barv w) s = .next (holding s h
            (resS s 1 w.d.toNat (BitVec.ofNat 64 (((s.sync.bar k).p + s.uncounted k) % 2 ^ 16)))))
    ∧ (∀ t, s.core.strand = some t → t.triggered = false →
      ∃ h, heldEff s h 0 3 .trig
        ∧ exec (.trig w) s = .next (holding { s with core := { s.core with strand := some { t with triggered := true } } } h []))
    ∧ (∀ t, s.core.strand = some t → t.triggered = true → exec (.trig w) s = .next (gives s []))

/-- An instruction whose request has its reply completes with it: JWAIT, WATCH, SPAWN, NSUB, PRIO, PURGE, CLRUN, CLWAIT,
BWAIT and UNWATCH write it to s[d], BAR without its phase-stale bit, and WAITW writes nothing; the request is gone (11
R349, R351, R355 to R360; 12 R379; 13 R410; 14 R442). -/
def Sys2Proof.Claims.RepliesComplete : Prop :=
  ∀ (s : State) (h : Held) (v : Word), replied s h v →
    (∀ (w : FA), ∀ i ∈ answeredS, exec (i w) s = .next (gives (unheld s h) (resS s 1 w.d.toNat v)))
    ∧ (∀ (w : FA) (m : MW), exec (.clrun w m) s = .next (gives (unheld s h) (resS s 1 w.d.toNat v))
        ∧ exec (.clwait w m) s = .next (gives (unheld s h) (resS s 1 w.d.toNat v)))
    ∧ (∀ (w : FA), (s.rs w.a.toNat).getLsbD 16 = true → exec (.unwatch w) s = .next (gives (unheld s h) (resS s 1 w.d.toNat v)))
    ∧ (∀ (w : FA) (k : BarKey), s.barKeyOf w = .inl k →
        exec (.bwait w) s = .next (gives (unheld s h) (resS s 1 w.d.toNat v))
        ∧ (h.stage ≠ 2 → h.stage ≠ 3 → exec (.bar w) s = .next (gives (unheld s h) (resS s 1 w.d.toNat (v &&& ~~~(0x10000 : Word))))))
    ∧ (∀ (w : FB) (m : MW), m.space ≠ 1 → exec (.waitw w m) s = .next (gives (unheld s h) []))

/-- UNWATCH of a handle that names no entry gives 0; GWAIT gives 0 when its node was not dispatched early, and once every
predecessor is triggered it gives whether one of them faulted (11 R359, 12 R378). -/
def Sys2Proof.Claims.WaitsThatNeedNoReply : Prop :=
  ∀ (w : FA) (s : State),
    ((s.rs w.a.toNat).getLsbD 16 = false → exec (.unwatch w) s = .next (gives s (resS s 1 w.d.toNat 0)))
    ∧ (∀ t n, s.core.strand = some t → s.node t.node = some n →
        (n.record.getLsbD 138 = false → exec (.gwait w) s = .next (gives s (resS s 1 w.d.toNat 0)))
        ∧ (n.record.getLsbD 138 = true → (∀ h ∈ n.predHandles, s.triggered h = true) →
            exec (.gwait w) s = .next (gives s (resS s 1 w.d.toNat (if n.faultPred then 1 else 0)))))

namespace Sys2Proof.Claims
open Sys2Proof.Machine

/-- `s` with one more fault recorded for delivery (14 R417), its instruction done. -/
def records (s : State) (t : Trap) : State :=
  { s with core := { s.core with
      recs := s.core.recs ++ [t]
      out := .done } }

/-- The record of a trap instruction: its place, and its 16-bit field in TRAP_INFO0 (14 R424). -/
def trapRec (s : State) (cause : Nat) (imm : Nat) : Trap :=
  { cause := cause, stream := s.core.cur.stream, slot := s.core.cur.slot, pc := s.core.cur.folio, i0 := BitVec.ofNat 64 imm,
    op := s.core.cur.seq }

/-- The level that MFS and MTS need, and the registers that only trap state names (14 R414, R415). -/
def mayRead (s : State) (n : Nat) : Prop := (sysLevels n).1 ≤ s.core.level.toNat ∧ (0x100 ≤ n → s.core.trap.active = true)
def mayWrite' (s : State) (n : Nat) (v : Word) : Prop :=
  (sysLevels n).2 ≤ s.core.level.toNat ∧ (0x100 ≤ n → s.core.trap.active = true) ∧ s.sysBad n v = none

/-- The registers that a write changes and a read answers at once, with the bits that they keep (14 Table 14.2). -/
def keptBits : List (Nat × Word) :=
  [(0x10, 3), (0x11, 1), (0x13, -1), (0x14, 1), (0x15, 0x3FFFFF), (0x16, 0x00FFFFFFFFFFFFFF), (0x27, 0x00FFFFFFFFFFFFE1),
   (0x40, 0xFFFF), (0x50, 0x000FFFFFFFFFFFC0), (0x52, 0xFFFFFFFFFFFF), (0x53, 0xFFFFFFFFFFFF)]

/-- The strand's own query of a TLB invalidation, once every access it has to see is performed. -/
def invalidated (s : State) (h : Held) (scope : Nat) : Prop :=
  s.core.helds.find? (fun x => x.folio == s.core.cur.folio && x.slot == s.core.cur.slot) = some h
  ∧ s.olderThan scope h.v.toNat = false

/-- `s` with the strand stopped at its point, its image area taken, its queries discarded (11 R360), and its matrix engine without
it (08 R249). -/
def stopped (s : State) (t : Strand) (parked : Bool) (area : Nat × Nat) : State :=
  { s.dropQueries s.core.queries with
    quads := s.quads.set (s.id / 4) (let q := (quadOf s (s.id / 4)).leave s.id; if q = {} then none else some q)
    core := { s.core with
      strand := some { t with
        preempt := false
        dormant := true
        parked := parked
        save := some area
        shorted := false
        waitRuns := 0 }
      helds := pauseHelds s.core.helds } }

/-- The image area that the strand takes, with `more` bytes for what its group adds: none of the pool during a checkpoint, else the
lowest free run (15 R451). -/
def hasArea (s : State) (more : Nat) (area : Nat × Nat) : Prop :=
  (s.host.ckptCtl.getLsbD 2 = true ∧ area = (0, 0))
  ∨ (s.host.ckptCtl.getLsbD 2 = false ∧ ∃ a, s.takeArea (s.core.imageUnits more) = some a ∧ area = (a, s.core.imageUnits more * 4096))

/-- The state in which a reset has taken what the chiplet held: by a fence, or, for a stack that was fenced, once more. -/
def lostFor (s : State) (n : Nat) : State := if s.pkg.sockets.get n = 0 then s.fenceChip n 2 else if n < 16 then s.loseStack n 2 [] else s

/-- The reset-report entry that closes an operation on a socket (15 R464): kind 2, the socket, the operation, in the entry that HEAD
numbers, which counts on; while HEAD − TAIL is 16,256 it is dropped and counted in LOST. -/
def closed (u t : State) (socket op : Nat) : Prop :=
  if (u.host.rstHead - u.host.rstTail.setWidth 32).toNat = 16256 then
    t.host.reset = u.host.reset ∧ t.host.rstHead = u.host.rstHead ∧ (u.host.rstLost ≠ -1 → t.host.rstLost = u.host.rstLost + 1)
  else
    t.host.rstHead = u.host.rstHead + 1 ∧ ∃ e : BitVec 256,
      t.host.reset.get (u.host.rstHead.toNat % 16256) = e ∧ (e.extractLsb' 0 8).toNat = 2 ∧ (e.extractLsb' 8 8).toNat = socket
      ∧ (e.extractLsb' 16 8).toNat = op ∧ e.extractLsb' 32 32 = u.host.rstHead ∧ (e.extractLsb' 24 8).toNat = 0 ∧ e.extractLsb' 64 192 = 0

end Sys2Proof.Claims

/-- TRAP whose predicate holds, BRK and SVC record their cause with their 16-bit field for delivery after their group, and
change nothing else; a TRAP whose predicate does not hold does nothing (14 R424). -/
def Obligations.TrapInstructions : Prop :=
  ∀ (w : FE) (s : State), s.core.trap.active = false →
    let imm := w.misc.toNat % 65536
    exec (.brk w) s = .next (records s (trapRec s 0x14 imm))
    ∧ exec (.svc w) s = .next (records s (trapRec s 0x00 imm))
    ∧ (s.rp (w.misc.toNat / 2 ^ 16 % 16) ≠ w.misc.getLsbD 20 → exec (.trap w) s = .next (records s (trapRec s 0x13 imm)))
    ∧ (s.rp (w.misc.toNat / 2 ^ 16 % 16) = w.misc.getLsbD 20 → exec (.trap w) s = .next (gives s []))

/-- MFS of a register its level may read writes it to s[d]; MTS of one that it may write leaves the write pending one cycle
on, FPSTAT's as a clear; below the level both raise PRIVILEGE with the register and the level needed (14 R413 to R415). -/
def Sys2Proof.Claims.SystemRegisterMoves : Prop :=
  ∀ (w : FC) (s : State),
    let n := w.imm.toNat
    let v := s.rs w.d.toNat
    (mayRead s n → exec (.mfs w) s = .next (gives s (resS s 1 w.d.toNat (s.sysReg n))))
    ∧ (mayWrite' s n v → n ≠ 0x12 → exec (.mts w) s = .next (gives s [res s 1 0 (.sys n v)]))
    ∧ (mayWrite' s n v → n = 0x12 → exec (.mts w) s = .next (gives s [res s 1 0 (.fpclr (v.extractLsb' 0 5))]))
    ∧ (s.core.level.toNat < (sysLevels n).1 →
        exec (.mfs w) s = .next (raises s 0x04 (BitVec.ofNat 64 n) (BitVec.ofNat 64 (sysLevels n).1) 0))
    ∧ (s.core.level.toNat < (sysLevels n).2 →
        exec (.mts w) s = .next (raises s 0x04 (BitVec.ofNat 64 n) (BitVec.ofNat 64 (sysLevels n).2) 0))

/-- A write of a system register that falls due reads back with the bits that 14 Table 14.2 keeps, and the trap registers
read 0 outside trap state. -/
def Sys2Proof.Claims.SystemRegistersReadBack : Prop :=
  (∀ s : State, ∀ e ∈ keptBits, ∀ v, (s.applyWr (.sys e.1 v)).sysReg e.1 = v &&& e.2)
  ∧ ∀ s : State, s.core.trap.active = false → ∀ n ∈ [0x20, 0x21, 0x22, 0x23, 0x24, 0x25, 0x26], s.sysReg n = 0

/-- TRAP_DELIVERY with a fault recorded and a handler in TRAP_VEC takes the trap: TRAP_CAUSE, TRAP_PC and TRAP_INFO hold
the record of the lowest stream, PPRIV the level, TRAP_RESUME the point; the handler's bank reads 0 and its first group
stands at TRAP_VEC three handler cycles on; the strand's registers, its pending results and memory are as they were (14 R416 to R419). -/
def Obligations.TakingATrap : Prop :=
  ∀ (s : State) (t : Strand) (f : Trap), s.core.strand = some t → s.core.dbl = none → s.core.trap.active = false →
    Store.wf s.core.sc.s = true → Store.wf s.core.sc.p = true → firstRec s.core.recs = some f → f.cause ≠ 0x09 → f.cause ≠ 0x17 → s.core.trap.vec.getLsbD 0 = true →
    ∃ u : State, exec .trapDelivery s = .next u
      ∧ u.core.trap.active = true ∧ u.core.trap.code = f.cause ∧ u.core.trap.stream = f.stream ∧ u.core.trap.slot = f.slot
      ∧ u.core.trap.pc = f.pc ∧ u.core.trap.i0 = f.i0 ∧ u.core.trap.i1 = f.i1 ∧ u.core.trap.i2 = f.i2 ∧ u.core.trap.i3 = f.i3
      ∧ u.core.trap.late = f.late ∧ u.core.trap.ppriv = s.core.sc.priv ∧ u.core.trap.vec = s.core.trap.vec
      ∧ u.core.trap.resume = pointWord (s.core.firstPoint 8 s.core.pc).folio (s.core.firstPoint 8 s.core.pc).slot
      ∧ u.core.pc.folio = canon (s.core.trap.vec &&& 0x00FFFFFFFFFFFFE0) ∧ u.core.pc.slot = 1
      ∧ u.core.flow.next = s.core.flow.hcycle + 3
      ∧ (∀ n, 56 ≤ n → n < 64 → u.core.rs n = 0) ∧ (∀ n, 12 ≤ n → n < 16 → u.core.rp n = false)
      ∧ (∀ n, 0 < n → n < 56 → u.core.rs n = s.core.rs n) ∧ u.core.recs = s.core.recs.erase f
      ∧ u.core.pend = s.core.pend ∧ u.core.lands = s.core.lands ∧ u.mem = s.mem ∧ u.core.scr = s.core.scr
      ∧ u.core.x = s.core.x ∧ u.core.y = s.core.y

/-- RFT resume and skip, at SUP and with the handler's writes done, return: trap state ends, TRAP_VEC stays, the strand goes
on at TRAP_RESUME three cycles on with its registers as they are, and what the RFT's own group has pending falls due in the
strand's cycles (14 R420, R425); outside trap state they raise ILLEGAL_OPERAND,
below SUP PRIVILEGE. -/
def Sys2Proof.Claims.ReturningFromATrap : Prop :=
  ∀ (w : FE) (s : State),
    (1 ≤ s.core.level.toNat → s.core.trap.active = true → s.core.handlerDone = true → s.stallPending = false →
      ∀ i ∈ [Instr.rftResume w, Instr.rftSkip w], ∃ t : State, exec i s = .next t
        ∧ t.core.out = .done ∧ t.core.trap = { vec := s.core.trap.vec } ∧ t.core.flow.next = s.core.flow.cycle + 3
        ∧ (pointWord s.core.trap.back.folio s.core.trap.back.slot ≠ s.core.trap.resume → t.core.pc = pointPc s.core.trap.resume)
        ∧ t.core.sc = s.core.sc ∧ t.mem = s.mem
        ∧ t.core.pend = s.core.pend.map (fun p => if p.hand then { p with hand := false, due := s.core.flow.cycle + (p.due - s.core.flow.hcycle) } else p)
        ∧ t.core.lands = s.core.lands.map (fun l => if l.hand then { l with hand := false, due := s.core.flow.cycle + (l.due - s.core.flow.hcycle) } else l))
    ∧ (1 ≤ s.core.level.toNat → s.core.trap.active = false →
        exec (.rftResume w) s = .next (raises s 0x02 0 0 0) ∧ exec (.rftSkip w) s = .next (raises s 0x02 0 0 0)
        ∧ exec (.rftPark w) s = .next (raises s 0x02 0 0 0) ∧ exec (.rftRestart w) s = .next (raises s 0x02 0 0 0))
    ∧ (s.core.level.toNat < 1 →
        exec (.rftResume w) s = .next (raises s 0x04 0 1 0) ∧ exec (.rftSkip w) s = .next (raises s 0x04 0 1 0)
        ∧ exec (.rftPark w) s = .next (raises s 0x04 0 1 0) ∧ exec (.rftRestart w) s = .next (raises s 0x04 0 1 0))

/-- RFT park and restart leave trap state and the core: park stops the strand at its point for its write-back, restart
hands the strand to its continuation record or its purge (14 R425, R437). -/
def Sys2Proof.Claims.LeavingThroughRft : Prop :=
  ∀ (w : FE) (s : State) (k : Strand) (area : Nat × Nat),
    1 ≤ s.core.level.toNat → s.core.trap.active = true → s.core.handlerDone = true → s.core.strand = some k →
    (s.core.trap.running = false → s.stallPending = false → hasArea (s.mapCore Core.returnTrap) 0 area →
      ∃ t, exec (.rftPark w) s = .next t ∧ t.core.out = .done ∧ t.core.trap.active = false ∧ t.mem = s.mem
        ∧ t.core.strand = some { k with preempt := false, dormant := true, parked := false, save := some area, shorted := false, waitRuns := 0, waitCh := none })
    ∧ exec (.rftRestart w) s = .next (gives (s.restartOrPurge s.id) [])

/-- EXIT at an idle engine ends the strand: its core is vacated with its held effects, its record is freed, its node counts
it as exited, and where it has not triggered its trigger leaves through the hold; YIELD and SUSPEND stop it at its point;
SEAL writes its continuation record; each waits until then (12 R373 to R376). -/
def Obligations.StrandInstructions : Prop :=
  ∀ (w : FE) (s : State) (k : Strand), s.core.strand = some k →
    (s.core.enginesIdle = true → ∃ t, exec (.exit w) s = .next t ∧ t.core.out = .done ∧ t.core.strand = none
        ∧ (k.triggered = true → t.core.hold = s.core.hold)
        ∧ (k.triggered = false → ∃ e, e.kind = .trig ∧ e.owner = s.core.owner ∧ e.leave = s.core.flow.conf + 320 ∧ t.core.hold = s.core.hold ++ [e])
        ∧ t.core.scr = s.core.scr ∧ t.core.pend = [] ∧ t.mem = s.mem
        ∧ t.sched.records = s.sched.records.set (recordKey k.node k.idx) 0
        ∧ (∀ n, Store.wf s.sched.nodes = true → s.node k.node = some n → ∃ n', t.node k.node = some n' ∧ n'.record = n.record
            ∧ n'.live = n.live &&& ~~~((1 : BitVec 32) <<< k.idx) ∧ n'.exited = n.exited ||| ((1 : BitVec 32) <<< k.idx)))
    ∧ (s.core.enginesIdle = false → s.core.trap.active = false → exec (.exit w) s = .next s.hold)
    ∧ (∀ area, s.core.trap.active = false → s.core.unsettled s.core.cur.first = false → hasArea s s.core.groupBytes area →
        exec (.yield w) s = .next (gives (stopped s k false area) [])
        ∧ (∀ loc, s.syncLoc (s.rs (w.misc.toNat % 64)) (if w.misc.getLsbD 15 then 4 else 8) .read = .ok loc → s.canWait loc = true →
            ∃ m : Msg, m.owner = s.core.owner ∧ m.core = s.id ∧ m.source = s.id ∧ m.txn = s.sync.txn.get (4 * s.id + homeQuad loc)
              ∧ m.kind = .suspend loc (w.misc.toNat / 2 ^ 12 % 8) (w.misc.getLsbD 15) (s.rs (w.misc.toNat / 64 % 64))
              ∧ exec (.suspend w) s = .next { gives (stopped s k true area) [] with
                  nextId := s.nextId + 1
                  freeCtr := s.freeCtr + 1
                  net := (stopped s k true area).net ++ [m]
                  sync := { (stopped s k true area).sync with txn := s.sync.txn.set (4 * s.id + homeQuad loc) ((m.txn + 1) % 65536) } }))
    ∧ (s.core.trap.active = false → s.core.unsettled s.core.cur.first = true → exec (.yield w) s = .next s.hold)
    ∧ (∀ loc, s.syncLoc (s.rs (w.misc.toNat % 64)) (if w.misc.getLsbD 15 then 4 else 8) .read = .ok loc →
        s.canWait loc = false ∨ (s.core.trap.active = false ∧ s.core.unsettled s.core.cur.first = true) → exec (.suspend w) s = .next s.hold)
    ∧ (s.core.enginesIdle = true → s.busyBefore = false →
        exec (.seal w) s =
          .next (gives { s with sched := { s.sched with records := s.sched.records.set (recordKey k.node k.idx) (s.sealRec k) } } []))
    ∧ (s.core.enginesIdle = false ∨ s.busyBefore = true → exec (.seal w) s = .next s.hold)

/-- The maintenance instructions at the level they need: WFI ends when its core is woken, TLBI and TLBIA end when the
accesses that used a dropped entry are performed, LLCOP clean and flush write every dirty byte back, flush leaves the LLC without a line, and carve and uncarve
change the carved units; below the level each raises PRIVILEGE (14 R426, R431 to R435, R413). -/
def Sys2Proof.Claims.Maintenance : Prop :=
  ∀ (s : State),
    (∀ (w : FE) (d : Nat), 1 ≤ s.core.level.toNat → s.core.flow.wfi = some d → s.core.flow.wake = true →
      exec (.wfi w) s = .next (gives { s with core := { s.core with flow := { s.core.flow with wake := false, wfi := none } } } []))
    ∧ (∀ (w : FA) (h : Held), 1 ≤ s.core.level.toNat → invalidated s h (w.fn.toNat % 8) →
      exec (.tlbi w) s = .next (gives (unheld s h) []))
    ∧ (∀ (w : FE) (h : Held), (if w.misc.getLsbD 3 then 2 else 1) ≤ s.core.level.toNat → invalidated s h (w.misc.toNat % 8) →
      exec (.tlbia w) s = .next (gives (unheld s h) []))
    ∧ (∀ (w : FA) (m : MW), 1 ≤ s.core.level.toNat →
      exec (.llcopClean w m) s = .next (gives { s with mem := s.mem.writeBack } [])
      ∧ exec (.llcopFlush w m) s = .next (gives { s with mem := { s.mem.writeBack with kept := [] }, llc := [] } []))
    ∧ (∀ (w : FA) (m : MW) (us : List Nat), 2 ≤ s.core.level.toNat → carveUnits (addrA s w m) (s.rs w.b.toNat) = some us →
      ((∀ u ∈ us, s.mem.carved.contains u = false) → ∃ t, exec (.llcopCarve w m) s = .next t ∧ t.core.out = .done
          ∧ t.mem.carved = s.mem.carved ++ us)
      ∧ ((∀ u ∈ us, s.mem.carved.contains u = true) → (∀ u ∈ us, s.unitBusy u = false) →
          ∃ t, exec (.llcopUncarve w m) s = .next t ∧ t.core.out = .done ∧ ∀ u, u ∈ t.mem.carved ↔ u ∈ s.mem.carved ∧ u ∉ us))
    ∧ (∀ (w : FE) (v : FA) (m : MW), s.core.level.toNat = 0 →
      exec (.wfi w) s = .next (raises s 0x04 0 1 0) ∧ exec (.tlbi v) s = .next (raises s 0x04 0 1 0)
      ∧ exec (.llcopClean v m) s = .next (raises s 0x04 0 1 0) ∧ exec (.llcopFlush v m) s = .next (raises s 0x04 0 1 0)
      ∧ (w.misc.getLsbD 3 = false → exec (.tlbia w) s = .next (raises s 0x04 0 1 0)))
    ∧ (∀ (w : FE) (v : FA) (m : MW), s.core.level.toNat ≤ 1 →
      exec (.llcopCarve v m) s = .next (raises s 0x04 0 2 0) ∧ exec (.llcopUncarve v m) s = .next (raises s 0x04 0 2 0)
      ∧ (w.misc.getLsbD 3 = true → exec (.tlbia w) s = .next (raises s 0x04 0 2 0)))

/-- The write-back of the last-level cache changes no byte that a read sees: none of a line that is dirty under no key but
that of the read (05 R145, R149, 14 R435). -/
def Sys2Proof.Claims.WriteBackKeepsBytes : Prop :=
  ∀ (m : Mem) (loc : Nat), Memory.wf m.base = true → Store.wf m.dirty = true →
    (∀ a, m.dirty.get a ≠ none → paOf a / 64 = paOf loc / 64 → keyOf a = keyOf loc) → m.writeBack.byte loc = m.byte loc

/-- CHIPOP at the level it needs names a socket in s[a] and answers its status word one cycle on: status changes nothing,
a fence takes a socket in service out of it (state 1), a reset puts it back (state 0), and each closes with a reset-report entry,
clearlost ends a stack's lost state; a core die may not fence its own core
(14 R443 to R445). -/
def Obligations.ChipOperations : Prop :=
  ∀ (w : FB) (s : State), let n := (s.rs w.a.toNat).toNat % 32
    n < 28 →
    (1 ≤ s.core.level.toNat → s.core.strand ≠ none → exec (.chipopStatus w) s = .next (gives s (resS s 1 w.d.toNat (s.chipStatus n))))
    ∧ (2 ≤ s.core.level.toNat → n ≠ 16 + s.id / 16 →
        (∀ t, t = (s.fenceChip n 1).closeOp n 1 →
          (t.core.strand ≠ none → exec (.chipopFence w) s = .next (gives t (resS t 1 w.d.toNat (t.chipStatus n))))
          ∧ (s.pkg.sockets.get n = 0 → t.pkg.sockets.get n = 1)
          ∧ (s.pkg.sockets.get n ≠ 0 → s.fenceChip n 1 = s) ∧ closed (s.fenceChip n 1) t n 1)
        ∧ (∀ t, t = (s.resetChip n).closeOp n 2 →
          (t.core.strand ≠ none → exec (.chipopReset w) s = .next (gives t (resS t 1 w.d.toNat (t.chipStatus n))))
          ∧ (Store.wf (lostFor s n).pkg.sockets = true → t.pkg.sockets.get n = 0) ∧ closed (s.resetChip n) t n 2))
    ∧ (2 ≤ s.core.level.toNat → n < 16 → Store.wf s.bstacks = true → s.core.strand ≠ none →
        exec (.chipopClearlost w) s = .next (gives (s.clearLost n) (resS s 1 w.d.toNat ((s.clearLost n).chipStatus n)))
        ∧ (s.clearLost n).lost n = false)
    ∧ (2 ≤ s.core.level.toNat → n = 16 + s.id / 16 →
        exec (.chipopFence w) s = .next (raises s 0x02 (s.rs w.a.toNat) 0 0) ∧ exec (.chipopReset w) s = .next (raises s 0x02 (s.rs w.a.toNat) 0 0))

namespace Sys2Proof.Claims
open Sys2Proof.Machine

/-! ### Vector instructions: issue and results (02 R52, 05 R156, 06 R179 to R191) -/

/-- An instruction with a 64-bit and a 32-bit form: the 32-bit form has the plain vector word (02 R51). -/
def both (f32 : FV → Instr) (f64 : FV → VW → Instr) (w : FV) (v : VW) : List Instr := f64 w v :: (if v = VW.plain then [f32 w] else [])
/-- An instruction with the 64-bit form alone. -/
def long (f64 : FV → VW → Instr) (w : FV) (v : VW) : List Instr := [f64 w v]

/-- The instruction at the head of its queue has the tokens it waits for, room for the one it gives, and no gate. -/
def goes (s : State) (v : VW) (cons : Nat) : Prop :=
  s.core.tokReady s.core.cur.stream (tokWaits v.tok) = true ∧ (cons = 7 ∨ s.core.tokFull s.core.cur.stream cons = false)
  ∧ s.core.cur.gate ≠ some false

/-- `s` with the instruction issued: its results pending, the next instruction of the stream `occ` cycles on, its signal
pending for `lat` cycles on, its tokens taken; nothing else of the machine differs. -/
def issued (s : State) (v : VW) (cons lat occ : Nat) (ps : List Pend) : State :=
  { s with core := (({ s.core with
      pend := s.core.pend ++ ps
      flow := { s.core.flow with occ := s.core.flow.occ.set s.core.cur.stream (s.core.now + occ) }
      out := .done } : Core).signalAt cons lat).tokTake s.core.cur.stream (tokWaits v.tok) }

/-- The consumer that a vector word signals. -/
def consumer (v : VW) : Nat := v.tok.toNat % 8

/-- Register bytes that an instruction reads and writes lie inside cluster y's register space, and those it reads carry no
early-read mark and no blot (05 R153, R477, 06 R181). -/
def usable (s : State) (y : Bool) (rd wr : List Nat) : Prop :=
  (∀ o ∈ rd ++ wr, o < (s.core.cluster y).size)
  ∧ ∀ o ∈ rd, s.core.earlyRead (if y then 3 else 2) o 1 = false ∧ (s.core.cluster y).blots.get (o / 64) = false

/-- Element i of register r. -/
def elt (s : State) (r : BitVec 6) (bits i : Nat) : BitVec bits := BitVec.ofNat bits (s.cl.vals r.toNat bits i)
/-- The active ones of the first n elements. -/
def active (s : State) (v : VW) (n : Nat) : List Nat := (List.range n).filter (vAct s.cl v)
/-- The register bytes of the active elements of r. -/
def bytesOf (s : State) (v : VW) (r : BitVec 6) (bits n : Nat) : List Nat :=
  (active s v n).flatMap fun i => elemOffs (s.cl.regOff r.toNat) bits i
/-- The write of the listed elements of r, each with its value. -/
def writes (s : State) (r : BitVec 6) (bits : Nat) (is : List Nat) (f : Nat → BitVec bits) : Wr :=
  .reg s.isY (is.flatMap fun i => elemPut (s.cl.regOff r.toNat) bits i (f i).toNat)

/-- A value of an integer type, and the type's encoding of an integer, clamped to its range with sat (03 R80). -/
def val {n : Nat} (sg : Bool) (x : BitVec n) : Int := if sg then x.toInt else x.toNat
def fit (n : Nat) (sg sat : Bool) (r : Int) : BitVec n :=
  BitVec.ofInt n (if sat then (if sg then max (-(2 ^ (n - 1) : Nat)) (min ((2 ^ (n - 1) : Nat) - 1) r) else max 0 (min ((2 ^ n : Nat) - 1) r)) else r)

/-- A vector integer instruction: forms, number of sources, and its operation on elements a, b and c of its type, given
signedness and sat (06 R196). -/
abbrev VRow := (FV → VW → List Instr) × Nat × ((n : Nat) → (sg sat : Bool) → BitVec n → BitVec n → BitVec n → BitVec n)

/-- Sums, products and logic (06 Table 6.6). -/
noncomputable def vecInts1 : List VRow :=
  [(both .vadd32 .vadd64, 2, fun _ _ _ a b _ => a + b),
   (both .vsub32 .vsub64, 2, fun _ _ _ a b _ => a - b),
   (both .vadds32 .vadds64, 2, fun n sg _ a b _ => fit n sg true (val sg a + val sg b)),
   (both .vsubs32 .vsubs64, 2, fun n sg _ a b _ => fit n sg true (val sg a - val sg b)),
   (both .vmul32 .vmul64, 2, fun n sg sat a b _ => fit n sg sat (val sg a * val sg b)),
   (both .vmulh32 .vmulh64, 2, fun n sg _ a b _ => BitVec.ofInt n (val sg a * val sg b / (2 ^ n : Nat))),
   (long .vmac, 3, fun n sg sat a b c => fit n sg sat (val sg c + val sg a * val sg b)),
   (both .vand32 .vand64, 2, fun _ _ _ a b _ => a &&& b),
   (both .vor32 .vor64, 2, fun _ _ _ a b _ => a ||| b),
   (both .vxor32 .vxor64, 2, fun _ _ _ a b _ => a ^^^ b)]
/-- Shifts, orderings and counts (06 Table 6.6). -/
noncomputable def vecInts2 : List VRow :=
  [(both .vshl32 .vshl64, 2, fun n sg sat a b _ => fit n sg sat (val sg a * (2 ^ min n b.toNat : Nat))),
   (both .vshr32 .vshr64, 2, fun _ _ _ a b _ => a >>> b.toNat),
   (both .vsha32 .vsha64, 2, fun _ _ _ a b _ => a.sshiftRight b.toNat),
   (both .vmin32 .vmin64, 2, fun _ sg _ a b _ => if val sg a ≤ val sg b then a else b),
   (both .vmax32 .vmax64, 2, fun _ sg _ a b _ => if val sg a ≤ val sg b then b else a),
   (both .vabs32 .vabs64, 1, fun n sg sat a _ _ => fit n sg sat ((val sg a).natAbs : Int)),
   (both .vneg32 .vneg64, 1, fun n sg sat a _ _ => fit n sg sat (-val sg a)),
   (both .vclz32 .vclz64, 1, fun n _ _ a _ _ => BitVec.ofNat n ((List.range n).takeWhile fun i => !a.getMsbD i).length),
   (both .vpopc32 .vpopc64, 1, fun n _ _ a _ _ => BitVec.ofNat n ((List.range n).filter fun i => a.getLsbD i).length),
   (long .vaddmin, 3, fun n sg sat a b c => let t := fit n sg sat (val sg a + val sg b); if val sg c ≤ val sg t then c else t),
   (long .vaddmax, 3, fun n sg sat a b c => let t := fit n sg sat (val sg a + val sg b); if val sg c ≤ val sg t then t else c)]

/-- The sources that an instruction of `k` sources reads. -/
def sources (w : FV) (v : VW) (k : Nat) : List (BitVec 6) := [w.va, w.vb, v.vc].take k

end Sys2Proof.Claims

/-- A vector integer instruction that can issue and whose operands are usable answers a next state: on every active element
its operation of 06 Table 6.6 is pending for vd two cycles on, inactive elements have no write, and nothing else of the
machine differs but its tokens and the stream's next issue cycle (06 R187, R189, R196). -/
def Obligations.VectorIntegers : Prop :=
  ∀ e ∈ vecInts1 ++ vecInts2, ∀ (w : FV) (v : VW) (s : State), ∀ i ∈ e.1 w v,
    let n := tyBits w.ty.toNat
    goes s v (consumer v) →
    usable s s.isY ((sources w v e.2.1).flatMap fun r => bytesOf s v r n (4096 / n)) (bytesOf s v w.vd n (4096 / n)) →
    exec i s = .next (issued s v (consumer v) 2 1 [res s 2 0 (writes s w.vd n (active s v (4096 / n)) fun j =>
      e.2.2 n (tySigned w.ty.toNat) (v.sat == 1) (elt s w.va n j) (elt s w.vb n j) (elt s v.vc n j))])

namespace Sys2Proof.Claims
open Sys2Proof.Machine

/-- Results of an element-wise float instruction: one rounding of the exact value with the flags; with sat an overflow gives the greatest
finite value (06 R200, R201). -/
def vecRound (s : State) (w : FV) (v : VW) (i : Nat) (x : Machine.Num × Fp) : Nat × Fp :=
  let f := fmtOr w.ty.toNat
  let r := roundTo f x.1 v.rm.toNat false (srKey s.core s.core.cur.stream i)
  (if v.sat = 1 ∧ r.2 &&& fOF ≠ 0 then f.enc x.1.isNeg f.top else r.1, x.2 ||| r.2)

/-- A vector float instruction: forms, latency, number of sources, and its exact value with the flags that it raises before
rounding, from the rounding mode and its sources. -/
abbrev VFRow := (FV → VW → List Instr) × Nat × Nat × (Nat → Machine.Num → Machine.Num → Machine.Num → Machine.Num × Fp)

/-- 06 Table 6.8. -/
noncomputable def vecFloats : List VFRow :=
  [(both .vfadd32 .vfadd64, 4, 2, fun rm a b _ => Machine.Num.add rm a b),
   (both .vfsub32 .vfsub64, 4, 2, fun rm a b _ => Machine.Num.sub rm a b),
   (both .vfmul32 .vfmul64, 4, 2, fun _ a b _ => Machine.Num.mul a b),
   (long .vfma, 4, 3, fun rm a b c => Machine.Num.fma rm a b c),
   (long .vfms, 4, 3, fun rm a b c => Machine.Num.fma rm a b c.neg),
   (long .vfnma, 4, 3, fun rm a b c => Machine.Num.fma rm a.neg b c),
   (both .vfmin32 .vfmin64, 2, 2, fun _ a b _ => (Machine.Num.minmax false a b, 0)),
   (both .vfmax32 .vfmax64, 2, 2, fun _ a b _ => (Machine.Num.minmax true a b, 0)),
   (both .vfabs32 .vfabs64, 2, 1, fun _ a _ _ => (a.abs, 0)),
   (both .vfneg32 .vfneg64, 2, 1, fun _ a _ _ => (a.neg, 0)),
   (both .vfdiv32 .vfdiv64, 14, 2, fun _ a b _ => Machine.Num.div a b),
   (both .vfsqrt32 .vfsqrt64, 14, 1, fun _ a _ _ => Machine.Num.sqrt a)]

/-- The stochastic counter of the stream moves on when the instruction rounds with SR (03 R95). -/
def counted (s : State) (rm : Nat) : State := if rm = 5 then s.srBump s.core.cur.stream 5 else s

end Sys2Proof.Claims

/-- A vector float instruction that can issue and whose operands are usable answers a next state: every active element's
exact result, rounded once, is pending for vd at the block's latency, with the flags of the active elements for FPSTAT
in that cycle (06 R200, R201). -/
def Obligations.VectorFloats : Prop :=
  ∀ e ∈ vecFloats, ∀ (w : FV) (v : VW) (s : State), ∀ i ∈ e.1 w v,
    let n := tyBits w.ty.toNat
    let f := fmtOr w.ty.toNat
    let r : Nat → Nat × Fp := fun j => vecRound s w v j
      (e.2.2.2 v.rm.toNat (f.value (elt s w.va n j).toNat) (if 2 ≤ e.2.2.1 then f.value (elt s w.vb n j).toNat else .nan)
        (if e.2.2.1 = 3 then f.value (elt s v.vc n j).toNat else .nan))
    goes s v (consumer v) →
    usable s s.isY ((sources w v e.2.2.1).flatMap fun r => bytesOf s v r n (4096 / n)) (bytesOf s v w.vd n (4096 / n)) →
    exec i s = .next (counted (issued s v (consumer v) e.2.1 1
      ([res s e.2.1 0 (.reg s.isY ((active s v (4096 / n)).flatMap fun j => elemPut (s.cl.regOff w.vd.toNat) n j (r j).1))]
        ++ resF s e.2.1 ((active s v (4096 / n)).foldl (fun a j => a ||| (r j).2) 0))) v.rm.toNat)

namespace Sys2Proof.Claims
open Sys2Proof.Machine

/-! ### Groups, compares, masks and moves of the vector streams (06 R183, R186 to R199) -/

/-- Element i of the k-register group at r: register r + i mod k, position i ÷ k (06 R183). -/
def gelt (s : State) (r : BitVec 6) (k bits i : Nat) : BitVec bits := BitVec.ofNat bits (s.cl.vals (r.toNat + i % k) bits (i / k))
/-- A register group starts at a multiple of k and ends by register 63. -/
def grouped (r : BitVec 6) (k : Nat) : Prop := r.toNat % k = 0 ∧ r.toNat + k ≤ 64
/-- The register bytes that the active ones among n elements of a group stand in. -/
def gbytes (s : State) (v : VW) (r : BitVec 6) (k bits n : Nat) : List Nat :=
  (active s v n).flatMap fun i => elemOffs (s.cl.regOff (r.toNat + i % k)) bits (i / k)
/-- The write of the active ones among n elements of a group. -/
def gwrites (s : State) (v : VW) (r : BitVec 6) (k bits n : Nat) (f : Nat → BitVec bits) : Wr :=
  .reg s.isY ((active s v n).flatMap fun i => elemPut (s.cl.regOff (r.toNat + i % k)) bits (i / k) (f i).toNat)

/-- A mask write whose bit j is written where `care j` and becomes `bit j`. -/
def isMask (s : State) (r : Nat) (care bit : Nat → Bool) (wr : Wr) : Prop :=
  ∃ m b : BitVec 1024, wr = .mask s.isY r m b ∧ (∀ j < 1024, m.getLsbD j = care j) ∧ ∀ j < 1024, care j = true → b.getLsbD j = bit j

/-- VCMP's conditions (06 R199). -/
def vcond (c : Nat) (x y : Int) : Bool := match c with
  | 0 => x == y
  | 1 => x != y
  | 2 => decide (x < y)
  | _ => decide (x ≤ y)

/-- The scalar result of VTOS and VMPOP: it is written six cycles on, with a token to stream S (06 R190). -/
def toS (s : State) (v : VW) (d : Nat) (x : Word) : State := issued s v 0 6 1 (if d = 0 then [] else [res s 6 0 (.s d x)])

end Sys2Proof.Claims

/-- VMULW and VMACW give products of twice the width in the two-register group at vd; VDOT4 adds four products to each
32-bit element of vc; each two cycles on (06 R197, R198). -/
def Sys2Proof.Claims.VectorWideProducts : Prop :=
  ∀ (w : FV) (v : VW) (s : State), goes s v (consumer v) →
    let n := tyBits w.ty.toNat
    let sg := tySigned w.ty.toNat
    (grouped w.vd 2 → ∀ i ∈ both .vmulw32 .vmulw64 w v,
      usable s s.isY (bytesOf s v w.va n (4096 / n) ++ bytesOf s v w.vb n (4096 / n)) (gbytes s v w.vd 2 (2 * n) (4096 / n)) →
      exec i s = .next (issued s v (consumer v) 2 2 [res s 2 0 (gwrites s v w.vd 2 (2 * n) (4096 / n) fun j =>
        fit (2 * n) sg (v.sat == 1) (val sg (elt s w.va n j) * val sg (elt s w.vb n j)))]))
    ∧ (grouped w.vd 2 → grouped v.vc 2 →
      usable s s.isY (bytesOf s v w.va n (4096 / n) ++ bytesOf s v w.vb n (4096 / n) ++ gbytes s v v.vc 2 (2 * n) (4096 / n))
        (gbytes s v w.vd 2 (2 * n) (4096 / n)) →
      exec (.vmacw w v) s = .next (issued s v (consumer v) 2 2 [res s 2 0 (gwrites s v w.vd 2 (2 * n) (4096 / n) fun j =>
        fit (2 * n) sg (v.sat == 1) (val sg (gelt s v.vc 2 (2 * n) j) + val sg (elt s w.va n j) * val sg (elt s w.vb n j)))]))
    ∧ (let sb := tySigned v.ty2.toNat
      let k := 4096 / n / 4
      usable s s.isY ([w.va, w.vb, v.vc].flatMap fun r => bytesOf s v r (4 * n) k) (bytesOf s v w.vd (4 * n) k) →
      exec (.vdot4 w v) s = .next (issued s v (consumer v) 2 1 [res s 2 0 (writes s w.vd (4 * n) (active s v k) fun j =>
        fit (4 * n) (sg || sb) (v.sat == 1) (val (sg || sb) (elt s v.vc (4 * n) j)
          + (val sg (elt s w.va n (4 * j)) * val sb (elt s w.vb n (4 * j)) + val sg (elt s w.va n (4 * j + 1)) * val sb (elt s w.vb n (4 * j + 1))
            + val sg (elt s w.va n (4 * j + 2)) * val sb (elt s w.vb n (4 * j + 2)) + val sg (elt s w.va n (4 * j + 3)) * val sb (elt s w.vb n (4 * j + 3)))))]))

/-- VCMP and VFCMP write the mask of vd bits 3:0: the condition of each active element, 0 above the last element, inactive
bits kept; VSEL takes va where its mask bit is 1 and vb where it is 0 (06 R199). An operand of an inactive element is not read (log 75, the
model's choice). -/
def Sys2Proof.Claims.VectorCompares : Prop :=
  ∀ (w : FV) (v : VW) (s : State), goes s v (consumer v) →
    let n := tyBits w.ty.toNat
    let care : Nat → Bool := fun j => decide (4096 / n ≤ j) || vAct s.cl v j
    (usable s s.isY (bytesOf s v w.va n (4096 / n) ++ bytesOf s v w.vb n (4096 / n)) [] →
      (∃ x, isMask s (w.vd.toNat % 16) care (fun j => decide (j < 4096 / n) && vcond (w.vd.toNat / 16)
            (val (tySigned w.ty.toNat) (elt s w.va n j)) (val (tySigned w.ty.toNat) (elt s w.vb n j))) x
        ∧ ∀ i ∈ both .vcmp32 .vcmp64 w v, exec i s = .next (issued s v (consumer v) 2 1 [res s 2 0 x]))
      ∧ (∃ x, isMask s (w.vd.toNat % 16) care (fun j => decide (j < 4096 / n) && Machine.Num.test (w.vd.toNat / 16)
            ((fmtOr w.ty.toNat).value (elt s w.va n j).toNat) ((fmtOr w.ty.toNat).value (elt s w.vb n j).toNat)) x
        ∧ ∀ i ∈ both .vfcmp32 .vfcmp64 w v, exec i s = .next (issued s v (consumer v) 2 1 [res s 2 0 x])))
    ∧ (let m := s.cl.masks.get v.vc.toNat
      usable s s.isY ((active s v (4096 / n)).flatMap fun j => elemOffs (s.cl.regOff (if m.getLsbD j then w.va else w.vb).toNat) n j)
        (bytesOf s v w.vd n (4096 / n)) →
      exec (.vsel w v) s = .next (issued s v (consumer v) 2 1 [res s 2 0 (writes s w.vd n (active s v (4096 / n)) fun j =>
        if m.getLsbD j = true then elt s w.va n j else elt s w.vb n j)]))

/-- VMSET sets the mask bits below s[a]; VMAND, VMOR and VMXOR combine two masks; VMPOP counts the mask bits of the type's
elements and VTOS reads element s[b], both into a scalar register six cycles on (06 R187, R190, Table 6.5). -/
def Sys2Proof.Claims.MasksAndScalars : Prop :=
  ∀ (w : FV) (v : VW) (s : State),
    let n := tyBits w.ty.toNat
    let a := s.cl.masks.get w.va.toNat
    let b := s.cl.masks.get w.vb.toNat
    let sets (i : Instr) (f : Nat → Bool) : Prop :=
      ∃ x, isMask s w.vd.toNat (fun _ => true) f x ∧ exec i s = .next (issued s v (consumer v) 2 1 [res s 2 0 x])
    (goes s v (consumer v) →
      (∀ i ∈ both .vmset32 .vmset64 w v, sets i fun j => decide (j < s.core.cur.a.toNat))
      ∧ (∀ i ∈ both .vmand32 .vmand64 w v, sets i fun j => a.getLsbD j && b.getLsbD j)
      ∧ (∀ i ∈ both .vmor32 .vmor64 w v, sets i fun j => a.getLsbD j || b.getLsbD j)
      ∧ (∀ i ∈ both .vmxor32 .vmxor64 w v, sets i fun j => a.getLsbD j != b.getLsbD j))
    ∧ (goes s v 0 →
      (∀ i ∈ both .vmpop32 .vmpop64 w v,
        exec i s = .next (toS s v w.vd.toNat (BitVec.ofNat 64 ((List.range (4096 / n)).filter fun j => a.getLsbD j).length)))
      ∧ (let e := elt s w.va n s.core.cur.b.toNat
        s.core.cur.b.toNat < 4096 / n → usable s s.isY (elemOffs (s.cl.regOff w.va.toNat) n s.core.cur.b.toNat) [] →
        ∀ i ∈ both .vtos32 .vtos64 w v, exec i s = .next (toS s v w.vd.toNat
          (if tySigned w.ty.toNat then e.signExtend 64 else if w.ty = 14 then (e.setWidth 6).setWidth 64 else e.setWidth 64))))

/-- VMOV copies active elements, VBCAST writes the low bits of s[a] to each, VXMOV copies to the other cluster four cycles
on; VVIEW and TVIEW set a view and a tile from their literal (06 R182, R184, R192, R193). That copies of 6-bit elements copy the whole
byte is the model's reading (log 76). -/
def Sys2Proof.Claims.VectorMoves : Prop :=
  ∀ (w : FV) (v : VW) (s : State), goes s v (consumer v) →
    let n := tyBits w.ty.toNat
    (usable s s.isY (bytesOf s v w.va n (4096 / n)) (bytesOf s v w.vd n (4096 / n)) → ∀ i ∈ both .vmov32 .vmov64 w v,
      exec i s = .next (issued s v (consumer v) 2 1 [res s 2 0 (writes s w.vd n (active s v (4096 / n)) (elt s w.va n))]))
    ∧ (usable s s.isY [] (bytesOf s v w.vd n (4096 / n)) → ∀ i ∈ both .vbcast32 .vbcast64 w v,
      exec i s = .next (issued s v (consumer v) 2 1 [res s 2 0 (writes s w.vd n (active s v (4096 / n)) fun _ =>
        if w.ty = 14 then (s.core.cur.a.setWidth 6).setWidth n else s.core.cur.a.setWidth n)]))
    ∧ (let o := s.core.cluster (!s.isY)
      usable s s.isY (bytesOf s v w.va n (4096 / n)) [] →
      usable s (!s.isY) [] ((active s v (4096 / n)).flatMap fun j => elemOffs (o.regOff w.vd.toNat) n j) →
      ∀ i ∈ both .vxmov32 .vxmov64 w v,
        exec i s = .next (issued s v (consumer v) 4 1 [res s 4 0 (.reg (!s.isY)
          ((active s v (4096 / n)).flatMap fun j => elemPut (o.regOff w.vd.toNat) n j (elt s w.va n j).toNat))]))
    ∧ (∀ l : BitVec 32,
      exec (.vview w v l) s = .next (issued s v (consumer v) 1 1 [res s 1 0 (.vbase s.isY l.toNat)])
      ∧ exec (.tview w v l) s = .next (issued s v (consumer v) 1 1 [res s 1 0 (.tile s.isY (w.vd.toNat % 8)
          { base := 32 * (l.toNat % 2 ^ 12), rows := l.toNat / 2 ^ 12 % 2 ^ 10 + 1, cols := l.toNat / 2 ^ 22 + 1, ty := w.ty.toNat })]))

/-- VNOP takes one cycle; VTKW takes its tokens or waits for them; VTKS adds one pending token that is given when the
results, loads and accesses before it are there (log 20), or raises TOKEN_OVERFLOW (06 R195). -/
def Sys2Proof.Claims.VectorTokens : Prop :=
  ∀ (w : FV) (s : State),
    let st := s.core.cur.stream
    let busy (c : Core) : Core := { c with flow := { c.flow with occ := c.flow.occ.set st (s.core.now + 1) }, out := .done }
    let ws := [w.vd.toNat % 8, w.va.toNat % 8, w.vb.toNat % 8]
    exec (.vnop w) s = .next { s with core := busy s.core }
    ∧ (s.core.tokReady st ws = true → exec (.vtkw w) s = .next { s with core := busy (s.core.tokTake st ws) })
    ∧ (s.core.tokReady st ws = false → exec (.vtkw w) s = .next s.hold)
    ∧ (s.core.tokFull st (w.vd.toNat % 8) = true →
      exec (.vtks w) s = .next (raises s 0x10 (BitVec.ofNat 64 (st * 8 + w.vd.toNat % 8)) 0 0))
    ∧ (s.core.tokFull st (w.vd.toNat % 8) = false → w.vd.toNat % 8 ≠ 7 →
      ∃ g : Sig, g.prod = st ∧ g.cons = w.vd.toNat % 8 ∧ (∀ p ∈ s.core.pend, p.hand = false → p.stream = st → p.due ≤ g.cyc) ∧ s.core.now ≤ g.cyc
        ∧ g.perf = s.openOf st (w.ty ++ w.vb ++ w.va).getLsbD (w.vd.toNat / 8) ∧ (∀ l ∈ s.core.lands, l.stream = st → l.hand = false → l.id ∈ g.lands)
        ∧ exec (.vtks w) s = .next { s with core := busy (s.core.addSig g) })

namespace Sys2Proof.Claims
open Sys2Proof.Machine

/-! ### Cross-lane movement (07 R203 to R210) -/

/-- Element p of r, 0 where p is no active element. -/
def lane (s : State) (v : VW) (r : BitVec 6) (bits p : Nat) : BitVec bits :=
  if p < 4096 / bits ∧ vAct s.cl v p = true then elt s r bits p else 0
/-- The element of the concatenation of x and y (07 R206), 0 where it is no active element. -/
def laneOf (s : State) (v : VW) (bits : Nat) (fill : Word) : Option (BitVec 6 × Nat) → BitVec bits
  | none => fill.setWidth bits
  | some p => lane s v p.1 bits p.2
/-- The movement may run: no active destination element reads an inactive element, unless with perm; what it reads and writes is
usable (07 R204, R205). -/
def movable (s : State) (w : FV) (v : VW) (extra : List Nat) (src : Nat → Option (BitVec 6 × Nat)) : Prop :=
  let n := tyBits w.ty.toNat
  let live (p : BitVec 6 × Nat) : Prop := p.2 < 4096 / n ∧ vAct s.cl v p.2 = true
  (v.perm = 1 ∨ ∀ i ∈ active s v (4096 / n), ∀ p, src i = some p → live p)
  ∧ (∀ rd : List Nat, (∀ o, o ∈ rd ↔ o ∈ extra ∨ ∃ i ∈ active s v (4096 / n), ∃ p, src i = some p ∧ live p ∧ o ∈ elemOffs (s.cl.regOff p.1.toNat) n p.2) →
      usable s s.isY rd (bytesOf s v w.vd n (4096 / n)))
/-- What the movement leaves pending, three cycles on. -/
def moved (s : State) (w : FV) (v : VW) (fill : Word) (src : Nat → Option (BitVec 6 × Nat)) : State :=
  let n := tyBits w.ty.toNat
  issued s v (consumer v) 3 1 [res s 3 0 (writes s w.vd n (active s v (4096 / n)) fun i => laneOf s v n fill (src i))]

/-- The two-register write of VZIP, VUZP and VTRN: element i of vd + h comes from `src h i`. -/
def paired (s : State) (w : FV) (v : VW) (src : Nat → Nat → Nat × Nat) : State :=
  let n := tyBits w.ty.toNat
  issued s v (consumer v) 3 1 [res s 3 0 (.reg s.isY ((active s v (4096 / n)).flatMap fun i => [0, 1].flatMap fun h =>
    elemPut (s.cl.regOff (w.vd.toNat + h)) n i (s.cl.vals (src h i).1 n (src h i).2)))]
def pairable (s : State) (w : FV) (v : VW) (src : Nat → Nat → Nat × Nat) : Prop :=
  let n := tyBits w.ty.toNat
  grouped w.vd 2 ∧ usable s s.isY
    ((active s v (4096 / n)).flatMap fun i => [0, 1].flatMap fun h => elemOffs (s.cl.regOff (src h i).1) n (src h i).2)
    ((active s v (4096 / n)).flatMap fun i => [0, 1].flatMap fun h => elemOffs (s.cl.regOff (w.vd.toNat + h)) n i)

end Sys2Proof.Claims

/-- VSHUP, VSHDN, VROT, VEXT and VPERM that may run write to each active element the element that 07 R206 and R207 name,
three cycles on; a shift fills with s[c] (07 R204). -/
def Sys2Proof.Claims.LaneMovement : Prop :=
  ∀ (w : FV) (v : VW) (s : State), goes s v (consumer v) →
    let n := 4096 / tyBits w.ty.toNat
    let fill : Word := if w.ty = 14 then (s.core.cur.c.setWidth 6).setWidth 64 else s.core.cur.c
    let m := s.core.cur.b.toNat
    let runs (i : Instr) (extra : List Nat) (src : Nat → Option (BitVec 6 × Nat)) : Prop :=
      movable s w v extra src → exec i s = .next (moved s w v fill src)
    (∀ i ∈ both .vshup32 .vshup64 w v, runs i [] fun j => if m ≤ j then some (w.va, j - m) else none)
    ∧ (∀ i ∈ both .vshdn32 .vshdn64 w v, runs i [] fun j => if j + m < n then some (w.va, j + m) else none)
    ∧ (∀ i ∈ both .vrot32 .vrot64 w v, runs i [] fun j => some (w.va, (j + n - m % n) % n))
    ∧ (s.core.cur.c.toNat ≤ n → ∀ i ∈ both .vext32 .vext64 w v, runs i [] fun j =>
        if j + s.core.cur.c.toNat < n then some (w.va, j + s.core.cur.c.toNat) else some (w.vb, j + s.core.cur.c.toNat - n))
    ∧ (let k := max 1 (tyBits v.ty2.toNat / tyBits w.ty.toNat)
      grouped w.vb k → runs (.vperm w v) (gbytes s v w.vb k (tyBits v.ty2.toNat) n) fun j =>
        some (w.va, (gelt s w.vb k (tyBits v.ty2.toNat) j).toNat))

/-- VZIP interleaves, VUZP takes even and odd elements apart, VTRN transposes element pairs, each into two registers (07
R208; that a place of the sources is read whatever its own mask bit is the model's reading, log 28); VCOMPR packs the active elements and
zeros, VEXPD spreads, VIOTA counts the active elements up from s[a] (07 R209, R210). -/
def Sys2Proof.Claims.LanePacking : Prop :=
  ∀ (w : FV) (v : VW) (s : State), goes s v (consumer v) →
    let b := tyBits w.ty.toNat
    let n := 4096 / b
    let zip : Nat → Nat → Nat × Nat := fun h i => let p := h * n + i; (if p % 2 = 0 then w.va.toNat else w.vb.toNat, p / 2)
    let uzp : Nat → Nat → Nat × Nat := fun h i => let p := 2 * i + h; (w.va.toNat + p / n, p % n)
    let trn : Nat → Nat → Nat × Nat := fun h i => (if i % 2 = 0 then w.va.toNat else w.vb.toNat, i / 2 * 2 + h)
    (pairable s w v zip → ∀ i ∈ both .vzip32 .vzip64 w v, exec i s = .next (paired s w v zip))
    ∧ (pairable s w v uzp → grouped w.va 2 → ∀ i ∈ both .vuzp32 .vuzp64 w v, exec i s = .next (paired s w v uzp))
    ∧ (pairable s w v trn → ∀ i ∈ both .vtrn32 .vtrn64 w v, exec i s = .next (paired s w v trn))
    ∧ (usable s s.isY (bytesOf s v w.va b n) ((List.range n).flatMap fun i => elemOffs (s.cl.regOff w.vd.toNat) b i) →
      ∀ i ∈ both .vcompr32 .vcompr64 w v,
        exec i s = .next (issued s v (consumer v) 3 1 [res s 3 0 (writes s w.vd b (List.range n) fun j =>
          match (active s v n)[j]? with
          | some k => elt s w.va b k
          | none => 0)]))
    ∧ (usable s s.isY ((List.range (active s v n).length).flatMap fun i => elemOffs (s.cl.regOff w.va.toNat) b i) (bytesOf s v w.vd b n) →
      ∀ i ∈ both .vexpd32 .vexpd64 w v,
        exec i s = .next (issued s v (consumer v) 3 1 [res s 3 0 (writes s w.vd b (active s v n) fun j =>
          elt s w.va b ((active s v n).filter (· < j)).length)]))
    ∧ (usable s s.isY [] (bytesOf s v w.vd b n) → ∀ i ∈ both .viota32 .viota64 w v,
      exec i s = .next (issued s v (consumer v) 3 1 [res s 3 0 (writes s w.vd b (active s v n) fun j =>
        BitVec.ofNat b (s.core.cur.a.toNat + ((active s v n).filter (· < j)).length))]))

namespace Sys2Proof.Claims
open Sys2Proof.Machine

/-! ### Reductions, conversion and the special functions (07 R211 to R218) -/

/-- One node of a reduction on an integer type of n bits (07 Table 7.3). -/
def intNode (op : Nat) (n : Nat) (sg sat : Bool) (a b : BitVec n) : BitVec n := match op with
  | 0 => fit n sg sat (val sg a + val sg b)
  | 1 => if val sg a ≤ val sg b then a else b
  | 2 => if val sg a ≤ val sg b then b else a
  | 3 => a &&& b
  | 4 => a ||| b
  | _ => a ^^^ b

/-- The elements that a reduction works on, with no flag yet: an active one extended to the type `t`, an inactive one
replaced by the identity of the operation. -/
def reduced (s : State) (w : FV) (v : VW) (t : Nat) : List (Nat × Fp) :=
  let n := tyBits w.ty.toNat
  (List.range (4096 / n)).map fun i =>
    (if vAct s.cl v i then (if t = w.ty.toNat then (elt s w.va n i).toNat else (BitVec.ofInt (tyBits t) (val (tySigned w.ty.toNat) (elt s w.va n i))).toNat)
     else redIdentity (w.vb.toNat % 8) t, 0)

/-- A value of type `t` as an instruction produces it: every NaN is the canonical one (03 R83). -/
def plainNan (t b : Nat) : Nat := match fmtOf t with
  | some f => if f.value b = .nan then f.nan else b
  | none => b

/-- A quantising or converting instruction issued: its writes and flags, and the stochastic counter. -/
def rounds (s : State) (v : VW) (lat occ : Nat) (bs : LBytes) (f : Fp) : State :=
  counted (issued s v (consumer v) lat occ ([res s lat 0 (.reg s.isY bs)] ++ resF s lat f)) v.rm.toNat

end Sys2Proof.Claims

/-- The nodes of 07 Table 7.3 on integer types, and their identities: a node with the identity gives the other operand. -/
def Sys2Proof.Claims.ReductionNodes : Prop :=
  ∀ (op t rm n : Nat) (sg sat : Bool) (a b : BitVec n) (f g : Fp), op < 6 → fmtOf t = none → intOf t = some (n, sg) →
    redNode op t rm sat (a.toNat, f) (b.toNat, g) = ((intNode op n sg sat a b).toNat, f ||| g)
    ∧ redNode op t rm sat (redIdentity op t, f) (b.toNat, g) = (b.toNat, f ||| g)
    ∧ redNode op t rm sat (a.toNat, f) (redIdentity op t, g) = (a.toNat, f ||| g)

/-- VRED writes the tree of its elements to element 0 of vd and leaves the rest; VSCAN writes the inclusive scan to the
active elements, a NaN of position 0 made canonical (log 79); each three cycles on, with the flags of every node (07 R211 to R214, 03 R100, R101). -/
def Sys2Proof.Claims.Reductions : Prop :=
  ∀ (w : FV) (v : VW) (s : State), goes s v (consumer v) →
    let n := tyBits w.ty.toNat
    let t := if v.ty2 = 0 ∨ v.ty2 = w.ty then w.ty.toNat else v.ty2.toNat
    (∀ r, treeFold (redNode (w.vb.toNat % 8) t v.rm.toNat (v.sat == 1)) 10 (reduced s w v t) = [r] →
      usable s s.isY (bytesOf s v w.va n (4096 / n)) (elemOffs (s.cl.regOff w.vd.toNat) (tyBits t) 0) →
      ∀ i ∈ both .vred32 .vred64 w v, exec i s = .next (issued s v (consumer v) 3 1
        ([res s 3 0 (.reg s.isY (elemPut (s.cl.regOff w.vd.toNat) (tyBits t) 0 r.1))] ++ resF s 3 r.2)))
    ∧ (∀ rs, rs = scanFrom (redNode (w.vb.toNat % 8) w.ty.toNat v.rm.toNat (v.sat == 1)) 10 1 (reduced s w v w.ty.toNat) →
      usable s s.isY (bytesOf s v w.va n (4096 / n)) (bytesOf s v w.vd n (4096 / n)) →
      ∀ i ∈ both .vscan32 .vscan64 w v, exec i s = .next (issued s v (consumer v) 3 1
        ([res s 3 0 (.reg s.isY ((active s v (4096 / n)).flatMap fun j => elemPut (s.cl.regOff w.vd.toNat) n j (plainNan w.ty.toNat (rs.getD j (0, 0)).1)))]
          ++ resF s 3 (rs.foldl (fun f p => f ||| p.2) 0))))

/-- The shape of a reduction tree and of a scan: a tree over 2^k elements leaves one; a scan keeps the length, and its element 0 (03
R100, R101). -/
def Sys2Proof.Claims.TreesAndScans : Prop :=
  (∀ (op : Nat → Nat → Nat) (k : Nat) (l : List Nat), l.length = 2 ^ k → ∃ r, treeFold op k l = [r])
  ∧ (∀ (op : Nat → Nat → Nat) (k d : Nat) (l : List Nat), (scanFrom op k d l).length = l.length)
  ∧ (∀ (op : Nat → Nat → Nat) (k d a : Nat) (l : List Nat), 0 < d → (scanFrom op k d (a :: l))[0]? = some a)
  ∧ (∀ l : List Nat, l.length = 8 → treeFold (· + ·) 3 l = [l.sum]
      ∧ ∀ i < 8, (scanFrom (· + ·) 3 1 l)[i]? = some (l.take (i + 1)).sum)

/-- VCVT converts each active element, VSFN evaluates its function of 07 Table 7.4, VQNT quantises blocks of 32 with their
scales, VDQNT restores them; results and flags are pending at the block's latency (07 R215 to R218). Model's choices: the
element count of VCVT (log 21), which roundings count (log 71), a scale behind its block's elements in bytes that both write (log 90). -/
def Obligations.VectorConversion : Prop :=
  ∀ (w : FV) (v : VW) (s : State), goes s v (consumer v) →
    let d := w.ty.toNat
    let t := v.ty2.toNat
    let db := tyBits d
    let sb := tyBits t
    let key (i : Nat) : Word := srKey s.core s.core.cur.stream i
    let o := s.core.cur.b.toNat
    (let dk := max 1 (db / sb)
      let sk := max 1 (sb / db)
      let n := 4096 / sb
      let r : Nat → Nat × Fp := fun i => convert t d v.rm.toNat (v.sat == 1 || s.core.sc.satcvt) (key i) (gelt s w.va sk sb i).toNat
      grouped w.vd dk → grouped w.va sk → usable s s.isY (gbytes s v w.va sk sb n) (gbytes s v w.vd dk db n) →
      exec (.vcvt w v) s = .next (rounds s v 4 dk
        ((active s v n).flatMap fun i => elemPut (s.cl.regOff (w.vd.toNat + i % dk)) db (i / dk) (r i).1)
        ((active s v n).foldl (fun a i => a ||| (r i).2) 0)))
    ∧ (let r : Nat → Nat × Fp := fun i =>
        let x := roundTo fp32 ((fmtOr d).value (elt s w.va db i).toNat) 0 false 0
        let y := sfn w.vb.toNat x.1
        let z := roundTo (fmtOr d) (v32 y.1) 0 false 0
        if d = 8 then y else (z.1, y.2 ||| z.2)
      usable s s.isY (bytesOf s v w.va db (4096 / db)) (bytesOf s v w.vd db (4096 / db)) →
      ∀ i ∈ both .vsfn32 .vsfn64 w v, exec i s = .next (issued s v (consumer v) 10 1
        ([res s 10 0 (.reg s.isY ((active s v (4096 / db)).flatMap fun j => elemPut (s.cl.regOff w.vd.toNat) db j (r j).1))]
          ++ resF s 10 ((active s v (4096 / db)).foldl (fun a j => a ||| (r j).2) 0))))
    ∧ (let n := 4096 / db
      let r : Nat → Nat × Fp := fun i => roundTo (fmtOr d)
        (dqVal t (elt s v.vc 8 ((o + i) / 32)).toNat (elt s w.va sb (o + i)).toNat) v.rm.toNat false (key i)
      o % n = 0 → o + n ≤ 4096 / sb →
      usable s s.isY ((active s v n).flatMap fun i => elemOffs (s.cl.regOff w.va.toNat) sb (o + i) ++ [s.cl.regOff v.vc.toNat + (o + i) / 32])
        (bytesOf s v w.vd db n) →
      exec (.vdqnt w v) s = .next (rounds s v 6 1
        ((active s v n).flatMap fun i => elemPut (s.cl.regOff w.vd.toNat) db i (r i).1)
        ((active s v n).foldl (fun a i => a ||| (r i).2) 0)))
    ∧ (let n := 4096 / sb
      let value : Nat → Machine.Num := fun i => tyValue t (elt s w.va sb i).toNat
      let block : Nat → List Nat := fun k => (active s v n).filter fun i => i / 32 == k
      let scale : Nat → Option Nat := fun k => qScale d ((block k).map value)
      let r : Nat → Nat × Fp := fun i => match scale (i / 32) with
        | none => (0, fIV)
        | some e => qElem d v.rm.toNat (key (o + i)) e (value i)
      let puts : LBytes := ((List.range (n / 32)).filter fun k => !(block k).isEmpty).flatMap fun k =>
        ((block k).flatMap fun i => elemPut (s.cl.regOff w.vd.toNat) db (o + i) (r i).1)
          ++ [{ at_ := s.cl.regOff v.vc.toNat + (o + 32 * k) / 32, mask := 0xFF, val := BitVec.ofNat 8 ((scale k).getD 255), blot := false }]
      o % n = 0 → o + n ≤ 4096 / db → usable s s.isY (bytesOf s v w.va sb n) (puts.map (·.at_)) →
      exec (.vqnt w v) s = .next (rounds s v 6 1 puts (((List.range (n / 32)).filter fun k => !(block k).isEmpty).foldl
        (fun a k => (block k).foldl (fun a i => a ||| (r i).2) a) 0)))

namespace Sys2Proof.Claims
open Sys2Proof.Machine

/-! ### Vector loads and stores (05 R162 to R167) -/

/-- The stride of VLDSD and VLDT, and the units of each vector memory instruction: what it accesses, element by element,
chunk by chunk or row by row, and the operand faults that it checks first. -/
noncomputable def unitsOf (s : State) (w : FV) (v : VW) (m : MW) : List ((FV → VW → MW → Instr) × List (Option Trap) × List VItem) :=
  [(.vld, [], chunkItems s.cl w v (s.vbase m)),
   (.vldsd, [], elemItems s.cl w v fun i => s.vbase m + BitVec.ofNat 64 i * s.core.cur.b),
   (.vldx, idxFaults s.core s.isY w v, elemItems s.cl w v fun i => s.vbase m + BitVec.ofInt 64 (idxAt s.cl w v i * (tyBits w.ty.toNat / 8 : Nat))),
   (.vldt, [(tileItems s.core s.isY w v m (s.vbase m) s.core.cur.b).1], (tileItems s.core s.isY w v m (s.vbase m) s.core.cur.b).2),
   (.vldb, [], let dst := active s v (4096 / (8 * (tyBits w.ty.toNat / 8)))
      if dst.isEmpty then [] else
        [{ unit := 0, first := s.vbase m, base := s.vbase m, size := tyBits w.ty.toNat / 8, align := tyBits w.ty.toNat / 8, skip := 0,
           esz := tyBits w.ty.toNat / 8,
           bytes := dst.flatMap fun i => (List.range (tyBits w.ty.toNat / 8)).map fun k =>
             (k, s.cl.regOff w.vd.toNat + i * (tyBits w.ty.toNat / 8) + k, (0xFF : Byte)) }])]
noncomputable def storeUnits (s : State) (w : FV) (v : VW) (m : MW) : List ((FV → VW → MW → Instr) × List (Option Trap) × List VItem) :=
  [(.vst, [], chunkItems s.cl w v (s.vbase m)),
   (.vstsd, [], elemItems s.cl w v fun i => s.vbase m + BitVec.ofNat 64 i * s.core.cur.b),
   (.vstx, idxFaults s.core s.isY w v, elemItems s.cl w v fun i => s.vbase m + BitVec.ofInt 64 (idxAt s.cl w v i * (tyBits w.ty.toNat / 8 : Nat))),
   (.vstt, [(tileItems s.core s.isY w v m (s.vbase m) s.core.cur.b).1], (tileItems s.core s.isY w v m (s.vbase m) s.core.cur.b).2)]

/-- The register bytes of the units, and the bytes with the place each has when a unit stands at `at_`. -/
def regBytes (items : List VItem) : List Nat := items.flatMap fun it => it.bytes.map fun b => b.2.1
def placed (items : List VItem) (at_ : VItem → Nat) : List (Nat × Nat × Byte) := items.flatMap fun it => it.bytes.map fun b => (at_ it + b.1, b.2)
/-- The cells that a store moves: the register byte of each place, with the mark of its granule. -/
def storeCells (s : State) (items : List VItem) (at_ : VItem → Nat) : LBytes :=
  (placed items at_).map fun b => { at_ := b.1, mask := b.2.2, val := s.cl.reg.read b.2.1, blot := s.cl.blots.get (b.2.1 / 64) }

end Sys2Proof.Claims

/-- A vector load that can issue answers a next state with one load in flight for its register bytes: from the scratchpad
its bytes are read now, from memory they are sampled later; it lands at issue + LAND and memory does not change (05 R162 to R167, R150). -/
def Sys2Proof.Claims.VectorLoads : Prop :=
  ∀ (w : FV) (v : VW) (m : MW) (s : State), goes s v (consumer v) → ∀ e ∈ unitsOf s w v m, ∀ at_ : VItem → Nat,
    (∀ f ∈ e.2.1, f = none) → usable s s.isY [] (regBytes e.2.2) → (m.land = 0 ∨ s.core.entries < 64) →
    let lands (t : State) (data : Option (List Byte × Bool)) (cls scope : Nat) (entry : Bool) : Prop :=
      ∃ l : Land, t.core.lands = s.core.lands ++ [l] ∧ l.id = s.nextId ∧ l.seq = s.core.cur.seq ∧ l.data = data ∧ l.cls = cls
        ∧ l.scope = scope ∧ l.entry = entry ∧ l.due = s.core.now + (if m.land = 0 then 12 else m.land.toNat)
        ∧ l.dest = .v s.isY (e.2.2.flatMap fun it => it.bytes.map fun b => b.2)
        ∧ t.core.out = .done ∧ t.core.pend = s.core.pend ∧ t.mem = s.mem ∧ t.core.scr = s.core.scr ∧ t.core.x = s.core.x ∧ t.core.y = s.core.y
        ∧ t.core.sc = s.core.sc ∧ t.core.hold = s.core.hold
    ((∀ it ∈ e.2.2, s.vloc m .read it = .scr (at_ it)) →
      ∃ t b, exec (e.1 w v m) s = .next t
        ∧ lands t (some ((placed e.2.2 at_).map fun x => s.core.scr.bytes.read x.1, b)) 0 0 (decide (m.land ≠ 0))
        ∧ (b = true ↔ ∃ x ∈ placed e.2.2 at_, s.core.scr.blots.get (x.1 / 64) = true))
    ∧ (e.2.2 ≠ [] → s.core.entries < 64 → (∀ it ∈ e.2.2, ∃ va, s.vloc m .read it = .mem (at_ it) va) →
      ∃ t, exec (e.1 w v m) s = .next t ∧ lands t none m.cls.toNat m.scope.toNat true)

/-- A vector store that can issue answers a next state: into the scratchpad its bytes are seen from the next cycle on; to
memory they wait in the egress hold for 320 cycles; register space and memory are as they were (05 R162 to R166, R174). -/
def Sys2Proof.Claims.VectorStores : Prop :=
  ∀ (w : FV) (v : VW) (m : MW) (s : State), goes s v (consumer v) → ∀ e ∈ storeUnits s w v m, ∀ at_ : VItem → Nat,
    (∀ f ∈ e.2.1, f = none) → (∀ o ∈ regBytes e.2.2, o < s.cl.size ∧ s.core.earlyRead (if s.isY then 3 else 2) o 1 = false) →
    let keeps (t : State) : Prop := t.core.out = .done ∧ t.core.pend = s.core.pend ∧ t.mem = s.mem ∧ t.core.scr = s.core.scr ∧ t.core.x = s.core.x
      ∧ t.core.y = s.core.y ∧ t.core.sc = s.core.sc ∧ t.core.lands = s.core.lands
    (storeCells s e.2.2 at_ ≠ [] → (∀ it ∈ e.2.2, s.vloc m .write it = .scr (at_ it)) →
      ∃ t, exec (e.1 w v m) s = .next t ∧ keeps t ∧ t.core.hold = s.core.hold ∧ t.core.scrNext = s.core.scrNext ++ [storeCells s e.2.2 at_])
    ∧ (storeCells s e.2.2 at_ ≠ [] → (∀ it ∈ e.2.2, ∃ va, s.vloc m .write it = .mem (at_ it) va) →
      ∃ t h, exec (e.1 w v m) s = .next t ∧ keeps t ∧ t.core.scrNext = s.core.scrNext ∧ t.core.hold = s.core.hold ++ [h]
        ∧ heldEff s h m.cls.toNat m.scope.toNat (.cells (storeCells s e.2.2 at_)))
    ∧ (e.2.2 = [] → ∃ t, exec (e.1 w v m) s = .next t ∧ keeps t ∧ t.core.hold = s.core.hold ∧ t.core.scrNext = s.core.scrNext)

namespace Sys2Proof.Claims
open Sys2Proof.Machine

/-- The vector instructions of a vector word alone that signal a consumer of their own. -/
noncomputable def vectorForms1 : List (FV → VW → Instr) :=
  [.vmov64, .vxmov64, .vbcast64, .vmset64, .vmand64, .vmor64, .vmxor64, .vadd64, .vsub64, .vadds64, .vsubs64, .vmul64,
   .vmulh64, .vmulw64, .vmac, .vmacw, .vdot4, .vand64, .vor64, .vxor64, .vshl64, .vshr64, .vsha64, .vmin64, .vmax64, .vabs64,
   .vneg64, .vcmp64, .vsel, .vaddmin, .vaddmax, .vclz64, .vpopc64]
noncomputable def vectorForms2 : List (FV → VW → Instr) :=
  [.vfadd64, .vfsub64, .vfmul64, .vfma, .vfms, .vfnma, .vfmin64, .vfmax64, .vfabs64, .vfneg64, .vfcmp64, .vfdiv64, .vfsqrt64,
   .vsfn64, .vcvt, .vqnt, .vdqnt, .vshup64, .vshdn64, .vrot64, .vperm, .vred64, .vscan64, .vzip64, .vuzp64, .vext64, .vcompr64,
   .vexpd64, .vtrn64, .viota64]
noncomputable def vectorForms3 (w : FV) (v : VW) (m : MW) (l : BitVec 32) : List Instr :=
  [.vview w v l, .tview w v l, .vld w v m, .vst w v m, .vldsd w v m, .vstsd w v m, .vldx w v m, .vstx w v m, .vldt w v m,
   .vstt w v m, .vldb w v m]

end Sys2Proof.Claims

/-- At the head of its queue a vector instruction waits for its tokens, changing nothing; with its token counter full it
raises TOKEN_OVERFLOW; gated off it takes its tokens, gives its token one cycle on and does nothing else (02 R52, 04 R132, 05 R156). -/
def Sys2Proof.Claims.VectorIssue : Prop :=
  ∀ (w : FV) (v : VW) (m : MW) (l : BitVec 32) (s : State),
    ∀ i ∈ (vectorForms1.map fun f => f w v) ++ (vectorForms2.map fun f => f w v) ++ vectorForms3 w v m l,
      let st := s.core.cur.stream
      let ready := s.core.tokReady st (tokWaits v.tok)
      let full := s.core.tokFull st (consumer v)
      (ready = false → exec i s = .next s.hold)
      ∧ (ready = true → consumer v ≠ 7 → full = true → exec i s = .next (raises s 0x10 (BitVec.ofNat 64 (st * 8 + consumer v)) 0 0))
      ∧ (ready = true → (consumer v = 7 ∨ full = false) → s.core.cur.gate = some false →
        exec i s = .next { s with core := { (s.core.tokTake st (tokWaits v.tok)).signalAt (consumer v) 1 with out := .done } })

namespace Sys2Proof.Claims
open Sys2Proof.Machine

/-! ### Requests to a peer package (13 R394 to R401) -/

/-- The little-endian bytes of a word. -/
def leBytes (n : Nat) (x : Word) : List Byte := (List.range n).map fun i => x.extractLsb' (8 * i) 8
/-- A request that stands in the hold: offset, operation, data and blots. -/
def peerReq (pa : Nat) (op : FabOp) (data : List Byte) (blots : List Bool) : FabReq :=
  { origin := 0, target := 0, txn := 0, off := BitVec.ofNat 42 pa, op := op, data := data, blots := blots }
/-- The target package of a peer address: bits 49:42 (13 R395). -/
def peerOf (pa : Nat) : Nat := pa / 2 ^ 42 % 256
/-- The address resolves to `pa` in a package that can be reached and has room for one more request (13 R389, R395, R400). -/
def atPeerOk (s : State) (u : Use) (va : Word) (align pa : Nat) : Prop :=
  va.toNat % align = 0 ∧ s.fabXlate u va = .ok pa ∧ s.fab.reach (peerOf pa) = true ∧ s.unacked (peerOf pa) < 4096
/-- What TRAP_INFO1 of a fabric fault at dispatch names: the target package, where the address's page lies in the peer export range
(13 R401), else what 14 Table 14.4 gives. -/
def peerName (s : State) (va other : Word) : Word :=
  match if Machine.canonical va then tlbFind s.core.dom va.toNat s.core.tlb else none with
  | some e => if rangeOf (e.pa + (va.toNat - e.va)) = .peer then BitVec.ofNat 64 (peerOf (e.pa + (va.toNat - e.va))) else other
  | none => other
/-- The pieces of up to 256 bytes of the ranges of a block: peer address, scratchpad offset, length, and the range that it lies in. -/
def cutUp : Nat → List (Nat × Nat) → List (Nat × Nat × Nat × Nat × Nat)
  | _, [] => []
  | src, (a, n) :: r => ((List.range ((n + 255) / 256)).map fun i => (a + 256 * i, src + 256 * i, min 256 (n - 256 * i), a % 2 ^ 42, n)) ++ cutUp (src + n) r
/-- A held request to a peer. -/
def heldReq (s : State) (h : Eff) (cls pa : Nat) (op : FabOp) (data : List Byte) (land : Option Nat) : Prop :=
  ∃ tr : Trap, tr.i1 = BitVec.ofNat 64 (peerOf pa) ∧ tr.pc = s.core.cur.folio ∧ tr.slot = s.core.cur.slot
    ∧ heldEff s h cls 4 (.fabric (peerReq pa op data []) (peerOf pa) land tr)

end Sys2Proof.Claims

/-- PST, PRED and PFENCE put their request into the egress hold; PFAA and PCAS do so too and hold a landing entry for the old
value; PLD sends its read at once with a landing entry, and takes the target's next transaction number (13 R396 to R400). -/
def Sys2Proof.Claims.FabricRequests : Prop :=
  ∀ (w : FA) (m : MW) (s : State) (pa : Nat),
    let va := addrA s w m
    let n := amoWidth w
    let cls := m.cls.toNat
    (atPeerOk s .write va n pa →
      (∃ h, heldReq s h cls pa .write (leBytes n (s.rs w.d.toNat)) none ∧ exec (.pst w m) s = .next (holding s h []))
      ∧ (∃ h, heldReq s h cls pa (.atomic (BitVec.ofNat 8 (0x6C + w.d.toNat % 8)) w.fn 0) (leBytes n (s.rs w.b.toNat)) none
        ∧ exec (.pred w m) s = .next (holding s h []))
      ∧ (s.core.entries < 64 → s.core.preempting = false → ∀ e ∈ [((.pfaa : FA → MW → Instr), (0x60 : BitVec 8)), (.pcas, 0x69)],
        ∃ (l : Land) (h : Eff), landOf s l cls 4 true m.land.toNat (.s (place64 s w.d.toNat) n (decide (w.fn.getLsbD 2 = false))) .reply va
          ∧ l.data = none ∧ l.fabric = true ∧ l.pld = false
          ∧ heldReq (loading s l) h cls pa (.atomic e.2 w.fn (s.rs w.d.toNat)) (leBytes n (s.rs w.b.toNat)) (some l.id)
          ∧ exec (e.1 w m) s = .next (holding (loading s l) h [])))
    ∧ (atPeerOk s .write va 8 pa →
      ∃ h, heldReq s h cls pa .write (leBytes 8 (s.rs w.b.toNat)) none ∧ exec (.pfence w m) s = .next (holding s h []))
    ∧ (atPeerOk s .read va n pa → s.core.entries < 64 →
      ∃ (l : Land) (o : FabOut), landOf s l cls 4 true m.land.toNat (.s (place64 s w.d.toNat) n (decide (w.fn.getLsbD 2 = false))) .reply va
        ∧ l.data = none ∧ l.fabric = true ∧ l.pld = true
        ∧ o.id = s.nextId ∧ o.core = s.id ∧ s.core.flow.dom + s.fab.rtt (peerOf pa) ≤ o.floor ∧ (peerOf pa ≠ s.fab.own → o.floor = s.core.flow.dom + s.fab.rtt (peerOf pa)) ∧ o.owner = some s.core.owner ∧ o.cls = cls ∧ o.target = peerOf pa ∧ o.land = some l.id
        ∧ o.txn = s.fab.txn.get (peerOf pa) ∧ o.req = { peerReq pa (.read n) [] [] with txn := s.fab.txn.get (peerOf pa), origin := BitVec.ofNat 8 s.fab.own, target := BitVec.ofNat 8 (peerOf pa) }
        ∧ exec (.pld w m) s = .next { loading s l with
          freeCtr := s.freeCtr + (if peerOf pa = s.fab.own then 2 else 1)
          fab := { s.fab with
            out := s.fab.out ++ [o]
            txn := s.fab.txn.set (peerOf pa) ((s.fab.txn.get (peerOf pa) + 1) % 65536) } })

/-- A block PST answers a next state in which its bytes wait in the egress hold with their blots, as one request for each piece of up to
256 bytes of its ranges of consecutive peer addresses; each names the range, which the target judges whole (13 R396, R400; that pages
of consecutive peer addresses make one range is the model's choice, log 38). -/
def Sys2Proof.Claims.BlockStores : Prop :=
  ∀ (w : FA) (m : MW) (s : State) (ps : List (Nat × Nat)),
    let va := addrA s w m
    let src := (s.rs w.d.toNat).toNat
    let n := (s.rs w.b.toNat).toNat
    va.toNat % 64 = 0 → src % 64 = 0 → n % 64 = 0 → 64 ≤ n → n ≤ 65536 → src + n ≤ 2 ^ 21 → s.core.earlyRead 1 src n = false →
    (∃ qs, s.blockPlaces 18 va n = .inl qs ∧ ps = joinPieces qs) →
    let qs := cutUp src ps
    (∀ q ∈ qs, s.fab.reach (peerOf q.1) = true ∧ s.unacked (peerOf q.1) + (qs.filter fun x => peerOf x.1 == peerOf q.1).length ≤ 4096) →
    ∃ (t : State) (hs : List Eff), exec (.pstBlock w m) s = .next t ∧ t.core.out = .done ∧ t.mem = s.mem ∧ t.core.scr = s.core.scr
      ∧ t.core.pend = s.core.pend ∧ t.core.hold = s.core.hold ++ hs ∧ hs.length = qs.length
      ∧ ∀ (k : Nat) (q : Nat × Nat × Nat × Nat × Nat), qs[k]? = some q → ∃ (h : Eff) (tr : Trap), hs[k]? = some h ∧ h.leave = s.core.flow.conf + 320
        ∧ h.owner = s.core.owner ∧ h.cls = m.cls.toNat
        ∧ h.kind = .fabric { peerReq q.1 .write (scrBytes s q.2.1 q.2.2.1) ((List.range (q.2.2.1 / 64)).map fun i => s.core.scr.blots.get (q.2.1 / 64 + i)) with
            block := some (q.2.2.2.1, q.2.2.2.2) } (peerOf q.1) none tr

/-- A fabric instruction whose address is misaligned raises MISALIGNED, one whose target cannot be reached raises PEER_UNREACHABLE with the
package, and one whose target has 4096 requests open waits (13 R389, R395, R400; TRAP_INFO1 of the other orders as log 38 has it). -/
def Sys2Proof.Claims.FabricRefusals : Prop :=
  ∀ (w : FA) (m : MW) (s : State) (pa : Nat),
    let va := addrA s w m
    ∀ e ∈ [((.pld : FA → MW → Instr), Use.read, amoWidth w), (.pst, .write, amoWidth w), (.pfaa, .write, amoWidth w),
        (.pcas, .write, amoWidth w), (.pred, .write, amoWidth w), (.pfence, .write, 8)],
      (va.toNat % e.2.2 ≠ 0 → exec (e.1 w m) s = .next (raises s 0x07 va (peerName s va 0) 0))
      ∧ (va.toNat % e.2.2 = 0 → s.fabXlate e.2.1 va = .ok pa →
        (s.fab.reach (peerOf pa) = false → exec (e.1 w m) s = .next (raises s 0x16 va (BitVec.ofNat 64 (peerOf pa)) 0))
        ∧ (s.fab.reach (peerOf pa) = true → 4096 ≤ s.unacked (peerOf pa) → exec (e.1 w m) s = .next s.hold))

namespace Sys2Proof.Claims
open Sys2Proof.Machine

/-! ### Engine streams: issue and the matrix context (02 R52, 08 R231 to R246) -/

/-- The engine instruction at the head of its queue has its tokens, room for the one it gives, and no gate. -/
def goesE (s : State) (e : EW) : Prop :=
  s.core.tokReady s.core.cur.stream (tokWaits e.tok) = true
  ∧ (e.tok.toNat % 8 = 7 ∨ s.core.tokFull s.core.cur.stream (e.tok.toNat % 8) = false) ∧ s.core.cur.gate ≠ some false

/-- The core `c` with the instruction issued: the stream's next issue one cycle on, its tokens taken. -/
def ran (s : State) (e : EW) (c : Core) : Core :=
  ({ c with
      flow := { c.flow with occ := c.flow.occ.set s.core.cur.stream (s.core.now + 1) }
      out := .done } : Core).tokTake s.core.cur.stream (tokWaits e.tok)

/-- `s` with the instruction issued and its core as given. -/
def ranWith (s : State) (e : EW) (c : Core) : State := { s with core := ran s e c }

/-- A token of stream `prod` pending for the end of the operation at hand, with `outs` for its effects as well. -/
def opSignal (e : EW) (prod : Nat) (outs : Bool) (c : Core) : Core :=
  if e.tok.toNat % 8 = 7 then c else
  c.addSig { prod := prod, cons := e.tok.toNat % 8, hand := false, cyc := c.now, perf := [], lands := [], ended := some c.cur.seq, outs := outs }

/-- A no-operation of an engine stream. -/
def idles (s : State) : State :=
  { s with core := { s.core with
      flow := { s.core.flow with occ := s.core.flow.occ.set s.core.cur.stream (s.core.now + 1) }
      out := .done } }

/-- The matrix engine of the quad and its order of drains. -/
def quadOrder (s : State) (x : Nat × Nat) : Store (Option Quad) :=
  let q := quadOf s (s.id / 4)
  s.quads.set (s.id / 4) (some { q with epi := q.epi ++ [x] })

/-- 32-bit word j of the scratchpad from `a`. -/
def scrWord (s : State) (a j : Nat) : BitVec 32 := BitVec.ofNat 32 (leNat (scrBytes s (a + 4 * j) 4))

end Sys2Proof.Claims

/-- MCFG writes one field of the shadow nest table from its literal, MCFGV eight from the scratchpad, MPIN and MUNPIN change the pins of a
slot, each one cycle on; MSTAT stores status and progress; MFENCE completes once every earlier M instruction has (08 R238 to R246). -/
def Sys2Proof.Claims.MatrixSetup : Prop :=
  ∀ (e : EW) (s : State),
    (∀ w : FE, exec (.mnop w) s = .next (idles s))
    ∧ (goesE s e →
      (∀ (w : FC) (l : BitVec 32), exec (.mcfg w e l) s = .next (ranWith s e
          (({ s.core with pend := s.core.pend ++ [res s 1 0 (.nest w.d.toNat l)] } : Core).signalAt (e.tok.toNat % 8) 1)))
      ∧ (∀ w : FB, let a := (s.core.cur.a + 4 * w.imm.signExtend 64).toNat
        a % 4 = 0 → a + 32 ≤ 2 ^ 21 → (∀ j < 8, nestLegal (w.d.toNat + j) (scrWord s a j) = true) →
        (∀ i < 32, s.core.scr.blots.get ((a + i) / 64) = false) →
        exec (.mcfgv w e) s = .next (ranWith s e (({ s.core with
          pend := s.core.pend ++ [0, 1, 2, 3, 4, 5, 6, 7].map fun j => res s 1 0 (.nest (w.d.toNat + j) (scrWord s a j)) } : Core).signalAt (e.tok.toNat % 8) 1)))
      ∧ (∀ w : FE, let m := s.core.mat.sized
        s.core.mat.clear = 0 → m.resize = none → m.size ≤ w.misc.toNat % 16 →
        exec (.mpin w e) s = .next (ranWith s e (({ s.core with
          mat := m
          pend := s.core.pend ++ [res s 1 0 (.pin (w.misc.toNat % 16) true (w.misc.getLsbD 4))] } : Core).signalAt (e.tok.toNat % 8) 1)))
      ∧ (∀ w : FE, s.core.mat.clear = 0 → s.core.mat.busy (w.misc.toNat % 16) = false →
        exec (.munpin w e) s = .next (ranWith s e (({ s.core with
          pend := s.core.pend ++ [res s 1 0 (.pin (w.misc.toNat % 16) false false)] } : Core).signalAt (e.tok.toNat % 8) 1)))
      ∧ (∀ w : FE, s.core.cur.a.toNat % 16 = 0 → s.core.cur.a.toNat + 16 ≤ 2 ^ 21 →
        exec (.mstat w e) s = .next (ranWith s e (({ s.core with
          scrNext := s.core.scrNext ++ [(leBytes 8 s.core.mat.status ++ leBytes 8 s.core.mat.mprog).mapIdx fun i b =>
            { at_ := s.core.cur.a.toNat + i, mask := 0xFF, val := b, blot := false }]
          mat := if w.misc.getLsbD 6 then { s.core.mat with flags := 0 } else s.core.mat } : Core).signalAt (e.tok.toNat % 8) 0)))
      ∧ (∀ w : FE, exec (.mfence w e) s =
          if s.core.mat.nest = none ∧ s.core.mat.drains = [] ∧ s.core.mat.xfers = [] ∧ s.performed (s.openOf 3 (fun _ => true) e.scope.toNat) = true
          then .next (ranWith s e (s.core.signalAt (e.tok.toNat % 8) 0)) else .next s.hold))

/-- MGO starts the nest of the shadow table on its slots and moves the ring head; MDRAIN takes the ring's tail or a pinned
slot into the epilogue unit's order; MSAVE and MLOAD begin a slot transfer (08 R231 to R236, R241 to R244). -/
def Obligations.MatrixOperations : Prop :=
  ∀ (e : EW) (s : State), goesE s e →
    (∀ w : FE, let m := s.core.mat.sized
      let g := m.goMode w.misc.toNat
      s.running (24 + s.id / 32) = true → s.core.mat.nest = none → s.core.mat.clear = 0 →
      (∀ p ∈ g.2.slots m.size, p ∉ m.inUse) → m.goFault g.2 = none →
      ∃ n : Nest, n.seq = s.core.cur.seq ∧ n.mode = g.2 ∧ n.zero = g.1 ∧ n.count = Table.steps m.shadow ∧ n.cls = e.cls.toNat ∧ n.faulted = false
        ∧ exec (.mgo w e) s = .next (ranWith s e (opSignal e s.core.cur.stream false { s.core with
            mat := { m with
              active := m.shadow
              step := 0
              rb := 0
              valid := true
              nest := some n
              h := (match g.2 with
                | .head h0 f => (h0 + f) % m.size
                | _ => m.h)
              res := (match g.2 with
                | .head _ f => f
                | _ => m.res) } })))
    ∧ (∀ w : FE, let m := s.core.mat
      let t : Table := m.shadow
      let pinned := w.misc.getLsbD 12
      let p := if pinned then w.misc.toNat / 2 ^ 13 % 16 else m.t
      m.clear = 0 → m.busy p = false → t.drainAlign s.core.cur.a s.core.cur.b = none → t.bits 37 4 4 ≠ 0 →
      (t.bits 37 4 4 = 13 → t.en % 2 = 1) → (if pinned then m.pinMask.getLsbD p = true else m.res + m.occ ≠ m.bnd) →
      ∃ d : Drain, d.seq = s.core.cur.seq ∧ d.slot = p ∧ d.pinned = pinned ∧ d.o = s.core.cur.a ∧ d.v = s.core.cur.b ∧ d.fields = m.shadow ∧ d.row = 0
        ∧ d.started = false ∧ d.cls = e.cls.toNat ∧ d.scope = e.scope.toNat ∧ d.key = srKey s.core 3 0
        ∧ exec (.mdrain w e) s = .next { s with
            quads := quadOrder s (s.id, s.core.cur.seq)
            core := ran s e (opSignal e 3 (decide (e.scope ≠ 0)) ({ s.core with mat := { m with
              drains := m.drains ++ [d]
              t := if pinned then m.t else (m.t + 1) % m.size
              bnd := if pinned then m.bnd else m.bnd + 1 } }.srBump 3 (t.bits 37 8 3))) })
    ∧ (∀ w : FB, let p := w.d.toNat % 16
      let a := s.core.cur.a + 64 * w.imm.signExtend 64
      s.core.mat.clear = 0 → s.core.mat.busy p = false → a.toNat % 64 = 0 →
      ∀ i ∈ [((.msave : FB → EW → Instr), true), (.mload, false)],
        ∃ x : Xfer, x.seq = s.core.cur.seq ∧ x.save = i.2 ∧ x.slot = p ∧ x.addr = a ∧ x.row = 0 ∧ x.cls = e.cls.toNat ∧ x.scope = e.scope.toNat
          ∧ exec (i.1 w e) s = .next { s with
              freeCtr := s.freeCtr + 1
              core := ran s e (opSignal e 3 (decide (e.scope ≠ 0)) { s.core with mat := { s.core.mat with xfers := s.core.mat.xfers ++ [x] } }) })

/-- MDRAIN, MSAVE, MLOAD, MPIN, MUNPIN and MGO wait while the context is being cleared; MGO while the core has a nest and while
a slot that it names is in use, MDRAIN, MSAVE, MLOAD and MUNPIN while theirs is (08 R219, R234, R241, R243, R244). -/
def Sys2Proof.Claims.MatrixWaits : Prop :=
  ∀ (e : EW) (w : FE) (v : FB) (s : State), goesE s e →
    let m := s.core.mat
    let p := if w.misc.getLsbD 12 then w.misc.toNat / 2 ^ 13 % 16 else m.t
    (m.clear ≠ 0 → exec (.mpin w e) s = .next s.hold)
    ∧ (m.clear ≠ 0 ∨ m.busy p = true → exec (.mdrain w e) s = .next s.hold)
    ∧ (m.clear ≠ 0 ∨ m.busy (v.d.toNat % 16) = true → exec (.msave v e) s = .next s.hold ∧ exec (.mload v e) s = .next s.hold)
    ∧ (m.clear ≠ 0 ∨ m.busy (w.misc.toNat % 16) = true → exec (.munpin w e) s = .next s.hold)
    ∧ (s.running (24 + s.id / 32) = true → m.clear ≠ 0 ∨ m.nest ≠ none ∨ (∃ q ∈ (m.sized.goMode w.misc.toNat).2.slots m.sized.size, q ∈ m.sized.inUse) →
        exec (.mgo w e) s = .next s.hold)
    ∧ (s.running (24 + s.id / 32) = false → exec (.mgo w e) s = .next (raises s 0x0E 0 (BitVec.ofNat 64 (24 + s.id / 32)) 0))

namespace Sys2Proof.Claims
open Sys2Proof.Machine

/-! ### The copy stream (10 R298 to R318, R327, R328) -/

/-- Every touched byte of a side lies inside its core-local space (10 R299). -/
def inside (s : State) (m : EMap) (e : Nat) : Prop := m.space ≠ 0 → ∀ r ∈ m.rows e, r.1.toNat + r.2 ≤ s.core.spaceSize m.space

/-- `s` with the copy `k` in progress; a reduction's token waits for its writes at every scope (10 R313). -/
def copying (s : State) (e : EW) (k : Copy) : State :=
  { s with
    freeCtr := s.freeCtr + 1
    core := ran s e { opSignal e 4 (decide (e.scope ≠ 0) || k.kind.reduces) s.core with cpy := { s.core.cpy with copies := s.core.cpy.copies ++ [k] } } }
/-- `s` with a copy of no element done: its token is given one cycle on. -/
def copiedNone (s : State) (e : EW) : State := (ranWith s e (s.core.signalAt (e.tok.toNat % 8) 1))

/-- A copy of `n` elements as it begins. -/
def begins (s : State) (e : EW) (k : Copy) (kind : CopyKind) (es se n unit : Nat) (src dst : EMap) : Prop :=
  k.seq = s.core.cur.seq ∧ k.kind = kind ∧ k.e = es ∧ k.se = se ∧ k.n = n ∧ k.unit = unit ∧ k.src = src ∧ k.dst = dst ∧ k.timed = false
  ∧ k.cls = e.cls.toNat ∧ k.scope = e.scope.toNat ∧ k.prog = 0 ∧ k.faulted = false ∧ k.folio = s.core.cur.folio ∧ k.slot = s.core.cur.slot
/-- A C instruction of `n` elements: with none it is over, else its copy begins. -/
def copies (s : State) (e : EW) (i : Instr) (kind : CopyKind) (es se n unit : Nat) (src dst : EMap) : Prop :=
  if n = 0 then exec i s = .next (copiedNone s e)
  else ∃ k, begins s e k kind es se n unit src dst ∧ exec i s = .next (copying s e k)

/-- The bytes of an fn code's element. -/
def elemSize (fn : BitVec 4) : Nat := if fn = 4 then 64 else 2 ^ fn.toNat
/-- One side of CPY. -/
def flat (sp : Nat) (a : Word) (n es : Nat) : EMap := { space := sp, base := a, dims := [(n, (es : Int))] }

end Sys2Proof.Claims

/-- CPY, CPY2 and CFILL that have a free place, aligned operands and sides inside their spaces begin their copy, element
by element on the maps of 10 R305 and R306; of no element they are over. -/
def Sys2Proof.Claims.CopiesIssue : Prop :=
  ∀ (w : FA) (e : EW) (s : State), goesE s e → s.core.copiesFull = false →
    let es := elemSize w.fn
    let a := s.core.cur.a
    let b := s.core.cur.b
    let d := s.core.cur.d
    let n := b.toNat / es
    let ds := xb e 0 2
    let ss := xb e 2 2
    (a.toNat % es = 0 → d.toNat % es = 0 → b.toNat % es = 0 → b.toNat < 2 ^ 40 → xb e 4 1 = 0 →
      (n ≠ 0 → inside s (flat ss a n es) es ∧ inside s (flat ds d n es) es) →
      copies s e (.cpy w e) .plain es es n 1 (flat ss a n es) (flat ds d n es))
    ∧ (d.toNat % es = 0 → b.toNat % es = 0 → b.toNat < 2 ^ 40 → (n ≠ 0 → inside s (flat ds d n es) es) →
      copies s e (.cfill w e) (.fill a) es es n 1 { space := 0, base := 0, dims := [] } (flat ds d n es))
    ∧ (let wid := b.toNat % 2 ^ 32
      let rows := b.toNat / 2 ^ 32
      let sp := s.core.cur.b1.extractLsb' 0 32
      let dp := s.core.cur.b1.extractLsb' 32 32
      let src : EMap := { space := ss, base := a, dims := [(wid / es, (es : Int)), (rows, sp.toInt)] }
      let dst : EMap := { space := ds, base := d, dims := [(wid / es, (es : Int)), (rows, dp.toInt)] }
      a.toNat % es = 0 → d.toNat % es = 0 → wid % es = 0 → sp.toNat % es = 0 → dp.toNat % es = 0 → (rows ≠ 0 → wid ≠ 0 ∧ wid < 2 ^ 31) → xb e 4 1 = 0 →
      (rows * (wid / es) ≠ 0 → inside s src es ∧ inside s dst es) →
      copies s e (.cpy2 w e) .plain es es (rows * (wid / es)) 1 src dst)

/-- CPYT copies the tile that its two layout records describe (10 R307); the CPYX forms convert, scale, add or reduce
elements of two types (10 R312); what a conversion with sr counts is the model's reading (log 71). -/
def Sys2Proof.Claims.RecordAndTransformCopies : Prop :=
  ∀ (w : FA) (e : EW) (s : State), goesE s e → s.core.copiesFull = false →
    let a := s.core.cur.a
    let d := s.core.cur.d
    (let ls := s.core.cur.la
      let ld := s.core.cur.lb
      let tile := decide (xb e 5 1 = 1)
      let es := max 1 (tyBits (layType ls) / 8)
      ls ≠ 0 → ld ≠ 0 → layType ls = layType ld → layDims ls = layDims ld → xb e 4 1 = 0 →
      ∀ ext off, tileExtents ls tile a = some (ext, off) →
      (∀ j < ext.length, if tile then ext.getD j 0 ≤ layCount ld j else ext.getD j 0 = layCount ld j) →
      let src := layMap (xb e 2 2) ls (layBase ls + (if tile then 0 else a) + BitVec.ofInt 64 off) ext
      let dst := layMap (xb e 0 2) ld (layBase ld + d) ext
      src.base.toNat % es = 0 → dst.base.toNat % es = 0 → (src.count ≠ 0 → inside s src es ∧ inside s dst es) →
      copies s e (.cpyt w e) .plain es es src.count (if tyBits (layType ls) = 4 then 2 else 1) src dst)
    ∧ (let se := tyBits (xb e 2 4) / 8
      let de := tyBits (xb e 6 4) / 8
      let n := s.core.cur.b.toNat
      let src := flat (xb e 0 2) a n se
      let dst := flat 0 d n de
      a.toNat % se = 0 → d.toNat % de = 0 → inside s src se →
      ∀ i ∈ [((.cpyxCast : FA → EW → Instr), 0), (.cpyxScale, 1), (.cpyxAdd, 2), (.cpyxReduce, 3)],
        let kind : CopyKind := .x i.2 (xb e 2 4) (xb e 6 4) (xb e 10 3) (s.core.cur.b1.extractLsb' 0 32) (srKey s.core 4 0)
        if n = 0 then exec (i.1 w e) s = .next ((copiedNone s e).srBump 4 (xb e 10 3))
        else ∃ k, begins s e k kind de se n 1 src dst ∧ exec (i.1 w e) s = .next ((copying s e k).srBump 4 (xb e 10 3)))

/-- CSIG, CPREF and the CFLUSH forms go in progress on their word or lines, CFLUSH discard needs SUP; CFENCE completes once
the C instructions of its classes have; CNOP takes one cycle (10 R316, R317, R327, R328). -/
def Sys2Proof.Claims.CopyControl : Prop :=
  ∀ (e : EW) (s : State),
    (∀ w : FE, exec (.cnop w) s = .next (idles s))
    ∧ (goesE s e → ∀ w : FA,
      let none' : EMap := { space := 0, base := 0, dims := [] }
      let a := s.core.cur.a.toNat
      let n := s.core.cur.b.toNat
      let lines := if n = 0 then 0 else (a % 64 + n + 63) / 64
      let src : EMap := { space := 0, base := BitVec.ofNat 64 (a / 64 * 64), dims := [(lines, 64)] }
      let unused : EMap := { space := 1, base := 0, dims := [] }
      let sig : EMap := { space := xb e 0 1, base := s.core.cur.d, dims := [(1, 8)] }
      (s.core.cur.d.toNat % 8 = 0 → inside s sig 8 →
        copies s e (.csig w e) (.sig s.core.cur.a (xb e 1 1 == 1) (xb e 1 1 == 1 || e.cls == 15)) 8 8 1 1 none' sig)
      ∧ copies s e (.cpref w e) .pref 64 64 lines 1 src unused
      ∧ copies s e (.cflushClean w e) (.flush 0) 64 64 lines 1 src unused
      ∧ copies s e (.cflushInval w e) (.flush 1) 64 64 lines 1 src unused
      ∧ (s.core.sc.priv ≠ 0 → copies s e (.cflushDiscard w e) (.flush 2) 64 64 lines 1 src unused)
      ∧ (s.core.sc.priv = 0 → exec (.cflushDiscard w e) s = .next (raises s 0x04 0 1 0)))
    ∧ (goesE s e → ∀ w : FE, exec (.cfence w e) s =
        if s.cDone s.core.cur.seq e.scope.toNat (w.misc.setWidth 16).getLsbD = true
        then .next (ranWith s e (s.core.signalAt (e.tok.toNat % 8) 0)) else .next s.hold)

/-- A timed copy whose source resolves to drawer memory on channels where the strand owns slots claims its frames: every
byte of it stands in a run inside one location of 8 bytes that lands 832 cycles after issue or a whole number of frames later; where
two elements write one byte, the run of the higher one writes it (10 R301, R319 to R322). It waits while a signalled copy that comes
before it by R329 is in progress: the model's choice (log 84). -/
def Sys2Proof.Claims.TimedCopies : Prop :=
  ∀ (w : FA) (e : EW) (s : State), goesE s e → s.core.copiesFull = false →
    let es := elemSize w.fn
    let a := s.core.cur.a
    let b := s.core.cur.b
    let d := s.core.cur.d
    let n := b.toNat / es
    let src := flat (xb e 2 2) a n es
    let dst := flat (xb e 0 2) d n es
    xb e 2 2 = 0 → a.toNat % es = 0 → d.toNat % es = 0 → b.toNat % es = 0 → b.toNat < 2 ^ 40 → xb e 4 1 = 1 → n ≠ 0 → inside s dst es →
    s.core.preempting = false → s.unordered (s.newCopy e .plain es es n src dst) = false → (∀ l, s.core.cpy.last = some l → l.1 + 62 * l.2 ≤ s.core.flow.cycle) →
    (s.core.sc.chkEarly = true → (s.core.cpy.copies.filter (·.timed)).length < 32) →
    ∀ ps, s.run .read a b.toNat = .ok ps → (∀ p ∈ ps, rangeOf (paOf p.1) = .drawer) →
    (∀ p ∈ ps, ∀ i < p.2, s.drawer.ech s.id s.core.dom ((p.1 + i) / 256 % 128) ≠ 0) →
    ∃ (t : State) (k : Copy) (f : Nat), exec (.cpy w e) s = .next t ∧ t.core.out = .done ∧ t.mem = s.mem ∧ t.core.pend = s.core.pend ∧ t.core.hold = s.core.hold
      ∧ t.core.cpy.copies = s.core.cpy.copies ++ [k] ∧ k.timed = true ∧ k.n = n ∧ k.src = src ∧ k.dst = dst
      ∧ t.core.cpy.last = some (s.core.flow.cycle, f)
      ∧ (∀ g ∈ k.grans, g.len = g.dst.length ∧ g.data = none ∧ ∃ j, g.due = s.core.flow.cycle + 832 + 62 * j)
      ∧ ∀ x < n, ∀ i < es, ∃ g ∈ k.grans, [(dst.at x).toNat + i] ∈ g.dst

namespace Sys2Proof.Claims
open Sys2Proof.Machine

/-! ### The bank stream (09 R260, R276 to R291) -/

/-- A macro as it leaves the queue: on the strand's group, with nothing done in any stack. -/
def leaves (s : State) (e : EW) (f g : Nat) (kind : MacroKind) (m : Macro) : Prop :=
  m.seq = s.core.cur.seq ∧ m.kind = kind ∧ m.cls = e.cls.toNat ∧ m.scope = e.scope.toNat ∧ m.g0 = f ∧ m.g = g ∧ m.issue = s.core.flow.run
  ∧ m.at_ = s.wall ∧ m.pos = List.replicate g {} ∧ m.produced = false ∧ m.faulted = false ∧ m.folio = s.core.cur.folio ∧ m.slot = s.core.cur.slot
/-- The core with the macro on its way and its token pending for its end, with `outs` for its effects too. -/
def sending (s : State) (e : EW) (outs : Bool) (m : Macro) : Core := opSignal e 5 outs { s.core with macros := s.core.macros ++ [m] }
/-- The instruction leaves its queue as this macro. -/
def sends (s : State) (e : EW) (i : Instr) (f g : Nat) (outs : Bool) (kind : MacroKind) : Prop :=
  ∃ m, leaves s e f g kind m ∧ exec i s = .next (ranWith s e (sending s e outs m))

/-- A replica of the key that the strand may use stands in every stack of its group, ready (09 R267). -/
def resident (s : State) (f g : Nat) (key : Word) (en : Entry) : Prop :=
  s.replicaIn f g key = some en ∧ en.dom = s.core.dom
  ∧ ∀ p < g, ∃ x, ((stackOf s (f + p)).table.map (·.2)).find? (fun x => Entry.valid x && Entry.key x == key && 2 ^ Entry.glog x == g) = some x ∧ x.state = 2

/-- The bytes of a core-local space with the mark of their granule. -/
def localBytes (s : State) (sp a n : Nat) : List (Byte × Bool) := (List.range n).map fun i =>
  if sp = 1 then (s.core.scr.bytes.read (a + i), s.core.scr.blots.get ((a + i) / 64))
  else let c := s.core.cluster (sp == 3); (c.reg.read (a + i), c.blots.get ((a + i) / 64))

/-- The three products, with the code of each. -/
noncomputable def products : List ((FA → EW → Instr) × Nat) := [(.bmv, 0), (.bmvc, 1), (.bvm, 2)]
/-- The three in-DRAM copies. -/
noncomputable def unitCopies : List ((FA → EW → Instr) × Nat) := [(.browcp, 0), (.browz, 1), (.bbufcp, 2)]

/-- `s` with an arrival in the hold and the token that follows it pending. -/
def joined (s : State) (e : EW) (h : Eff) : State :=
  let c := { s.core with hold := s.core.hold ++ [h] }
  let g : Sig := { prod := c.cur.stream, cons := e.tok.toNat % 8, hand := false, cyc := c.now, perf := [s.nextId], lands := [], ended := none }
  { ranWith s e (if e.tok.toNat % 8 = 7 then c else c.addSig g) with nextId := s.nextId + 1 }

end Sys2Proof.Claims

/-- BACT sends its source bytes, read at issue, to an activation slot; BMV, BMVC and BVM send a product on a resident
replica whose control word fits; BAPP sends its rows (09 R276 to R282). -/
def Obligations.BankProducts : Prop :=
  ∀ (w : FA) (e : EW) (s : State) (f g : Nat), goesE s e → s.core.group? = some (f, g) →
    let sp := xb e 0 2
    (let n := s.core.cur.b.toNat
      let d := s.core.cur.d.toNat
      let a := s.core.cur.a.toNat
      a % 32 = 0 → n % 32 = 0 → sp ≠ 0 → a + n ≤ s.core.spaceSize sp →
      (if w.fn.getLsbD 3 then d % 32 = 0 ∧ 32 ≤ d ∧ d ≤ 4096 ∧ d ≤ n ∧ n ≤ d * 256 * g else 32 ≤ n ∧ n ≤ 4096) →
      sends s e (.bact w e) f g false (.bact (w.fn.toNat % 8) (if w.fn.getLsbD 3 then d else 0) (localBytes s sp a n)))
    ∧ (∀ (en : Entry), resident s f g s.core.cur.a en → ∀ p ∈ products,
      let c : Ctl := s.core.cur.b
      let dst := s.core.cur.d
      let n := outCount p.2 en c * c.ob
      c.bad p.2 = false → c.misfit p.2 en = false → dst.toNat % 64 = 0 →
      (sp ≠ 0 → inside s { space := sp, base := dst, dims := [(n, 1), (c.nb, (c.stride : Int))] } 1 →
        ∃ m, leaves s e f g (.product p.2 s.core.cur.a c sp dst [] (srKey s.core 5 0)) m
          ∧ exec (p.1 w e) s = .next ((ranWith s e (sending s e true m)).srBump 5 c.orm))
      ∧ (sp = 0 → ∀ parts, s.runsOf .write ((List.range c.nb).map fun j => (dst + BitVec.ofNat 64 (j * c.stride), n)) = (parts, none, []) →
        ∃ m, leaves s e f g (.product p.2 s.core.cur.a c 0 dst parts (srKey s.core 5 0)) m
          ∧ exec (p.1 w e) s = .next ((ranWith s e (sending s e (decide (e.scope ≠ 0)) m)).srBump 5 c.orm)))
    ∧ (∀ (en : Entry), resident s f g s.core.cur.a en →
      let c : Ctl := s.core.cur.b
      let src := s.core.cur.d
      let n := wBytes en.wtype (kept en.smode en.k)
      c.f 0 20 = 0 → en.mx = false → c.row0 + c.rows ≤ en.o → n ≤ c.stride → c.stride ≠ 0 →
      inside s { space := sp, base := src, dims := [(n, 1), (c.rows, (c.stride : Int))] } 1 →
      ∀ parts, s.runsOf .write (if en.isLocal then [] else (List.range c.rows).map fun i => (en.key + BitVec.ofNat 64 ((c.row0 + i) * en.rstride), n)) = (parts, none, []) →
      sp ≠ 0 →
      sends s e (.bapp w e) f g (decide (e.scope ≠ 0)) (.bapp s.core.cur.a c.row0
        ((List.range c.rows).map fun i => (parts.getD i [], localBytes s sp (src.toNat + i * c.stride) n))))

/-- BLOAD sends a residency entry for a fitting record to a free footprint; BDROP sends the drop of a replica of the
strand's domain, or of none; the in-DRAM copies of no unit are over, and of legal units go to the group (09 R283 to R286). -/
def Sys2Proof.Claims.BankResidency : Prop :=
  ∀ (w : FA) (e : EW) (s : State) (f g : Nat), goesE s e → s.core.group? = some (f, g) →
    (let r := s.core.cur.la
      let base := s.core.cur.a.toNat
      let ks := s.core.cur.b.toNat
      let smode := w.fn.toNat % 4
      let en := makeEntry r s.core.dom (Nat.log2 g) base (if smode = 0 then 0 else s.core.cur.d.toNat) smode ks (w.fn.getLsbD 2) (w.fn.getLsbD 3)
      base % 2 ^ 20 = 0 → bloadBad r en ks g = false → base + 2 ^ 20 * en.units ≤ 2 ^ 37 → s.spaceFree f g base en.units = true →
      s.replicaIn f g en.key = none → s.entryFree f g = true →
      sends s e (.bload w e) f g false (.bload en))
    ∧ (s.replicaIn f g s.core.cur.a = none → sends s e (.bdrop w e) f g false (.bdrop s.core.cur.a))
    ∧ (∀ en, s.replicaIn f g s.core.cur.a = some en → en.dom = s.core.dom → sends s e (.bdrop w e) f g false (.bdrop s.core.cur.a))
    ∧ (∀ en, s.replicaIn f g s.core.cur.a = some en → en.dom ≠ s.core.dom →
      exec (.bdrop w e) s = .next (raises s 0x08 s.core.cur.a (BitVec.ofNat 64 en.dom) 0))
    ∧ (∀ p ∈ unitCopies, s.core.cur.b = 0 → exec (p.1 w e) s = .next (copiedNone s e))
    ∧ (∀ p ∈ unitCopies, ∀ dl al,
      let n := s.core.cur.b.toNat
      let d := s.core.cur.d
      let a := s.core.cur.a
      let runs (b : Word) : List (Word × Nat) := (List.range n).map fun i => (b + BitVec.ofNat 64 (2048 * i), 2048)
      let first (l : List (List (Nat × Nat))) (i : Nat) : Option Nat := ((l.getD i []).head?).map (·.1)
      0 < n → n ≤ 65536 → d.toNat % 2048 = 0 → (p.2 = 1 ∨ a.toNat % 2048 = 0) →
      s.runsOf .write (runs d) = (dl, none, []) → (if p.2 = 1 then al = dl else s.runsOf .read (runs a) = (al, none, [])) →
      (∀ i < n, s.unitBad p.2 f g d a i (first dl i) (first al i) = none) →
      ∃ us, us.length = n ∧ (∀ i < n, ∃ x, (first dl i).bind stackPart = some x ∧ f ≤ x.1 ∧ x.1 < f + g
          ∧ us[i]? = some (x.1 - f, x.2, if p.2 = 1 then 0 else (((first al i).bind stackPart).map (·.2)).getD 0))
        ∧ sends s e (p.1 w e) f g false (.units p.2 d us))

/-- BNOP takes one cycle; BJOIN, once every earlier B instruction has ended and its engine can take it, puts its arrival into the hold, from which it
leaves at its commit cycle, 328 of the core's running cycles after its issue; BFENCE completes once they have ended, or with its report goes to the group (09 R289 to R291). -/
def Sys2Proof.Claims.BankControl : Prop :=
  ∀ (e : EW) (s : State),
    (∀ w : FE, exec (.bnop w) s = .next (idles s))
    ∧ (∀ f g, goesE s e → s.core.group? = some (f, g) →
      (s.bDone e.scope.toNat = false → ∀ (w : FA) (v : FE), exec (.bjoin w e) s = .next s.hold ∧ exec (.bfence v e) s = .next s.hold)
      ∧ (s.bDone e.scope.toNat = true →
        (∀ w : FE, w.misc.getLsbD 6 = false →
          exec (.bfence w e) s = .next (ranWith s e (s.core.signalAt (e.tok.toNat % 8) 0)))
        ∧ (∀ w : FE, w.misc.getLsbD 6 = true → s.core.cur.a.toNat % 8 = 0 → s.core.cur.a.toNat + 8 * g ≤ 2 ^ 21 →
          sends s e (.bfence w e) f g true (.bfence s.core.cur.a.toNat))
        ∧ (∀ (w : FA) (loc : Nat), s.syncLoc s.core.cur.a 16 .write s.core.sc.priv.toNat = .ok loc → s.joinFull f (homeQuad loc) = true →
          exec (.bjoin w e) s = .next s.hold)
        ∧ (∀ (w : FA) (loc : Nat), s.syncLoc s.core.cur.a 16 .write s.core.sc.priv.toNat = .ok loc → s.joinFull f (homeQuad loc) = false →
          ∃ h : Eff, h.id = s.nextId ∧ h.owner = s.core.owner ∧ h.kind = .join loc false 0 ∧ h.src = s.core.agent ∧ h.clk = 18 + f ∧ h.leave = s.core.flow.run + 328 ∧ h.stream = s.core.cur.stream ∧ h.cls = 0
            ∧ h.after = [] ∧ h.seq = s.core.cur.seq ∧ h.scope = e.scope.toNat
            ∧ exec (.bjoin w e) s = .next (joined s e h))))
    ∧ (∀ (w : FA), goesE s e → s.core.group? = none → exec (.bjoin w e) s = .next (raises s 0x02 0 0 0) ∧ exec (.bact w e) s = .next (raises s 0x02 0 0 0))

namespace Sys2Proof.Claims
open Sys2Proof.Machine

/-- The engine instructions with an engine word, by stream. -/
noncomputable def matrixForms (a : FE) (b : FB) (c : FC) (l : BitVec 32) (e : EW) : List Instr :=
  [.mcfg c e l, .mcfgv b e, .mgo a e, .mpin a e, .munpin a e, .mdrain a e, .msave b e, .mload b e, .mstat a e, .mfence a e]
noncomputable def copyForms (w : FA) (a : FE) (e : EW) : List Instr :=
  [.cpy w e, .cpy2 w e, .cpyt w e, .cpyxCast w e, .cpyxScale w e, .cpyxAdd w e, .cpyxReduce w e, .cfill w e, .csig w e, .cpref w e,
   .cflushClean w e, .cflushInval w e, .cflushDiscard w e, .cfence a e]
noncomputable def bankForms (w : FA) (a : FE) (e : EW) : List Instr :=
  [.bact w e, .bmv w e, .bmvc w e, .bvm w e, .bapp w e, .browcp w e, .browz w e, .bbufcp w e, .bload w e, .bdrop w e, .bjoin w e, .bfence a e]

end Sys2Proof.Claims

/-- At the head of its queue an engine instruction waits for its tokens, changing nothing; with its token counter full it
raises TOKEN_OVERFLOW; gated off it takes its tokens, gives its token one cycle on and does nothing else (02 R52, 04 R132, 05 R156). -/
def Sys2Proof.Claims.EngineIssue : Prop :=
  ∀ (w : FA) (a : FE) (b : FB) (c : FC) (l : BitVec 32) (e : EW) (s : State), ∀ i ∈ matrixForms a b c l e ++ copyForms w a e ++ bankForms w a e,
    let st := s.core.cur.stream
    let cons := e.tok.toNat % 8
    let ready := s.core.tokReady st (tokWaits e.tok)
    let full := s.core.tokFull st cons
    (ready = false → exec i s = .next s.hold)
    ∧ (ready = true → cons ≠ 7 → full = true → exec i s = .next (raises s 0x10 (BitVec.ofNat 64 (st * 8 + cons)) 0 0))
    ∧ (ready = true → (cons = 7 ∨ full = false) → s.core.cur.gate = some false →
      exec i s = .next { s with core := { (s.core.tokTake st (tokWaits e.tok)).signalAt cons 1 with out := .done } })

namespace Sys2Proof.Claims
open Sys2Proof.Machine

/-! ### What falls due on a core (02 R62, R63; 04 R133; 05 R150 to R157, R174; 14 R426) -/

/-- `s` with another current core. -/
def withCore (s : State) (c : Core) : State := { s with core := c }
/-- The core without a pending write. -/
def less (c : Core) (p : Pend) : Core := { c with pend := c.pend.erase p }
/-- The core without a landing. -/
def landed (c : Core) (l : Land) : Core := { c with lands := c.lands.filter fun x => x.id != l.id }
/-- A core with other scalar state. -/
def withScalar (c : Core) (x : Scalar) : Core := { c with sc := x }
/-- One more recorded fault. -/
def andRec (c : Core) (t : Trap) : Core := { c with recs := c.recs ++ [t] }
/-- No error is armed (14 R446), and no in-DRAM copy has bytes that a load may see old or new (09 R287). -/
def quiet (s : State) : Prop := s.pkg.injCtl.getLsbD 0 = false ∧ s.mem.ahead = []

/-- Register `r` takes a value. Of a CALLI that owes an entry check for a link to it: with `keep` the link lands and what the register
held is kept for that check; else a link that has landed is gone, and one still to land stays (04 R125). -/
def putS (c : Core) (r : Nat) (v : Word) (keep : Bool) : Core :=
  let note (a : Arrive) : Arrive :=
    if (a.link.map (·.1)) = some r then
      (if keep then { a with link := some (r, c.sc.s.get r), landed := true } else if a.landed then { a with link := none } else a)
    else a
  { c with
    sc := { c.sc with s := c.sc.s.set r v }
    pc := { c.pc with entry := c.pc.entry.map note }
    trap := { c.trap with back := { c.trap.back with entry := c.trap.back.entry.map note } } }

/-- The writes that change other scalar state, by what they leave of it. -/
def scalarAfter (x : Scalar) : Wr → Option Scalar
  | .p r v => some { x with p := x.p.set r v }
  | .b r v => some { x with b := x.b.set r v }
  | .k r v => some { x with k := x.k.set r v }
  | .loop lc n st => some { x with lc := lc, n := n, st := st }
  | .fpset f => some { x with fpstat := x.fpstat ||| f }
  | .fpclr f => some { x with fpstat := x.fpstat &&& ~~~f }
  | _ => none

/-- The word that a scalar load of `size` bytes leaves. -/
def loadedWord (bs : List Byte) (size : Nat) (sign : Bool) : Word :=
  let x : BitVec (8 * size) := BitVec.ofNat (8 * size) (leNat (bs.take size))
  if sign then x.signExtend 64 else x.setWidth 64

/-- A core's clocks after a freeze begins or ends, with its stall count. -/
def freezes (c : Core) (on : Bool) : Core := { c with flow := { c.flow with frozen := on, stall := 0 } }

end Sys2Proof.Claims

/-- RESULT_WRITE takes the first write due, the one of lowest rank and then of earliest program order, and it alone takes
effect (02 R62, R63; 03 R90); LANDING writes the first load due, or records its deferred fault, or POISON for a blot (05 R150, R152, R154). -/
def Obligations.DueResults : Prop :=
  (∀ (s : State) (p : Pend), s.core.duePend = some p →
    p ∈ s.core.pend ∧ p.hand = s.core.trap.active ∧ p.due ≤ s.core.now
    ∧ (∀ q ∈ s.core.pend, q.hand = s.core.trap.active → q.due ≤ s.core.now → p.rank < q.rank ∨ (p.rank = q.rank ∧ p.seq ≤ q.seq))
    ∧ (∀ r v, p.wr = .s r v → exec .resultWrite s = .next (withCore s (putS (less s.core p) r v false)))
    ∧ (∀ r v, p.wr = .link r v → exec .resultWrite s = .next (withCore s (putS (less s.core p) r v true)))
    ∧ (∀ x, scalarAfter s.core.sc p.wr = some x → exec .resultWrite s = .next (withCore s (withScalar (less s.core p) x)))
    ∧ (∀ y bs, p.wr = .reg y bs → exec .resultWrite s = .next (withCore s
        ((less s.core p).setCluster y ((s.core.cluster y).put bs))))
    ∧ ∃ t, exec .resultWrite s = .next t ∧ t.mem = s.mem ∧ t.core.pend = s.core.pend.erase p ∧ t.core.lands = s.core.lands)
  ∧ ∀ (s : State) (l : Land), s.dueLand = some l →
    (l.hand = s.core.trap.active ∧ l.due ≤ s.core.now ∧ l ∈ s.core.lands)
    ∧ (∀ bs r size sign, l.fault = none → l.data = some (bs, false) → l.dest = .s r size sign → 0 < r → size ≤ 8 →
      exec .landing s = .next (withCore s (putS (landed s.core l) r (loadedWord bs size sign) false)))
    ∧ (∀ bs size sign, l.fault = none → l.data = some (bs, false) → l.dest = .s 0 size sign → exec .landing s = .next (withCore s (landed s.core l)))
    ∧ (∀ bs y cs, l.fault = none → l.data = some (bs, false) → l.dest = .v y cs → bs.length = cs.length →
      exec .landing s = .next (withCore s ((landed s.core l).setCluster y ((s.core.cluster y).put
        ((cs.zip bs).map fun x => { at_ := x.1.1, mask := x.1.2, val := x.2, blot := false })))))
    ∧ (∀ t, l.fault = some t → s.core.trap.active = false → exec .landing s = .next (withCore s (andRec (landed s.core l) { t with late := true })))
    ∧ (∀ bs, l.fault = none → l.data = some (bs, true) → s.core.trap.active = false →
      ∃ t : Trap, t.cause = 0x09 ∧ t.stream = l.stream ∧ t.slot = l.slot ∧ t.pc = l.pc ∧ t.late = true ∧ t.i0 = (l.addr >>> 6) <<< 6
        ∧ exec .landing s = .next (withCore s (andRec (landed s.core l) t)))

/-- The core's own events: a block of 256 bytes, read at the location of its fill, enters the instruction cache; a core whose data is late freezes and runs on
when it is there; 16,384 frozen cycles record STALL; WFI's bound wakes the core; a signal whose conditions hold is given
(01 R24 to R26; 04 R133; 05 R156, R157; 14 R426). -/
def Obligations.CoreEvents : Prop :=
  ∀ s : State,
    (∀ f loc, s.dueFill = some f → f.loc = some loc → s.lateChan loc 256 = none →
      let u := s.inject loc 256 false
      u.core = s.core ∧ (quiet s → u.mem.blots = s.mem.blots)
      ∧ exec .icacheFill s = .next (withCore u { s.core with
        fills := s.core.fills.filter fun x => x.va != f.va
        icache := s.core.icache.set (f.va / 256 % 128) (some { tag := f.va / 2 ^ 15 % 2 ^ 41, data := u.bytesAt loc 256 }) }))
    ∧ (s.late = true → s.core.flow.frozen = false → exec .lateDataFreeze s = .next (withCore s (freezes s.core true)))
    ∧ (s.late = false → s.core.flow.frozen = true → exec .lateDataArrival s = .next (withCore s (freezes s.core false)))
    ∧ (∀ l, 16384 ≤ s.core.flow.stall → s.lateLand = some l → s.core.trap.active = false →
      ∃ t : Trap, t.cause = 0x0C ∧ t.stream = l.stream ∧ t.slot = l.slot ∧ t.pc = l.pc ∧ t.i0 = l.addr ∧ t.op = l.seq
        ∧ exec .lateStall s = .next (withCore s (andRec (freezes s.core false) t)))
    ∧ (∀ d, s.core.flow.wfi = some d → 0 < d → d ≤ s.core.flow.run →
      exec .wfiTimeout s = .next (withCore s { s.core with flow := { s.core.flow with wake := true } }))
    ∧ (∀ g, s.dueSig = some g →
      g ∈ s.core.sigs ∧ s.performed g.perf = true
      ∧ exec .signalGiven s = .next (withCore s { s.core with
          sigs := s.core.sigs.erase g
          given := s.core.given.set (6 * g.prod + g.cons) (s.core.given.get (6 * g.prod + g.cons) + 1)
          pendTok := s.core.pendTok.set (6 * g.prod + g.cons) (s.core.pendTok.get (6 * g.prod + g.cons) - 1)
          flow := { s.core.flow with fresh := s.core.flow.fresh.set (6 * g.prod + g.cons) (s.core.flow.fresh.get (6 * g.prod + g.cons) + 1) } }))

/-- EGRESS_RELEASE lets the first effect go whose count has come: a store is on its way to memory with its bytes, a request
to a peer is out with the next transaction number, bytes for the scratchpad are written; memory does not change (05 R174, 13 R400). -/
def Obligations.EgressRelease : Prop :=
  ∀ (s : State) (e : Eff), s.dueEff = some e →
    (e ∈ s.core.hold ∧ e.leave ≤ s.unitClock e.clk)
    ∧ ∃ t, exec .egressRelease s = .next t ∧ t.mem = s.mem ∧ t.core.hold = s.core.hold.filter (fun x => x.id != e.id)
      ∧ t.core.sc = s.core.sc ∧ t.core.pend = s.core.pend ∧ t.core.lands = s.core.lands ∧ t.core.scr = s.core.scr
      ∧ (∀ ps b, e.kind = .store ps b → t.fab = s.fab ∧ t.core.scrNext = s.core.scrNext
          ∧ ∃ m : Msg, t.net = s.net ++ [m] ∧ m.id = e.id ∧ m.owner = e.owner ∧ m.core = s.id ∧ m.kind = .store ps b ∧ m.after = e.after ∧ s.wall ≤ m.at_
            ∧ m.stream = e.stream ∧ m.cls = e.cls ∧ m.scope = e.scope ∧ m.src = e.src ∧ m.unc = e.unc ∧ m.narrow = e.narrow)
      ∧ (∀ req tg land tr, e.kind = .fabric req tg land tr → t.net = s.net
          ∧ ∃ o : FabOut, t.fab.out = s.fab.out ++ [o] ∧ o.id = e.id ∧ o.owner = some e.owner ∧ o.target = tg ∧ o.land = land ∧ o.txn = s.fab.txn.get tg
            ∧ o.req = { req with txn := s.fab.txn.get tg, origin := BitVec.ofNat 8 s.fab.own, target := BitVec.ofNat 8 tg } ∧ o.after = e.after
            ∧ o.core = s.id ∧ s.core.flow.dom + s.fab.rtt tg ≤ o.floor ∧ (tg ≠ s.fab.own → o.floor = s.core.flow.dom + s.fab.rtt tg))
      ∧ (∀ bs, e.kind = .inCore 1 bs → t.net = s.net ∧ t.fab = s.fab ∧ t.core.scrNext = s.core.scrNext ++ [bs])

namespace Sys2Proof.Claims
open Sys2Proof.Machine

/-! ### The engines at work (08 R219 to R254; 09 R265 to R293; 10 R298 to R331) -/

/-- `s` with another matrix context on the current core. -/
def withMat (s : State) (m : MatCtx) : State := { s with core := { s.core with mat := m } }
/-- The matrix engine of the current core's quad after a step. -/
def engOf (s t : State) : Quad := quadOf t (s.id / 4)
/-- The reads of the row block at the nest's place. -/
def blockReads (m : MatCtx) : List (Nat × Word × Nat) := (Table.fetches m.active m.x m.rb).flatMap fun f => f.1.reqs (Table.ek m.active) f.2
/-- The rows that those reads bring. -/
def blockRows (s : State) (n : Nest) (pss : List (List (Nat × Nat))) : List Row :=
  groupRows (Table.fetches s.core.mat.active s.core.mat.x s.core.mat.rb) (Table.ek s.core.mat.active) (pss.map (s.take 3 n.seq))
/-- The row block is the first of a tile of a nest that zeroes its slot (08 R233). -/
def opens (m : MatCtx) (n : Nest) : Bool := m.rb == 0 && n.zero && Table.first m.active m.x
/-- The address and bytes of a drain's next row. -/
def rowVa (d : Drain) : Word := Table.pair d.fields 38 + d.o + BitVec.ofNat 64 d.row * (Store.get d.fields 40).setWidth 64
def rowLen (d : Drain) : Nat := (Table.en d.fields + 1) * tyBits (Table.bits d.fields 37 4 4) / 8
/-- The outputs of that row: bits, flags and poison (08 R235). -/
def rowOuts (s : State) (d : Drain) (pss : List (List (Nat × Nat))) : List (Nat × Fp × Bool) :=
  let src (k : Nat) : Option (Nat → Nat × Bool) := (((Table.drainReqs d.fields d.v).zip pss).find? fun r => r.1.1 == k).map fun r => s.vec32 d.seq r.2
  (List.range (Table.en d.fields + 1)).map (d.out s.core.mat (src 4) (src 5))
/-- Their bytes. -/
def outBytes (d : Drain) (rs : List (Nat × Fp × Bool)) : List Byte :=
  natLe (rowLen d) (rs.foldr (fun r n => r.1 + n * 2 ^ tyBits (Table.bits d.fields 37 4 4)) 0)
/-- A run of bytes goes into the hold of a unit as a store of these cells. -/
def heldCells (s t : State) (clk leave stream seq : Nat) (cs : LBytes) : Prop :=
  ∃ h : Eff, t.core.hold = s.core.hold ++ [h] ∧ h.clk = clk ∧ h.leave = leave ∧ h.stream = stream ∧ h.seq = seq ∧ h.owner = s.core.owner ∧ h.kind = .cells cs
/-- A fault of a running engine operation (14 R478). -/
def runFaultOf (f : Trap) (cause stream slot : Nat) (pc i0 : Word) (op : Nat) : Prop :=
  f.cause = cause ∧ f.stream = stream ∧ f.slot = slot ∧ f.pc = pc ∧ f.i0 = i0 ∧ f.op = op ∧ f.running = true

/-- The scratchpad with the writes that it takes next. -/
def scrSeen (s : State) : Scratch := s.core.scrNext.foldl Scratch.put s.core.scr
/-- Element x of a side inside a core-local space. -/
def spot (m : EMap) (x : Nat) : Nat := (m.at x).toNat
/-- A copy with `n` more elements done. -/
def movedOn (t : State) (s : State) (k : Copy) (n : Nat) : Prop :=
  ∃ at_, t.core.cpy.copies = s.core.cpy.copies.map fun j => if j.seq = k.seq then { k with prog := k.prog + n, pieceAt := at_, wait := {} } else j

/-- The part of a macro in a stack. -/
def mapPart (ms : List Macro) (seq p : Nat) (f : MPos → MPos) : List Macro :=
  ms.map fun m => if m.seq = seq then { m with pos := m.pos.mapIdx fun i q => if i = p then f q else q } else m
/-- The bytes that a BACT leaves in the activation slots of a stack. -/
def actCells (n : Nat) (m : Macro) (slot slice : Nat) (data : List (Byte × Bool)) : LBytes :=
  (bactShare slice data.length (n - m.g0)).flatMap fun sh =>
    ((data.drop sh.2.1).take sh.2.2).mapIdx fun i b => { at_ := 32768 * sh.1 + 4096 * slot + i, mask := 0xFF, val := b.1, blot := b.2 }

end Sys2Proof.Claims

/-- The matrix engine: the clear of a context ends with its slots 0; a step takes the next runnable nest; a row block whose
operands are here begins, on a slot that reads 0 where it opens a tile of a nest that zeroes, and at its end its rows, poison and flags are written together; a drain starts, and each row enters
the hold in its output type; a slot transfer moves one row; a strike changes no slot; that MSAVE's rows move with the event
MLOAD_ROW_WRITE is the model's reading (log 47) (08 R219, R222, R229, R232, R235, R243, R244, R253). -/
def Obligations.MatrixEngine : Prop :=
  ∀ s : State, let m := s.core.mat
    (m.clear = 1 → exec .slotClearDone s = .next (withMat s { m with clear := 0, slots := [], poison := [] }))
    ∧ (∀ k n, s.eng.cur = none → s.nextNest (s.id / 4) = some k → (s.coreAt k).mat.nest = some n →
      ∃ t c w, exec .matrixStep s = .next t ∧ t.mem = s.mem ∧ (engOf s t).cur = some c ∧ (engOf s t).last = k % 4
        ∧ c.core = k ∧ c.seq = n.seq ∧ c.begun = false
        ∧ t.core = { s.core with mat := if k = s.id then { m with nest := some { n with wait := w } } else m })
    ∧ (∀ st n pss, s.eng.cur = some st → st.core = s.id → st.begun = false → st.readyAt ≤ s.wall → m.nest = some n → n.seq = st.seq → n.faulted = false →
      s.runAll .read (blockReads m) = .ok pss → s.mOrder n.seq n.cls n.scope pss.flatten = false → s.lateReq (blockReads m) pss = none →
      let u := s.injectAll pss.flatten
      let slot := m.stepSlot n
      let z := opens m n
      ∃ t c, exec .matrixStep s = .next t ∧ t.mem = u.mem ∧ (engOf s t).cur = some c ∧ c.begun = true ∧ c.left = Table.blockLen m.active
        ∧ (∀ i, t.core.mat.slots.get i = if z = true ∧ i / 16384 = slot then 0 else m.slots.get i)
        ∧ (∀ i, t.core.mat.poison.get i = if z = true ∧ i / 1024 = slot then false else m.poison.get i)
        ∧ (c.writes, c.poison, c.flags) = Table.block m.active t.core.mat.slots slot m.rb (blockRows u n pss))
    ∧ (∀ st n, s.eng.cur = some st → m.nest = some n → st.core = s.id → st.begun = true → st.left = 0 → st.seq = n.seq →
      ∃ t, exec .rowBlockWrite s = .next t ∧ t.mem = s.mem
        ∧ t.core.mat.slots = st.writes.foldl (fun x w => Store.set x w.1 w.2) m.slots
        ∧ t.core.mat.poison = st.poison.foldl (fun x g => Store.set x g true) m.poison ∧ t.core.mat.flags = m.flags ||| st.flags
        ∧ (m.rb < 7 → t.core.mat.rb = m.rb + 1 ∧ t.core.mat.step = m.step ∧ ∃ w, t.core.mat.nest = some { n with wait := w })
        ∧ (7 ≤ m.rb → t.core.mat.rb = 0 ∧ t.core.mat.step = m.step + 1
          ∧ (m.step + 1 < n.count → t.core.mat.nest = some n)
          ∧ (n.count ≤ m.step + 1 → t.core.mat.nest = none ∧ t.core.mat.valid = false
            ∧ ∀ h0 f, n.mode = .head h0 f → t.core.mat.occ = m.occ + f ∧ t.core.mat.res = 0
              ∧ t.core.mat.ring = m.ring ++ (List.range (min f m.size)).map fun i => (h0 + i) % m.size)))
    ∧ (∀ d, s.headDrain = some d → d.started = false → s.drainWaits d = false →
      let c := max (max d.issued s.eng.epiEnd) d.floor
      c ≤ s.eng.cyc → exec .drainStart s = .next (withMat s { m with
        drains := m.drains.map fun x => if x.seq = d.seq then { d with started := true, due := c + 2 } else x }))
    ∧ (∀ d pss out, s.headDrain = some d → d.started = true → d.due ≤ s.eng.cyc → s.runAll .read (Table.drainReqs d.fields d.v) = .ok pss →
      s.run .write (rowVa d) (rowLen d) = .ok out → s.lateReq (Table.drainReqs d.fields d.v) pss = none →
      let u := s.injectAll pss.flatten
      ∃ t bl, exec .drainRow s = .next t ∧ t.mem = u.mem ∧ t.core.mat.slots = m.slots
        ∧ heldCells s t 1 (s.eng.cyc + 320) 3 d.seq (cellsOf out (outBytes d (rowOuts u d pss)) bl)
        ∧ t.core.mat.flags = (rowOuts u d pss).foldl (fun f r => f ||| r.2.1) m.flags
        ∧ (d.row < Table.em d.fields → t.core.mat.drains = m.drains.map fun x =>
            if x.seq = d.seq then { d with row := d.row + 1, due := s.eng.cyc + 2, wait := {} } else x)
        ∧ (Table.em d.fields ≤ d.row → t.core.mat.drains = m.drains.filter (fun x => x.seq != d.seq)
          ∧ (d.pinned = false → t.core.mat.occ = m.occ - 1 ∧ t.core.mat.bnd = m.bnd - 1)))
    ∧ (∀ x ps, s.dueXfer = some x → s.run (if x.save then .write else .read) (x.addr + BitVec.ofNat 64 (512 * x.row)) 512 = .ok ps →
      (x.save = true → ∃ t bl, exec .mloadRowWrite s = .next t ∧ t.mem = s.mem ∧ t.core.mat.slots = m.slots
        ∧ heldCells s t 1 (s.eng.cyc + 320) 3 x.seq
            (cellsOf ps ((List.range 128).flatMap fun n => natLe 4 (m.slots.get (x.slot * 16384 + 128 * x.row + n)).toNat) bl))
      ∧ (x.save = false → s.mOrder x.seq x.cls x.scope ps = false → s.lateAny ps = none →
        let u := s.injectAll ps
        ∃ t, exec .mloadRowWrite s = .next t ∧ t.mem = u.mem ∧ t.core.hold = s.core.hold
          ∧ t.core.mat.slots = (List.range 128).foldl (fun y n => Store.set y (x.slot * 16384 + 128 * x.row + n)
              (BitVec.ofNat 32 (leNat (u.take 3 x.seq ps).1 / 2 ^ (32 * n)))) m.slots))
    ∧ (∃ t, exec .strikeMatrix s = .next t ∧ t.mem = s.mem ∧ t.core.mat.slots = m.slots ∧ t.core.mat.poison = m.poison ∧ t.core.mat.flags = m.flags
        ∧ t.core.strike = (s.eng.undo.filter fun u => decide (s.eng.cyc < u.1 + 320)).foldl (fun v _ => satField v 1) s.core.strike)

/-- The copy engine: a piece of CFILL or of a copy inside the scratchpad is seen there from the next cycle on, and the copy's
progress moves on; copies whose last access is over and whose reductions are applied end; granules of a timed copy that are here land (10 R301, R312, R322). -/
def Sys2Proof.Claims.CopyPieces : Prop :=
  ∀ s : State,
    (∀ k v, s.dueCopy = some k → k.kind = .fill v → k.dst.space = 1 → s.behind k = false → s.earlier 4 k.seq k.cls k.scope [] = false →
      let xs := s.pieceOf k
      s.clashes k [] (xs.map fun x => (spot k.dst x, k.e)) = false →
      ∃ t, exec .copyPiece s = .next t ∧ t.mem = s.mem ∧ t.core.scr = s.core.scr ∧ t.core.hold = s.core.hold ∧ movedOn t s k xs.length
        ∧ t.core.scrNext = s.core.scrNext ++ [xs.flatMap fun x => (List.range k.e).map fun i =>
            { at_ := spot k.dst x + i, mask := 0xFF, val := BitVec.ofNat 8 (v.toNat / 256 ^ i), blot := false, part := decide (k.e < 64) }])
    ∧ (∀ k, s.dueCopy = some k → k.kind = .plain → k.dst.space = 1 → k.src.space = 1 → k.e = k.se → s.behind k = false → s.earlier 4 k.seq k.cls k.scope [] = false →
      let xs := s.pieceOf k
      let from_ := xs.map fun x => (spot k.src x, k.e)
      let dest := xs.map fun x => (spot k.dst x, k.e)
      s.clashes k from_ dest = false → overlap from_ dest = false →
      ∃ t, exec .copyPiece s = .next t ∧ t.mem = s.mem ∧ t.core.scr = s.core.scr ∧ t.core.hold = s.core.hold ∧ movedOn t s k xs.length
        ∧ t.core.scrNext = s.core.scrNext ++ [xs.flatMap fun x => (List.range k.e).map fun i =>
            { at_ := spot k.dst x + i, mask := 0xFF, val := (scrSeen s).bytes.read (spot k.src x + i),
              blot := (List.range k.e).any fun j => (scrSeen s).blots.get ((spot k.src x + j) / 64), part := decide (k.e < 64) }])
    ∧ exec .copyEnd s = .next (withCore s { s.core with cpy := { s.core.cpy with copies := s.core.cpy.copies.filter fun k =>
        !((if k.timed then k.grans.isEmpty else decide (k.n ≤ k.prog) && decide (k.pieceAt ≤ s.wall))
          && !s.own.any fun e => e.stream == 4 && e.seq == k.seq && e.kind.isRmw) } })
    ∧ (∀ k : Copy, s.core.cpy.copies = [k] → k.timed = true → k.dst.space = 1 →
      let here : Gran → Bool := fun g => decide (g.due ≤ s.core.flow.cycle) && (g.data.isSome && decide (g.readyAt ≤ s.wall))
      k.grans.filter here ≠ [] →
      ∃ t, exec .granuleLanding s = .next t ∧ t.mem = s.mem ∧ t.core.hold = s.core.hold
        ∧ t.core.cpy.copies = [{ k with grans := k.grans.filter fun g => !here g }]
        ∧ t.core.scrNext = s.core.scrNext ++ [(k.grans.filter here).flatMap fun g => let d := g.data.getD ([], [])
            ((g.dst.zip d.1).zip d.2).flatMap fun x =>
              x.1.1.map fun a => { at_ := a, mask := 0xFF, val := x.1.2, blot := x.2, part := decide (k.e < 64) }])

namespace Sys2Proof.Claims
open Sys2Proof.Machine

/-- The copy's write of these cells: into the hold, to the scratchpad from the next cycle on, or into a cluster. -/
def wrote (s t : State) (k : Copy) (cs : LBytes) : Prop :=
  if k.dst.space = 0 then heldCells s t 0 (s.core.flow.conf + 320) 4 k.seq cs ∧ t.core.scrNext = s.core.scrNext
  else t.core.hold = s.core.hold ∧ (if k.dst.space = 1 then t.core.scrNext = s.core.scrNext ++ [cs]
    else t.core.scrNext = s.core.scrNext ∧ t.core.cluster (k.dst.space == 3) = (s.core.cluster (k.dst.space == 3)).put cs)
/-- The bytes of a source element at its place, and whether a granule that it touches carries a blot. -/
def elemOf (s : State) (k : Copy) (a : Nat) : List Byte × Bool :=
  let x : Scratch := if k.src.space = 1 then scrSeen s else
    let c := s.core.cluster (k.src.space == 3)
    { bytes := c.reg, blots := c.blots }
  ((if k.src.space = 0 then s.readOwn 4 (k.seq + 1) a k.se else x.bytes.readRun a k.se),
   (List.range ((a + k.se + 63) / 64 - a / 64)).any fun i =>
     if k.src.space = 0 then s.blotOwn 4 (k.seq + 1) (64 * (a / 64 + i)) 64 else x.blots.get (a / 64 + i))
/-- What a copy of elements writes for element `x`, from its bytes `r`; its flags. -/
def elemTo (k : Copy) (x : Nat) (r : List Byte) : List Byte × Fp :=
  match k.kind with
  | .fill v => (natLe k.e v.toNat, 0)
  | .x fn sty dty rm f key =>
    let y := cpyxVal fn sty dty rm f (key + BitVec.ofNat 64 (x % 2 ^ 20)) (leNat r)
    (natLe k.e y.1, y.2)
  | _ => (r, 0)
/-- The instruction whose piece is due may move the elements `els`, which stand at these places. -/
def moves (s : State) (k : Copy) (us : Use) (els : List (Nat × Nat × Nat)) : Prop :=
  let xs := s.pieceOf k
  let reads := if k.reads || !k.writes then els.map fun x => (x.2.1, k.se) else []
  let writes := if k.writes then els.map fun x => (x.2.2, k.e) else []
  let glob := (if k.src.space = 0 then reads else []) ++ (if k.dst.space = 0 then writes else [])
  s.dueCopy = some k
  ∧ (k.reads = true ∨ k.writes = false → s.sideBad us k.src k.se xs = none) ∧ (k.writes = true → s.sideBad .write k.dst k.e xs = none)
  ∧ (∃ sps dps, (if k.reads = true ∨ k.writes = false then s.sideAt us k.src k.prog k.se = .ok sps else sps = [])
      ∧ (if k.writes = true then s.sideAt .write k.dst k.prog k.e = .ok dps else dps = []) ∧ els = k.places xs sps dps)
  ∧ (k.orders = true → s.clashes k reads writes = false ∧ s.earlier 4 k.seq k.cls k.scope glob = false ∧ (k.src.space = 0 → s.unreduced k reads = false))
  ∧ s.pieceLate k els = none
/-- A copy whose elements move as they are, filled or converted. -/
def moving : CopyKind → Prop
  | .plain => True
  | .fill _ => True
  | .x fn _ _ _ _ _ => fn ≠ 3
  | _ => False

end Sys2Proof.Claims

/-- A piece of a copy, of a fill or of a conversion, scaling or addition writes its elements' values, read from memory, the scratchpad
or a cluster, to memory by way of the hold, to the scratchpad or to a cluster; a reduction sends its values to the destination; CSIG
writes its value, with the copy flags in the low bits where it stores them; CFLUSH writes back or drops each line of its piece, of a page that the LLC
caches (10 R301, R312, R313, R316, R317, R327). -/
def Sys2Proof.Claims.CopySides : Prop :=
  ∀ (s : State) (k : Copy) (els : List (Nat × Nat × Nat)),
    (moving k.kind → moves s k .read els → s.behind k = false →
      (k.reads = true → k.src.space = k.dst.space → overlap (els.map fun x => (x.2.1, k.se)) (els.map fun x => (x.2.2, k.e)) = false) →
      let u := if k.reads && k.src.space == 0 then s.injectAll (els.map fun x => (x.2.1, k.se)) else s
      let r (x : Nat × Nat × Nat) : List Byte × Bool := if k.reads then elemOf u k x.2.1 else ([], false)
      ∃ t, exec .copyPiece s = .next t ∧ t.mem = u.mem ∧ movedOn t s k els.length
        ∧ wrote s t k (els.flatMap fun x => (elemTo k x.1 (r x).1).1.mapIdx fun i b => { at_ := x.2.2 + i, mask := 0xFF, val := b, blot := (r x).2, part := decide (k.e < 64) })
        ∧ t.core.cpy.flags = (u.core.cflags (els.foldl (fun f x => f ||| (elemTo k x.1 (r x).1).2) 0) (els.any fun x => (r x).2)).cpy.flags)
    ∧ (∀ sty dty rm f key, k.kind = .x 3 sty dty rm f key → k.dst.space = 0 → moves s k .read els → s.behind k = false →
      let u := if k.src.space = 0 then s.injectAll (els.map fun x => (x.2.1, k.se)) else s
      ∃ t h, exec .copyPiece s = .next t ∧ t.mem = u.mem ∧ movedOn t s k els.length
        ∧ t.core.hold = s.core.hold ++ [h] ∧ h.clk = 0 ∧ h.leave = s.core.flow.conf + 320 ∧ h.stream = 4 ∧ h.seq = k.seq
        ∧ h.kind = .reduce sty rm key (els.map fun x => let r := elemOf u k x.2.1; (x.2.2, x.1, leNat r.1, r.2)))
    ∧ (∀ v st w, k.kind = .sig v st w → moves s k .read els → (s.cDone k.seq k.scope fun c => w || c == k.cls) = true →
      let v' := if st then (v &&& ~~~(0x3F : Word)) ||| s.core.cpy.flags.setWidth 64 else v
      ∃ t, exec .copyPiece s = .next t ∧ t.mem = s.mem ∧ movedOn t s k els.length
        ∧ wrote s t k (els.flatMap fun x => (natLe 8 v'.toNat).mapIdx fun i b => { at_ := x.2.2 + i, mask := 0xFF, val := b, blot := false, part := true })
        ∧ t.core.cpy.flags = if st then 0 else s.core.cpy.flags)
    ∧ (∀ mode, k.kind = .flush mode → moves s k (if mode = 2 then .write else .read) els → s.behind k = false →
      let lines := if s.cachedPage (k.src.at k.prog) then (els.map (·.2.1)).filter fun a => rangeOf (paOf a) = .drawer else []
      ∃ t, exec .copyPiece s = .next t ∧ movedOn t s k els.length ∧ t.core.hold = s.core.hold ∧ t.core.scrNext = s.core.scrNext
        ∧ t.mem = lines.foldl (fun m a => if mode = 0 then m.cleanLine a else if mode = 1 ∨ m.dirtyLine a = false then m.evict a else m.discardLine a) s.mem
        ∧ (∀ l, l ∈ t.llc ↔ l ∈ s.llc ∧ (mode = 0 ∨ ∀ a ∈ lines, a / 64 ≠ l)))

/-- An operation of the matrix, copy or bank engine that has waited 16,384 cycles for one access stops and records STALL
against its instruction (08 R252; 09 R292; 10 R326; 14 R478). -/
def Obligations.EngineStalls : Prop :=
  ∀ s : State, s.core.trap.active = false →
    (∀ n, s.core.mat.nest = some n → n.faulted = false → 16384 ≤ n.wait.n →
      ∃ t f, exec .mStall s = .next t ∧ t.core.recs = s.core.recs ++ [f] ∧ runFaultOf f 0x0C 3 n.slot n.folio n.wait.va n.seq
        ∧ t.core.mat.nest = some { n with faulted := true, wait := {} } ∧ t.mem = s.mem)
    ∧ (∀ k, s.core.cpy.copies.find? (fun k => !k.faulted && decide (16384 ≤ k.wait.n)) = some k → k.wait.src ≠ 0 →
      ∃ t f, exec .cStall s = .next t ∧ t.core.recs = s.core.recs ++ [f] ∧ runFaultOf f 0x0C 4 k.slot k.folio k.wait.va k.seq
        ∧ t.core.cpy.copies = s.core.cpy.copies.map (fun j => if j.seq = k.seq then { k with faulted := true, wait := {} } else j) ∧ t.mem = s.mem)
    ∧ (∀ d, (∀ n, s.core.mat.nest = some n → n.faulted = true ∨ n.wait.n < 16384) → s.headDrain = some d → 16384 ≤ d.wait.n →
      ∃ t f, exec .mStall s = .next t ∧ t.core.recs = s.core.recs ++ [f] ∧ runFaultOf f 0x0C 3 d.qslot d.folio d.wait.va d.seq ∧ f.i1 = BitVec.ofNat 64 d.row
        ∧ t.core.mat.drains = s.core.mat.drains.map (fun x => if x.seq = d.seq then { d with faulted := true, started := false, wait := {} } else x) ∧ t.mem = s.mem)
    ∧ (∀ m x, s.core.strand = some x → s.core.macros.find? (fun m => !m.faulted && decide (16384 ≤ m.wait.n)) = some m →
      s.core.macros.find? (fun j => j.seq == m.seq) = some m → s.core.queues.get 5 = [] →
      ∃ t f, exec .bStall s = .next t ∧ t.core.recs = s.core.recs ++ [f] ∧ runFaultOf f 0x0C 5 m.slot m.folio m.wait.va m.seq
        ∧ t.core.macros = s.core.macros.map (fun j => if j.seq = m.seq then { j with faulted := true, wait := {} } else j) ∧ t.mem = s.mem)

/-- The bank stacks: macros arrive in the stack's order and are confirmed; a BACT's end writes its bytes to the activation
slots, a product's end its accumulators, an in-DRAM copy's end shows its bytes to loads, a BDROP's takes the entry out of the
table; a BFENCE's snapshot goes to the scratchpad; windows write copied units and appended rows; outputs enter the hold 320 or 328 cycles before they are seen; a replica becomes
resident; refresh takes a lane and HOT its period; a strike repeats windows and changes no value (09 R266 to R274, R277, R293). -/
def Obligations.BankStacks : Prop :=
  ∀ (n : BitVec 4) (s : State), Store.wf s.bstacks = true →
    let k := stackOf s n.toNat
    (∃ t, exec (.refreshPeriodChange n) s = .next t ∧ stackOf t n.toNat = { k with fast := k.hot } ∧ t.core = s.core ∧ t.mem = s.mem)
    ∧ (∀ l : BitVec 8, ∃ t, exec (.refresh n l) s = .next t ∧ stackOf t n.toNat = { k with refreshing := k.refreshing ++ [l.toNat] } ∧ t.core = s.core ∧ t.mem = s.mem)
    ∧ (∀ m x, s.core.strand = some x → s.arriving n.toNat = [(s.id, s.core.owner, m)] → (∀ a, m.kind ≠ .bfence a) →
      ∃ t, exec (.macroArrival n) s = .next t ∧ t.mem = s.mem
        ∧ stackOf t n.toNat = { k with order := k.order.filter (· != (s.core.owner, m.seq)) ++ [(s.core.owner, m.seq)] }
        ∧ t.core.macros = mapPart s.core.macros m.seq (n.toNat - m.g0) fun q => { q with arrived := true })
    ∧ (∀ m x, s.core.strand = some x → s.committing n.toNat = [(s.id, s.core.owner, m)] →
      ∃ t, exec (.macroCommit n) s = .next t ∧ t.mem = s.mem ∧ t.bstacks = s.bstacks ∧ (∃ hs, t.core.hold = s.core.hold ++ hs)
        ∧ t.core.macros.map (fun j => { j with prog := 0 })
          = (mapPart s.core.macros m.seq (n.toNat - m.g0) fun q => { q with committed := true }).map (fun j => { j with prog := 0 })
        ∧ ((∀ key r rs, m.kind ≠ .bapp key r rs) → t.core.hold = s.core.hold
          ∧ t.core.macros = mapPart s.core.macros m.seq (n.toNat - m.g0) fun q => { q with committed := true }))
    ∧ (∀ x c m slot slice data, s.ending n.toNat = some x → s.macroOf x = some (c, m) → m.kind = .bact slot slice data →
      ∃ t, exec (.macroEnd n) s = .next t ∧ t.mem = s.mem ∧ (stackOf t n.toNat).act = setBytes k.act (actCells n.toNat m slot slice data)
        ∧ (stackOf t n.toNat).order = k.order.filter (· != x) ∧ (stackOf t n.toNat).acc = k.acc)
    ∧ (∀ x c m which key ctl sp dst parts sr e, s.ending n.toNat = some x → s.macroOf x = some (c, m) → m.kind = .product which key ctl sp dst parts sr →
      s.entryFor n.toNat m key = some e →
      let u := s.arrayReads (e.reads n.toNat (n.toNat - m.g0) (Ctl.row0 ctl) (Ctl.rows ctl))
      ∃ t, exec (.macroEnd n) s = .next t ∧ t.mem = u.mem ∧ (s.pkg.injCtl.getLsbD 0 = false → t.mem = s.mem) ∧ (stackOf t n.toNat).act = k.act
        ∧ (stackOf t n.toNat).acc
          = (productSums (u.mem.array n.toNat) ((m.at n.toNat).inputs k) e which n.toNat (n.toNat - m.g0) ctl).2.foldl (fun a y => Store.set a y.1 (BitVec.ofNat 32 y.2)) k.acc)
    ∧ (∀ x c m which d us, s.ending n.toNat = some x → s.macroOf x = some (c, m) → m.kind = .units which d us →
      ∃ t, exec (.macroEnd n) s = .next t ∧ (stackOf t n.toNat).table = k.table ∧ (stackOf t n.toNat).order = k.order.filter (· != x)
        ∧ t.mem = s.mem.showAll (fun a => us.any fun u => u.1 == n.toNat - m.g0 && a.meets (stackLoc n.toNat u.2.1) 2048)
        ∧ ∀ a ∈ t.mem.ahead, ∀ u ∈ us, u.1 = n.toNat - m.g0 → Ahead.meets (stackLoc n.toNat u.2.1) 2048 a = false)
    ∧ (∀ x c m key r0 rs, s.ending n.toNat = some x → s.macroOf x = some (c, m) → m.kind = .bapp key r0 rs →
      ∃ t, exec (.macroEnd n) s = .next t ∧ t.mem = s.mem ∧ (stackOf t n.toNat).table = k.table ∧ (stackOf t n.toNat).act = k.act
        ∧ (stackOf t n.toNat).order = k.order.filter (· != x))
    ∧ (∀ x c m key, s.ending n.toNat = some x → s.macroOf x = some (c, m) → m.kind = .bdrop key →
      let gone (e : Entry) : Bool := e.valid && e.key == key && 2 ^ e.glog == m.g && e.gpos == n.toNat - m.g0
      ∃ t, exec (.macroEnd n) s = .next t ∧ t.mem = s.mem ∧ (stackOf t n.toNat).order = k.order.filter (· != x)
        ∧ (stackOf t n.toNat).table = k.table.filter (fun e => !gone e.2)
        ∧ t.homes = s.homes.filter fun h => !(h.stack == n.toNat && ((k.table.filter fun e => gone e.2).map fun e => Entry.base e.2).contains h.base))
    ∧ (∀ m x addr, s.core.strand = some x → s.arriving n.toNat = [(s.id, s.core.owner, m)] → m.kind = .bfence addr →
      ∃ t h, exec (.macroArrival n) s = .next t ∧ t.mem = s.mem ∧ t.bstacks = s.bstacks ∧ t.core.hold = s.core.hold ++ [h]
        ∧ h.clk = 18 + n.toNat ∧ h.leave = m.issue + 16 ∧ h.stream = 5 ∧ h.seq = m.seq ∧ h.owner = s.core.owner
        ∧ h.kind = .inCore 1 ((List.range 8).map fun i => { at_ := addr + 8 * (n.toNat - m.g0) + i, mask := 0xFF, val := BitVec.ofNat 8 (k.snapshot.toNat / 256 ^ i), blot := false }))
    ∧ (∀ x which d us c m u, s.macroOf x = some (c, m) → m.kind = .units which d us → which ≠ 2 → k.refreshing = [] → (m.at n.toNat).todo = [u] →
      (m.at n.toNat).half = [bankIx u.2.1] → s.homes = [] → (which ≠ 1 → s.pkg.injCtl.getLsbD 0 = false) →
      ∃ new : List Ahead, (s.unitWindow n.toNat x which false (m.at n.toNat)).mem.ahead = (s.mem.overtake (stackLoc n.toNat u.2.1) 2048 false).ahead ++ new
        ∧ new.map (fun a => (a.loc, a.bs.length)) = (List.range 256).map (fun i => (stackLoc n.toNat u.2.1 + 8 * i, 8))
        ∧ new.flatMap (fun a => a.bs) = (if which = 1 then List.replicate 2048 0 else (s.mem.array n.toNat).bytes (stackLoc n.toNat u.2.2) 2048))
    ∧ (∀ x m key r0 rs e, s.entryFor n.toNat m key = some e → k.refreshing = [] →
      let p := n.toNat - m.g0
      let before := (m.at n.toNat).left
      let after : Store Nat := before.foldl (fun st y => st.set y.1 (y.2 - 1)) before
      (s.appendWindow n.toNat x m key r0 rs false).mem = ((List.range rs.length).flatMap fun i => ((List.range 256).filter fun l =>
          e.holds p l (r0 + i) && e.rowDone p l r0 rs.length i (after.get l) && !e.rowDone p l r0 rs.length i (before.get l)).map fun l => (i, l)).foldl
        (fun w y => (e.parts p y.2 (r0 + y.1)).foldl (fun w z =>
          let b := ((rs.getD y.1 []).drop z.2.1).take z.2.2.1
          w.putLane n.toNat e.base y.2 (b.any (·.2)) false (b.length / 4096 + 2) z.2.2.2 (b.map (·.1))) w) s.mem)
    ∧ (∀ m which key ctl sp dst parts sr, s.producing = [m] → m.kind = .product which key ctl sp dst parts sr →
      ∃ t h, exec .productOutput s = .next t ∧ t.mem = s.mem ∧ t.core.hold = s.core.hold ++ [h] ∧ h.owner = s.core.owner ∧ h.stream = 5 ∧ h.seq = m.seq
        ∧ h.clk = 2 + m.g0 ∧ h.leave = m.outAt.getD 0 + (if sp = 0 then 320 else 328)
        ∧ t.core.macros = s.core.macros.map (fun j => if j.seq = m.seq then { j with produced := true } else j))
    ∧ (∀ (h : Hyd) (entry : BitVec 8) (e : Entry), s.dueHyd n.toNat = some h → h.entry = entry.toNat → e = k.table.get h.entry → h.origin = none →
      (e.isLocal = true → ∃ t, exec (.hydrationComplete n entry) s = .next t ∧ Entry.state ((stackOf t n.toNat).table.get h.entry) = 2
        ∧ ∀ a < 2 ^ 20 * e.units, s.mem.dirty.get (stackLoc n.toNat e.base + a) = none →
          s.mem.keyed.get (paOf (stackLoc n.toNat e.base + a) / 64) = none → t.mem.byte (stackLoc n.toNat e.base + a) = 0)
      ∧ (∀ u c, e.isLocal = false →
        State.hydRows n.toNat e 1 (((List.range e.o).filter fun o => (List.range 256).any fun l => e.holds e.gpos l o).drop h.rows) (s.registerGroup n.toNat e 1) = (u, .done, c) →
        ∃ t, exec (.hydrationComplete n entry) s = .next t ∧ t.mem = u.mem ∧ Entry.state ((stackOf t n.toNat).table.get h.entry) = 2))
    ∧ (∃ t, exec (.strikeLane n) s = .next t ∧ t.mem = s.mem ∧ (stackOf t n.toNat).acc = k.acc ∧ (stackOf t n.toNat).act = k.act
        ∧ (k.undo ≠ [] → (stackOf t n.toNat).again = (if k.cyc % 64 = 0 then [] else [(none, [])]) ++ k.undo.map fun u => (some u.1, u.2)))

namespace Sys2Proof.Claims
open Sys2Proof.Machine

/-! ### Messages that arrive (05 R146; 11 R337 to R360; 14 R428) -/

/-- The memories of the state are in canonical form. -/
def formed (s : State) : Prop := Memory.wf s.mem.base = true ∧ Store.wf s.mem.dirty = true
/-- `n` bytes at `loc` are plain memory that no replica follows; no in-DRAM copy's bytes are still to be seen (09 R287), and the LLC
holds no line from before its key was loaded (15 R465). -/
def plainAt (s : State) (loc n : Nat) : Prop :=
  formed s ∧ s.homes = [] ∧ s.mem.ahead = [] ∧ s.mem.kept = [] ∧ rangeOf (paOf loc) ≠ .sys ∧ s.mem.hole (paOf loc) = false
  ∧ ∀ i < n, rangeOf (paOf (loc + i)) = .drawer ∨ (s.mem.dirty.get (loc + i) = none ∧ s.mem.keyed.get (paOf (loc + i) / 64) = none)
/-- The LLC holds dirty bytes of the line of `a` under no other key: no write-back of theirs shows in it (05 R149). -/
def oneKey (s : State) (a : Nat) : Prop := ∀ d, s.mem.dirty.get d ≠ none → paOf d / 64 = paOf a / 64 → keyOf d = keyOf a
/-- In `t` the bytes at `loc` are `bs`, and every other byte is as in `s`, but those of a line that is written under another key. -/
def stores (s t : State) (loc : Nat) (bs : List Byte) : Prop :=
  ∀ a, oneKey s a → (∀ i < bs.length, paOf (loc + i) / 64 = paOf a / 64 → keyOf (loc + i) = keyOf a) →
    t.mem.byte a = if loc ≤ a ∧ a < loc + bs.length then bs.getD (a - loc) 0 else s.mem.byte a
/-- The bytes of a number. -/
def byteList (n v : Nat) : List Byte := (List.range n).map fun i => BitVec.ofNat 8 (v / 256 ^ i)
/-- The number at a location. -/
def numAt (s : State) (loc n : Nat) : Nat := leNat (s.bytesAt loc n)

/-- No load of the core has a value that may still change (05 R172). -/
def firm (s : State) : Prop := ∀ l ∈ s.core.lands, l.soft = []

/-- The barrier of a key after a step. -/
def barOf (t : State) (k : BarKey) : Bar := t.sync.bar k

end Sys2Proof.Claims

/-- LLC_ACCEPT makes the bytes of a store the bytes that every agent reads, and no other; an atomic's new value is stored and
its old value returned; an arrival counts at its join object; a reply reaches its held instruction; a walk that ends gives a
TLB entry or a fault for the access that waits (05 R146; 11 R341 to R343, R354, R355; 14 R428). -/
def Obligations.MessagesArrive : Prop :=
  ∀ s : State,
    (∀ m loc bs, s.firstMsg 0 = some m → m.kind = .store [(loc, bs)] false → plainAt s loc bs.length →
      ∃ t, exec .llcAccept s = .next t ∧ (firm s → t.core = s.core) ∧ stores s t loc bs)
    ∧ (∀ m loc w op v c u land x, s.firstMsg 1 = some m → m.kind = .atomic loc w op v c u land → s.repeated m = none → plainAt s loc w → quiet s →
      firm s → (∀ i < w, oneKey s (loc + i)) → s.mem.blotted loc w = false →
      amoNew op u (8 * w) (numAt s loc w) (v.toNat % 2 ^ (8 * w)) (c.toNat % 2 ^ (8 * w)) = some x →
      ∃ t, exec .syncRequestApply s = .next t ∧ stores s t loc (byteList w x)
        ∧ (∀ id, land = some id → ∃ at_, s.wall ≤ at_ ∧ t.core.lands = s.core.lands.map fun l =>
            if l.id = id then { l with data := some (byteList w (numAt s loc w), false), readyAt := at_, eng := some (homeQuad loc) } else l)
        ∧ (land = none → t.core = s.core))
    ∧ (∀ m loc p, s.firstMsg 3 = some m → m.kind = .join loc false p → s.repeated m = none → plainAt s loc 8 → quiet s → (∀ i < 8, oneKey s (loc + i)) →
      s.mem.blotted loc 16 = false →
      let x := numAt s loc 8
      x % 2 ^ 16 > x / 2 ^ 16 % 2 ^ 16 →
      ∃ t, exec .joinArrival s = .next t ∧ t.core = s.core ∧ stores s t loc (byteList 8 (x % 2 ^ 34 + 2 ^ 16)))
    ∧ (∀ m held v f, s.firstMsg 4 = some m → m.kind = .reply held v f →
      ∃ t, exec .queryReply s = .next t ∧ t.mem = s.mem
        ∧ t.core.helds = s.core.helds.map fun h => if h.id = held ∧ h.stage ≠ 2 ∧ h.stage ≠ 3 then { h with reply := some (v, f) } else h)
    ∧ (∀ w u e, s.dueWalk = some w → s.walk w.dom w.va = (u, .leaf e) →
      ∃ t, exec .pageWalk s = .next t ∧ t.core.tlb = s.core.tlb ++ [e] ∧ t.core.walks = s.core.walks.filter (· != w))
    ∧ (∀ w u c i1 i2, s.dueWalk = some w → s.walk w.dom w.va = (u, .fault c i1 i2) →
      ∃ t, exec .pageWalk s = .next t ∧ t.core.tlb = s.core.tlb ∧ t.core.walks = s.core.walks.filter (· != w)
        ∧ t.core.wfaults = s.core.wfaults ++ [{ dom := w.dom, va := w.va, cause := c, i1 := i1, i2 := i2 }])

/-- Barriers: an arrival counts, and the one that reaches EXP completes the phase; BCFG sets EXP and DOMAIN, FLT completes the
phase with FAULTED, CLR makes a fresh counter; a pod barrier whose arrivals have reached EXP sends its ready to every other package, and completes when this package and every other is ready (11 R346, R348; 13 R412). -/
def Obligations.Barriers : Prop :=
  ∀ s : State,
    (∀ m sc inst b node, s.firstMsg 2 = some m → m.kind = .barrier sc inst b node none → s.repeated m = none → sc ≠ 4 →
      let k : BarKey := (sc, inst, b, node)
      let r := s.sync.bar k
      ∃ t, exec .barrierArrival s = .next t ∧ t.mem = s.mem ∧ t.core = s.core
        ∧ (r.exp ≠ 0 → r.exp ≤ r.a + 1 → (barOf t k).p = (r.p + 1) % 2 ^ 16 ∧ (barOf t k).a = 0 ∧ (barOf t k).waiters = [])
        ∧ (r.exp = 0 ∨ r.a + 1 < r.exp → barOf t k = { r with a := r.a + 1 }))
    ∧ (∀ (b : BitVec 6) (v : BitVec 64),
      let k := barKey false b.toNat
      let r := s.sync.bar k
      v.getLsbD 25 = false → v.getLsbD 26 = false → v.toNat % 2 ^ 16 = 0 ∨ r.a < v.toNat % 2 ^ 16 →
      ∃ t, exec (.bcfgWrite false b v) s = .next t ∧ barOf t k = { r with exp := v.toNat % 2 ^ 16, dom := v.toNat / 2 ^ 16 % 64 }
        ∧ t.core = s.core ∧ t.mem = s.mem)
    ∧ (∀ (pod : Bool) (b : BitVec 6),
      let k := barKey pod b.toNat
      let r := s.sync.bar k
      (∃ t, exec (.bcfgFlt pod b) s = .next t ∧ t.core = s.core ∧ t.mem = s.mem ∧ t.net.length = s.net.length + r.waiters.length
        ∧ (barOf t k).faulted = true ∧ (barOf t k).p = (r.p + 1) % 2 ^ 16 ∧ (barOf t k).a = 0 ∧ (barOf t k).waiters = [])
      ∧ (∃ t, exec (.bcfgClr pod b) s = .next t ∧ t.core = s.core ∧ t.mem = s.mem ∧ t.net.length = s.net.length + r.waiters.length
        ∧ (barOf t k).faulted = false ∧ (barOf t k).p = 0 ∧ (barOf t k).a = 0 ∧ (barOf t k).waiters = []))
    ∧ (∀ (b : BitVec 4) (r : Bar), r.own = true → (s.sync.bar (barKey true b.toNat)).own = false →
      (s.sendReady (barKey true b.toNat) r).fab.readies = s.fab.readies ++ s.fab.others.map fun p => (p, b.toNat))
    ∧ (∀ (pkg : BitVec 8) (b : BitVec 4),
      let k := barKey true b.toNat
      let r := s.sync.bar k
      let held := r.ready ++ [pkg.toNat]
      (r.own = false → ∃ t, exec (.podPhaseReady pkg b) s = .next t ∧ barOf t k = { r with ready := held } ∧ t.core = s.core ∧ t.mem = s.mem)
      ∧ (∀ left, r.own = true → takeReady s.fab.others held = some left →
        ∃ t, exec (.podPhaseReady pkg b) s = .next t ∧ (barOf t k).p = (r.p + 1) % 2 ^ 16 ∧ (barOf t k).ready = left ∧ t.core = s.core ∧ t.mem = s.mem))

namespace Sys2Proof.Claims
open Sys2Proof.Machine

/-! ### The ready pool and the strands (12 R362 to R382; 14 R436, R437) -/

/-- The record in an aperture slot. -/
def slotRecord (s : State) (h : Nat) : BitVec 1024 := BitVec.ofNat 1024 (leNat (s.sched.aperture.readRun (128 * h) 128))
/-- A strand whose stop is asked for. -/
def asked (t : Strand) : Strand := { t with preempt := true }
/-- A FIFO with one more item at its tail. -/
def joinsPool (s t : State) (level : Nat) (x : Nat × Option Nat) : Prop := t.sched.fifo.get level = s.sched.fifo.get level ++ [x]

end Sys2Proof.Claims

/-- The ready pool: a legal record that is committed to a free slot waits, or is ready at its level; the dispatcher places
the first node that it can with all its strands; 64 passes raise a node's level; a node that is done writes its
completion word and frees its slot; a woken strand joins the pool (12 R364 to R369, R375; 01 R31). -/
def Obligations.ReadyPool : Prop :=
  ∀ s : State,
    (∀ (slot : BitVec 14) (src : Agent), let h := slot.toNat
      let r := slotRecord s h
      s.host.boot.getLsbD 8 = true → s.slotUsed h = false → s.host.ckptCtl.getLsbD 2 = false → badOwner src (recDom r) = false → badRecord r = false →
      recW r 384 = 0 → recW r 768 = 0 →
      ∃ t n, exec (.nodeCommit slot src) s = .next t ∧ t.node h = some n ∧ n.record = r ∧ n.preds = recF r 164 16 ∧ n.level = recF r 140 2
        ∧ n.succ = [] ∧ t.core = s.core ∧ t.mem = s.mem
        ∧ (recF r 164 16 ≠ 0 → n.phase = 0 ∧ t.sched.fifo = s.sched.fifo)
        ∧ (recF r 164 16 = 0 → n.phase = 1 ∧ joinsPool s t (recF r 140 2) (h, none)))
    ∧ (∀ h n inst grp, s.nextItem = some (h, none) → s.decided.node h = some n → n.moved = false → s.decided.placement h n = some (inst, grp) → recW n.record 448 = 0 →
      ∃ t n', exec .nodeDispatch s = .next t ∧ t.node h = some n' ∧ n'.record = n.record ∧ n'.phase = 2 ∧ n'.inst = inst ∧ n'.group = grp
        ∧ n'.scope = scopeOf (recWidth n.record) ∧ n'.live = BitVec.ofNat 32 (2 ^ recWidth n.record - 1))
    ∧ (∀ (h : BitVec 14) n, s.node h.toNat = some n → 64 ≤ n.pass → n.phase = 1 → n.level < 3 →
      ∃ t, exec (.nodeAging h) s = .next t ∧ t.node h.toNat = some { n with level := n.level + 1, pass := 0 } ∧ t.core = s.core ∧ t.mem = s.mem)
    ∧ (∀ (h : BitVec 14) n u loc, s.canComplete h.toNat = true → s.node h.toNat = some n → Store.wf s.sched.nodes = true →
      canonical (recW n.record 832) = true → (recW n.record 832).toNat % 8 = 0 →
      s.resolve (recDom n.record) .write (recW n.record 832) = (u, .inl loc) → plainAt u loc 8 →
      ∃ t, exec (.nodeComplete h) s = .next t ∧ t.node h.toNat = none
        ∧ stores u t loc (byteList 8 ((recW n.record 896).toNat % 2 ^ 56 + n.status % 256 * 2 ^ 56)))
    ∧ (∀ (h : BitVec 14) (i : BitVec 5) n v, (h.toNat, i.toNat) ∈ s.sched.woken → s.sched.saved.get (recordKey h.toNat i.toNat) = some v → v.parked = true →
      s.node h.toNat = some n →
      ∃ t, exec (.suspendWake h i) s = .next t ∧ joinsPool s t n.level (h.toNat, some i.toNat) ∧ t.sched.woken = s.sched.woken.erase (h.toNat, i.toNat)
        ∧ t.core = s.core ∧ t.mem = s.mem)

/-- Strands on cores: one whose core is clear starts; one asked to stop stops at its point, and once drained its image is
taken and its core is free; an idle core goes on with the registers and the point that its image holds; a strike in a core's sector counts, and a
restartable strand goes back to its record (12 R369, R370, R380 to R382; 14 R436, R437; what becomes of its held effects is the model's
reading, log 46). -/
def Obligations.StrandsOnCores : Prop :=
  ∀ s : State,
    (∀ x n, s.core.strand = some x → x.started = false → x.ready ≤ s.core.flow.run → s.node x.node = some n → n.ccb = [] →
      ∃ t, exec .strandStart s = .next t ∧ t.core = { s.core with strand := some { x with started := true } } ∧ t.mem = s.mem)
    ∧ (∀ (h : BitVec 14) (i : BitVec 5) k x, s.coreOf h.toNat i.toNat = some k → (s.coreAt k).strand = some x →
      ∃ t, exec (.preemptionRequest h i) s = .next t ∧ t.coreAt k = { s.coreAt k with strand := some (asked x) } ∧ t.mem = s.mem)
    ∧ (∀ x area, s.core.strand = some x → x.dormant = false → x.preempt = true → s.core.trap.active = false → s.core.unsettled = false → hasArea s 0 area →
      exec .preemption s = .next (stopped s x false area))
    ∧ (∀ x n, s.core.strand = some x → x.dormant = true → x.parked = false → x.waitCh = none → x.save = some (0, 0) → s.drained = true → s.node x.node = some n →
      ∃ t v c, exec .preemption s = .next t ∧ t.core.strand = none ∧ t.core.scr = s.core.scr ∧ t.mem = s.mem
        ∧ joinsPool s t n.level (x.node, some x.idx) ∧ t.sched.saved.get (recordKey x.node x.idx) = some v ∧ v.core = some c
        ∧ c.sc = s.core.sc ∧ c.pc = s.core.pc ∧ c.pend = s.core.pend ∧ c.x = s.core.x ∧ c.y = s.core.y)
    ∧ (∀ h i k n sv c0 x, s.nextItem = some (h, some i) → s.coreFor h = some k → s.node h = some n → s.sched.saved.get (recordKey h i) = some sv → sv.core = some c0 →
      let c := if sv.area.2 = 0 then c0 else c0.loadImage s.mem sv.area.1 sv.area.2
      c.strand = some x →
      ∃ t, exec .strandResume s = .next t ∧ (t.coreAt k).strand = some { x with dormant := false, preempt := false, parked := false, save := none }
        ∧ (t.coreAt k).sc = c.sc ∧ (t.coreAt k).pc = c.pc ∧ (t.coreAt k).pend = c.pend ∧ (t.coreAt k).x = c.x ∧ (t.coreAt k).y = c.y ∧ t.mem = s.mem)
    ∧ (∀ h i k n sv, s.nextItem = some (h, some i) → s.coreFor h = some k → s.node h = some n → s.sched.saved.get (recordKey h i) = some sv → sv.core = none →
      ∃ t x, exec .strandResume s = .next t ∧ (t.coreAt k).strand = some x ∧ x.node = h ∧ x.idx = i ∧ x.started = false
        ∧ (t.coreAt k).pc.folio = recResume (s.contRec h i) ∧ t.mem = s.mem)
    ∧ (s.core.strand = none → exec .strikeCore s = .next (withCore s { s.core with strike := satField s.core.strike 0 }))
    ∧ (∀ x n, s.core.strand = some x → x.restart = true → s.node x.node = some n →
      ∃ t, exec .strikeCore s = .next t ∧ t.core.strand = none ∧ t.core.strike = satField s.core.strike 0 ∧ t.mem = s.mem
        ∧ joinsPool s t n.level (x.node, some x.idx))

namespace Sys2Proof.Claims
open Sys2Proof.Machine

/-! ### The port logic and the collective engines (13 R388 to R409) -/

/-- The answer cached for a request. -/
def answered (s t : State) (r : FabReq) (a : FabAns) : Prop :=
  t.fab.cache.head? = some ((r.origin.toNat, r.txn), a) ∧ t.core = s.core
/-- The request is for this package, and none of its number stands in the reply cache. -/
def isNew (s : State) (r : FabReq) : Prop := r.target.toNat = s.fab.own ∧ ∀ e ∈ s.fab.cache, e.1 ≠ (r.origin.toNat, r.txn)
/-- Only counts of replayed frames change. -/
def onlyFrames (s t : State) : Prop := t = { s with fab := { s.fab with replay := t.fab.replay } }
/-- The runs of an engine after a step, where one ticket's run has changed. -/
def runChanged (s t : State) (q ticket : Nat) (f : Run → Run) : Prop :=
  (collOf t q).runs = (collOf s q).runs.map fun r => if r.ticket = ticket then f r else r
/-- The tile count after one counted granule: 64 of them make the tile READY, one past that sets OVER (13 R406). -/
def tileAfter (v : Nat) : Nat :=
  if v / 128 % 2 = 1 then (if v / 256 % 2 = 1 then v else v + 256)
  else v / 256 * 256 + (if v % 128 + 1 = 64 then 192 else v % 128 + 1)
/-- One granule goes out to the peer of the run, with the bytes that `u` has at `loc`. -/
def sentGran (s t : State) (q : Nat) (r : Run) (u : State) (loc : Nat) : Prop :=
  ∃ o : FabOut, t.fab.out = s.fab.out ++ [o] ∧ o.target = r.peer ∧ o.owner = none ∧ o.txn = s.fab.txn.get r.peer ∧ o.req.data = u.bytesAt loc 64 ∧ o.req.blots = [u.mem.blotted loc 64]
    ∧ o.req.op = .counted r.acc.isSome (BitVec.ofNat 4 (runHeader r 24 4)) ∧ o.req.off = BitVec.ofNat 42 (r.granOff (stepF r.cur 18 2) r.chunk)
    ∧ runChanged s t q r.ticket fun r => { r.advance with unacked := r.unacked ++ [(o.target, o.txn)] }
/-- The peer can be reached and has room. -/
def sendable (s : State) (r : Run) : Prop := s.unacked r.peer < 4096 ∧ s.fab.reach r.peer = true

end Sys2Proof.Claims

/-- Requests at this package's port logic: a window read answers its bytes, a write and a counted write store theirs, a
refused one changes nothing, a resent one is applied once; a request for another package goes on, or is answered that no route leads
there; a reply lands its data, its blot or its remote fault; ports that retrain
carry nothing until trained (13 R388, R392, R397, R400, R406, R412). -/
def Obligations.PortTraffic : Prop :=
  ∀ s : State,
    (∀ r : FabReq, isNew s r →
      (∀ n, r.op = .read n →
        (∀ loc, s.window r.origin.toNat r.off.toNat n 1 = some loc →
          let u := s.inject loc n false
          ∃ t, exec (.fabricRequest r) s = .next t ∧ answered s t r (.done (u.bytesAt loc n) (u.mem.blotted loc n)) ∧ t.mem = u.mem)
        ∧ (s.window r.origin.toNat r.off.toNat n 1 = none → ∃ t, exec (.fabricRequest r) s = .next t ∧ answered s t r .refused ∧ t.mem = s.mem))
      ∧ (r.op = .write →
        let whole := r.block.getD (r.off.toNat, r.data.length)
        (s.window r.origin.toNat whole.1 whole.2 2 = none → ∃ t, exec (.fabricRequest r) s = .next t ∧ answered s t r .refused ∧ t.mem = s.mem)
        ∧ (r.blots = [] → r.data ≠ [] → ∀ base loc, s.window r.origin.toNat whole.1 whole.2 2 = some base → loc = base + (r.off.toNat - whole.1) →
          plainAt s loc r.data.length → ∃ t, exec (.fabricRequest r) s = .next t ∧ answered s t r (.done [] false) ∧ stores s t loc r.data))
      ∧ (∀ red, r.op = .counted false red → r.blots = [] → r.data.length = 64 → ∀ loc, s.window r.origin.toNat r.off.toNat 64 2 = some loc →
          rangeOf (paOf loc) = .carve → plainAt s loc 64 →
          ∃ t, exec (.countedWrite r) s = .next t ∧ answered s t r (.done [] false) ∧ stores s t loc r.data
            ∧ t.mem.tiles.get ((paOf loc - 0x8000000000000) / 4096) = tileAfter (s.mem.tiles.get ((paOf loc - 0x8000000000000) / 4096))))
    ∧ (∀ r : FabReq, (r.target.toNat = s.fab.own ∧ ∃ e ∈ s.fab.cache, e.1 = (r.origin.toNat, r.txn)) ∨ (r.target.toNat ≠ s.fab.own ∧ s.fab.reach r.target.toNat = true) →
      (s.fabAdmits r = true → ∃ t, exec (.fabricRequest r) s = .next t ∧ onlyFrames s t) ∧ ∃ t, exec (.countedWrite r) s = .next t ∧ onlyFrames s t)
    ∧ (∀ r : FabReq, r.target.toNat ≠ s.fab.own → s.fab.reach r.target.toNat = false → isCounted r.op = false → s.fabAdmits r = true →
      let k := r.origin.toNat + 256 * (1 + r.target.toNat)
      (∀ e ∈ s.fab.cache, e.1 ≠ (k, r.txn)) →
      ∃ t, exec (.fabricRequest r) s = .next t ∧ t.fab.cache.head? = some ((k, r.txn), .unreachable) ∧ t.mem = s.mem ∧ t.core = s.core)
    ∧ (∀ (p : FabRep) o id, s.fab.out.find? (fun o => o.target == p.target.toNat && o.txn == p.txn) = some o → s.fabLeft o = 0 → o.owner ≠ none → o.land = some id →
      (∀ bs, p.ans = .done bs false → ∃ t, exec (.fabricReply p) s = .next t ∧ t.fab.out = s.fab.out.filter (· != o) ∧ t.mem = s.mem
          ∧ t.core.lands = s.core.lands.map fun l => if l.id = id then { l with data := some (bs, false), fault := none, readyAt := s.wall } else l)
      ∧ (∀ bs, p.ans = .done bs true → ∃ t f, exec (.fabricReply p) s = .next t ∧ t.fab.out = s.fab.out.filter (· != o) ∧ t.mem = s.mem
          ∧ Trap.cause f = 0x09 ∧ f.i0 = o.trap.i0 ∧ f.i1 = BitVec.ofNat 64 p.target.toNat ∧ f.pc = o.trap.pc ∧ f.slot = o.trap.slot
          ∧ t.core.lands = s.core.lands.map fun l => if l.id = id then { l with data := some (bs, true), fault := some f, readyAt := s.wall } else l)
      ∧ (∀ c, p.ans = (if c = 0x06 then .refused else .unreachable) → (c = 0x06 ∨ c = 0x16) →
          ∃ t f, exec (.fabricReply p) s = .next t ∧ t.fab.out = s.fab.out.filter (· != o) ∧ t.mem = s.mem
          ∧ Trap.cause f = c ∧ f.i1 = BitVec.ofNat 64 (p.target.toNat + 256) ∧ f.pc = o.trap.pc ∧ f.slot = o.trap.slot
          ∧ t.core.lands = s.core.lands.map fun l => if l.id = id then { l with data := none, fault := some f, readyAt := s.wall } else l))
    ∧ (∀ port : BitVec 4,
      (∃ t, exec (.peerRetrain port) s = .next t ∧ t.fab.portUp.getLsbD port.toNat = false ∧ t.mem = s.mem)
      ∧ exec (.peerPortTrained port) s = .next { s with fab := { s.fab with
          portUp := s.fab.portUp ||| ((1 : BitVec 16) <<< port.toNat), retrain := s.fab.retrain &&& ~~~((1 : BitVec 16) <<< port.toNat), replay := s.fab.replay.set port.toNat 0 } }
      ∧ (s.fab.replay.get port.toNat < 15 →
          exec (.frameReplay port) s = .next { s with fab := { s.fab with replay := s.fab.replay.set port.toNat (s.fab.replay.get port.toNat + 1) } })
      ∧ (15 ≤ s.fab.replay.get port.toNat → ∃ t, exec (.frameReplay port) s = .next t ∧ t.fab.portUp.getLsbD port.toNat = false ∧ t.mem = s.mem))

/-- The collective engines: a run starts with its steps and its rank table; SEND sends a granule to its peer, RECV and RRS
take tiles that are ready, COPY stores a granule here, WAIT and LOOP move on, END writes the record and leaves, ABORT stops
every run of its collective (13 R402 to R409). One granule at a time, and one run of an engine at a time, is the model's reading (log 45). -/
def Obligations.Collectives : Prop :=
  ∀ (s : State) (b : BitVec 2), let q := b.toNat
    (∀ r u v bs tb x y, s.headRun q = some r → r.started = false → r.stopped = false →
      State.readAt r.dom r.level 2 (r.va + 64) (16 * (runHeader r 16 6 + 1)) s = (u, .inl (bs, x)) →
      State.readAt r.dom r.level 2 (BitVec.ofNat 64 (runHeader r 64 64)) (runN r) u = (v, .inl (tb, y)) →
      ∃ t r', exec (.runStart b) s = .next t ∧ runChanged s t q r.ticket (fun _ => r') ∧ r'.started = true ∧ r'.ticket = r.ticket
        ∧ r'.rtab = tb.map (·.toNat) ∧ r'.step = r.step
        ∧ r'.steps = (List.range (runHeader r 16 6 + 1)).map fun i => BitVec.ofNat 128 (leNat ((bs.drop (16 * i)).take 16)))
    ∧ (∀ r loc, s.runAt q 1 = some r → sendable s r → s.window s.fab.own (r.granOff (stepF r.cur 16 2) r.chunk) 64 1 = some loc →
      let u := s.inject loc 64 false
      ∃ t, exec (.collSend b) s = .next t ∧ t.mem = u.mem ∧ t.core = s.core ∧ sentGran s t q r u loc)
    ∧ (∀ r ls, s.runAt q 2 = some r → s.tiles r = some ls → ls.all s.mem.tileReady = true →
      ∃ t, exec (.collRecv b) s = .next t ∧ t.mem = s.mem.consume ls ∧ t.core = s.core ∧ runChanged s t q r.ticket Run.next)
    ∧ (∀ r ls loc, s.runAt q 3 = some r → r.chunk = 0 → s.tiles r = some ls → ls.all s.mem.tileReady = true → sendable s r →
      s.window s.fab.own (r.granOff (stepF r.cur 16 2) 0) 64 1 = some loc →
      let u := ({ s with mem := s.mem.consume ls } : State).inject loc 64 false
      ∃ t, exec (.collRrs b) s = .next t ∧ t.mem = u.mem ∧ t.core = s.core ∧ sentGran s t q r u loc)
    ∧ (∀ r src loc, s.runAt q 4 = some r → r.acc = none → s.window s.fab.own (r.granOff (stepF r.cur 16 2) r.chunk) 64 1 = some src →
      let u := s.inject src 64 false
      s.window s.fab.own (r.granOff (stepF r.cur 18 2) r.chunk) 64 2 = some loc → plainAt u loc 64 → u.mem.blotted src 64 = false →
      ∃ t, exec (.collCopy b) s = .next t ∧ t.core = s.core ∧ stores u t loc (u.bytesAt src 64) ∧ runChanged s t q r.ticket Run.advance)
    ∧ (∀ r, s.runAt q 5 = some r → r.unacked = [] →
      ∃ t, exec (.collWait b) s = .next t ∧ t.mem = s.mem ∧ t.core = s.core ∧ runChanged s t q r.ticket Run.next)
    ∧ (∀ r, s.runAt q 6 = some r →
      let l := stepF r.cur 72 2
      let n := r.ctr.getD l 0 + 1
      let set' (v : Nat) : List Nat := (List.range 4).map fun i => if i = l then v else r.ctr.getD i 0
      ∃ t, exec (.collLoop b) s = .next t ∧ t.mem = s.mem ∧ t.core = s.core
        ∧ runChanged s t q r.ticket fun r => if n < stepF r.cur 80 16 then { r with ctr := set' n, step := stepF r.cur 64 8, chunk := 0 } else { r.next with ctr := set' 0 })
    ∧ (∀ r u loc, (collOf s q).runs.find? Run.ended = some r → r.stopped = true → (runHeader r 384 64) % 64 = 0 →
      State.resolve (s.setColl q { collOf s q with runs := (collOf s q).runs.filter fun x => x.ticket != r.ticket }) r.dom .write
        (BitVec.ofNat 64 (runHeader r 384 64)) r.level = (u, .inl loc) → plainAt u loc 64 →
      ∃ t, exec (.collEnd b) s = .next t ∧ stores u t loc (byteList 64 r.record.toNat) ∧ t.core = u.core)
    ∧ (∀ cid : BitVec 16, ∃ t, exec (.collAbort cid) s = .next t ∧ t.mem = s.mem ∧ t.core = s.core
      ∧ ∀ r ∈ (collOf t q).runs, runHeader r 32 16 = cid.toNat → r.stopped = true)

namespace Sys2Proof.Claims
open Sys2Proof.Machine

/-! ### The host, power and links (15; 14 R443 to R448; 10 R320, R326) -/

/-- `s` with another host part. -/
def withHost (s : State) (h : HostPart) : State := { s with host := h }
/-- The frame boundary's entry: a written one is in force, any other stays. -/
def slotAfter (s t : State) (k : Nat) : Prop :=
  (∀ v, s.drawer.written.get k = some v → t.drawer.ductus.get k = v ∧ t.drawer.written.get k = none)
  ∧ (s.drawer.written.get k = none → t.drawer.ductus.get k = s.drawer.ductus.get k)
/-- What a reset of the package leaves (01 R32, Table 1.11): of drawer memory the bytes under key 0, and the ciphertext of any other
key, the keys themselves being gone (15 R465). -/
def afterReset (s t : State) : Prop :=
  t.core = {} ∧ t.cores = [] ∧ t.net = [] ∧ t.host = {} ∧ t.sched = {} ∧ t.sync = {} ∧ t.fab = {} ∧ t.drawer = {} ∧ t.bstacks = [] ∧ t.quads = []
  ∧ t.mem.keyed = s.mem.writeBack.keyed ∧ t.mem.keys = [] ∧ t.llc = []
  ∧ (∀ loc, rangeOf (paOf loc) = .drawer → keyOf loc = 0 → oneKey s loc → s.mem.kept = [] → s.mem.keys.get 0 = t.mem.keys.get 0 → t.mem.byte loc = s.mem.byte loc)
  ∧ ∀ loc, rangeOf (paOf loc) ≠ .drawer → t.mem.keyed.get (paOf loc / 64) = none → t.mem.byte loc = 0
/-- The domain has lost fewer than 56 of the last 64 wall cycles, this one apart. -/
def mayLose (s : State) (dom : FreezeDomain) : Prop :=
  (s.pkg.cuts.filter fun x => x.1 == domCode dom && decide (s.wall < x.2 + 64) && x != (domCode dom, s.wall)).length < 56

end Sys2Proof.Claims

/-- Bring-up, resets, power and heat: POWER_GOOD begins bring-up, whose steps follow in order up to 6 or stop at an error (which
outcomes and times is open, logs 5 and 52), an image that is not signed at step 2; a chiplet that fails at step 3 is fenced; a reset keeps drawer
memory alone, and of it what other keys wrote as ciphertext (log 83), an unlisted byte of the rest reading 0 (log 3); FREEZE and D3hot stop clocks and
a domain loses the cycle of its input, at most 56 of 64 (log 15), and change no register; HOT is seen at the next window;
SETREADY sets READY (15 R447, R448, R453, R459, R460; 14 R447, R448; 01 R32, R33). -/
def Obligations.BringUpAndPower : Prop :=
  ∀ s : State, let h := s.host
    (h.boot = 0 → h.bootDue = none → ∃ t d, exec .powerGood s = .next t ∧ t.core = s.core ∧ t.mem = s.mem ∧ t.host.boot = 0 ∧ t.host.bootDue = some d ∧ s.wall < d)
    ∧ (h.boot ≠ 0 ∨ h.bootDue ≠ none → exec .powerGood s = .next s)
    ∧ (∀ n < 6, (h.boot &&& 0xF).toNat = n →
      let t := s.bootStep
      t.core = s.core ∧ (t.host.boot &&& 0xF).toNat = n + 1
      ∧ (t.host.boot &&& 0xF0 ≠ 0 → t.host.bootDue = none) ∧ (t.host.boot &&& 0xF0 = 0 → n < 5 → t.host.bootDue ≠ none)
      ∧ (n = 1 → (t.host.boot &&& 0xF0 = 0 ↔ Config.signed h.image = true))
      ∧ (n = 2 → t.host.boot &&& 0xF0 = 0 → ∃ mask < 2 ^ 28, t.host.boot = ((h.boot ||| BitVec.ofNat 64 (mask * 2 ^ 9)) &&& ~~~(0xFF : Word)) ||| 3
        ∧ ∀ k < 28, mask.testBit k = true → t.pkg.sockets.get k = 1))
    ∧ (formed s → ∃ t, exec .packageReset s = .next t ∧ exec .overtempReset s = .next t ∧ afterReset s t)
    ∧ (h.boot.getLsbD 8 = false → h.restoring = false → h.bootDue = none → exec .setready s = .next (withHost s { h with boot := (h.boot &&& ~~~(0xF : Word)) ||| 0x107 }))
    ∧ exec .d3hotEntry s = .next (withHost s { h with d3hot := true })
    ∧ exec .d0Entry s = .next (withHost s { h with d3hot := false })
    ∧ exec .freezeAssert s = .next (withHost s { h with freeze := true })
    ∧ (h.freeze = true → exec .freezeRelease s = .next { withHost s { h with freeze := false } with
        drawer := { s.drawer with retrain := List.range 128 }
        fab := { s.fab with portUp := 0, retrain := s.fab.retrain ||| s.fab.portUp } })
    ∧ (∀ dom, ¬ mayLose s dom → exec (.throttle dom) s = .next s)
    ∧ (∀ k : BitVec 7, mayLose s (.core k) → k.toNat = s.id →
        ∃ t, exec (.throttle (.core k)) s = .next t ∧ t.core = { s.core with flow := { s.core.flow with throttled := true } } ∧ t.mem = s.mem ∧ (k.toNat, s.wall) ∈ t.pkg.cuts)
    ∧ (∀ q : BitVec 5, mayLose s (.matrix q) → ∃ t, exec (.throttle (.matrix q)) s = .next t ∧ t.core = s.core ∧ t.mem = s.mem ∧ quadOf t q.toNat = { quadOf s q.toNat with throttled := true })
    ∧ (∀ n : BitVec 4, mayLose s (.stack n) → ∃ t, exec (.throttle (.stack n)) s = .next t ∧ t.core = s.core ∧ t.mem = s.mem ∧ stackOf t n.toNat = { stackOf s n.toNat with throttled := true })
    ∧ (∀ n : BitVec 4, Store.wf s.bstacks = true →
        (∃ t, exec (.hotSet n) s = .next t ∧ stackOf t n.toNat = { stackOf s n.toNat with hot := true } ∧ t.core = s.core ∧ t.mem = s.mem)
        ∧ (∃ t, exec (.hotClear n) s = .next t ∧ stackOf t n.toNat = { stackOf s n.toNat with hot := false } ∧ t.core = s.core ∧ t.mem = s.mem))

/-- The host's port and its registers: a write through BAR2 stores its bytes and a read answers them; a frozen part answers
nothing; each register's own write changes it; the reply to a walk request makes
its TLB entry; a nonce is answered in the mailbox, with the log, a signature and the device key (log 18) (15 R449 to R454, R462 to R465; 10 R320; 11 R333; 14 R426). -/
def Sys2Proof.Claims.PortOfTheHost : Prop :=
  ∀ s : State, let h := s.host
    (∀ (off : BitVec 36) (bs : List (BitVec 8)), let pa := h.hwin.toNat + off.toNat
      h.freeze = false → bs ≠ [] → s.barOk pa bs.length = true → formed s → s.homes = [] → s.mem.ahead = [] → s.mem.kept = [] →
      (∀ i < bs.length, rangeOf (pa + i) = .drawer ∨ (s.mem.dirty.get (pa + i) = none ∧ s.mem.keyed.get ((pa + i) / 64) = none)) →
      ∃ t, exec (.hostWrite true off bs) s = .next t ∧ t.core = s.core ∧ stores s t pa bs)
    ∧ (∀ (off : BitVec 36) (n : BitVec 13), let pa := h.hwin.toNat + off.toNat
      h.freeze = false → s.barOk pa n.toNat = true →
      let u := s.inject pa n.toNat false
      u.core = s.core ∧ exec (.hostRead true off n) s = .next (withHost u { h with lastRead := some (u.bytesAt pa n.toNat, u.mem.blotted pa n.toNat) }))
    ∧ (∀ (off : BitVec 36) (n : BitVec 13), h.freeze = false → off.toNat + n.toNat ≤ 0x10000000 →
      exec (.hostRead false off n) s = .next (withHost s { h with lastRead := some (s.bytesAt (0xB000000000000 + off.toNat) n.toNat, false) }))
    ∧ (∀ (bar2 : Bool) (off : BitVec 36) (bs : List (BitVec 8)) (n : BitVec 13), h.freeze = true →
      exec (.hostWrite bar2 off bs) s = .next s ∧ exec (.hostRead bar2 off n) s = .next (withHost s { h with lastRead := none }))
    ∧ (∀ v : BitVec 64,
      exec (.funcModeWrite v) s = .next (withHost s { h with funcMode := v.setWidth 7 })
      ∧ exec (.triageTailWrite v) s = .next (withHost s { h with triTail := v, triLost := 0 })
      ∧ exec (.resetReportTailWrite v) s = .next (withHost s { h with rstTail := v, rstLost := 0 })
      ∧ (h.svcWait = [] → exec (.serviceRingConsWrite v) s = .next (withHost s { h with svcCons := v.setWidth 32 }))
      ∧ (∀ c : BitVec 7, c.toNat = s.id → exec (.wakeWordWrite c v) s =
          .next (withCore (withHost s { h with wakes := h.wakes.set s.id v }) { s.core with flow := { s.core.flow with wake := true } }))
      ∧ (∀ q : BitVec 2, exec (.syncOvfWrite q v) s = .next { s with sync := { s.sync with ovf := s.sync.ovf.set q.toNat (v &&& 0x800FFFFFFFFF0FFF) } })
      ∧ (∀ (k : BitVec 6) (dw : BitVec 3), k ≠ 0 → dw.toNat < 7 → Store.wf s.drawer.keyBuf = true → ∃ t, exec (.keySlotWrite k dw v) s = .next t ∧ t.core = s.core ∧ t.mem = s.mem
          ∧ t.drawer.loaded = s.drawer.loaded ∧ (t.drawer.keyBuf.get k.toNat).extractLsb' (64 * dw.toNat) 64 = v)
      ∧ (∀ k : BitVec 6, k ≠ 0 → s.drawer.keyNext.get k.toNat % 128 = 127 →
          let b := s.drawer.keyBuf.get k.toNat
          b.extractLsb' 0 256 ≠ 0 → b.extractLsb' 0 256 ≠ v ++ b.extractLsb' 256 192 →
          ∃ t, exec (.keySlotWrite k 7 v) s = .next t ∧ k.toNat ∈ t.drawer.loaded ∧ t.mem.keys.get k.toNat = v ++ b.extractLsb' 0 448))
    ∧ (∀ (ch : BitVec 7) (sl : BitVec 6) (v : BitVec 32), ∃ t, exec (.ductusTableWrite ch sl v) s = .next t ∧ t.core = s.core ∧ t.mem = s.mem
        ∧ t.drawer.written.get (64 * ch.toNat + sl.toNat) = some (v &&& 0x1FFFF) ∧ t.drawer.ductus = s.drawer.ductus)
    ∧ (∀ ch : BitVec 7, Store.wf s.drawer.ductus = true → Store.wf s.drawer.written = true →
        ∃ t, exec (.frameBoundary ch) s = .next t ∧ t.core = s.core ∧ t.mem = s.mem ∧ ∀ i < 64, slotAfter s t (64 * ch.toNat + i))
    ∧ (∀ (seq : BitVec 32) (res : BitVec 192) r w e, h.svcWait.find? (fun r => r.seq == some seq.toNat) = some r → r.func = 0 →
        s.core.walks.find? (fun w => w.ticket == some r.id) = some w → resByte res 48 = 1 →
        (res.extractLsb' 0 64).getLsbD 0 = true → (res.extractLsb' 0 64).getLsbD 3 = true → (res.extractLsb' 0 64).getLsbD 5 = false → leafEntry w.dom w.va (res.extractLsb' 0 64) 1 = .leaf e →
        (∀ u : State, u.mem = s.mem → u.pkg = s.pkg → u.host.roots = h.roots → ∀ i1 i2, (u.walk w.dom w.va).2 = .fault 0x17 i1 i2 → i2 = 2) →
        ∃ t, exec (.serviceReply seq 0 res) s = .next t ∧ t.core.tlb = s.core.tlb ++ [e] ∧ t.core.walks = s.core.walks.filter (· != w) ∧ t.mem = s.mem
          ∧ t.host.svcWait = h.svcWait.filter fun x => x.id != r.id)
    ∧ (∀ nonce : BitVec 256, Memory.wf h.mailbox = true → ∃ t, exec (.attestation nonce) s = .next t ∧ t.core = s.core ∧ t.mem = s.mem
        ∧ t.host.nonceFresh = false ∧ (∀ i < 32, t.host.mailbox.read i = BitVec.ofNat 8 (nonce.toNat / 256 ^ i) ∧ t.host.mailbox.read (0x40 + 1856 + i) = BitVec.ofNat 8 (nonce.toNat / 256 ^ i))
        ∧ (∀ i < 1856, t.host.mailbox.read (0x40 + i) = h.mlog.read i) ∧ ∀ i < 64, t.host.mailbox.read (0x40 + 31680 + i) = Config.deviceKey i)

namespace Sys2Proof.Claims
open Sys2Proof.Machine

/-- What a whole doubleword `v` written at offset `o` comes to, where the writer may write there. -/
def atOffset (s : State) (v : Word) (src : Agent) (o : Nat) (r : Host.Outcome State Fault Refusal) : Prop :=
  ∀ off : BitVec 28, off.toNat = o → mayWrite src o = true → exec (.systemBlockWrite off v src) s = r
/-- `s` with another port logic. -/
def withFab (s : State) (f : Fabric) : State := { s with fab := f }

/-- A drawer table's dwords 2j and 2j + 1 written with the halves of `v`. -/
def withDuctus (s : State) (j : Nat) (v : BitVec 64) : State :=
  { s with drawer := { s.drawer with written := (s.drawer.written.set (2 * j) (some (v.setWidth 32 &&& 0x1FFFF))).set (2 * j + 1) (some (v.extractLsb' 32 32 &&& 0x1FFFF)) } }

/-- Doubleword `w` of export window entry `i` written with the bits of `v` that it has. -/
def withExport (s : State) (i w : Nat) (v : Word) : State :=
  { s with fab := { s.fab with exports := s.fab.exports.set i ((s.fab.exports.get i &&& ~~~(((-1 : BitVec 64).setWidth 256) <<< (64 * w))) ||| (((v &&& exportMask w).setWidth 256) <<< (64 * w))) } }

/-- Doubleword `w` of service record `i` written by the host. -/
def withSvc (s : State) (i w : Nat) (v : Word) : State :=
  { s with host := { s.host with svcRing := s.host.svcRing.writeRun (64 * i + 8 * w) (natLe 8 v.toNat), svcFresh := if w = 4 then s.host.svcFresh ++ [i] else s.host.svcFresh } }

/-- Doubleword `i` of the mailbox written by the host. -/
def withMailbox (s : State) (i : Nat) (v : Word) : State :=
  { s with host := { s.host with mailbox := s.host.mailbox.writeRun (8 * i) (natLe 8 v.toNat), nonceFresh := s.host.nonceFresh || i == 3 } }

end Sys2Proof.Claims

/-- Every write of the system block: below its level, or past what the host may write, it is discarded; a record of the aperture
takes it in a free slot, and its COMMIT word commits; each register of the block takes the bits that it has; the rest of the block is unchanged by it
(15 R450, R452 to R455, R461 to R465; 12 R365; 10 R320; 11 R335, R348; 13 R386, R389, R391; 14 R426). DUCT decides who writes the ductus tables
(log 89). -/
def Sys2Proof.Claims.SystemBlock : Prop :=
  ∀ (s : State) (v : Word) (src : Agent), let h := s.host
    let at_ := atOffset s v src
    (∀ off : BitVec 28, off.toNat % 8 = 0 → off.toNat < 0x200000 ∨ 0x400000 ≤ off.toNat → mayWrite src off.toNat = false →
      exec (.systemBlockWrite off v src) s = .next s)
    ∧ (∀ o, src.host = false → (mayWrite src o = true ↔ sysWriteLevel o ≤ src.level.toNat))
    ∧ (∀ (off : BitVec 28) (k : BitVec 14) (i : Nat), i < 16 → off.toNat = 0x200000 + 128 * k.toNat + 8 * i →
      let t := if s.slotUsed k.toNat then s else { s with sched := { s.sched with aperture := s.sched.aperture.writeRun (128 * k.toNat + 8 * i) (natLe 8 v.toNat) } }
      exec (.systemBlockWrite off v src) s = if i = 15 ∧ v = 1 then exec (.nodeCommit k src) t else .next t)
    ∧ at_ 0x08 (.next (withHost s { h with funcMode := v.setWidth 7 }))
    ∧ (src.host = true → at_ 0x10 (.next (withHost s { h with hwin := v &&& 0x000FFFF000000000 })))
    ∧ at_ 0x18 (.next (withHost s { h with imagePool := v &&& 0x000FFFFFFFFFFFFF }))
    ∧ at_ 0x28 (.next (withHost s { h with ckptBase := v &&& 0x000FFFFFFFFFF000 }))
    ∧ (h.ckptCtl.getLsbD 2 = false →
      (v = 1 → at_ 0x20 (.next (withHost s { h with ckptWant := some false, ckptCtl := h.ckptCtl ||| 4, ckptLost := 0 })))
      ∧ (v = 2 → at_ 0x20 (.next (withHost s { h with ckptWant := some true, ckptCtl := h.ckptCtl ||| 4 }))))
    ∧ (h.ckptCtl.getLsbD 2 = true → v = 1 ∨ v = 2 → at_ 0x20 (.next s))
    ∧ at_ 0x38 (if v.getLsbD 0 then exec .setready s else .next s)
    ∧ (∀ i < 4096, at_ (0x8000 + 8 * i) (.next (withHost s { h with staging := h.staging.writeRun (8 * i) (natLe 8 v.toNat) })))
    ∧ (∀ c : BitVec 7, at_ (0x10000 + 8 * c.toNat) (exec (.wakeWordWrite c v) s))
    ∧ (∀ d < 64, at_ (0x100000 + 8 * d) (.next (withHost s { h with roots := h.roots.set d v })))
    ∧ (∀ q : BitVec 2, at_ (0x3000000 + 8 * q.toNat) (exec (.syncOvfWrite q v) s))
    ∧ (∀ b : BitVec 6, at_ (0x3001000 + 8 * b.toNat) (exec (.bcfgWrite false b v) s) ∧ (b.toNat < 16 → at_ (0x3001200 + 8 * b.toNat) (exec (.bcfgWrite true b v) s)))
    ∧ at_ 0x3010000 (.next (withFab s { s.fab with podId := v &&& 0xFFFF }))
    ∧ (∀ t < 256, at_ (0x3011000 + 8 * t) (.next (withFab s { s.fab with routes := s.fab.routes.set t (v &&& 0xFFFF03FF) })))
    ∧ (∀ i < 64, ∀ w < 4, at_ (0x3012000 + 32 * i + 8 * w) (.next (withExport s i w v)))
    ∧ (∀ j < 4096, at_ (0x4000000 + 8 * j) (.next (if src.host = h.funcMode.getLsbD 3 then withDuctus s j v else s)))
    ∧ (∀ (k : BitVec 6) (i : BitVec 3), at_ (0x4010000 + 64 * k.toNat + 8 * i.toNat) (exec (.keySlotWrite k i v) s))
    ∧ (∀ n < 16, at_ (0x5008000 + 0x10000 * n) (.next (s.setStack n { stackOf s n with pool := v &&& 0x0FFF001FFFF00001 })))
    ∧ at_ 0x6000008 (exec (.triageTailWrite v) s) ∧ at_ 0x6080008 (exec (.resetReportTailWrite v) s)
    ∧ (src.host = true → at_ 0x7000008 (exec (.serviceRingConsWrite v) s)
      ∧ (∀ i < 16320, ∀ w < 8, 4 ≤ w → at_ (0x7001000 + 64 * i + 8 * w) (.next (withSvc s i w v)))
      ∧ (∀ i < 65536, at_ (0x8080000 + 8 * i) (.next (withMailbox s i v))))
    ∧ (∀ o, o = 0 ∨ o = 0x30 ∨ (0x400000 ≤ o ∧ o < 0x3000000) ∨ (0x6000010 ≤ o ∧ o < 0x6080000) ∨ (0x6080010 ≤ o ∧ o < 0x7000000) ∨ (0x8000000 ≤ o ∧ o < 0x8080000) →
      o % 8 = 0 → at_ o (.next s))

/-- The checkpoint: GO sets BUSY and asks every strand to stop; COMPLETE clears BUSY and sets DONE; RESTORE with a legal
image begins, with another sets FAILED and loads nothing; RESTORE_COMPLETE ends it with DONE (15 R455 to R458). -/
def Sys2Proof.Claims.Checkpoints : Prop :=
  ∀ s : State, let h := s.host
    (h.ckptWant = some false → ∃ t, exec .ckptGo s = .next t ∧ t.mem = s.mem ∧ t.host.ckptCtl = h.ckptCtl ||| 4 ∧ t.host.ckptWant = none
      ∧ t.core = { s.core with strand := s.core.strand.map fun x => if x.dormant then x else asked x }
      ∧ ∀ k, (t.coreAt k).strand = (s.coreAt k).strand.map fun x => if x.dormant then x else asked x)
    ∧ (s.ckptReady = true → h.heldCommits = [] → ∃ t, exec .ckptComplete s = .next t ∧ t.host.ckptCtl.getLsbD 2 = false ∧ t.host.ckptCtl.getLsbD 3 = true
      ∧ t.core = s.core ∧ t.mem = (({ s with mem := (s.mem.showAll fun _ => true).writeBack } : State).writeImage).mem)
    ∧ (h.ckptWant = some true →
      let w := { h with ckptWant := none }
      ((withHost s w).restorable = true → exec .ckptRestore s = .next (withHost s { w with ckptCtl := h.ckptCtl ||| 4, restoring := true }))
      ∧ ((withHost s w).restorable = false → exec .ckptRestore s = .next (withHost s { w with ckptCtl := (h.ckptCtl &&& ~~~(4 : BitVec 5)) ||| 0x10 })))
    ∧ (h.restoring = true → h.heldCommits = [] → ∃ t, exec .ckptRestoreComplete s = .next t ∧ t.host.restoring = false
      ∧ t.host.ckptCtl = (h.ckptCtl &&& ~~~(4 : BitVec 5)) ||| 8 ∧ t.fab.txn = [] ∧ t.fab.cache = [])

/-- Chiplets and links: a lost chiplet is fenced, a stack's lost state begins; what is fenced already stays; a drawer channel
that retrains carries no bytes, of writes or of lines that the LLC does not hold, until it is done (14 R443 to R445; 01 R16; 10 R326). -/
def Sys2Proof.Claims.ChipletsAndLinks : Prop :=
  ∀ s : State,
    (∀ k : BitVec 5, k.toNat < 28 → s.pkg.sockets.get k.toNat = 0 → ∃ t, exec (.chipletLoss k) s = .next t ∧ t.pkg.sockets.get k.toNat = 1
      ∧ (k.toNat < 16 → t.lost k.toNat = true))
    ∧ (∀ k : BitVec 5, 28 ≤ k.toNat ∨ s.pkg.sockets.get k.toNat ≠ 0 → exec (.chipletLoss k) s = .next s)
    ∧ (∀ ch : BitVec 7,
      (s.host.funcMode.getLsbD 4 = false → ∃ t, exec (.drawerRetrain ch) s = .next t ∧ ch.toNat ∈ t.drawer.retrain ∧ t.core = s.core ∧ t.mem = s.mem
        ∧ (∀ c, c ≠ ch.toNat → (c ∈ t.drawer.retrain ↔ c ∈ s.drawer.retrain))
        ∧ ∀ loc, rangeOf (paOf loc) = .drawer → loc / 256 % 128 = ch.toNat → t.chanLate loc 1 ≠ none ∧ (loc / 64 ∉ s.llc → t.lateChan loc 1 ≠ none))
      ∧ (ch.toNat ∉ s.drawer.dead → ∃ t, exec (.retrainDone ch) s = .next t ∧ t.core = s.core ∧ t.mem = s.mem
        ∧ t.drawer.retrain = s.drawer.retrain.filter (· != ch.toNat)))

namespace Sys2Proof.Claims
open Sys2Proof.Machine

/-! ### From the bytes at the program counter to the meaning that runs (02 R34 to R44; 04 R135; 14 R417) -/

/-- The words of a folio that holds one instruction of stream `st`, alone in its group, from slot 1. -/
def aloneWords (st : Nat) (ws : List SlotWord) : List SlotWord := (oneRubric st ws.length :: ws) ++ List.replicate (7 - ws.length) 0
/-- That instruction's slot, and its group. -/
def aloneSlot (folio : Word) (st : Nat) (ws : List SlotWord) : GSlot := { folio := folio, slot := 1, stream := st, words := ws }
def aloneGroup (folio : Word) (st : Nat) (ws : List SlotWord) : Group :=
  { slots := [aloneSlot folio st ws], nextFolio := folio, nextSlot := 1 + ws.length }
/-- The same at the pc of `s`, with the block that it requests ahead (04 R133). -/
def groupHere (s : State) (st : Nat) (ws : List SlotWord) : Group :=
  { aloneGroup s.core.pc.folio st ws with ahead := s.core.nextBlock (aloneGroup s.core.pc.folio st ws) }

/-- `s` as an S instruction that stands alone at its pc finds it: the instruction is the current one, and nothing else differs. -/
def facing (s : State) (ws : List SlotWord) : State :=
  { s with core := { s.core with
      cur := { folio := s.core.pc.folio, slot := 1, stream := 0, seq := s.core.flow.seq, first := s.core.flow.seq, nextFolio := s.core.pc.folio, nextSlot := 1 + ws.length }
      out := .done } }
/-- `s` with its pc past that instruction's words, and the next dispatch one cycle on. -/
def past (s : State) (ws : List SlotWord) : State :=
  { s with core := { s.core with
      pc := { folio := s.core.pc.folio, slot := 1 + ws.length }
      flow := { s.core.flow with next := s.core.now + 1 } } }
/-- `t` with the group of one instruction dispatched: it has its place in program order, and nothing is held. -/
def dispatched (t : State) (x : Strand) : State :=
  { t with core := { t.core with
      flow := { t.core.flow with
        seq := t.core.flow.seq + 1
        dispatched := true }
      group := none
      strand := some { x with waitRuns := 0 } } }
/-- `s` as the head `q` of the queue of stream `st` finds it when it issues. -/
def atHead (s : State) (st : Nat) (q : QEnt) : State :=
  { s with core := { s.core with
      cur := q.cur st
      out := .done
      flow := { s.core.flow with issued := s.core.flow.issued ++ [st] } } }
/-- `t` without the head of that queue. -/
def dequeued (t : State) (st : Nat) : State := { t with core := { t.core with queues := t.core.queues.set st ((t.core.queues.get st).drop 1) } }
/-- `s` with an engine instruction, alone in its group at the pc, in its queue with its operands. -/
def enqueued (s : State) (x : Strand) (st : Nat) (ws : List SlotWord) : State :=
  let t := past s ws
  dispatched { t with core := { t.core with
    queues := s.core.queues.set st (s.core.queues.get st ++ [s.core.capture s.core.flow.seq (aloneSlot s.core.pc.folio st ws)]) } } x

/-- The strand's next group is the one that begins at its pc, and the folio there holds `i` alone. -/
def standsAt (s : State) (x : Strand) (st : Nat) (i : Instr) : Prop :=
  s.core.strand = some x ∧ s.core.pc.entry = none ∧ s.core.group = none ∧ s.core.pc.slot = 1 ∧ WellFormed st i
  ∧ s.core.folioAt s.core.pc.folio = .words (aloneWords st (encode i))

/-! ### What the memories of the package keep -/

/-- Memory and the last-level cache's copies are in canonical form, and the cache holds bytes of drawer memory alone. -/
def memoryFormed (s : State) : Prop :=
  Memory.wf s.mem.base = true ∧ Store.wf s.mem.dirty = true ∧ ∀ e ∈ s.mem.dirty, rangeOf (paOf e.1) = .drawer

end Sys2Proof.Claims

/-- A step runs the decoded instruction. The 32 bytes at a folio's place in its cache block are its words; a folio that holds one well-formed
instruction assembles to the group of that instruction; GROUP_DISPATCH of an S instruction at the pc runs its meaning with the pc past its
words, waits with nothing changed but its own query, or records its fault; of an engine instruction, it puts it into its
queue; and the head of a queue runs its meaning and leaves the queue (02 R34 to R44, R61; 04 R135; 14 R417). -/
def Obligations.StepRunsDecodedInstruction : Prop :=
  (∀ s u i, s.plan = .event u i → step s = exec i u)
  ∧ (∀ s u st, s.plan = .issue u st → step s = u.issueHead st)
  ∧ (∀ (c : Core) (folio : Word) b st i, canonical folio = true → c.block folio.toNat = some b → WellFormed st i →
      (b.data.drop (folio.toNat % 256)).take 32 = oneFolio st (encode i) → c.folioAt folio = .words (aloneWords st (encode i)))
  ∧ (∀ (c : Core) (folio : Word) st i, WellFormed st i → c.folioAt folio = .words (aloneWords st (encode i)) →
      c.assemble 1032 folio 1 true [] {} false = .group (aloneGroup folio st (encode i)))
  ∧ (∀ s x i, standsAt s x 0 i →
      let ws := encode i
      let g := groupHere s 0 ws
      ∀ o t, exec i (facing s ws) = .next o → exec i (facing (past s ws) ws) = .next t →
      let u := if o.core.out = .done then s else o
      (∀ y, t.core.out = .done → t.core.strand = some y → exec (.groupDispatch) s = .next ((dispatched t y).prefetch g))
      ∧ (t.core.out = .done → t.core.strand = none → exec (.groupDispatch) s = .next t)
      ∧ (t.core.out = .hold →
        exec (.groupDispatch) s = .next (withCore u (({ u.core with group := some g } : Core).countWait [opcOf (ws.headD 0)])).stalled)
      ∧ (∀ f, t.core.out = .trap f →
        exec (.groupDispatch) s = .next (withCore u (({ u.core with group := none } : Core).record f))))
  ∧ (∀ s x st i, standsAt s x st i → st ≠ 0 → s.core.trap.active = false → (s.core.queues.get st).length < 16 →
      exec (.groupDispatch) s = .next ((enqueued s x st (encode i)).prefetch (groupHere s st (encode i))))
  ∧ (∀ s st q r i t, s.core.queues.get st = q :: r → WellFormed st i → q.words = encode i → exec i (atHead s st q) = .next t →
      (t.core.out = .done → s.issueHead st = .next (dequeued t st))
      ∧ (t.core.out = .hold → s.issueHead st = .next t)
      ∧ (∀ f, t.core.out = .trap f → st ≠ 5 → s.issueHead st = .next (withCore t (t.core.record f))))

/-- Decoding reads each instruction from its own words and encoding gives them back: a well-formed instruction of a
stream, with every operand at every value that its encoding admits, is decoded from its words; and what decodes is well
formed, with the words that it was read from (02 R45 to R59). -/
def Obligations.DecodeAndEncodeAgree : Prop :=
  (∀ (st : Nat) (i : Instr), WellFormed st i → decode st (encode i) = .ok i)
  ∧ (∀ (st : Nat) (ws : List SlotWord) (i : Instr), decode st ws = .ok i →
      WellFormed st i ∧ encode i = [ws.headD 0, ws.getD 1 0, ws.getD 2 0].take (lenOf (ws.headD 0)))

/-- Every instruction and every event has a meaning that answers a next state, whatever the state; a step answers one too,
but in a part that bring-up has halted and that no input is left to reset (15 R453). -/
def Obligations.EveryStepGoesOn : Prop :=
  (∀ (i : Instr) (s : State), ∃ t, exec i s = .next t)
  ∧ ∀ s : State, (∃ t, step s = .next t) ∨ (step s = .fault .bringUpHalted ∧ s.halted = true ∧ s.inputs = [])

/-- The machine after reset: no strand; s, b, k and LC read 0, p0 alone reads 1, n and st are 1; no token, no effect and no
message; BOOT_STATUS 0 and FUNC_MODE 0x68; AITHR 0x400; every socket running, the ring of 16 slots empty (04 R105; 08 R231;
09 Table 9.10; 15 Table 15.4). That an unlisted byte reads 0 is the model's choice (log 3), as is what a core without a strand holds (log 11). -/
def Obligations.ResetState : Prop :=
  let s := State.reset
  s.core.strand = none ∧ s.cores = [] ∧ (∀ n, s.core.rs n = 0) ∧ (∀ n, s.core.rp n = decide (n = 0))
  ∧ (∀ n, s.core.sc.b.get n = 0 ∧ s.core.sc.k.get n = false ∧ s.core.sc.lrec.get n = 0) ∧ s.core.sc.lc = 0 ∧ s.core.sc.n = 1 ∧ s.core.sc.st = 1
  ∧ (∀ n ∈ [0x11, 0x12, 0x13, 0x14, 0x15, 0x16, 0x20, 0x21, 0x22, 0x23, 0x24, 0x25, 0x26, 0x27], s.sysReg n = 0)
  ∧ (∀ p q, s.core.tokens p q = 0) ∧ s.core.hold = [] ∧ s.core.lands = [] ∧ s.net = [] ∧ s.core.trap.active = false
  ∧ s.host.boot = 0 ∧ s.host.funcMode = 0x68 ∧ s.pkg.aithr = 0x400 ∧ (∀ k, s.pkg.sockets.get k = 0)
  ∧ s.core.mat.size = 16 ∧ s.core.mat.occ = 0 ∧ s.core.mat.nest = none ∧ (∀ k, s.core.mat.slots.get k = 0)
  ∧ memoryFormed s ∧ ∀ a, s.mem.byte a = 0

/-- Every step keeps memory and the last-level cache's copies in canonical form, and the cache's copies those of drawer memory
(05 R142 to R146); so equal memories are equal data in every state that a run reaches. -/
def Obligations.StepsKeepMemoryFormed : Prop :=
  ∀ s t : State, memoryFormed s → step s = .next t → memoryFormed t

/-- Words of the spec's worked encodings decode to the instructions that they stand for, in five streams (02 Table 2.14; 04
R124; 05 R154; 08 Table 8.4; 09 Table 9.4; 10 Table 10.4; 11 Table 11.4), and a reserved opcode to its sub-code (02 R57, R58). -/
def Obligations.SpecWordsDecode : Prop :=
  decode 0 [0x100514CD] = .ok (.addi { imm := 64, a := 5, d := 5 })
  ∧ decode 0 [0xFFFE8005] = .ok (.br { disp := -3, neg := 0, p := 0 })
  ∧ decode 0 [0x20041942, 0x00001433] = .ok (.ld { imm := 128, a := 4, d := 6 } { cls := 3, scope := 3, land := 40, space := 0, offext := 0 })
  ∧ decode 0 [0x050A1582, 0x0000C830] = .ok (.aadd { fn := 0, b := 20, a := 10, d := 5 } { cls := 0, scope := 3, land := 400, space := 0, offext := 0 })
  ∧ decode 1 [0x80810CC1] = .ok (.vfadd32 { ty := 8, vb := 2, va := 1, vd := 3 })
  ∧ decode 3 [0x0407800A, 0x00000FFF] = .ok (.mcfgv { imm := 16, a := 7, d := 32 } { tok := 0xFFF, scope := 0, cls := 0, xop := 0 })
  ∧ decode 4 [0x434A2C06, 0x00898FF8] = .ok (.cpy { fn := 4, b := 13, a := 10, d := 11 } { tok := 0xFF8, scope := 0, cls := 3, xop := 0x11 })
  ∧ decode 5 [0x030A2C0A, 0x00080FF8] = .ok (.bmv { fn := 0, b := 12, a := 10, d := 11 } { tok := 0xFF8, scope := 0, cls := 0, xop := 1 })
  ∧ decode 0 [0x0000003D] = .error 0x06

/-- The bank stacks' events take effect: a macro that is due arrives and commits, the macro that ends writes what it makes, a
product's outputs enter the hold, a due LOCAL replica becomes resident, a lane is refreshed, the period follows HOT, and a strike
changes no value (09 R266 to R293). -/
def Sys2Proof.Claims.BankEvents : Prop :=
  ∀ (n : BitVec 4) (s : State), Store.wf s.bstacks = true →
    let k := stackOf s n.toNat
    (∀ m x, s.core.strand = some x → s.arriving n.toNat = [(s.id, s.core.owner, m)] → (∀ a, m.kind ≠ .bfence a) →
      ∃ t, exec (.macroArrival n) s = .next t ∧ (s.core.owner, m.seq) ∈ (stackOf t n.toNat).order)
    ∧ (∀ m x, s.core.strand = some x → s.committing n.toNat = [(s.id, s.core.owner, m)] → n.toNat - m.g0 < m.pos.length →
      ∃ t, exec (.macroCommit n) s = .next t ∧ ∀ j ∈ t.core.macros, j.seq = m.seq → (j.pos.getD (n.toNat - m.g0) {}).committed = true ∨ j.pos.length ≤ n.toNat - m.g0)
    ∧ (∀ x c m slot slice data, s.ending n.toNat = some x → s.macroOf x = some (c, m) → m.kind = .bact slot slice data →
      ∃ t, exec (.macroEnd n) s = .next t ∧ (stackOf t n.toNat).act = setBytes k.act (actCells n.toNat m slot slice data))
    ∧ (∀ m which key ctl sp dst parts sr, s.producing = [m] → m.kind = .product which key ctl sp dst parts sr →
      ∃ t h, exec .productOutput s = .next t ∧ h ∈ t.core.hold ∧ h.owner = s.core.owner ∧ h.stream = 5 ∧ h.seq = m.seq)
    ∧ (∀ (h : Hyd) (entry : BitVec 8), s.dueHyd n.toNat = some h → h.entry = entry.toNat → h.origin = none → Entry.isLocal (k.table.get h.entry) = true →
      ∃ t, exec (.hydrationComplete n entry) s = .next t ∧ Entry.state ((stackOf t n.toNat).table.get h.entry) = 2)
    ∧ (∀ l : BitVec 8, ∃ t, exec (.refresh n l) s = .next t ∧ stackOf t n.toNat = { k with refreshing := k.refreshing ++ [l.toNat] })
    ∧ (∃ t, exec (.refreshPeriodChange n) s = .next t ∧ stackOf t n.toNat = { k with fast := k.hot })
    ∧ (∃ t, exec (.strikeLane n) s = .next t ∧ (stackOf t n.toNat).acc = k.acc ∧ (stackOf t n.toNat).act = k.act)
    ∧ (∃ t, exec (.hotSet n) s = .next t ∧ stackOf t n.toNat = { k with hot := true })
    ∧ (∃ t, exec (.hotClear n) s = .next t ∧ stackOf t n.toNat = { k with hot := false })

/-- Messages and walks take effect: a store is accepted, a trigger counts, an arrival counts at its barrier or its join object, a
reply reaches its held instruction, and a walk that ends gives its TLB entry (05 R146; 11 R341 to R355; 12 R372; 14 R428). -/
def Sys2Proof.Claims.MessageEvents : Prop :=
  ∀ (s : State) m,
    (∀ loc bs, s.firstMsg 0 = some m → m.kind = .store [(loc, bs)] false → plainAt s loc bs.length →
      ∃ t, exec .llcAccept s = .next t ∧ stores s t loc bs)
    ∧ (∀ n, s.firstMsg 1 = some m → m.kind = .trig → s.repeated m = none → s.node (m.owner / 32) = some n →
      ∃ t, exec .syncRequestApply s = .next t ∧ t.node (m.owner / 32) = some { n with trig := n.trig ||| (1 <<< (m.owner % 32)) })
    ∧ (∀ sc inst b node, s.firstMsg 2 = some m → m.kind = .barrier sc inst b node none → s.repeated m = none → sc ≠ 4 →
      let k : BarKey := (sc, inst, b, node)
      (s.sync.bar k).a + 1 < (s.sync.bar k).exp → ∃ t, exec .barrierArrival s = .next t ∧ (barOf t k).a = (s.sync.bar k).a + 1)
    ∧ (∀ loc p, s.firstMsg 3 = some m → m.kind = .join loc false p → s.repeated m = none → plainAt s loc 8 → quiet s → (∀ i < 8, oneKey s (loc + i)) → s.mem.blotted loc 16 = false →
      numAt s loc 8 % 2 ^ 16 > numAt s loc 8 / 2 ^ 16 % 2 ^ 16 →
      ∃ t, exec .joinArrival s = .next t ∧ stores s t loc (byteList 8 (numAt s loc 8 % 2 ^ 34 + 2 ^ 16)))
    ∧ (∀ held v f, s.firstMsg 4 = some m → m.kind = .reply held v f →
      ∃ t, exec .queryReply s = .next t ∧ ∀ h ∈ s.core.helds, h.id = held → h.stage ≠ 2 → h.stage ≠ 3 → { h with reply := some (v, f) } ∈ t.core.helds)
    ∧ (∀ w u e, s.dueWalk = some w → s.walk w.dom w.va = (u, .leaf e) → ∃ t, exec .pageWalk s = .next t ∧ e ∈ t.core.tlb ∧ w ∉ t.core.walks)

/-- Barrier configuration takes effect: BCFG's FLT completes the phase with FAULTED, its CLR makes a fresh counter, its write sets EXP
and DOMAIN, and another package's readiness is kept until this package is ready (11 R348; 13 R412). -/
def Sys2Proof.Claims.BarrierEvents : Prop :=
  ∀ (s : State) (b : BitVec 6) (pod : Bool), let k := barKey pod b.toNat
    (∃ t, exec (.bcfgFlt pod b) s = .next t ∧ (barOf t k).faulted = true ∧ (barOf t k).p = ((s.sync.bar k).p + 1) % 2 ^ 16)
    ∧ (∃ t, exec (.bcfgClr pod b) s = .next t ∧ (barOf t k).faulted = false ∧ (barOf t k).p = 0 ∧ (barOf t k).a = 0)
    ∧ (∀ v : BitVec 64, v.getLsbD 25 = false → v.getLsbD 26 = false →
        ∃ t, exec (.bcfgWrite pod b v) s = .next t ∧ (barOf t k).exp = v.toNat % 2 ^ 16 ∧ (barOf t k).dom = v.toNat / 2 ^ 16 % 64)
    ∧ (∀ (pkg : BitVec 8) (c : BitVec 4), (s.sync.bar (barKey true c.toNat)).own = false →
        ∃ t, exec (.podPhaseReady pkg c) s = .next t ∧ pkg.toNat ∈ (barOf t (barKey true c.toNat)).ready)

/-- The pool's and the strands' events take effect: a legal record becomes a node, the first node that can be placed is placed, 64
passes raise a level, a node that is done frees its slot, a woken strand joins the pool; a trap is delivered; a strand starts, is asked to
stop, stops, resumes, and is struck (12 R364 to R382; 14 R416, R436, R437). -/
def Sys2Proof.Claims.StrandEvents : Prop :=
  ∀ s : State,
    (∀ x f, s.core.strand = some x → s.core.dbl = none → s.core.trap.active = false → firstRec s.core.recs = some f →
      f.cause ≠ 0x09 → f.cause ≠ 0x17 → s.core.trap.vec.getLsbD 0 = true →
      ∃ t, exec .trapDelivery s = .next t ∧ t.core.trap.active = true ∧ t.core.trap.code = f.cause ∧ t.core.trap.pc = f.pc
        ∧ t.core.pc.folio = canon (s.core.trap.vec &&& 0x00FFFFFFFFFFFFE0))
    ∧ (∀ (slot : BitVec 14) (src : Agent), let r := slotRecord s slot.toNat
      s.ready = true → s.slotUsed slot.toNat = false → s.host.ckptCtl.getLsbD 2 = false → badOwner src (recDom r) = false → badRecord r = false →
      recW r 384 = 0 → recW r 768 = 0 → ∃ t n, exec (.nodeCommit slot src) s = .next t ∧ t.node slot.toNat = some n ∧ n.record = r)
    ∧ (∀ h n inst grp, s.nextItem = some (h, none) → s.decided.node h = some n → n.moved = false → s.decided.placement h n = some (inst, grp) → recW n.record 448 = 0 →
      ∃ t n', exec .nodeDispatch s = .next t ∧ t.node h = some n' ∧ n'.record = n.record ∧ n'.phase = 2 ∧ n'.inst = inst)
    ∧ (∀ (h : BitVec 14) n, s.node h.toNat = some n →
      (64 ≤ n.pass → n.phase = 1 → n.level < 3 → ∃ t, exec (.nodeAging h) s = .next t ∧ t.node h.toNat = some { n with level := n.level + 1, pass := 0 })
      ∧ (s.canComplete h.toNat = true → Store.wf s.sched.nodes = true → ∃ t, exec (.nodeComplete h) s = .next t ∧ t.node h.toNat = none)
      ∧ (∀ (i : BitVec 5) v, (h.toNat, i.toNat) ∈ s.sched.woken → s.sched.saved.get (recordKey h.toNat i.toNat) = some v → v.parked = true →
          ∃ t, exec (.suspendWake h i) s = .next t ∧ joinsPool s t n.level (h.toNat, some i.toNat)))
    ∧ (∀ (h : BitVec 14) (i : BitVec 5) k x, s.coreOf h.toNat i.toNat = some k → (s.coreAt k).strand = some x →
      ∃ t, exec (.preemptionRequest h i) s = .next t ∧ t.coreAt k = { s.coreAt k with strand := some (asked x) })
    ∧ (∀ x n, s.core.strand = some x → x.started = false → x.ready ≤ s.core.flow.run → s.node x.node = some n → n.ccb = [] →
      ∃ t, exec .strandStart s = .next t ∧ t.core = { s.core with strand := some { x with started := true } })
    ∧ (∀ x area, s.core.strand = some x → x.dormant = false → x.preempt = true → s.core.trap.active = false → s.core.unsettled = false → hasArea s 0 area →
      ∃ t y, exec .preemption s = .next t ∧ t.core.strand = some y ∧ y.dormant = true ∧ y.save = some area)
    ∧ (∀ h i k n sv c0 x, s.nextItem = some (h, some i) → s.coreFor h = some k → s.node h = some n → s.sched.saved.get (recordKey h i) = some sv → sv.core = some c0 →
      let c := if sv.area.2 = 0 then c0 else c0.loadImage s.mem sv.area.1 sv.area.2
      c.strand = some x →
      ∃ t y, exec .strandResume s = .next t ∧ (t.coreAt k).sc = c.sc ∧ (t.coreAt k).strand = some y ∧ y.dormant = false)
    ∧ (∀ x n, s.core.strand = some x → x.restart = true → s.node x.node = some n →
      ∃ t, exec .strikeCore s = .next t ∧ t.core.strand = none ∧ t.core.strike = satField s.core.strike 0)

/-- The port's and the collective engines' events take effect: requests, counted writes and replies are applied, ports retrain, and
each step of a run does its part (13 R388 to R409). -/
def Sys2Proof.Claims.FabricEvents : Prop :=
  ∀ s : State,
    (∀ (r : FabReq) n loc, isNew s r → r.op = .read n → s.window r.origin.toNat r.off.toNat n 1 = some loc →
      ∃ t, exec (.fabricRequest r) s = .next t ∧ answered s t r (.done ((s.inject loc n false).bytesAt loc n) ((s.inject loc n false).mem.blotted loc n)))
    ∧ (∀ (r : FabReq) red loc, isNew s r → r.op = .counted false red → r.blots = [] → r.data.length = 64 → s.window r.origin.toNat r.off.toNat 64 2 = some loc →
      rangeOf (paOf loc) = .carve → plainAt s loc 64 → ∃ t, exec (.countedWrite r) s = .next t ∧ stores s t loc r.data)
    ∧ (∀ (p : FabRep) o, s.fab.out.find? (fun o => o.target == p.target.toNat && o.txn == p.txn) = some o → s.fabLeft o = 0 →
      ∃ t, exec (.fabricReply p) s = .next t ∧ t.fab.out = s.fab.out.filter (· != o))
    ∧ (∀ port : BitVec 4,
      (∃ t, exec (.peerRetrain port) s = .next t ∧ t.fab.portUp.getLsbD port.toNat = false)
      ∧ (∃ t, exec (.peerPortTrained port) s = .next t ∧ t.fab.portUp.getLsbD port.toNat = true ∧ t.fab.retrain.getLsbD port.toNat = false)
      ∧ (s.fab.replay.get port.toNat < 15 → ∃ t, exec (.frameReplay port) s = .next t ∧ t.fab.replay.get port.toNat = s.fab.replay.get port.toNat + 1))
    ∧ (∀ b : BitVec 2, let q := b.toNat
      (∀ r u v bs tb x y, s.headRun q = some r → r.started = false → r.stopped = false →
        State.readAt r.dom r.level 2 (r.va + 64) (16 * (runHeader r 16 6 + 1)) s = (u, .inl (bs, x)) →
        State.readAt r.dom r.level 2 (BitVec.ofNat 64 (runHeader r 64 64)) (runN r) u = (v, .inl (tb, y)) →
        ∃ t, exec (.runStart b) s = .next t ∧ ∃ j ∈ (collOf t q).runs, j.ticket = r.ticket ∧ j.started = true)
      ∧ (∀ r loc, s.runAt q 1 = some r → sendable s r → s.window s.fab.own (r.granOff (stepF r.cur 16 2) r.chunk) 64 1 = some loc →
        ∃ t, exec (.collSend b) s = .next t ∧ sentGran s t q r (s.inject loc 64 false) loc)
      ∧ (∀ r ls, s.runAt q 2 = some r → s.tiles r = some ls → ls.all s.mem.tileReady = true →
        ∃ t, exec (.collRecv b) s = .next t ∧ runChanged s t q r.ticket Run.next)
      ∧ (∀ r ls loc, s.runAt q 3 = some r → r.chunk = 0 → s.tiles r = some ls → ls.all s.mem.tileReady = true → sendable s r →
        s.window s.fab.own (r.granOff (stepF r.cur 16 2) 0) 64 1 = some loc →
        ∃ t, exec (.collRrs b) s = .next t ∧ sentGran s t q r (({ s with mem := s.mem.consume ls } : State).inject loc 64 false) loc)
      ∧ (∀ r src loc, s.runAt q 4 = some r → r.acc = none → s.window s.fab.own (r.granOff (stepF r.cur 16 2) r.chunk) 64 1 = some src →
        s.window s.fab.own (r.granOff (stepF r.cur 18 2) r.chunk) 64 2 = some loc → plainAt (s.inject src 64 false) loc 64 →
        (s.inject src 64 false).mem.blotted src 64 = false →
        ∃ t, exec (.collCopy b) s = .next t ∧ runChanged s t q r.ticket Run.advance)
      ∧ (∀ r, s.runAt q 5 = some r → r.unacked = [] → ∃ t, exec (.collWait b) s = .next t ∧ runChanged s t q r.ticket Run.next)
      ∧ (∀ r, s.runAt q 6 = some r → r.ctr.getD (stepF r.cur 72 2) 0 + 1 < stepF r.cur 80 16 →
        ∃ t, exec (.collLoop b) s = .next t ∧ ∀ j ∈ (collOf t q).runs, j.ticket = r.ticket → j.step = stepF r.cur 64 8 ∧ j.chunk = 0)
      ∧ (∀ r u loc, (collOf s q).runs.find? Run.ended = some r → r.stopped = true → (runHeader r 384 64) % 64 = 0 →
        State.resolve (s.setColl q { collOf s q with runs := (collOf s q).runs.filter fun x => x.ticket != r.ticket }) r.dom .write
          (BitVec.ofNat 64 (runHeader r 384 64)) r.level = (u, .inl loc) → plainAt u loc 64 →
        ∃ t, exec (.collEnd b) s = .next t ∧ stores u t loc (byteList 64 r.record.toNat))
      ∧ (∀ cid : BitVec 16, ∃ t, exec (.collAbort cid) s = .next t ∧ ∀ r ∈ (collOf t q).runs, runHeader r 32 16 = cid.toNat → r.stopped = true))

/-- The events of power, the host and the checkpoint take effect (14 R443 to R448; 15 R447 to R465; 10 R320, R326; 01 R32). -/
def Sys2Proof.Claims.PackageEvents : Prop :=
  ∀ s : State, let h := s.host
    (h.boot = 0 → h.bootDue = none → ∃ t, exec .powerGood s = .next t ∧ t.host.bootDue ≠ none)
    ∧ (∃ t, exec .packageReset s = .next t ∧ t.core = {} ∧ t.cores = [] ∧ t.host = {})
    ∧ (∃ t, exec .overtempReset s = .next t ∧ t.core = {} ∧ t.cores = [] ∧ t.host = {})
    ∧ (h.boot.getLsbD 8 = false → h.restoring = false → h.bootDue = none → ∃ t, exec .setready s = .next t ∧ t.host.boot.getLsbD 8 = true)
    ∧ (∃ t, exec .d3hotEntry s = .next t ∧ t.host.d3hot = true)
    ∧ (∃ t, exec .d0Entry s = .next t ∧ t.host.d3hot = false)
    ∧ (∃ t, exec .freezeAssert s = .next t ∧ t.host.freeze = true)
    ∧ (h.freeze = true → ∃ t, exec .freezeRelease s = .next t ∧ t.host.freeze = false)
    ∧ (∀ k : BitVec 7, mayLose s (.core k) → ∃ t, exec (.throttle (.core k)) s = .next t ∧ (t.coreAt k.toNat).flow.throttled = true)
    ∧ (h.ckptWant = some false → ∃ t, exec .ckptGo s = .next t ∧ t.host.ckptCtl.getLsbD 2 = true)
    ∧ (s.ckptReady = true → h.heldCommits = [] → ∃ t, exec .ckptComplete s = .next t ∧ t.host.ckptCtl.getLsbD 2 = false ∧ t.host.ckptCtl.getLsbD 3 = true)
    ∧ (h.ckptWant = some true → (withHost s { h with ckptWant := none }).restorable = true →
        ∃ t, exec .ckptRestore s = .next t ∧ t.host.ckptCtl.getLsbD 2 = true ∧ t.host.restoring = true)
    ∧ (h.restoring = true → h.heldCommits = [] → ∃ t, exec .ckptRestoreComplete s = .next t ∧ t.host.restoring = false ∧ t.host.ckptCtl.getLsbD 3 = true)
    ∧ (∀ k : BitVec 5, k.toNat < 28 → s.pkg.sockets.get k.toNat = 0 → ∃ t, exec (.chipletLoss k) s = .next t ∧ t.pkg.sockets.get k.toNat = 1)
    ∧ (∀ ch : BitVec 7,
      (h.funcMode.getLsbD 4 = false → ∃ t, exec (.drawerRetrain ch) s = .next t ∧ ch.toNat ∈ t.drawer.retrain)
      ∧ (ch.toNat ∉ s.drawer.dead → ∃ t, exec (.retrainDone ch) s = .next t ∧ ch.toNat ∉ t.drawer.retrain)
      ∧ (∀ (sl : BitVec 6) (v : BitVec 32), ∃ t, exec (.ductusTableWrite ch sl v) s = .next t ∧ t.drawer.written.get (64 * ch.toNat + sl.toNat) = some (v &&& 0x1FFFF))
      ∧ (Store.wf s.drawer.ductus = true → Store.wf s.drawer.written = true → ∃ t, exec (.frameBoundary ch) s = .next t ∧ ∀ i < 64, slotAfter s t (64 * ch.toNat + i)))
    ∧ (∀ (k : BitVec 6) (dw : BitVec 3) (v : BitVec 64), k ≠ 0 → dw.toNat < 7 → Store.wf s.drawer.keyBuf = true →
        ∃ t, exec (.keySlotWrite k dw v) s = .next t ∧ (t.drawer.keyBuf.get k.toNat).extractLsb' (64 * dw.toNat) 64 = v)
    ∧ (∀ (off : BitVec 36) (bs : List (BitVec 8)), h.freeze = false → bs ≠ [] → s.barOk (h.hwin.toNat + off.toNat) bs.length = true → formed s → s.homes = [] → s.mem.ahead = [] → s.mem.kept = [] →
        (∀ i < bs.length, rangeOf (h.hwin.toNat + off.toNat + i) = .drawer) → ∃ t, exec (.hostWrite true off bs) s = .next t ∧ stores s t (h.hwin.toNat + off.toNat) bs)
    ∧ (∀ (off : BitVec 36) (n : BitVec 13), h.freeze = false → s.barOk (h.hwin.toNat + off.toNat) n.toNat = true →
        ∃ t b, exec (.hostRead true off n) s = .next t ∧ t.host.lastRead = some (t.bytesAt (h.hwin.toNat + off.toNat) n.toNat, b))
    ∧ (∀ nonce : BitVec 256, ∃ t, exec (.attestation nonce) s = .next t ∧ t.host.nonceFresh = false)
    ∧ (∀ v : BitVec 64,
      (∃ t, exec (.funcModeWrite v) s = .next t ∧ t.host.funcMode = v.setWidth 7)
      ∧ (∃ t, exec (.triageTailWrite v) s = .next t ∧ t.host.triTail = v)
      ∧ (∃ t, exec (.resetReportTailWrite v) s = .next t ∧ t.host.rstTail = v)
      ∧ (∃ t, exec (.serviceRingConsWrite v) s = .next t ∧ t.host.svcCons = v.setWidth 32)
      ∧ (∀ q : BitVec 2, ∃ t, exec (.syncOvfWrite q v) s = .next t ∧ t.sync.ovf = s.sync.ovf.set q.toNat (v &&& 0x800FFFFFFFFF0FFF))
      ∧ (∀ c : BitVec 7, ∃ t, exec (.wakeWordWrite c v) s = .next t ∧ t.host.wakes = h.wakes.set c.toNat v ∧ (c.toNat = s.id → t.core.flow.wake = true))
      ∧ (∀ src : Agent, src.host = false → src.level = 2 → ∃ t, exec (.systemBlockWrite 8 v src) s = .next t ∧ t.host.funcMode = v.setWidth 7))
    ∧ (∀ (seq : BitVec 32) (res : BitVec 192) r w e, h.svcWait.find? (fun r => r.seq == some seq.toNat) = some r → r.func = 0 →
        s.core.walks.find? (fun w => w.ticket == some r.id) = some w → resByte res 48 = 1 →
        (res.extractLsb' 0 64).getLsbD 0 = true → (res.extractLsb' 0 64).getLsbD 3 = true → (res.extractLsb' 0 64).getLsbD 5 = false → leafEntry w.dom w.va (res.extractLsb' 0 64) 1 = .leaf e →
        (∀ u : State, u.mem = s.mem → u.pkg = s.pkg → u.host.roots = h.roots → ∀ i1 i2, (u.walk w.dom w.va).2 = .fault 0x17 i1 i2 → i2 = 2) →
        ∃ t, exec (.serviceReply seq 0 res) s = .next t ∧ e ∈ t.core.tlb ∧ w ∉ t.core.walks)

/-- The instructions to a peer package complete wherever their address is there and the peer has room: PST, PRED and PFENCE add one
effect to the hold, PFAA and PCAS one and a landing, PLD a landing and a request, a block PST one effect for each piece (13 R396 to R400). -/
def Sys2Proof.Claims.FabricCompletes : Prop :=
  ∀ (w : FA) (m : MW) (s : State) (pa : Nat),
    let va := addrA s w m
    let n := amoWidth w
    (atPeerOk s .write va n pa → ∀ e ∈ [(.pst : FA → MW → Instr), .pred],
      ∃ t h, exec (e w m) s = .next t ∧ t.core.out = .done ∧ t.core.hold = s.core.hold ++ [h] ∧ h.leave = s.core.flow.conf + 320 ∧ t.mem = s.mem)
    ∧ (atPeerOk s .write va 8 pa →
      ∃ t h, exec (.pfence w m) s = .next t ∧ t.core.out = .done ∧ t.core.hold = s.core.hold ++ [h] ∧ h.leave = s.core.flow.conf + 320 ∧ t.mem = s.mem)
    ∧ (atPeerOk s .write va n pa → s.core.entries < 64 → s.core.preempting = false → ∀ e ∈ [(.pfaa : FA → MW → Instr), .pcas],
      ∃ t h l, exec (e w m) s = .next t ∧ t.core.out = .done ∧ t.core.hold = s.core.hold ++ [h] ∧ t.core.lands = s.core.lands ++ [l]
        ∧ l.due = s.core.now + m.land.toNat ∧ t.mem = s.mem)
    ∧ (atPeerOk s .read va n pa → s.core.entries < 64 →
      ∃ t o l, exec (.pld w m) s = .next t ∧ t.core.out = .done ∧ t.fab.out = s.fab.out ++ [o] ∧ o.target = peerOf pa ∧ t.core.lands = s.core.lands ++ [l]
        ∧ l.due = s.core.now + m.land.toNat ∧ t.mem = s.mem)
    ∧ (∀ ps qs, va.toNat % 64 = 0 → (s.rs w.d.toNat).toNat % 64 = 0 → (s.rs w.b.toNat).toNat % 64 = 0 → 64 ≤ (s.rs w.b.toNat).toNat →
      (s.rs w.b.toNat).toNat ≤ 65536 → (s.rs w.d.toNat).toNat + (s.rs w.b.toNat).toNat ≤ 2 ^ 21 →
      s.core.earlyRead 1 (s.rs w.d.toNat).toNat (s.rs w.b.toNat).toNat = false → s.blockPlaces 18 va (s.rs w.b.toNat).toNat = .inl qs → ps = joinPieces qs →
      let xs := cutUp (s.rs w.d.toNat).toNat ps
      (∀ q ∈ xs, s.fab.reach (peerOf q.1) = true ∧ s.unacked (peerOf q.1) + (xs.filter fun x => peerOf x.1 == peerOf q.1).length ≤ 4096) →
      ∃ t hs, exec (.pstBlock w m) s = .next t ∧ t.core.out = .done ∧ t.core.hold = s.core.hold ++ hs ∧ hs.length = xs.length ∧ t.mem = s.mem)

/-! ### The statements in several parts -/

/-- SEL, LEA and CMP: what each writes, and the encodings of CMP that fault (04 R112, R113). -/
def Obligations.SelectLeaAndCompare : Prop := Sys2Proof.Claims.SelectAndCompare ∧ Sys2Proof.Claims.CompareEncodings

/-- The instructions with an immediate: constants, arithmetic, shifts and compare, and the shift encodings that fault (04 R114 to R116). -/
def Obligations.ConstantsAndImmediates : Prop := Sys2Proof.Claims.PlaceConstants ∧ Sys2Proof.Claims.ImmediateInstructions ∧ Sys2Proof.Claims.ShiftEncodings

/-- Bit fields, predicate logic and the eight MOVP transfers (04 R111, R117, R118). -/
def Obligations.FieldsAndPredicates : Prop := Sys2Proof.Claims.FieldInstructions ∧ Sys2Proof.Claims.PredicateLogic ∧ Sys2Proof.Claims.PredicateMoves

/-- The scalar floating-point instructions on every operand (04 R119 to R123). -/
def Obligations.ScalarFloat : Prop := Sys2Proof.Claims.ScalarFloatRounding ∧ Sys2Proof.Claims.ScalarFloatExact

/-- LOOPSET and LOOP: the loop state that each leaves, where LOOP branches, and the encodings of LOOPSET that fault (04 R129, R130). -/
def Obligations.LoopSetupAndClose : Prop := Sys2Proof.Claims.LoopSetup ∧ Sys2Proof.Claims.LoopClose

/-- LD, LDS and LREC: from the scratchpad and from memory (05 R138 to R154). -/
def Obligations.ScalarLoads : Prop := Sys2Proof.Claims.ScratchpadLoads ∧ Sys2Proof.Claims.GlobalLoads

/-- ST and STS: where their bytes go and when they are seen; misaligned accesses (05 R140, R154, R174, R176). -/
def Obligations.ScalarStores : Prop := Sys2Proof.Claims.ScalarAccessStores ∧ Sys2Proof.Claims.MisalignedAccesses

/-- The atomics: their request, their landing and the value they leave (11 R340 to R345). -/
def Obligations.Atomics : Prop := Sys2Proof.Claims.AtomicsIssue ∧ Sys2Proof.Claims.AtomicValues

/-- Barriers, joins, waits, watches and strand requests: what each sends, and how it completes (11 R346 to R360; 12 R377 to R379). -/
def Obligations.Synchronisation : Prop := Sys2Proof.Claims.ArrivalsIssue ∧ Sys2Proof.Claims.RepliesComplete ∧ Sys2Proof.Claims.WaitsThatNeedNoReply

/-- MFS and MTS: values, levels, and the bits that each register keeps (14 R413 to R415, Table 14.2). -/
def Obligations.SystemRegisters : Prop := Sys2Proof.Claims.SystemRegisterMoves ∧ Sys2Proof.Claims.SystemRegistersReadBack

/-- RFT in its four modes (14 R425, R437). -/
def Obligations.LeavingTrapState : Prop := Sys2Proof.Claims.ReturningFromATrap ∧ Sys2Proof.Claims.LeavingThroughRft

/-- WFI, TLBI, TLBIA and LLCOP: completion and levels; a write-back changes no byte that is read (05 R145; 14 R426, R431 to R435). -/
def Obligations.MaintenanceInstructions : Prop := Sys2Proof.Claims.Maintenance ∧ Sys2Proof.Claims.WriteBackKeepsBytes

/-- Wide products, dot products, compares and selection (06 R197 to R199). -/
def Obligations.VectorProductsAndCompares : Prop := Sys2Proof.Claims.VectorWideProducts ∧ Sys2Proof.Claims.VectorCompares

/-- Masks, scalars, moves, views and tokens of the vector streams (06 R182 to R195). -/
def Obligations.VectorMasksMovesAndTokens : Prop := Sys2Proof.Claims.MasksAndScalars ∧ Sys2Proof.Claims.VectorMoves ∧ Sys2Proof.Claims.VectorTokens

/-- Movement across lanes (07 R203 to R210). -/
def Obligations.LaneMovements : Prop := Sys2Proof.Claims.LaneMovement ∧ Sys2Proof.Claims.LanePacking

/-- Reductions and scans: their nodes, their trees and what VRED and VSCAN write (07 R211 to R214; 03 R100, R101). -/
def Obligations.ReductionsAndScans : Prop := Sys2Proof.Claims.ReductionNodes ∧ Sys2Proof.Claims.Reductions ∧ Sys2Proof.Claims.TreesAndScans

/-- Vector loads and stores: chunks, elements and rows, from and to both spaces (05 R162 to R167). -/
def Obligations.VectorMemory : Prop := Sys2Proof.Claims.VectorLoads ∧ Sys2Proof.Claims.VectorStores

/-- What holds an instruction at the head of its queue, and a gate that is off (02 R52; 04 R132; 05 R156). -/
def Obligations.QueueHeads : Prop := Sys2Proof.Claims.VectorIssue ∧ Sys2Proof.Claims.EngineIssue

/-- The instructions to a peer package: requests, landings, blocks and refusals (13 R389 to R401). -/
def Obligations.FabricInstructions : Prop := Sys2Proof.Claims.FabricRequests ∧ Sys2Proof.Claims.BlockStores ∧ Sys2Proof.Claims.FabricRefusals

/-- The M stream beside its operations: configuration, pins, status, fence, and what waits for a clear (08 R234, R238 to R246). -/
def Obligations.MatrixSetupAndWaits : Prop := Sys2Proof.Claims.MatrixSetup ∧ Sys2Proof.Claims.MatrixWaits

/-- The copies: element maps, records and transforms (10 R298 to R312). -/
def Obligations.Copies : Prop := Sys2Proof.Claims.CopiesIssue ∧ Sys2Proof.Claims.RecordAndTransformCopies

/-- Signals, prefetch, flushes and fences of the copy stream, and timed copies (10 R316 to R328). -/
def Obligations.CopyControlAndTimedCopies : Prop := Sys2Proof.Claims.CopyControl ∧ Sys2Proof.Claims.TimedCopies

/-- Residency, in-DRAM copies, joins and fences of the bank stream (09 R283 to R291). -/
def Obligations.BankResidencyAndControl : Prop := Sys2Proof.Claims.BankResidency ∧ Sys2Proof.Claims.BankControl

/-- The copy engine: pieces of every kind of copy and side, ends, and landings of timed copies (10 R301, R312 to R327). -/
def Obligations.CopyEngine : Prop := Sys2Proof.Claims.CopyPieces ∧ Sys2Proof.Claims.CopySides

/-- The host's port, and every write of the system block (15 R449 to R454, R461 to R465). -/
def Obligations.HostPort : Prop := Sys2Proof.Claims.PortOfTheHost ∧ Sys2Proof.Claims.SystemBlock

/-- The checkpoint and its restore, lost chiplets, and drawer channels that retrain (15 R455 to R458; 14 R443 to R445; 10 R326). -/
def Obligations.CheckpointsAndLinks : Prop := Sys2Proof.Claims.Checkpoints ∧ Sys2Proof.Claims.ChipletsAndLinks

/-- The instructions to a peer package complete, and the events of strands, stacks, messages, barriers, fabric and package each answer a next state with their own effect wherever their rule lets them happen, in short; O44 to O53 say more of them, and O38 to O43 have the events of the cores and engines. -/
def Obligations.EventsTakeEffect : Prop := Sys2Proof.Claims.StrandEvents ∧ Sys2Proof.Claims.BankEvents ∧ Sys2Proof.Claims.MessageEvents ∧ Sys2Proof.Claims.BarrierEvents ∧ Sys2Proof.Claims.FabricEvents ∧ Sys2Proof.Claims.PackageEvents ∧ Sys2Proof.Claims.FabricCompletes
end

