-- ==== Sys2Proof/Laws/Ops.lean ====
section
/-! SUPPORT. Laws/Ops.lean: what each shared operation of the meanings answers, in the words of the statements, so that a
proof cites it and does not unfold the operation. -/

namespace Sys2Proof.Laws
open Sys2Proof.Machine Sys2Proof.Claims

/-! ### Results, faults and waits -/

theorem done_gives (s : State) : s.done = gives s [] := by simp [State.done, State.setOut, State.mapCore, gives]

/-- A write of s[d] and the end of the instruction (04 R105). -/
theorem postS_gives (s : State) (lat d : Nat) (v : Word) : (s.postS lat d v).done = gives s (resS s lat d v) := by
  by_cases h : d = 0
  · subst h; simp [State.postS, Core.postS, State.mapCore, State.done, State.setOut, gives, resS]
  · simp only [State.postS, Core.postS, State.mapCore, State.done, State.setOut, gives, resS, h, if_false, Core.post, res, Core.now, Core.sIx]
    by_cases ha : s.core.trap.active <;> by_cases hb : 56 ≤ d <;> simp [ha, hb]

/-- A write of p[d] and the end of the instruction (04 R105). -/
theorem postP_gives (s : State) (lat d : Nat) (v : Bool) : (s.postP lat d v).done = gives s (resP s lat d v) := by
  by_cases h : d = 0
  · subst h; simp [State.postP, Core.postP, State.mapCore, State.done, State.setOut, gives, resP]
  · simp only [State.postP, Core.postP, State.mapCore, State.done, State.setOut, gives, resP, h, if_false, Core.post, res, Core.now, Core.pIx]
    by_cases ha : s.core.trap.active <;> by_cases hb : 12 ≤ d <;> simp [ha, hb]

/-- A fault of an instruction against itself (14 R417). -/
theorem raise_raises (s : State) (cause : Nat) (i0 i1 i2 : Word) : s.raise cause i0 i1 i2 = raises s cause i0 i1 i2 := rfl
/-- An instruction that waits changes nothing but its own outcome. -/
theorem hold_core (s : State) : s.hold = { s with core := { s.core with out := .hold } } := rfl
/-- A trap instruction records its fault and goes on; in trap state it makes a double fault (14 R417, R421). -/
theorem record_gives (s : State) (t : Trap) (h : s.core.trap.active = false) :
    s.record t = { s with core := { s.core with recs := s.core.recs ++ [t] } } := by
  simp [State.record, Core.record, State.mapCore, h]

/-! ### Levels, addresses and replies -/

theorem needs_met {s : State} {level : Nat} (h : level ≤ s.core.level.toNat) (k : State) : s.needs level k = k := if_neg (by omega)
theorem needs_unmet {s : State} {level : Nat} (h : s.core.level.toNat < level) (k : State) :
    s.needs level k = raises s 0x04 0 (BitVec.ofNat 64 level) 0 := if_pos h
theorem atSync_ok {s : State} {va : Word} {align : Nat} {u : Use} {loc : Nat} (h : s.syncLoc va align u = .ok loc) (k : Nat → State) :
    s.atSync va align u k = k loc := by rw [State.atSync, h]
theorem atSync_miss {s : State} {va v : Word} {align : Nat} {u : Use} (h : s.syncLoc va align u = .miss v) (k : Nat → State) :
    s.atSync va align u k = (s.wantWalk s.core.dom v u).hold := by rw [State.atSync, h]
theorem atSync_bad {s : State} {va i0 i1 : Word} {align c : Nat} {u : Use} (h : s.syncLoc va align u = .bad c i0 i1) (k : Nat → State) :
    s.atSync va align u k = s.raiseLoc c i0 i1 := by rw [State.atSync, h]
theorem drop_unheld (s : State) (h : Held) : s.dropHeld h.id = unheld s h := rfl
theorem ask_new {s : State} (h : s.heldNow = none) (stage : Nat) (start : Nat → State → State) (fin : Word → State → State) (va : Word) :
    s.ask stage start fin va = (start s.nextId (s.addHeld stage 0)).hold := by rw [State.ask, h]
theorem ask_open {s : State} {e : Held} (h : s.heldNow = some e) (hr : e.reply = none) (stage : Nat) (start : Nat → State → State)
    (fin : Word → State → State) (va : Word) : s.ask stage start fin va = s.hold := by simp only [State.ask, h, hr]
theorem ask_answered {s : State} {e : Held} {v : Word} (h : s.heldNow = some e) (hr : e.reply = some (v, none)) (stage : Nat)
    (start : Nat → State → State) (fin : Word → State → State) (va : Word) : s.ask stage start fin va = (fin v (unheld s e)).done := by
  simp only [State.ask, h, hr]; rfl

/-! ### The fields of a core that no result touches -/

@[simp] theorem gives_pend (s : State) (ps : List Pend) : (gives s ps).core.pend = s.core.pend ++ ps := rfl
@[simp] theorem gives_sc (s : State) (ps : List Pend) : (gives s ps).core.sc = s.core.sc := rfl
@[simp] theorem gives_trap (s : State) (ps : List Pend) : (gives s ps).core.trap = s.core.trap := rfl
@[simp] theorem gives_recs (s : State) (ps : List Pend) : (gives s ps).core.recs = s.core.recs := rfl
@[simp] theorem gives_mem (s : State) (ps : List Pend) : (gives s ps).mem = s.mem := rfl
@[simp] theorem gives_out (s : State) (ps : List Pend) : (gives s ps).core.out = .done := rfl

/-! ### Issue from the VX, VY and engine streams (05 R168, 06 R189) -/

/-- An instruction whose tokens are not there waits. -/
theorem issue_waits {s : State} {tok : BitVec 12} (h : s.core.tokReady s.core.cur.stream (tokWaits tok) = false) (sig : Nat)
    (body : State → State) : s.issue tok sig body = s.hold := by simp [State.issue, h]
/-- One whose own counter is full raises SYNC_OVERFLOW. -/
theorem issue_full {s : State} {tok : BitVec 12} {sig : Nat} (h : s.core.tokReady s.core.cur.stream (tokWaits tok) = true) (h7 : sig ≠ 7)
    (hf : s.core.tokFull s.core.cur.stream sig = true) (body : State → State) :
    s.issue tok sig body = raises s 0x10 (BitVec.ofNat 64 (s.core.cur.stream * 8 + sig)) 0 0 := by
  simp [State.issue, h, h7, hf, raise_raises]

theorem least_none (l : List Nat) : least l = none ↔ l = [] := by
  cases l with
  | nil => simp [least]
  | cons a t => simp only [least]; split <;> simp

/-- Registers that lie in the file, are settled and carry no blot raise no fault (06 R186, 14 R439). -/
theorem regFault_none {s : State} {y : Bool} {rd wr : List Nat} (h : usable s y rd wr) : s.core.regFault y rd wr = none := by
  obtain ⟨h1, h2⟩ := h
  have e1 : least ((rd ++ wr).filter fun o => decide ((s.core.cluster y).size ≤ o)) = none := by
    rw [least_none, List.filter_eq_nil_iff]; intro o ho; have := h1 o ho; simp; omega
  have e2 : least (rd.filter fun o => s.core.earlyRead (if y then 3 else 2) o 1) = none := by
    rw [least_none, List.filter_eq_nil_iff]; intro o ho; simp [(h2 o ho).1]
  have e3 : least (rd.filter fun o => (s.core.cluster y).blots.get (o / 64)) = none := by
    rw [least_none, List.filter_eq_nil_iff]; intro o ho; simp [(h2 o ho).2]
  simp only [Core.regFault, e1, e2, e3]

/-- The common end of every vector instruction with a register result. -/
theorem issue_vbody {s : State} {v : VW} {lat occ : Nat} {bs : LBytes} {fl : Fp} {fs : List (Option Trap)} {body : State → State}
    (hf : firstFault fs = none) (hg : goes s v (consumer v)) (hb : body s = s.vbody (tokField v.tok 0) lat occ fs bs fl) :
    s.issue v.tok (tokField v.tok 0) body = issued s v (consumer v) lat occ ([res s lat 0 (.reg s.isY bs)] ++ resF s lat fl) := by
  obtain ⟨h1, h2, h3⟩ := hg
  have hc : tokField v.tok 0 = consumer v := by simp [tokField, consumer]
  have h2' : (consumer v != 7 && s.core.tokFull s.core.cur.stream (consumer v)) = false := by
    rcases h2 with h | h <;> simp [h]
  rw [hc] at hb ⊢
  unfold State.issue
  simp only [h1, Bool.not_true, Bool.false_eq_true, if_false, h2', h3, hb, State.vbody, hf]
  unfold issued resF res
  simp only [State.done, State.setOut, State.occupy, State.signalAt, State.mapCore, State.post, Core.post, Core.postF]
  by_cases hz : fl = 0
  · by_cases h7 : consumer v = 7 <;> simp [hz, h7, Core.signalAt, Core.now, Core.addSig]
  · rw [if_neg hz, if_neg hz]
    by_cases h7 : consumer v = 7 <;> simp [h7, Core.signalAt, Core.now, Core.addSig]

/-- A register alone: its bytes, and that no alignment is asked of it. -/
theorem touch_alone (s : State) (v : VW) (r : BitVec 6) (b n : Nat) : s.cl.touch r.toNat 1 b n (vAct s.cl v) = bytesOf s v r b n := by
  unfold Cluster.touch bytesOf active
  induction List.range n with
  | nil => rfl
  | cons a t ih =>
    simp only [List.flatMap_cons, List.filter_cons, ih]
    by_cases h : vAct s.cl v a
    · simp [h, Cluster.grp, Nat.mod_one]
    · simp [h]
theorem grpFault_alone (s : State) (y : Bool) (r : BitVec 6) : s.core.grpFault y r.toNat 1 = none := by
  have := r.isLt
  simp [Core.grpFault, Nat.mod_one]; omega

/-- An elementwise instruction of one register: the active elements written, the others kept, the flags together. -/
theorem issue_vmap {s : State} {v : VW} {w : FV} {n lat b : Nat} {rd : List (BitVec 6)} {f : Nat → Nat × Fp} {body : State → State}
    (hg : goes s v (consumer v)) (hu : usable s s.isY (rd.flatMap fun r => bytesOf s v r b n) (bytesOf s v w.vd b n))
    (hb : body s = s.vmap w.vd.toNat v n 1 b lat 1 (rd.map fun r => (r.toNat, 1, b)) [] f) :
    s.issue v.tok (tokField v.tok 0) body = issued s v (consumer v) lat 1
      ([res s lat 0 (.reg s.isY ((active s v n).flatMap fun j => elemPut (s.cl.regOff w.vd.toNat) b j (f j).1))]
        ++ resF s lat ((active s v n).foldl (fun a j => a ||| (f j).2) 0)) := by
  refine (issue_vbody (lat := lat) (occ := 1) ?_ hg hb).trans ?_
  · simp only [List.nil_append, grpFault_alone, List.flatMap_map, touch_alone, regFault_none hu]; rfl
  · congr 3
    · simp only [List.flatMap_map, Cluster.grp, Nat.mod_one, Nat.div_one, Nat.add_zero]; rfl
    · simp only [orFlags, List.foldl_map]; rfl

/-! ### Values of elements -/

theorem intBits_eq (n : Nat) (r : Int) : intBits n r = (BitVec.ofInt n r).toNat := by simp [intBits, BitVec.toNat_ofInt]
theorem elt_toNat (s : State) (r : BitVec 6) (b i : Nat) : (elt s r b i).toNat = s.cl.vals r.toNat b i := by
  simp only [elt, Cluster.vals, elem, BitVec.toNat_ofNat, Nat.mod_mod]
theorem intVal_elt (s : State) (r : BitVec 6) (b i : Nat) (sg : Bool) (hb : 0 < b) : intVal b sg (s.cl.vals r.toNat b i) = val sg (elt s r b i) := by
  rw [← elt_toNat]
  unfold intVal val
  generalize elt s r b i = x
  have hx := x.isLt
  have : 2 ^ (b - 1) * 2 = 2 ^ b := by rw [← Nat.pow_succ]; congr 1; omega
  cases sg
  · simp
  · simp [BitVec.toInt]; split <;> split <;> omega
/-- A result clamped where SAT asks for it, and wrapped otherwise. -/
theorem fit_toNat (n : Nat) (sg sat : Bool) (r : Int) : intBits n (if sat then clampInt n sg r else r) = (fit n sg sat r).toNat := by
  unfold fit; rw [intBits_eq]; congr 2
  have h1 := Nat.two_pow_pos n
  have h2 := Nat.two_pow_pos (n - 1)
  cases sat
  · rfl
  · cases sg <;> simp only [clampInt, if_true, Bool.false_eq_true, if_false, Int.max_def, Int.min_def] <;> repeat' split
    all_goals omega
theorem intBits_val (n : Nat) (sg : Bool) (a : BitVec n) : intBits n (val sg a) = a.toNat := by
  rw [intBits_eq]; cases sg <;> simp [val]
theorem tyBits_pos (t : Nat) : 0 < tyBits t := by unfold tyBits; split <;> decide

end Sys2Proof.Laws
end

