-- ==== Sys2Proof/Laws/Words.lean ====
section
/-! SUPPORT. Laws/Words.lean: an encoded word keeps its length, its opcode and every field, and a decoded word is encoded
to itself (02 R45 to R47). -/

namespace Sys2Proof
open Machine

/-! ### Parts of words put together -/

theorem part_high {n m : Nat} (x : BitVec n) (y : BitVec m) (p l : Nat) (h : m ≤ p) : (x ++ y).extractLsb' p l = x.extractLsb' (p - m) l := by
  ext i hi
  simp only [BitVec.getElem_extractLsb', BitVec.getLsbD_append]
  rw [if_neg (by omega)]
  congr 1; omega
theorem part_low {n m : Nat} (x : BitVec n) (y : BitVec m) (p l : Nat) (h : p + l ≤ m) : (x ++ y).extractLsb' p l = y.extractLsb' p l := by
  ext i hi
  simp only [BitVec.getElem_extractLsb', BitVec.getLsbD_append]
  rw [if_pos (by omega)]
theorem join_parts (w : SlotWord) (p a b : Nat) : w.extractLsb' (p + b) a ++ w.extractLsb' p b = w.extractLsb' p (a + b) := by
  ext i hi
  simp only [BitVec.getElem_append, BitVec.getElem_extractLsb']
  split
  · rfl
  · congr 1; omega

/-! ### First words -/

@[simp] theorem FA.dec_enc (f : FA) (o : BitVec 8) (n : BitVec 2) : FA.dec (f.enc o n) = f := by
  obtain ⟨fn', b', a', d'⟩ := f
  simp only [FA.dec, FA.enc, FA.mk.injEq]
  refine ⟨?_, ?_, ?_, ?_⟩ <;> ((repeat (first | erw [part_high _ _ _ _ (by decide)] | erw [part_low _ _ _ _ (by decide)])) <;> simp)
@[simp] theorem FA.opcOf_enc (f : FA) (o : BitVec 8) (n : BitVec 2) : opcOf (f.enc o n) = o.toNat := by
  simp only [opcOf, FA.enc]
  congr 1
  (repeat (first | erw [part_high _ _ _ _ (by decide)] | erw [part_low _ _ _ _ (by decide)])) <;> simp
@[simp] theorem FA.lenOf_enc (f : FA) (o : BitVec 8) (n : BitVec 2) : lenOf (f.enc o n) = n.toNat := by
  simp only [lenOf, FA.enc]
  congr 1
  (repeat (first | erw [part_high _ _ _ _ (by decide)] | erw [part_low _ _ _ _ (by decide)])) <;> simp
theorem FA.enc_dec (w : SlotWord) : (FA.dec w).enc (w.extractLsb' 2 8) (w.extractLsb' 0 2) = w := by
  simp only [FA.dec, FA.enc]
  erw [join_parts w 22 4 6, join_parts w 16 10 6, join_parts w 10 16 6, join_parts w 2 22 8, join_parts w 0 30 2]
  exact BitVec.extractLsb'_eq_self

@[simp] theorem FB.dec_enc (f : FB) (o : BitVec 8) (n : BitVec 2) : FB.dec (f.enc o n) = f := by
  obtain ⟨imm', a', d'⟩ := f
  simp only [FB.dec, FB.enc, FB.mk.injEq]
  refine ⟨?_, ?_, ?_⟩ <;> ((repeat (first | erw [part_high _ _ _ _ (by decide)] | erw [part_low _ _ _ _ (by decide)])) <;> simp)
@[simp] theorem FB.opcOf_enc (f : FB) (o : BitVec 8) (n : BitVec 2) : opcOf (f.enc o n) = o.toNat := by
  simp only [opcOf, FB.enc]
  congr 1
  (repeat (first | erw [part_high _ _ _ _ (by decide)] | erw [part_low _ _ _ _ (by decide)])) <;> simp
@[simp] theorem FB.lenOf_enc (f : FB) (o : BitVec 8) (n : BitVec 2) : lenOf (f.enc o n) = n.toNat := by
  simp only [lenOf, FB.enc]
  congr 1
  (repeat (first | erw [part_high _ _ _ _ (by decide)] | erw [part_low _ _ _ _ (by decide)])) <;> simp
theorem FB.enc_dec (w : SlotWord) : (FB.dec w).enc (w.extractLsb' 2 8) (w.extractLsb' 0 2) = w := by
  simp only [FB.dec, FB.enc]
  erw [join_parts w 16 10 6, join_parts w 10 16 6, join_parts w 2 22 8, join_parts w 0 30 2]
  exact BitVec.extractLsb'_eq_self

@[simp] theorem FC.dec_enc (f : FC) (o : BitVec 8) (n : BitVec 2) : FC.dec (f.enc o n) = f := by
  obtain ⟨imm', d'⟩ := f
  simp only [FC.dec, FC.enc, FC.mk.injEq]
  refine ⟨?_, ?_⟩ <;> ((repeat (first | erw [part_high _ _ _ _ (by decide)] | erw [part_low _ _ _ _ (by decide)])) <;> simp)
@[simp] theorem FC.opcOf_enc (f : FC) (o : BitVec 8) (n : BitVec 2) : opcOf (f.enc o n) = o.toNat := by
  simp only [opcOf, FC.enc]
  congr 1
  (repeat (first | erw [part_high _ _ _ _ (by decide)] | erw [part_low _ _ _ _ (by decide)])) <;> simp
@[simp] theorem FC.lenOf_enc (f : FC) (o : BitVec 8) (n : BitVec 2) : lenOf (f.enc o n) = n.toNat := by
  simp only [lenOf, FC.enc]
  congr 1
  (repeat (first | erw [part_high _ _ _ _ (by decide)] | erw [part_low _ _ _ _ (by decide)])) <;> simp
theorem FC.enc_dec (w : SlotWord) : (FC.dec w).enc (w.extractLsb' 2 8) (w.extractLsb' 0 2) = w := by
  simp only [FC.dec, FC.enc]
  erw [join_parts w 10 16 6, join_parts w 2 22 8, join_parts w 0 30 2]
  exact BitVec.extractLsb'_eq_self

@[simp] theorem FD.dec_enc (f : FD) (o : BitVec 8) (n : BitVec 2) : FD.dec (f.enc o n) = f := by
  obtain ⟨disp', neg', p'⟩ := f
  simp only [FD.dec, FD.enc, FD.mk.injEq]
  refine ⟨?_, ?_, ?_⟩ <;> ((repeat (first | erw [part_high _ _ _ _ (by decide)] | erw [part_low _ _ _ _ (by decide)])) <;> simp)
@[simp] theorem FD.opcOf_enc (f : FD) (o : BitVec 8) (n : BitVec 2) : opcOf (f.enc o n) = o.toNat := by
  simp only [opcOf, FD.enc]
  congr 1
  (repeat (first | erw [part_high _ _ _ _ (by decide)] | erw [part_low _ _ _ _ (by decide)])) <;> simp
@[simp] theorem FD.lenOf_enc (f : FD) (o : BitVec 8) (n : BitVec 2) : lenOf (f.enc o n) = n.toNat := by
  simp only [lenOf, FD.enc]
  congr 1
  (repeat (first | erw [part_high _ _ _ _ (by decide)] | erw [part_low _ _ _ _ (by decide)])) <;> simp
theorem FD.enc_dec (w : SlotWord) : (FD.dec w).enc (w.extractLsb' 2 8) (w.extractLsb' 0 2) = w := by
  simp only [FD.dec, FD.enc]
  erw [join_parts w 14 17 1, join_parts w 10 18 4, join_parts w 2 22 8, join_parts w 0 30 2]
  exact BitVec.extractLsb'_eq_self

@[simp] theorem FE.dec_enc (f : FE) (o : BitVec 8) (n : BitVec 2) : FE.dec (f.enc o n) = f := by
  obtain ⟨misc'⟩ := f
  simp only [FE.dec, FE.enc, FE.mk.injEq]
  (repeat (first | erw [part_high _ _ _ _ (by decide)] | erw [part_low _ _ _ _ (by decide)])) <;> simp
@[simp] theorem FE.opcOf_enc (f : FE) (o : BitVec 8) (n : BitVec 2) : opcOf (f.enc o n) = o.toNat := by
  simp only [opcOf, FE.enc]
  congr 1
  (repeat (first | erw [part_high _ _ _ _ (by decide)] | erw [part_low _ _ _ _ (by decide)])) <;> simp
@[simp] theorem FE.lenOf_enc (f : FE) (o : BitVec 8) (n : BitVec 2) : lenOf (f.enc o n) = n.toNat := by
  simp only [lenOf, FE.enc]
  congr 1
  (repeat (first | erw [part_high _ _ _ _ (by decide)] | erw [part_low _ _ _ _ (by decide)])) <;> simp
theorem FE.enc_dec (w : SlotWord) : (FE.dec w).enc (w.extractLsb' 2 8) (w.extractLsb' 0 2) = w := by
  simp only [FE.dec, FE.enc]
  erw [join_parts w 2 22 8, join_parts w 0 30 2]
  exact BitVec.extractLsb'_eq_self

@[simp] theorem FV.dec_enc (f : FV) (o : BitVec 8) (n : BitVec 2) : FV.dec (f.enc o n) = f := by
  obtain ⟨ty', vb', va', vd'⟩ := f
  simp only [FV.dec, FV.enc, FV.mk.injEq]
  refine ⟨?_, ?_, ?_, ?_⟩ <;> ((repeat (first | erw [part_high _ _ _ _ (by decide)] | erw [part_low _ _ _ _ (by decide)])) <;> simp)
@[simp] theorem FV.opcOf_enc (f : FV) (o : BitVec 8) (n : BitVec 2) : opcOf (f.enc o n) = o.toNat := by
  simp only [opcOf, FV.enc]
  congr 1
  (repeat (first | erw [part_high _ _ _ _ (by decide)] | erw [part_low _ _ _ _ (by decide)])) <;> simp
@[simp] theorem FV.lenOf_enc (f : FV) (o : BitVec 8) (n : BitVec 2) : lenOf (f.enc o n) = n.toNat := by
  simp only [lenOf, FV.enc]
  congr 1
  (repeat (first | erw [part_high _ _ _ _ (by decide)] | erw [part_low _ _ _ _ (by decide)])) <;> simp
theorem FV.enc_dec (w : SlotWord) : (FV.dec w).enc (w.extractLsb' 2 8) (w.extractLsb' 0 2) = w := by
  simp only [FV.dec, FV.enc]
  erw [join_parts w 22 4 6, join_parts w 16 10 6, join_parts w 10 16 6, join_parts w 2 22 8, join_parts w 0 30 2]
  exact BitVec.extractLsb'_eq_self

/-! ### Second words -/

@[simp] theorem VW.dec_enc (f : VW) : VW.dec f.enc = f := by
  obtain ⟨tok', vc', mask', ty2', rm', sat', perm', stgen'⟩ := f
  simp only [VW.dec, VW.enc, VW.mk.injEq]
  refine ⟨?_, ?_, ?_, ?_, ?_, ?_, ?_, ?_⟩ <;> ((repeat (first | erw [part_high _ _ _ _ (by decide)] | erw [part_low _ _ _ _ (by decide)])) <;> simp)
@[simp] theorem VW.enc_dec (w : SlotWord) : (VW.dec w).enc = w := by
  simp only [VW.dec, VW.enc]
  erw [join_parts w 30 1 1, join_parts w 29 2 1, join_parts w 26 3 3, join_parts w 22 6 4, join_parts w 18 10 4, join_parts w 12 14 6, join_parts w 0 20 12]
  exact BitVec.extractLsb'_eq_self

@[simp] theorem EW.dec_enc (f : EW) : EW.dec f.enc = f := by
  obtain ⟨tok', scope', cls', xop'⟩ := f
  simp only [EW.dec, EW.enc, EW.mk.injEq]
  refine ⟨?_, ?_, ?_, ?_⟩ <;> ((repeat (first | erw [part_high _ _ _ _ (by decide)] | erw [part_low _ _ _ _ (by decide)])) <;> simp)
@[simp] theorem EW.enc_dec (w : SlotWord) : (EW.dec w).enc = w := by
  simp only [EW.dec, EW.enc]
  erw [join_parts w 15 13 4, join_parts w 12 17 3, join_parts w 0 20 12]
  exact BitVec.extractLsb'_eq_self

@[simp] theorem MW.dec_enc (f : MW) : MW.dec f.enc = f := by
  obtain ⟨cls', scope', land', space', offext'⟩ := f
  simp only [MW.dec, MW.enc, MW.mk.injEq]
  refine ⟨?_, ?_, ?_, ?_, ?_⟩ <;> ((repeat (first | erw [part_high _ _ _ _ (by decide)] | erw [part_low _ _ _ _ (by decide)])) <;> simp)
@[simp] theorem MW.enc_dec (w : SlotWord) : (MW.dec w).enc = w := by
  simp only [MW.dec, MW.enc]
  erw [join_parts w 20 10 2, join_parts w 7 12 13, join_parts w 4 25 3, join_parts w 0 28 4]
  exact BitVec.extractLsb'_eq_self

end Sys2Proof
end

