-- ==== Sys2Proof/Laws/PerInstr.lean ====
section
/-! SUPPORT. Laws/PerInstr.lean: for every instruction, that the length field of its first word is the number of its words (02
R38); an operation that is no instruction word (02 R53) has none. -/

namespace Sys2Proof.Laws
open Sys2Proof.Machine

/-- The head word says how many words the instruction has. -/
def HeadLength.Statement (i : Instr) : Prop := i.space.isSome = true → lenOf ((encode i).headD 0) = (encode i).length

theorem HeadLength.groupDispatch : HeadLength.Statement (.groupDispatch) := nofun
theorem HeadLength.icacheFill : HeadLength.Statement (.icacheFill) := nofun
theorem HeadLength.resultWrite : HeadLength.Statement (.resultWrite) := nofun
theorem HeadLength.landing : HeadLength.Statement (.landing) := nofun
theorem HeadLength.lateDataFreeze : HeadLength.Statement (.lateDataFreeze) := nofun
theorem HeadLength.lateDataArrival : HeadLength.Statement (.lateDataArrival) := nofun
theorem HeadLength.lateStall : HeadLength.Statement (.lateStall) := nofun
theorem HeadLength.mStall : HeadLength.Statement (.mStall) := nofun
theorem HeadLength.bStall : HeadLength.Statement (.bStall) := nofun
theorem HeadLength.cStall : HeadLength.Statement (.cStall) := nofun
theorem HeadLength.egressRelease : HeadLength.Statement (.egressRelease) := nofun
theorem HeadLength.signalGiven : HeadLength.Statement (.signalGiven) := nofun
theorem HeadLength.trapDelivery : HeadLength.Statement (.trapDelivery) := nofun
theorem HeadLength.wfiTimeout : HeadLength.Statement (.wfiTimeout) := nofun
theorem HeadLength.slotClearDone : HeadLength.Statement (.slotClearDone) := nofun
theorem HeadLength.matrixStep : HeadLength.Statement (.matrixStep) := nofun
theorem HeadLength.rowBlockWrite : HeadLength.Statement (.rowBlockWrite) := nofun
theorem HeadLength.drainStart : HeadLength.Statement (.drainStart) := nofun
theorem HeadLength.drainRow : HeadLength.Statement (.drainRow) := nofun
theorem HeadLength.mloadRowWrite : HeadLength.Statement (.mloadRowWrite) := nofun
theorem HeadLength.strikeMatrix : HeadLength.Statement (.strikeMatrix) := nofun
theorem HeadLength.copyPiece : HeadLength.Statement (.copyPiece) := nofun
theorem HeadLength.copyEnd : HeadLength.Statement (.copyEnd) := nofun
theorem HeadLength.granuleLanding : HeadLength.Statement (.granuleLanding) := nofun
theorem HeadLength.macroArrival a0 : HeadLength.Statement (.macroArrival a0) := nofun
theorem HeadLength.macroCommit a0 : HeadLength.Statement (.macroCommit a0) := nofun
theorem HeadLength.productOutput : HeadLength.Statement (.productOutput) := nofun
theorem HeadLength.hydrationComplete a0 a1 : HeadLength.Statement (.hydrationComplete a0 a1) := nofun
theorem HeadLength.refresh a0 a1 : HeadLength.Statement (.refresh a0 a1) := nofun
theorem HeadLength.refreshPeriodChange a0 : HeadLength.Statement (.refreshPeriodChange a0) := nofun
theorem HeadLength.strikeLane a0 : HeadLength.Statement (.strikeLane a0) := nofun
theorem HeadLength.llcAccept : HeadLength.Statement (.llcAccept) := nofun
theorem HeadLength.pageWalk : HeadLength.Statement (.pageWalk) := nofun
theorem HeadLength.syncRequestApply : HeadLength.Statement (.syncRequestApply) := nofun
theorem HeadLength.barrierArrival : HeadLength.Statement (.barrierArrival) := nofun
theorem HeadLength.joinArrival : HeadLength.Statement (.joinArrival) := nofun
theorem HeadLength.queryReply : HeadLength.Statement (.queryReply) := nofun
theorem HeadLength.podPhaseReady a0 a1 : HeadLength.Statement (.podPhaseReady a0 a1) := nofun
theorem HeadLength.bcfgWrite a0 a1 a2 : HeadLength.Statement (.bcfgWrite a0 a1 a2) := nofun
theorem HeadLength.bcfgFlt a0 a1 : HeadLength.Statement (.bcfgFlt a0 a1) := nofun
theorem HeadLength.bcfgClr a0 a1 : HeadLength.Statement (.bcfgClr a0 a1) := nofun
theorem HeadLength.syncOvfWrite a0 a1 : HeadLength.Statement (.syncOvfWrite a0 a1) := nofun
theorem HeadLength.nodeCommit a0 a1 : HeadLength.Statement (.nodeCommit a0 a1) := nofun
theorem HeadLength.nodeDispatch : HeadLength.Statement (.nodeDispatch) := nofun
theorem HeadLength.strandStart : HeadLength.Statement (.strandStart) := nofun
theorem HeadLength.nodeAging a0 : HeadLength.Statement (.nodeAging a0) := nofun
theorem HeadLength.nodeComplete a0 : HeadLength.Statement (.nodeComplete a0) := nofun
theorem HeadLength.preemptionRequest a0 a1 : HeadLength.Statement (.preemptionRequest a0 a1) := nofun
theorem HeadLength.preemption : HeadLength.Statement (.preemption) := nofun
theorem HeadLength.strandResume : HeadLength.Statement (.strandResume) := nofun
theorem HeadLength.suspendWake a0 a1 : HeadLength.Statement (.suspendWake a0 a1) := nofun
theorem HeadLength.strikeCore : HeadLength.Statement (.strikeCore) := nofun
theorem HeadLength.chipletLoss a0 : HeadLength.Statement (.chipletLoss a0) := nofun
theorem HeadLength.drawerRetrain a0 : HeadLength.Statement (.drawerRetrain a0) := nofun
theorem HeadLength.retrainDone a0 : HeadLength.Statement (.retrainDone a0) := nofun
theorem HeadLength.ductusTableWrite a0 a1 a2 : HeadLength.Statement (.ductusTableWrite a0 a1 a2) := nofun
theorem HeadLength.frameBoundary a0 : HeadLength.Statement (.frameBoundary a0) := nofun
theorem HeadLength.keySlotWrite a0 a1 a2 : HeadLength.Statement (.keySlotWrite a0 a1 a2) := nofun
theorem HeadLength.fabricRequest a0 : HeadLength.Statement (.fabricRequest a0) := nofun
theorem HeadLength.fabricReply a0 : HeadLength.Statement (.fabricReply a0) := nofun
theorem HeadLength.frameReplay a0 : HeadLength.Statement (.frameReplay a0) := nofun
theorem HeadLength.peerRetrain a0 : HeadLength.Statement (.peerRetrain a0) := nofun
theorem HeadLength.runStart a0 : HeadLength.Statement (.runStart a0) := nofun
theorem HeadLength.collSend a0 : HeadLength.Statement (.collSend a0) := nofun
theorem HeadLength.collRecv a0 : HeadLength.Statement (.collRecv a0) := nofun
theorem HeadLength.collRrs a0 : HeadLength.Statement (.collRrs a0) := nofun
theorem HeadLength.collCopy a0 : HeadLength.Statement (.collCopy a0) := nofun
theorem HeadLength.collWait a0 : HeadLength.Statement (.collWait a0) := nofun
theorem HeadLength.collLoop a0 : HeadLength.Statement (.collLoop a0) := nofun
theorem HeadLength.collEnd a0 : HeadLength.Statement (.collEnd a0) := nofun
theorem HeadLength.countedWrite a0 : HeadLength.Statement (.countedWrite a0) := nofun
theorem HeadLength.collAbort a0 : HeadLength.Statement (.collAbort a0) := nofun
theorem HeadLength.powerGood : HeadLength.Statement (.powerGood) := nofun
theorem HeadLength.setready : HeadLength.Statement (.setready) := nofun
theorem HeadLength.packageReset : HeadLength.Statement (.packageReset) := nofun
theorem HeadLength.hostWrite a0 a1 a2 : HeadLength.Statement (.hostWrite a0 a1 a2) := nofun
theorem HeadLength.hostRead a0 a1 a2 : HeadLength.Statement (.hostRead a0 a1 a2) := nofun
theorem HeadLength.ckptGo : HeadLength.Statement (.ckptGo) := nofun
theorem HeadLength.ckptComplete : HeadLength.Statement (.ckptComplete) := nofun
theorem HeadLength.ckptRestore : HeadLength.Statement (.ckptRestore) := nofun
theorem HeadLength.ckptRestoreComplete : HeadLength.Statement (.ckptRestoreComplete) := nofun
theorem HeadLength.wakeWordWrite a0 a1 : HeadLength.Statement (.wakeWordWrite a0 a1) := nofun
theorem HeadLength.funcModeWrite a0 : HeadLength.Statement (.funcModeWrite a0) := nofun
theorem HeadLength.serviceReply a0 a1 a2 : HeadLength.Statement (.serviceReply a0 a1 a2) := nofun
theorem HeadLength.serviceRingConsWrite a0 : HeadLength.Statement (.serviceRingConsWrite a0) := nofun
theorem HeadLength.triageTailWrite a0 : HeadLength.Statement (.triageTailWrite a0) := nofun
theorem HeadLength.resetReportTailWrite a0 : HeadLength.Statement (.resetReportTailWrite a0) := nofun
theorem HeadLength.attestation a0 : HeadLength.Statement (.attestation a0) := nofun
theorem HeadLength.d3hotEntry : HeadLength.Statement (.d3hotEntry) := nofun
theorem HeadLength.d0Entry : HeadLength.Statement (.d0Entry) := nofun
theorem HeadLength.systemBlockWrite a0 a1 a2 : HeadLength.Statement (.systemBlockWrite a0 a1 a2) := nofun
theorem HeadLength.freezeAssert : HeadLength.Statement (.freezeAssert) := nofun
theorem HeadLength.freezeRelease : HeadLength.Statement (.freezeRelease) := nofun
theorem HeadLength.throttle a0 : HeadLength.Statement (.throttle a0) := nofun
theorem HeadLength.hotSet a0 : HeadLength.Statement (.hotSet a0) := nofun
theorem HeadLength.hotClear a0 : HeadLength.Statement (.hotClear a0) := nofun
theorem HeadLength.overtempReset : HeadLength.Statement (.overtempReset) := nofun
theorem HeadLength.peerPortTrained a0 : HeadLength.Statement (.peerPortTrained a0) := nofun
theorem HeadLength.macroEnd a0 : HeadLength.Statement (.macroEnd a0) := nofun
theorem HeadLength.nop w : HeadLength.Statement (.nop w) := fun _ => FE.lenOf_enc w 0 1
theorem HeadLength.br w : HeadLength.Statement (.br w) := fun _ => FD.lenOf_enc w 1 1
theorem HeadLength.brc w : HeadLength.Statement (.brc w) := fun _ => FD.lenOf_enc w 2 1
theorem HeadLength.call w : HeadLength.Statement (.call w) := fun _ => FD.lenOf_enc w 3 1
theorem HeadLength.calli w : HeadLength.Statement (.calli w) := fun _ => FA.lenOf_enc w 4 1
theorem HeadLength.ret w : HeadLength.Statement (.ret w) := fun _ => FE.lenOf_enc w 5 1
theorem HeadLength.jmpi w : HeadLength.Statement (.jmpi w) := fun _ => FA.lenOf_enc w 6 1
theorem HeadLength.loop w : HeadLength.Statement (.loop w) := fun _ => FD.lenOf_enc w 7 1
theorem HeadLength.loopset w : HeadLength.Statement (.loopset w) := fun _ => FB.lenOf_enc w 8 1
theorem HeadLength.exit w : HeadLength.Statement (.exit w) := fun _ => FE.lenOf_enc w 9 1
theorem HeadLength.yield w : HeadLength.Statement (.yield w) := fun _ => FE.lenOf_enc w 10 1
theorem HeadLength.suspend w : HeadLength.Statement (.suspend w) := fun _ => FE.lenOf_enc w 11 1
theorem HeadLength.seal w : HeadLength.Statement (.seal w) := fun _ => FE.lenOf_enc w 12 1
theorem HeadLength.trap w : HeadLength.Statement (.trap w) := fun _ => FE.lenOf_enc w 13 1
theorem HeadLength.brk w : HeadLength.Statement (.brk w) := fun _ => FE.lenOf_enc w 14 1
theorem HeadLength.add w : HeadLength.Statement (.add w) := fun _ => FA.lenOf_enc w 16 1
theorem HeadLength.sub w : HeadLength.Statement (.sub w) := fun _ => FA.lenOf_enc w 17 1
theorem HeadLength.mul w : HeadLength.Statement (.mul w) := fun _ => FA.lenOf_enc w 18 1
theorem HeadLength.mulh w : HeadLength.Statement (.mulh w) := fun _ => FA.lenOf_enc w 19 1
theorem HeadLength.mulhn w : HeadLength.Statement (.mulhn w) := fun _ => FA.lenOf_enc w 20 1
theorem HeadLength.div w : HeadLength.Statement (.div w) := fun _ => FA.lenOf_enc w 21 1
theorem HeadLength.divn w : HeadLength.Statement (.divn w) := fun _ => FA.lenOf_enc w 22 1
theorem HeadLength.rem w : HeadLength.Statement (.rem w) := fun _ => FA.lenOf_enc w 23 1
theorem HeadLength.remn w : HeadLength.Statement (.remn w) := fun _ => FA.lenOf_enc w 24 1
theorem HeadLength.and w : HeadLength.Statement (.and w) := fun _ => FA.lenOf_enc w 25 1
theorem HeadLength.or w : HeadLength.Statement (.or w) := fun _ => FA.lenOf_enc w 26 1
theorem HeadLength.xor w : HeadLength.Statement (.xor w) := fun _ => FA.lenOf_enc w 27 1
theorem HeadLength.andn w : HeadLength.Statement (.andn w) := fun _ => FA.lenOf_enc w 28 1
theorem HeadLength.shl w : HeadLength.Statement (.shl w) := fun _ => FA.lenOf_enc w 29 1
theorem HeadLength.shr w : HeadLength.Statement (.shr w) := fun _ => FA.lenOf_enc w 30 1
theorem HeadLength.sha w : HeadLength.Statement (.sha w) := fun _ => FA.lenOf_enc w 31 1
theorem HeadLength.rot w : HeadLength.Statement (.rot w) := fun _ => FA.lenOf_enc w 32 1
theorem HeadLength.min w : HeadLength.Statement (.min w) := fun _ => FA.lenOf_enc w 33 1
theorem HeadLength.max w : HeadLength.Statement (.max w) := fun _ => FA.lenOf_enc w 34 1
theorem HeadLength.minn w : HeadLength.Statement (.minn w) := fun _ => FA.lenOf_enc w 35 1
theorem HeadLength.maxn w : HeadLength.Statement (.maxn w) := fun _ => FA.lenOf_enc w 36 1
theorem HeadLength.clz w : HeadLength.Statement (.clz w) := fun _ => FA.lenOf_enc w 37 1
theorem HeadLength.ctz w : HeadLength.Statement (.ctz w) := fun _ => FA.lenOf_enc w 38 1
theorem HeadLength.popc w : HeadLength.Statement (.popc w) := fun _ => FA.lenOf_enc w 39 1
theorem HeadLength.ext w : HeadLength.Statement (.ext w) := fun _ => FA.lenOf_enc w 40 1
theorem HeadLength.extn w : HeadLength.Statement (.extn w) := fun _ => FA.lenOf_enc w 41 1
theorem HeadLength.ins w : HeadLength.Statement (.ins w) := fun _ => FA.lenOf_enc w 42 1
theorem HeadLength.sel w : HeadLength.Statement (.sel w) := fun _ => FA.lenOf_enc w 43 1
theorem HeadLength.lea w : HeadLength.Statement (.lea w) := fun _ => FA.lenOf_enc w 44 1
theorem HeadLength.cmp w : HeadLength.Statement (.cmp w) := fun _ => FA.lenOf_enc w 45 1
theorem HeadLength.movi w : HeadLength.Statement (.movi w) := fun _ => FC.lenOf_enc w 48 1
theorem HeadLength.movl w l : HeadLength.Statement (.movl w l) := fun _ => FC.lenOf_enc w 49 2
theorem HeadLength.movlHi w l : HeadLength.Statement (.movlHi w l) := fun _ => FC.lenOf_enc w 49 2
theorem HeadLength.movhi w : HeadLength.Statement (.movhi w) := fun _ => FC.lenOf_enc w 50 1
theorem HeadLength.addi w : HeadLength.Statement (.addi w) := fun _ => FB.lenOf_enc w 51 1
theorem HeadLength.muli w : HeadLength.Statement (.muli w) := fun _ => FB.lenOf_enc w 52 1
theorem HeadLength.andi w : HeadLength.Statement (.andi w) := fun _ => FB.lenOf_enc w 53 1
theorem HeadLength.ori w : HeadLength.Statement (.ori w) := fun _ => FB.lenOf_enc w 54 1
theorem HeadLength.xori w : HeadLength.Statement (.xori w) := fun _ => FB.lenOf_enc w 55 1
theorem HeadLength.shli w : HeadLength.Statement (.shli w) := fun _ => FB.lenOf_enc w 56 1
theorem HeadLength.shri w : HeadLength.Statement (.shri w) := fun _ => FB.lenOf_enc w 57 1
theorem HeadLength.shai w : HeadLength.Statement (.shai w) := fun _ => FB.lenOf_enc w 58 1
theorem HeadLength.cmpi w : HeadLength.Statement (.cmpi w) := fun _ => FB.lenOf_enc w 59 1
theorem HeadLength.pand w : HeadLength.Statement (.pand w) := fun _ => FA.lenOf_enc w 60 1
theorem HeadLength.por w : HeadLength.Statement (.por w) := fun _ => FA.lenOf_enc w 61 1
theorem HeadLength.pxor w : HeadLength.Statement (.pxor w) := fun _ => FA.lenOf_enc w 62 1
theorem HeadLength.movpFromP w : HeadLength.Statement (.movpFromP w) := fun _ => FA.lenOf_enc w 63 1
theorem HeadLength.movpToP w : HeadLength.Statement (.movpToP w) := fun _ => FA.lenOf_enc w 63 1
theorem HeadLength.movpToB w : HeadLength.Statement (.movpToB w) := fun _ => FA.lenOf_enc w 63 1
theorem HeadLength.movpFromB w : HeadLength.Statement (.movpFromB w) := fun _ => FA.lenOf_enc w 63 1
theorem HeadLength.movpToK w : HeadLength.Statement (.movpToK w) := fun _ => FA.lenOf_enc w 63 1
theorem HeadLength.movpFromK w : HeadLength.Statement (.movpFromK w) := fun _ => FA.lenOf_enc w 63 1
theorem HeadLength.movpFromLc w : HeadLength.Statement (.movpFromLc w) := fun _ => FA.lenOf_enc w 63 1
theorem HeadLength.movpKToP w : HeadLength.Statement (.movpKToP w) := fun _ => FA.lenOf_enc w 63 1
theorem HeadLength.fadd w : HeadLength.Statement (.fadd w) := fun _ => FA.lenOf_enc w 64 1
theorem HeadLength.fsub w : HeadLength.Statement (.fsub w) := fun _ => FA.lenOf_enc w 65 1
theorem HeadLength.fmul w : HeadLength.Statement (.fmul w) := fun _ => FA.lenOf_enc w 66 1
theorem HeadLength.ffma w : HeadLength.Statement (.ffma w) := fun _ => FA.lenOf_enc w 67 1
theorem HeadLength.fdiv w : HeadLength.Statement (.fdiv w) := fun _ => FA.lenOf_enc w 68 1
theorem HeadLength.fsqrt w : HeadLength.Statement (.fsqrt w) := fun _ => FA.lenOf_enc w 69 1
theorem HeadLength.fmin w : HeadLength.Statement (.fmin w) := fun _ => FA.lenOf_enc w 70 1
theorem HeadLength.fmax w : HeadLength.Statement (.fmax w) := fun _ => FA.lenOf_enc w 71 1
theorem HeadLength.fabs w : HeadLength.Statement (.fabs w) := fun _ => FA.lenOf_enc w 72 1
theorem HeadLength.fneg w : HeadLength.Statement (.fneg w) := fun _ => FA.lenOf_enc w 73 1
theorem HeadLength.fcmp w : HeadLength.Statement (.fcmp w) := fun _ => FA.lenOf_enc w 74 1
theorem HeadLength.fcvti w : HeadLength.Statement (.fcvti w) := fun _ => FA.lenOf_enc w 75 1
theorem HeadLength.icvtf w : HeadLength.Statement (.icvtf w) := fun _ => FA.lenOf_enc w 76 1
theorem HeadLength.ld w m : HeadLength.Statement (.ld w m) := fun _ => FB.lenOf_enc w 80 2
theorem HeadLength.st w m : HeadLength.Statement (.st w m) := fun _ => FB.lenOf_enc w 81 2
theorem HeadLength.lds w m : HeadLength.Statement (.lds w m) := fun _ => FB.lenOf_enc w 82 2
theorem HeadLength.sts w m : HeadLength.Statement (.sts w m) := fun _ => FB.lenOf_enc w 83 2
theorem HeadLength.fence w : HeadLength.Statement (.fence w) := fun _ => FC.lenOf_enc w 84 1
theorem HeadLength.waitw w m : HeadLength.Statement (.waitw w m) := fun _ => FB.lenOf_enc w 85 2
theorem HeadLength.lrec w m : HeadLength.Statement (.lrec w m) := fun _ => FB.lenOf_enc w 86 2
theorem HeadLength.tkwait w : HeadLength.Statement (.tkwait w) := fun _ => FE.lenOf_enc w 87 1
theorem HeadLength.tksig w : HeadLength.Statement (.tksig w) := fun _ => FE.lenOf_enc w 88 1
theorem HeadLength.aadd w m : HeadLength.Statement (.aadd w m) := fun _ => FA.lenOf_enc w 96 2
theorem HeadLength.aand w m : HeadLength.Statement (.aand w m) := fun _ => FA.lenOf_enc w 97 2
theorem HeadLength.aor w m : HeadLength.Statement (.aor w m) := fun _ => FA.lenOf_enc w 98 2
theorem HeadLength.axor w m : HeadLength.Statement (.axor w m) := fun _ => FA.lenOf_enc w 99 2
theorem HeadLength.amin w m : HeadLength.Statement (.amin w m) := fun _ => FA.lenOf_enc w 100 2
theorem HeadLength.amax w m : HeadLength.Statement (.amax w m) := fun _ => FA.lenOf_enc w 101 2
theorem HeadLength.aminn w m : HeadLength.Statement (.aminn w m) := fun _ => FA.lenOf_enc w 102 2
theorem HeadLength.amaxn w m : HeadLength.Statement (.amaxn w m) := fun _ => FA.lenOf_enc w 103 2
theorem HeadLength.aswp w m : HeadLength.Statement (.aswp w m) := fun _ => FA.lenOf_enc w 104 2
theorem HeadLength.acas w m : HeadLength.Statement (.acas w m) := fun _ => FA.lenOf_enc w 105 2
theorem HeadLength.afadd w m : HeadLength.Statement (.afadd w m) := fun _ => FA.lenOf_enc w 106 2
theorem HeadLength.ainc w m : HeadLength.Statement (.ainc w m) := fun _ => FA.lenOf_enc w 107 2
theorem HeadLength.radd w m : HeadLength.Statement (.radd w m) := fun _ => FA.lenOf_enc w 108 2
theorem HeadLength.rand w m : HeadLength.Statement (.rand w m) := fun _ => FA.lenOf_enc w 109 2
theorem HeadLength.ror w m : HeadLength.Statement (.ror w m) := fun _ => FA.lenOf_enc w 110 2
theorem HeadLength.rxor w m : HeadLength.Statement (.rxor w m) := fun _ => FA.lenOf_enc w 111 2
theorem HeadLength.rmin w m : HeadLength.Statement (.rmin w m) := fun _ => FA.lenOf_enc w 112 2
theorem HeadLength.rmax w m : HeadLength.Statement (.rmax w m) := fun _ => FA.lenOf_enc w 113 2
theorem HeadLength.rfadd w m : HeadLength.Statement (.rfadd w m) := fun _ => FA.lenOf_enc w 114 2
theorem HeadLength.rbfadd w m : HeadLength.Statement (.rbfadd w m) := fun _ => FA.lenOf_enc w 115 2
theorem HeadLength.bar w : HeadLength.Statement (.bar w) := fun _ => FA.lenOf_enc w 128 1
theorem HeadLength.barv w : HeadLength.Statement (.barv w) := fun _ => FA.lenOf_enc w 129 1
theorem HeadLength.bwait w : HeadLength.Statement (.bwait w) := fun _ => FA.lenOf_enc w 130 1
theorem HeadLength.trig w : HeadLength.Statement (.trig w) := fun _ => FA.lenOf_enc w 131 1
theorem HeadLength.gwait w : HeadLength.Statement (.gwait w) := fun _ => FA.lenOf_enc w 132 1
theorem HeadLength.spawn w : HeadLength.Statement (.spawn w) := fun _ => FA.lenOf_enc w 133 1
theorem HeadLength.nsub w : HeadLength.Statement (.nsub w) := fun _ => FA.lenOf_enc w 134 1
theorem HeadLength.prio w : HeadLength.Statement (.prio w) := fun _ => FA.lenOf_enc w 135 1
theorem HeadLength.jarv w : HeadLength.Statement (.jarv w) := fun _ => FA.lenOf_enc w 136 1
theorem HeadLength.jwait w : HeadLength.Statement (.jwait w) := fun _ => FA.lenOf_enc w 137 1
theorem HeadLength.watch w : HeadLength.Statement (.watch w) := fun _ => FA.lenOf_enc w 138 1
theorem HeadLength.unwatch w : HeadLength.Statement (.unwatch w) := fun _ => FA.lenOf_enc w 139 1
theorem HeadLength.pld w m : HeadLength.Statement (.pld w m) := fun _ => FA.lenOf_enc w 144 2
theorem HeadLength.pst w m : HeadLength.Statement (.pst w m) := fun _ => FA.lenOf_enc w 145 2
theorem HeadLength.pstBlock w m : HeadLength.Statement (.pstBlock w m) := fun _ => FA.lenOf_enc w 145 2
theorem HeadLength.pfaa w m : HeadLength.Statement (.pfaa w m) := fun _ => FA.lenOf_enc w 146 2
theorem HeadLength.pcas w m : HeadLength.Statement (.pcas w m) := fun _ => FA.lenOf_enc w 147 2
theorem HeadLength.pred w m : HeadLength.Statement (.pred w m) := fun _ => FA.lenOf_enc w 148 2
theorem HeadLength.pfence w m : HeadLength.Statement (.pfence w m) := fun _ => FA.lenOf_enc w 149 2
theorem HeadLength.clrun w m : HeadLength.Statement (.clrun w m) := fun _ => FA.lenOf_enc w 150 2
theorem HeadLength.clwait w m : HeadLength.Statement (.clwait w m) := fun _ => FA.lenOf_enc w 151 2
theorem HeadLength.mfs w : HeadLength.Statement (.mfs w) := fun _ => FC.lenOf_enc w 224 1
theorem HeadLength.mts w : HeadLength.Statement (.mts w) := fun _ => FC.lenOf_enc w 225 1
theorem HeadLength.svc w : HeadLength.Statement (.svc w) := fun _ => FE.lenOf_enc w 226 1
theorem HeadLength.rftResume w : HeadLength.Statement (.rftResume w) := fun _ => FE.lenOf_enc w 227 1
theorem HeadLength.rftSkip w : HeadLength.Statement (.rftSkip w) := fun _ => FE.lenOf_enc w 227 1
theorem HeadLength.rftPark w : HeadLength.Statement (.rftPark w) := fun _ => FE.lenOf_enc w 227 1
theorem HeadLength.rftRestart w : HeadLength.Statement (.rftRestart w) := fun _ => FE.lenOf_enc w 227 1
theorem HeadLength.tlbi w : HeadLength.Statement (.tlbi w) := fun _ => FA.lenOf_enc w 228 1
theorem HeadLength.tlbia w : HeadLength.Statement (.tlbia w) := fun _ => FE.lenOf_enc w 229 1
theorem HeadLength.llcopCarve w m : HeadLength.Statement (.llcopCarve w m) := fun _ => FA.lenOf_enc w 230 2
theorem HeadLength.llcopUncarve w m : HeadLength.Statement (.llcopUncarve w m) := fun _ => FA.lenOf_enc w 230 2
theorem HeadLength.llcopClean w m : HeadLength.Statement (.llcopClean w m) := fun _ => FA.lenOf_enc w 230 2
theorem HeadLength.llcopFlush w m : HeadLength.Statement (.llcopFlush w m) := fun _ => FA.lenOf_enc w 230 2
theorem HeadLength.purge w : HeadLength.Statement (.purge w) := fun _ => FA.lenOf_enc w 231 1
theorem HeadLength.chipopStatus w : HeadLength.Statement (.chipopStatus w) := fun _ => FB.lenOf_enc w 232 1
theorem HeadLength.chipopFence w : HeadLength.Statement (.chipopFence w) := fun _ => FB.lenOf_enc w 232 1
theorem HeadLength.chipopReset w : HeadLength.Statement (.chipopReset w) := fun _ => FB.lenOf_enc w 232 1
theorem HeadLength.chipopClearlost w : HeadLength.Statement (.chipopClearlost w) := fun _ => FB.lenOf_enc w 232 1
theorem HeadLength.wfi w : HeadLength.Statement (.wfi w) := fun _ => FE.lenOf_enc w 233 1
theorem HeadLength.vnop w : HeadLength.Statement (.vnop w) := fun _ => FV.lenOf_enc w 0 1
theorem HeadLength.vview w v l : HeadLength.Statement (.vview w v l) := fun _ => FV.lenOf_enc w 1 3
theorem HeadLength.tview w v l : HeadLength.Statement (.tview w v l) := fun _ => FV.lenOf_enc w 2 3
theorem HeadLength.vmov32 w : HeadLength.Statement (.vmov32 w) := fun _ => FV.lenOf_enc w 3 1
theorem HeadLength.vmov64 w v : HeadLength.Statement (.vmov64 w v) := fun _ => FV.lenOf_enc w 3 2
theorem HeadLength.vxmov32 w : HeadLength.Statement (.vxmov32 w) := fun _ => FV.lenOf_enc w 4 1
theorem HeadLength.vxmov64 w v : HeadLength.Statement (.vxmov64 w v) := fun _ => FV.lenOf_enc w 4 2
theorem HeadLength.vbcast32 w : HeadLength.Statement (.vbcast32 w) := fun _ => FV.lenOf_enc w 5 1
theorem HeadLength.vbcast64 w v : HeadLength.Statement (.vbcast64 w v) := fun _ => FV.lenOf_enc w 5 2
theorem HeadLength.vtos32 w : HeadLength.Statement (.vtos32 w) := fun _ => FV.lenOf_enc w 6 1
theorem HeadLength.vtos64 w v : HeadLength.Statement (.vtos64 w v) := fun _ => FV.lenOf_enc w 6 2
theorem HeadLength.vmset32 w : HeadLength.Statement (.vmset32 w) := fun _ => FV.lenOf_enc w 7 1
theorem HeadLength.vmset64 w v : HeadLength.Statement (.vmset64 w v) := fun _ => FV.lenOf_enc w 7 2
theorem HeadLength.vmand32 w : HeadLength.Statement (.vmand32 w) := fun _ => FV.lenOf_enc w 8 1
theorem HeadLength.vmand64 w v : HeadLength.Statement (.vmand64 w v) := fun _ => FV.lenOf_enc w 8 2
theorem HeadLength.vmor32 w : HeadLength.Statement (.vmor32 w) := fun _ => FV.lenOf_enc w 9 1
theorem HeadLength.vmor64 w v : HeadLength.Statement (.vmor64 w v) := fun _ => FV.lenOf_enc w 9 2
theorem HeadLength.vmxor32 w : HeadLength.Statement (.vmxor32 w) := fun _ => FV.lenOf_enc w 10 1
theorem HeadLength.vmxor64 w v : HeadLength.Statement (.vmxor64 w v) := fun _ => FV.lenOf_enc w 10 2
theorem HeadLength.vmpop32 w : HeadLength.Statement (.vmpop32 w) := fun _ => FV.lenOf_enc w 11 1
theorem HeadLength.vmpop64 w v : HeadLength.Statement (.vmpop64 w v) := fun _ => FV.lenOf_enc w 11 2
theorem HeadLength.vtkw w : HeadLength.Statement (.vtkw w) := fun _ => FV.lenOf_enc w 12 1
theorem HeadLength.vtks w : HeadLength.Statement (.vtks w) := fun _ => FV.lenOf_enc w 13 1
theorem HeadLength.vadd32 w : HeadLength.Statement (.vadd32 w) := fun _ => FV.lenOf_enc w 16 1
theorem HeadLength.vadd64 w v : HeadLength.Statement (.vadd64 w v) := fun _ => FV.lenOf_enc w 16 2
theorem HeadLength.vsub32 w : HeadLength.Statement (.vsub32 w) := fun _ => FV.lenOf_enc w 17 1
theorem HeadLength.vsub64 w v : HeadLength.Statement (.vsub64 w v) := fun _ => FV.lenOf_enc w 17 2
theorem HeadLength.vadds32 w : HeadLength.Statement (.vadds32 w) := fun _ => FV.lenOf_enc w 18 1
theorem HeadLength.vadds64 w v : HeadLength.Statement (.vadds64 w v) := fun _ => FV.lenOf_enc w 18 2
theorem HeadLength.vsubs32 w : HeadLength.Statement (.vsubs32 w) := fun _ => FV.lenOf_enc w 19 1
theorem HeadLength.vsubs64 w v : HeadLength.Statement (.vsubs64 w v) := fun _ => FV.lenOf_enc w 19 2
theorem HeadLength.vmul32 w : HeadLength.Statement (.vmul32 w) := fun _ => FV.lenOf_enc w 20 1
theorem HeadLength.vmul64 w v : HeadLength.Statement (.vmul64 w v) := fun _ => FV.lenOf_enc w 20 2
theorem HeadLength.vmulh32 w : HeadLength.Statement (.vmulh32 w) := fun _ => FV.lenOf_enc w 21 1
theorem HeadLength.vmulh64 w v : HeadLength.Statement (.vmulh64 w v) := fun _ => FV.lenOf_enc w 21 2
theorem HeadLength.vmulw32 w : HeadLength.Statement (.vmulw32 w) := fun _ => FV.lenOf_enc w 22 1
theorem HeadLength.vmulw64 w v : HeadLength.Statement (.vmulw64 w v) := fun _ => FV.lenOf_enc w 22 2
theorem HeadLength.vmac w v : HeadLength.Statement (.vmac w v) := fun _ => FV.lenOf_enc w 23 2
theorem HeadLength.vmacw w v : HeadLength.Statement (.vmacw w v) := fun _ => FV.lenOf_enc w 24 2
theorem HeadLength.vdot4 w v : HeadLength.Statement (.vdot4 w v) := fun _ => FV.lenOf_enc w 25 2
theorem HeadLength.vand32 w : HeadLength.Statement (.vand32 w) := fun _ => FV.lenOf_enc w 26 1
theorem HeadLength.vand64 w v : HeadLength.Statement (.vand64 w v) := fun _ => FV.lenOf_enc w 26 2
theorem HeadLength.vor32 w : HeadLength.Statement (.vor32 w) := fun _ => FV.lenOf_enc w 27 1
theorem HeadLength.vor64 w v : HeadLength.Statement (.vor64 w v) := fun _ => FV.lenOf_enc w 27 2
theorem HeadLength.vxor32 w : HeadLength.Statement (.vxor32 w) := fun _ => FV.lenOf_enc w 28 1
theorem HeadLength.vxor64 w v : HeadLength.Statement (.vxor64 w v) := fun _ => FV.lenOf_enc w 28 2
theorem HeadLength.vshl32 w : HeadLength.Statement (.vshl32 w) := fun _ => FV.lenOf_enc w 29 1
theorem HeadLength.vshl64 w v : HeadLength.Statement (.vshl64 w v) := fun _ => FV.lenOf_enc w 29 2
theorem HeadLength.vshr32 w : HeadLength.Statement (.vshr32 w) := fun _ => FV.lenOf_enc w 30 1
theorem HeadLength.vshr64 w v : HeadLength.Statement (.vshr64 w v) := fun _ => FV.lenOf_enc w 30 2
theorem HeadLength.vsha32 w : HeadLength.Statement (.vsha32 w) := fun _ => FV.lenOf_enc w 31 1
theorem HeadLength.vsha64 w v : HeadLength.Statement (.vsha64 w v) := fun _ => FV.lenOf_enc w 31 2
theorem HeadLength.vmin32 w : HeadLength.Statement (.vmin32 w) := fun _ => FV.lenOf_enc w 32 1
theorem HeadLength.vmin64 w v : HeadLength.Statement (.vmin64 w v) := fun _ => FV.lenOf_enc w 32 2
theorem HeadLength.vmax32 w : HeadLength.Statement (.vmax32 w) := fun _ => FV.lenOf_enc w 33 1
theorem HeadLength.vmax64 w v : HeadLength.Statement (.vmax64 w v) := fun _ => FV.lenOf_enc w 33 2
theorem HeadLength.vabs32 w : HeadLength.Statement (.vabs32 w) := fun _ => FV.lenOf_enc w 34 1
theorem HeadLength.vabs64 w v : HeadLength.Statement (.vabs64 w v) := fun _ => FV.lenOf_enc w 34 2
theorem HeadLength.vneg32 w : HeadLength.Statement (.vneg32 w) := fun _ => FV.lenOf_enc w 35 1
theorem HeadLength.vneg64 w v : HeadLength.Statement (.vneg64 w v) := fun _ => FV.lenOf_enc w 35 2
theorem HeadLength.vcmp32 w : HeadLength.Statement (.vcmp32 w) := fun _ => FV.lenOf_enc w 36 1
theorem HeadLength.vcmp64 w v : HeadLength.Statement (.vcmp64 w v) := fun _ => FV.lenOf_enc w 36 2
theorem HeadLength.vsel w v : HeadLength.Statement (.vsel w v) := fun _ => FV.lenOf_enc w 37 2
theorem HeadLength.vaddmin w v : HeadLength.Statement (.vaddmin w v) := fun _ => FV.lenOf_enc w 38 2
theorem HeadLength.vaddmax w v : HeadLength.Statement (.vaddmax w v) := fun _ => FV.lenOf_enc w 39 2
theorem HeadLength.vclz32 w : HeadLength.Statement (.vclz32 w) := fun _ => FV.lenOf_enc w 40 1
theorem HeadLength.vclz64 w v : HeadLength.Statement (.vclz64 w v) := fun _ => FV.lenOf_enc w 40 2
theorem HeadLength.vpopc32 w : HeadLength.Statement (.vpopc32 w) := fun _ => FV.lenOf_enc w 41 1
theorem HeadLength.vpopc64 w v : HeadLength.Statement (.vpopc64 w v) := fun _ => FV.lenOf_enc w 41 2
theorem HeadLength.vfadd32 w : HeadLength.Statement (.vfadd32 w) := fun _ => FV.lenOf_enc w 48 1
theorem HeadLength.vfadd64 w v : HeadLength.Statement (.vfadd64 w v) := fun _ => FV.lenOf_enc w 48 2
theorem HeadLength.vfsub32 w : HeadLength.Statement (.vfsub32 w) := fun _ => FV.lenOf_enc w 49 1
theorem HeadLength.vfsub64 w v : HeadLength.Statement (.vfsub64 w v) := fun _ => FV.lenOf_enc w 49 2
theorem HeadLength.vfmul32 w : HeadLength.Statement (.vfmul32 w) := fun _ => FV.lenOf_enc w 50 1
theorem HeadLength.vfmul64 w v : HeadLength.Statement (.vfmul64 w v) := fun _ => FV.lenOf_enc w 50 2
theorem HeadLength.vfma w v : HeadLength.Statement (.vfma w v) := fun _ => FV.lenOf_enc w 51 2
theorem HeadLength.vfms w v : HeadLength.Statement (.vfms w v) := fun _ => FV.lenOf_enc w 52 2
theorem HeadLength.vfnma w v : HeadLength.Statement (.vfnma w v) := fun _ => FV.lenOf_enc w 53 2
theorem HeadLength.vfmin32 w : HeadLength.Statement (.vfmin32 w) := fun _ => FV.lenOf_enc w 54 1
theorem HeadLength.vfmin64 w v : HeadLength.Statement (.vfmin64 w v) := fun _ => FV.lenOf_enc w 54 2
theorem HeadLength.vfmax32 w : HeadLength.Statement (.vfmax32 w) := fun _ => FV.lenOf_enc w 55 1
theorem HeadLength.vfmax64 w v : HeadLength.Statement (.vfmax64 w v) := fun _ => FV.lenOf_enc w 55 2
theorem HeadLength.vfabs32 w : HeadLength.Statement (.vfabs32 w) := fun _ => FV.lenOf_enc w 56 1
theorem HeadLength.vfabs64 w v : HeadLength.Statement (.vfabs64 w v) := fun _ => FV.lenOf_enc w 56 2
theorem HeadLength.vfneg32 w : HeadLength.Statement (.vfneg32 w) := fun _ => FV.lenOf_enc w 57 1
theorem HeadLength.vfneg64 w v : HeadLength.Statement (.vfneg64 w v) := fun _ => FV.lenOf_enc w 57 2
theorem HeadLength.vfcmp32 w : HeadLength.Statement (.vfcmp32 w) := fun _ => FV.lenOf_enc w 58 1
theorem HeadLength.vfcmp64 w v : HeadLength.Statement (.vfcmp64 w v) := fun _ => FV.lenOf_enc w 58 2
theorem HeadLength.vfdiv32 w : HeadLength.Statement (.vfdiv32 w) := fun _ => FV.lenOf_enc w 59 1
theorem HeadLength.vfdiv64 w v : HeadLength.Statement (.vfdiv64 w v) := fun _ => FV.lenOf_enc w 59 2
theorem HeadLength.vfsqrt32 w : HeadLength.Statement (.vfsqrt32 w) := fun _ => FV.lenOf_enc w 60 1
theorem HeadLength.vfsqrt64 w v : HeadLength.Statement (.vfsqrt64 w v) := fun _ => FV.lenOf_enc w 60 2
theorem HeadLength.vsfn32 w : HeadLength.Statement (.vsfn32 w) := fun _ => FV.lenOf_enc w 61 1
theorem HeadLength.vsfn64 w v : HeadLength.Statement (.vsfn64 w v) := fun _ => FV.lenOf_enc w 61 2
theorem HeadLength.vcvt w v : HeadLength.Statement (.vcvt w v) := fun _ => FV.lenOf_enc w 62 2
theorem HeadLength.vqnt w v : HeadLength.Statement (.vqnt w v) := fun _ => FV.lenOf_enc w 63 2
theorem HeadLength.vdqnt w v : HeadLength.Statement (.vdqnt w v) := fun _ => FV.lenOf_enc w 64 2
theorem HeadLength.vshup32 w : HeadLength.Statement (.vshup32 w) := fun _ => FV.lenOf_enc w 80 1
theorem HeadLength.vshup64 w v : HeadLength.Statement (.vshup64 w v) := fun _ => FV.lenOf_enc w 80 2
theorem HeadLength.vshdn32 w : HeadLength.Statement (.vshdn32 w) := fun _ => FV.lenOf_enc w 81 1
theorem HeadLength.vshdn64 w v : HeadLength.Statement (.vshdn64 w v) := fun _ => FV.lenOf_enc w 81 2
theorem HeadLength.vrot32 w : HeadLength.Statement (.vrot32 w) := fun _ => FV.lenOf_enc w 82 1
theorem HeadLength.vrot64 w v : HeadLength.Statement (.vrot64 w v) := fun _ => FV.lenOf_enc w 82 2
theorem HeadLength.vperm w v : HeadLength.Statement (.vperm w v) := fun _ => FV.lenOf_enc w 83 2
theorem HeadLength.vred32 w : HeadLength.Statement (.vred32 w) := fun _ => FV.lenOf_enc w 84 1
theorem HeadLength.vred64 w v : HeadLength.Statement (.vred64 w v) := fun _ => FV.lenOf_enc w 84 2
theorem HeadLength.vscan32 w : HeadLength.Statement (.vscan32 w) := fun _ => FV.lenOf_enc w 85 1
theorem HeadLength.vscan64 w v : HeadLength.Statement (.vscan64 w v) := fun _ => FV.lenOf_enc w 85 2
theorem HeadLength.vzip32 w : HeadLength.Statement (.vzip32 w) := fun _ => FV.lenOf_enc w 86 1
theorem HeadLength.vzip64 w v : HeadLength.Statement (.vzip64 w v) := fun _ => FV.lenOf_enc w 86 2
theorem HeadLength.vuzp32 w : HeadLength.Statement (.vuzp32 w) := fun _ => FV.lenOf_enc w 87 1
theorem HeadLength.vuzp64 w v : HeadLength.Statement (.vuzp64 w v) := fun _ => FV.lenOf_enc w 87 2
theorem HeadLength.vext32 w : HeadLength.Statement (.vext32 w) := fun _ => FV.lenOf_enc w 88 1
theorem HeadLength.vext64 w v : HeadLength.Statement (.vext64 w v) := fun _ => FV.lenOf_enc w 88 2
theorem HeadLength.vcompr32 w : HeadLength.Statement (.vcompr32 w) := fun _ => FV.lenOf_enc w 89 1
theorem HeadLength.vcompr64 w v : HeadLength.Statement (.vcompr64 w v) := fun _ => FV.lenOf_enc w 89 2
theorem HeadLength.vexpd32 w : HeadLength.Statement (.vexpd32 w) := fun _ => FV.lenOf_enc w 90 1
theorem HeadLength.vexpd64 w v : HeadLength.Statement (.vexpd64 w v) := fun _ => FV.lenOf_enc w 90 2
theorem HeadLength.vtrn32 w : HeadLength.Statement (.vtrn32 w) := fun _ => FV.lenOf_enc w 91 1
theorem HeadLength.vtrn64 w v : HeadLength.Statement (.vtrn64 w v) := fun _ => FV.lenOf_enc w 91 2
theorem HeadLength.viota32 w : HeadLength.Statement (.viota32 w) := fun _ => FV.lenOf_enc w 92 1
theorem HeadLength.viota64 w v : HeadLength.Statement (.viota64 w v) := fun _ => FV.lenOf_enc w 92 2
theorem HeadLength.vld w v m : HeadLength.Statement (.vld w v m) := fun _ => FV.lenOf_enc w 96 3
theorem HeadLength.vst w v m : HeadLength.Statement (.vst w v m) := fun _ => FV.lenOf_enc w 97 3
theorem HeadLength.vldsd w v m : HeadLength.Statement (.vldsd w v m) := fun _ => FV.lenOf_enc w 98 3
theorem HeadLength.vstsd w v m : HeadLength.Statement (.vstsd w v m) := fun _ => FV.lenOf_enc w 99 3
theorem HeadLength.vldx w v m : HeadLength.Statement (.vldx w v m) := fun _ => FV.lenOf_enc w 100 3
theorem HeadLength.vstx w v m : HeadLength.Statement (.vstx w v m) := fun _ => FV.lenOf_enc w 101 3
theorem HeadLength.vldt w v m : HeadLength.Statement (.vldt w v m) := fun _ => FV.lenOf_enc w 102 3
theorem HeadLength.vstt w v m : HeadLength.Statement (.vstt w v m) := fun _ => FV.lenOf_enc w 103 3
theorem HeadLength.vldb w v m : HeadLength.Statement (.vldb w v m) := fun _ => FV.lenOf_enc w 104 3
theorem HeadLength.mnop w : HeadLength.Statement (.mnop w) := fun _ => FE.lenOf_enc w 0 1
theorem HeadLength.mcfg w e l : HeadLength.Statement (.mcfg w e l) := fun _ => FC.lenOf_enc w 1 3
theorem HeadLength.mcfgv w e : HeadLength.Statement (.mcfgv w e) := fun _ => FB.lenOf_enc w 2 2
theorem HeadLength.mgo w e : HeadLength.Statement (.mgo w e) := fun _ => FE.lenOf_enc w 3 2
theorem HeadLength.mpin w e : HeadLength.Statement (.mpin w e) := fun _ => FE.lenOf_enc w 4 2
theorem HeadLength.munpin w e : HeadLength.Statement (.munpin w e) := fun _ => FE.lenOf_enc w 5 2
theorem HeadLength.mdrain w e : HeadLength.Statement (.mdrain w e) := fun _ => FE.lenOf_enc w 6 2
theorem HeadLength.msave w e : HeadLength.Statement (.msave w e) := fun _ => FB.lenOf_enc w 7 2
theorem HeadLength.mload w e : HeadLength.Statement (.mload w e) := fun _ => FB.lenOf_enc w 8 2
theorem HeadLength.mstat w e : HeadLength.Statement (.mstat w e) := fun _ => FE.lenOf_enc w 9 2
theorem HeadLength.mfence w e : HeadLength.Statement (.mfence w e) := fun _ => FE.lenOf_enc w 10 2
theorem HeadLength.cnop w : HeadLength.Statement (.cnop w) := fun _ => FE.lenOf_enc w 0 1
theorem HeadLength.cpy w e : HeadLength.Statement (.cpy w e) := fun _ => FA.lenOf_enc w 1 2
theorem HeadLength.cpy2 w e : HeadLength.Statement (.cpy2 w e) := fun _ => FA.lenOf_enc w 2 2
theorem HeadLength.cpyt w e : HeadLength.Statement (.cpyt w e) := fun _ => FA.lenOf_enc w 3 2
theorem HeadLength.cpyxCast w e : HeadLength.Statement (.cpyxCast w e) := fun _ => FA.lenOf_enc w 4 2
theorem HeadLength.cpyxScale w e : HeadLength.Statement (.cpyxScale w e) := fun _ => FA.lenOf_enc w 4 2
theorem HeadLength.cpyxAdd w e : HeadLength.Statement (.cpyxAdd w e) := fun _ => FA.lenOf_enc w 4 2
theorem HeadLength.cpyxReduce w e : HeadLength.Statement (.cpyxReduce w e) := fun _ => FA.lenOf_enc w 4 2
theorem HeadLength.cfill w e : HeadLength.Statement (.cfill w e) := fun _ => FA.lenOf_enc w 5 2
theorem HeadLength.csig w e : HeadLength.Statement (.csig w e) := fun _ => FA.lenOf_enc w 6 2
theorem HeadLength.cpref w e : HeadLength.Statement (.cpref w e) := fun _ => FA.lenOf_enc w 7 2
theorem HeadLength.cflushClean w e : HeadLength.Statement (.cflushClean w e) := fun _ => FA.lenOf_enc w 8 2
theorem HeadLength.cflushInval w e : HeadLength.Statement (.cflushInval w e) := fun _ => FA.lenOf_enc w 8 2
theorem HeadLength.cflushDiscard w e : HeadLength.Statement (.cflushDiscard w e) := fun _ => FA.lenOf_enc w 8 2
theorem HeadLength.cfence w e : HeadLength.Statement (.cfence w e) := fun _ => FE.lenOf_enc w 9 2
theorem HeadLength.bnop w : HeadLength.Statement (.bnop w) := fun _ => FE.lenOf_enc w 0 1
theorem HeadLength.bact w e : HeadLength.Statement (.bact w e) := fun _ => FA.lenOf_enc w 1 2
theorem HeadLength.bmv w e : HeadLength.Statement (.bmv w e) := fun _ => FA.lenOf_enc w 2 2
theorem HeadLength.bmvc w e : HeadLength.Statement (.bmvc w e) := fun _ => FA.lenOf_enc w 3 2
theorem HeadLength.bvm w e : HeadLength.Statement (.bvm w e) := fun _ => FA.lenOf_enc w 4 2
theorem HeadLength.bapp w e : HeadLength.Statement (.bapp w e) := fun _ => FA.lenOf_enc w 5 2
theorem HeadLength.browcp w e : HeadLength.Statement (.browcp w e) := fun _ => FA.lenOf_enc w 6 2
theorem HeadLength.browz w e : HeadLength.Statement (.browz w e) := fun _ => FA.lenOf_enc w 7 2
theorem HeadLength.bbufcp w e : HeadLength.Statement (.bbufcp w e) := fun _ => FA.lenOf_enc w 8 2
theorem HeadLength.bload w e : HeadLength.Statement (.bload w e) := fun _ => FA.lenOf_enc w 9 2
theorem HeadLength.bdrop w e : HeadLength.Statement (.bdrop w e) := fun _ => FA.lenOf_enc w 10 2
theorem HeadLength.bjoin w e : HeadLength.Statement (.bjoin w e) := fun _ => FA.lenOf_enc w 11 2
theorem HeadLength.bfence w e : HeadLength.Statement (.bfence w e) := fun _ => FE.lenOf_enc w 12 2

end Sys2Proof.Laws
end

