-- ==== Sys2Proof/Laws/State.lean ====
section
/-! SUPPORT. Laws/State.lean: what each named update of the state leaves of each field, true by rfl. -/

namespace Sys2Proof.Machine

/-! ### A change of the current core -/

@[simp] theorem State.mapCore_id (s : State) (f : Core → Core) : (s.mapCore f).id = s.id := rfl
@[simp] theorem State.mapCore_core (s : State) (f : Core → Core) : (s.mapCore f).core = f s.core := rfl
@[simp] theorem State.mapCore_cores (s : State) (f : Core → Core) : (s.mapCore f).cores = s.cores := rfl
@[simp] theorem State.mapCore_ticked (s : State) (f : Core → Core) : (s.mapCore f).ticked = s.ticked := rfl
@[simp] theorem State.mapCore_begun (s : State) (f : Core → Core) : (s.mapCore f).begun = s.begun := rfl
@[simp] theorem State.mapCore_wall (s : State) (f : Core → Core) : (s.mapCore f).wall = s.wall := rfl
@[simp] theorem State.mapCore_mem (s : State) (f : Core → Core) : (s.mapCore f).mem = s.mem := rfl
@[simp] theorem State.mapCore_llc (s : State) (f : Core → Core) : (s.mapCore f).llc = s.llc := rfl
@[simp] theorem State.mapCore_net (s : State) (f : Core → Core) : (s.mapCore f).net = s.net := rfl
@[simp] theorem State.mapCore_veiled (s : State) (f : Core → Core) : (s.mapCore f).veiled = s.veiled := rfl
@[simp] theorem State.mapCore_homes (s : State) (f : Core → Core) : (s.mapCore f).homes = s.homes := rfl
@[simp] theorem State.mapCore_quads (s : State) (f : Core → Core) : (s.mapCore f).quads = s.quads := rfl
@[simp] theorem State.mapCore_bstacks (s : State) (f : Core → Core) : (s.mapCore f).bstacks = s.bstacks := rfl
@[simp] theorem State.mapCore_sync (s : State) (f : Core → Core) : (s.mapCore f).sync = s.sync := rfl
@[simp] theorem State.mapCore_sched (s : State) (f : Core → Core) : (s.mapCore f).sched = s.sched := rfl
@[simp] theorem State.mapCore_fab (s : State) (f : Core → Core) : (s.mapCore f).fab = s.fab := rfl
@[simp] theorem State.mapCore_drawer (s : State) (f : Core → Core) : (s.mapCore f).drawer = s.drawer := rfl
@[simp] theorem State.mapCore_host (s : State) (f : Core → Core) : (s.mapCore f).host = s.host := rfl
@[simp] theorem State.mapCore_pkg (s : State) (f : Core → Core) : (s.mapCore f).pkg = s.pkg := rfl
@[simp] theorem State.mapCore_images (s : State) (f : Core → Core) : (s.mapCore f).images = s.images := rfl
@[simp] theorem State.mapCore_beside (s : State) (f : Core → Core) : (s.mapCore f).beside = s.beside := rfl
@[simp] theorem State.mapCore_inputs (s : State) (f : Core → Core) : (s.mapCore f).inputs = s.inputs := rfl
@[simp] theorem State.mapCore_nextId (s : State) (f : Core → Core) : (s.mapCore f).nextId = s.nextId := rfl
@[simp] theorem State.mapCore_freeCtr (s : State) (f : Core → Core) : (s.mapCore f).freeCtr = s.freeCtr := rfl

/-! ### The outcome of an instruction -/

@[simp] theorem State.setOut_id (s : State) (o : Out) : (s.setOut o).id = s.id := rfl
@[simp] theorem State.setOut_core (s : State) (o : Out) : (s.setOut o).core = { s.core with out := o } := rfl
@[simp] theorem State.setOut_cores (s : State) (o : Out) : (s.setOut o).cores = s.cores := rfl
@[simp] theorem State.setOut_ticked (s : State) (o : Out) : (s.setOut o).ticked = s.ticked := rfl
@[simp] theorem State.setOut_begun (s : State) (o : Out) : (s.setOut o).begun = s.begun := rfl
@[simp] theorem State.setOut_wall (s : State) (o : Out) : (s.setOut o).wall = s.wall := rfl
@[simp] theorem State.setOut_mem (s : State) (o : Out) : (s.setOut o).mem = s.mem := rfl
@[simp] theorem State.setOut_llc (s : State) (o : Out) : (s.setOut o).llc = s.llc := rfl
@[simp] theorem State.setOut_net (s : State) (o : Out) : (s.setOut o).net = s.net := rfl
@[simp] theorem State.setOut_veiled (s : State) (o : Out) : (s.setOut o).veiled = s.veiled := rfl
@[simp] theorem State.setOut_homes (s : State) (o : Out) : (s.setOut o).homes = s.homes := rfl
@[simp] theorem State.setOut_quads (s : State) (o : Out) : (s.setOut o).quads = s.quads := rfl
@[simp] theorem State.setOut_bstacks (s : State) (o : Out) : (s.setOut o).bstacks = s.bstacks := rfl
@[simp] theorem State.setOut_sync (s : State) (o : Out) : (s.setOut o).sync = s.sync := rfl
@[simp] theorem State.setOut_sched (s : State) (o : Out) : (s.setOut o).sched = s.sched := rfl
@[simp] theorem State.setOut_fab (s : State) (o : Out) : (s.setOut o).fab = s.fab := rfl
@[simp] theorem State.setOut_drawer (s : State) (o : Out) : (s.setOut o).drawer = s.drawer := rfl
@[simp] theorem State.setOut_host (s : State) (o : Out) : (s.setOut o).host = s.host := rfl
@[simp] theorem State.setOut_pkg (s : State) (o : Out) : (s.setOut o).pkg = s.pkg := rfl
@[simp] theorem State.setOut_images (s : State) (o : Out) : (s.setOut o).images = s.images := rfl
@[simp] theorem State.setOut_beside (s : State) (o : Out) : (s.setOut o).beside = s.beside := rfl
@[simp] theorem State.setOut_inputs (s : State) (o : Out) : (s.setOut o).inputs = s.inputs := rfl
@[simp] theorem State.setOut_nextId (s : State) (o : Out) : (s.setOut o).nextId = s.nextId := rfl
@[simp] theorem State.setOut_freeCtr (s : State) (o : Out) : (s.setOut o).freeCtr = s.freeCtr := rfl
@[simp] theorem State.done_eq (s : State) : s.done = s.setOut .done := rfl
@[simp] theorem State.hold_eq (s : State) : s.hold = s.setOut .hold := rfl
@[simp] theorem State.raiseT_eq (s : State) (t : Trap) : s.raiseT t = s.setOut (.trap t) := rfl
@[simp] theorem State.raise_eq (s : State) (c : Nat) (a b d : Word) : s.raise c a b d = s.setOut (.trap (s.core.fault c a b d)) := rfl

/-! ### A free value's number -/

@[simp] theorem State.bump_id (s : State) (n : Nat) : (s.bump n).id = s.id := rfl
@[simp] theorem State.bump_core (s : State) (n : Nat) : (s.bump n).core = s.core := rfl
@[simp] theorem State.bump_cores (s : State) (n : Nat) : (s.bump n).cores = s.cores := rfl
@[simp] theorem State.bump_ticked (s : State) (n : Nat) : (s.bump n).ticked = s.ticked := rfl
@[simp] theorem State.bump_begun (s : State) (n : Nat) : (s.bump n).begun = s.begun := rfl
@[simp] theorem State.bump_wall (s : State) (n : Nat) : (s.bump n).wall = s.wall := rfl
@[simp] theorem State.bump_mem (s : State) (n : Nat) : (s.bump n).mem = s.mem := rfl
@[simp] theorem State.bump_llc (s : State) (n : Nat) : (s.bump n).llc = s.llc := rfl
@[simp] theorem State.bump_net (s : State) (n : Nat) : (s.bump n).net = s.net := rfl
@[simp] theorem State.bump_veiled (s : State) (n : Nat) : (s.bump n).veiled = s.veiled := rfl
@[simp] theorem State.bump_homes (s : State) (n : Nat) : (s.bump n).homes = s.homes := rfl
@[simp] theorem State.bump_quads (s : State) (n : Nat) : (s.bump n).quads = s.quads := rfl
@[simp] theorem State.bump_bstacks (s : State) (n : Nat) : (s.bump n).bstacks = s.bstacks := rfl
@[simp] theorem State.bump_sync (s : State) (n : Nat) : (s.bump n).sync = s.sync := rfl
@[simp] theorem State.bump_sched (s : State) (n : Nat) : (s.bump n).sched = s.sched := rfl
@[simp] theorem State.bump_fab (s : State) (n : Nat) : (s.bump n).fab = s.fab := rfl
@[simp] theorem State.bump_drawer (s : State) (n : Nat) : (s.bump n).drawer = s.drawer := rfl
@[simp] theorem State.bump_host (s : State) (n : Nat) : (s.bump n).host = s.host := rfl
@[simp] theorem State.bump_pkg (s : State) (n : Nat) : (s.bump n).pkg = s.pkg := rfl
@[simp] theorem State.bump_images (s : State) (n : Nat) : (s.bump n).images = s.images := rfl
@[simp] theorem State.bump_beside (s : State) (n : Nat) : (s.bump n).beside = s.beside := rfl
@[simp] theorem State.bump_inputs (s : State) (n : Nat) : (s.bump n).inputs = s.inputs := rfl
@[simp] theorem State.bump_nextId (s : State) (n : Nat) : (s.bump n).nextId = s.nextId := rfl
@[simp] theorem State.bump_freeCtr (s : State) (n : Nat) : (s.bump n).freeCtr = s.freeCtr + n := rfl

/-! ### An effect into a hold -/

@[simp] theorem State.emit_id (s : State) (clk now cls sc : Nat) (a : List Nat) (k : EffKind) (nr : List (Nat × Nat)) : (s.emit clk now cls sc a k nr).id = s.id := rfl
@[simp] theorem State.emit_cores (s : State) (clk now cls sc : Nat) (a : List Nat) (k : EffKind) (nr : List (Nat × Nat)) : (s.emit clk now cls sc a k nr).cores = s.cores := rfl
@[simp] theorem State.emit_ticked (s : State) (clk now cls sc : Nat) (a : List Nat) (k : EffKind) (nr : List (Nat × Nat)) : (s.emit clk now cls sc a k nr).ticked = s.ticked := rfl
@[simp] theorem State.emit_begun (s : State) (clk now cls sc : Nat) (a : List Nat) (k : EffKind) (nr : List (Nat × Nat)) : (s.emit clk now cls sc a k nr).begun = s.begun := rfl
@[simp] theorem State.emit_wall (s : State) (clk now cls sc : Nat) (a : List Nat) (k : EffKind) (nr : List (Nat × Nat)) : (s.emit clk now cls sc a k nr).wall = s.wall := rfl
@[simp] theorem State.emit_mem (s : State) (clk now cls sc : Nat) (a : List Nat) (k : EffKind) (nr : List (Nat × Nat)) : (s.emit clk now cls sc a k nr).mem = s.mem := rfl
@[simp] theorem State.emit_llc (s : State) (clk now cls sc : Nat) (a : List Nat) (k : EffKind) (nr : List (Nat × Nat)) : (s.emit clk now cls sc a k nr).llc = s.llc := rfl
@[simp] theorem State.emit_net (s : State) (clk now cls sc : Nat) (a : List Nat) (k : EffKind) (nr : List (Nat × Nat)) : (s.emit clk now cls sc a k nr).net = s.net := rfl
@[simp] theorem State.emit_veiled (s : State) (clk now cls sc : Nat) (a : List Nat) (k : EffKind) (nr : List (Nat × Nat)) : (s.emit clk now cls sc a k nr).veiled = s.veiled := rfl
@[simp] theorem State.emit_homes (s : State) (clk now cls sc : Nat) (a : List Nat) (k : EffKind) (nr : List (Nat × Nat)) : (s.emit clk now cls sc a k nr).homes = s.homes := rfl
@[simp] theorem State.emit_quads (s : State) (clk now cls sc : Nat) (a : List Nat) (k : EffKind) (nr : List (Nat × Nat)) : (s.emit clk now cls sc a k nr).quads = s.quads := rfl
@[simp] theorem State.emit_bstacks (s : State) (clk now cls sc : Nat) (a : List Nat) (k : EffKind) (nr : List (Nat × Nat)) : (s.emit clk now cls sc a k nr).bstacks = s.bstacks := rfl
@[simp] theorem State.emit_sync (s : State) (clk now cls sc : Nat) (a : List Nat) (k : EffKind) (nr : List (Nat × Nat)) : (s.emit clk now cls sc a k nr).sync = s.sync := rfl
@[simp] theorem State.emit_sched (s : State) (clk now cls sc : Nat) (a : List Nat) (k : EffKind) (nr : List (Nat × Nat)) : (s.emit clk now cls sc a k nr).sched = s.sched := rfl
@[simp] theorem State.emit_fab (s : State) (clk now cls sc : Nat) (a : List Nat) (k : EffKind) (nr : List (Nat × Nat)) : (s.emit clk now cls sc a k nr).fab = s.fab := rfl
@[simp] theorem State.emit_drawer (s : State) (clk now cls sc : Nat) (a : List Nat) (k : EffKind) (nr : List (Nat × Nat)) : (s.emit clk now cls sc a k nr).drawer = s.drawer := rfl
@[simp] theorem State.emit_host (s : State) (clk now cls sc : Nat) (a : List Nat) (k : EffKind) (nr : List (Nat × Nat)) : (s.emit clk now cls sc a k nr).host = s.host := rfl
@[simp] theorem State.emit_pkg (s : State) (clk now cls sc : Nat) (a : List Nat) (k : EffKind) (nr : List (Nat × Nat)) : (s.emit clk now cls sc a k nr).pkg = s.pkg := rfl
@[simp] theorem State.emit_images (s : State) (clk now cls sc : Nat) (a : List Nat) (k : EffKind) (nr : List (Nat × Nat)) : (s.emit clk now cls sc a k nr).images = s.images := rfl
@[simp] theorem State.emit_beside (s : State) (clk now cls sc : Nat) (a : List Nat) (k : EffKind) (nr : List (Nat × Nat)) : (s.emit clk now cls sc a k nr).beside = s.beside := rfl
@[simp] theorem State.emit_inputs (s : State) (clk now cls sc : Nat) (a : List Nat) (k : EffKind) (nr : List (Nat × Nat)) : (s.emit clk now cls sc a k nr).inputs = s.inputs := rfl
@[simp] theorem State.emit_nextId (s : State) (clk now cls sc : Nat) (a : List Nat) (k : EffKind) (nr : List (Nat × Nat)) : (s.emit clk now cls sc a k nr).nextId = s.nextId + 1 := rfl
@[simp] theorem State.emit_freeCtr (s : State) (clk now cls sc : Nat) (a : List Nat) (k : EffKind) (nr : List (Nat × Nat)) : (s.emit clk now cls sc a k nr).freeCtr = s.freeCtr := rfl
@[simp] theorem State.emit_core_strand (s : State) (clk now cls sc : Nat) (a : List Nat) (k : EffKind) (nr : List (Nat × Nat)) : (s.emit clk now cls sc a k nr).core.strand = s.core.strand := rfl
@[simp] theorem State.emit_core_pc (s : State) (clk now cls sc : Nat) (a : List Nat) (k : EffKind) (nr : List (Nat × Nat)) : (s.emit clk now cls sc a k nr).core.pc = s.core.pc := rfl
@[simp] theorem State.emit_core_sc (s : State) (clk now cls sc : Nat) (a : List Nat) (k : EffKind) (nr : List (Nat × Nat)) : (s.emit clk now cls sc a k nr).core.sc = s.core.sc := rfl
@[simp] theorem State.emit_core_x (s : State) (clk now cls sc : Nat) (a : List Nat) (k : EffKind) (nr : List (Nat × Nat)) : (s.emit clk now cls sc a k nr).core.x = s.core.x := rfl
@[simp] theorem State.emit_core_y (s : State) (clk now cls sc : Nat) (a : List Nat) (k : EffKind) (nr : List (Nat × Nat)) : (s.emit clk now cls sc a k nr).core.y = s.core.y := rfl
@[simp] theorem State.emit_core_scr (s : State) (clk now cls sc : Nat) (a : List Nat) (k : EffKind) (nr : List (Nat × Nat)) : (s.emit clk now cls sc a k nr).core.scr = s.core.scr := rfl
@[simp] theorem State.emit_core_scrNext (s : State) (clk now cls sc : Nat) (a : List Nat) (k : EffKind) (nr : List (Nat × Nat)) : (s.emit clk now cls sc a k nr).core.scrNext = s.core.scrNext := rfl
@[simp] theorem State.emit_core_pend (s : State) (clk now cls sc : Nat) (a : List Nat) (k : EffKind) (nr : List (Nat × Nat)) : (s.emit clk now cls sc a k nr).core.pend = s.core.pend := rfl
@[simp] theorem State.emit_core_lands (s : State) (clk now cls sc : Nat) (a : List Nat) (k : EffKind) (nr : List (Nat × Nat)) : (s.emit clk now cls sc a k nr).core.lands = s.core.lands := rfl
@[simp] theorem State.emit_core_fences (s : State) (clk now cls sc : Nat) (a : List Nat) (k : EffKind) (nr : List (Nat × Nat)) : (s.emit clk now cls sc a k nr).core.fences = s.core.fences := rfl
@[simp] theorem State.emit_core_given (s : State) (clk now cls sc : Nat) (a : List Nat) (k : EffKind) (nr : List (Nat × Nat)) : (s.emit clk now cls sc a k nr).core.given = s.core.given := rfl
@[simp] theorem State.emit_core_pendTok (s : State) (clk now cls sc : Nat) (a : List Nat) (k : EffKind) (nr : List (Nat × Nat)) : (s.emit clk now cls sc a k nr).core.pendTok = s.core.pendTok := rfl
@[simp] theorem State.emit_core_sigs (s : State) (clk now cls sc : Nat) (a : List Nat) (k : EffKind) (nr : List (Nat × Nat)) : (s.emit clk now cls sc a k nr).core.sigs = s.core.sigs := rfl
@[simp] theorem State.emit_core_queues (s : State) (clk now cls sc : Nat) (a : List Nat) (k : EffKind) (nr : List (Nat × Nat)) : (s.emit clk now cls sc a k nr).core.queues = s.core.queues := rfl
@[simp] theorem State.emit_core_helds (s : State) (clk now cls sc : Nat) (a : List Nat) (k : EffKind) (nr : List (Nat × Nat)) : (s.emit clk now cls sc a k nr).core.helds = s.core.helds := rfl
@[simp] theorem State.emit_core_flow (s : State) (clk now cls sc : Nat) (a : List Nat) (k : EffKind) (nr : List (Nat × Nat)) : (s.emit clk now cls sc a k nr).core.flow = s.core.flow := rfl
@[simp] theorem State.emit_core_cur (s : State) (clk now cls sc : Nat) (a : List Nat) (k : EffKind) (nr : List (Nat × Nat)) : (s.emit clk now cls sc a k nr).core.cur = s.core.cur := rfl
@[simp] theorem State.emit_core_out (s : State) (clk now cls sc : Nat) (a : List Nat) (k : EffKind) (nr : List (Nat × Nat)) : (s.emit clk now cls sc a k nr).core.out = s.core.out := rfl
@[simp] theorem State.emit_core_trap (s : State) (clk now cls sc : Nat) (a : List Nat) (k : EffKind) (nr : List (Nat × Nat)) : (s.emit clk now cls sc a k nr).core.trap = s.core.trap := rfl
@[simp] theorem State.emit_core_recs (s : State) (clk now cls sc : Nat) (a : List Nat) (k : EffKind) (nr : List (Nat × Nat)) : (s.emit clk now cls sc a k nr).core.recs = s.core.recs := rfl
@[simp] theorem State.emit_core_dbl (s : State) (clk now cls sc : Nat) (a : List Nat) (k : EffKind) (nr : List (Nat × Nat)) : (s.emit clk now cls sc a k nr).core.dbl = s.core.dbl := rfl
@[simp] theorem State.emit_core_strike (s : State) (clk now cls sc : Nat) (a : List Nat) (k : EffKind) (nr : List (Nat × Nat)) : (s.emit clk now cls sc a k nr).core.strike = s.core.strike := rfl
@[simp] theorem State.emit_core_tlbStat (s : State) (clk now cls sc : Nat) (a : List Nat) (k : EffKind) (nr : List (Nat × Nat)) : (s.emit clk now cls sc a k nr).core.tlbStat = s.core.tlbStat := rfl
@[simp] theorem State.emit_core_icache (s : State) (clk now cls sc : Nat) (a : List Nat) (k : EffKind) (nr : List (Nat × Nat)) : (s.emit clk now cls sc a k nr).core.icache = s.core.icache := rfl
@[simp] theorem State.emit_core_fills (s : State) (clk now cls sc : Nat) (a : List Nat) (k : EffKind) (nr : List (Nat × Nat)) : (s.emit clk now cls sc a k nr).core.fills = s.core.fills := rfl
@[simp] theorem State.emit_core_tlb (s : State) (clk now cls sc : Nat) (a : List Nat) (k : EffKind) (nr : List (Nat × Nat)) : (s.emit clk now cls sc a k nr).core.tlb = s.core.tlb := rfl
@[simp] theorem State.emit_core_walks (s : State) (clk now cls sc : Nat) (a : List Nat) (k : EffKind) (nr : List (Nat × Nat)) : (s.emit clk now cls sc a k nr).core.walks = s.core.walks := rfl
@[simp] theorem State.emit_core_wfaults (s : State) (clk now cls sc : Nat) (a : List Nat) (k : EffKind) (nr : List (Nat × Nat)) : (s.emit clk now cls sc a k nr).core.wfaults = s.core.wfaults := rfl
@[simp] theorem State.emit_core_group (s : State) (clk now cls sc : Nat) (a : List Nat) (k : EffKind) (nr : List (Nat × Nat)) : (s.emit clk now cls sc a k nr).core.group = s.core.group := rfl
@[simp] theorem State.emit_core_early (s : State) (clk now cls sc : Nat) (a : List Nat) (k : EffKind) (nr : List (Nat × Nat)) : (s.emit clk now cls sc a k nr).core.early = s.core.early := rfl
@[simp] theorem State.emit_core_mat (s : State) (clk now cls sc : Nat) (a : List Nat) (k : EffKind) (nr : List (Nat × Nat)) : (s.emit clk now cls sc a k nr).core.mat = s.core.mat := rfl
@[simp] theorem State.emit_core_cpy (s : State) (clk now cls sc : Nat) (a : List Nat) (k : EffKind) (nr : List (Nat × Nat)) : (s.emit clk now cls sc a k nr).core.cpy = s.core.cpy := rfl
@[simp] theorem State.emit_core_macros (s : State) (clk now cls sc : Nat) (a : List Nat) (k : EffKind) (nr : List (Nat × Nat)) : (s.emit clk now cls sc a k nr).core.macros = s.core.macros := rfl
@[simp] theorem State.emit_core_lastDom (s : State) (clk now cls sc : Nat) (a : List Nat) (k : EffKind) (nr : List (Nat × Nat)) : (s.emit clk now cls sc a k nr).core.lastDom = s.core.lastDom := rfl

/-! ### A pending write -/

@[simp] theorem Core.post_strand (c : Core) (lat rank : Nat) (w : Wr) : (c.post lat rank w).strand = c.strand := rfl
@[simp] theorem Core.post_pc (c : Core) (lat rank : Nat) (w : Wr) : (c.post lat rank w).pc = c.pc := rfl
@[simp] theorem Core.post_sc (c : Core) (lat rank : Nat) (w : Wr) : (c.post lat rank w).sc = c.sc := rfl
@[simp] theorem Core.post_x (c : Core) (lat rank : Nat) (w : Wr) : (c.post lat rank w).x = c.x := rfl
@[simp] theorem Core.post_y (c : Core) (lat rank : Nat) (w : Wr) : (c.post lat rank w).y = c.y := rfl
@[simp] theorem Core.post_scr (c : Core) (lat rank : Nat) (w : Wr) : (c.post lat rank w).scr = c.scr := rfl
@[simp] theorem Core.post_scrNext (c : Core) (lat rank : Nat) (w : Wr) : (c.post lat rank w).scrNext = c.scrNext := rfl
@[simp] theorem Core.post_lands (c : Core) (lat rank : Nat) (w : Wr) : (c.post lat rank w).lands = c.lands := rfl
@[simp] theorem Core.post_fences (c : Core) (lat rank : Nat) (w : Wr) : (c.post lat rank w).fences = c.fences := rfl
@[simp] theorem Core.post_given (c : Core) (lat rank : Nat) (w : Wr) : (c.post lat rank w).given = c.given := rfl
@[simp] theorem Core.post_pendTok (c : Core) (lat rank : Nat) (w : Wr) : (c.post lat rank w).pendTok = c.pendTok := rfl
@[simp] theorem Core.post_sigs (c : Core) (lat rank : Nat) (w : Wr) : (c.post lat rank w).sigs = c.sigs := rfl
@[simp] theorem Core.post_queues (c : Core) (lat rank : Nat) (w : Wr) : (c.post lat rank w).queues = c.queues := rfl
@[simp] theorem Core.post_hold (c : Core) (lat rank : Nat) (w : Wr) : (c.post lat rank w).hold = c.hold := rfl
@[simp] theorem Core.post_helds (c : Core) (lat rank : Nat) (w : Wr) : (c.post lat rank w).helds = c.helds := rfl
@[simp] theorem Core.post_flow (c : Core) (lat rank : Nat) (w : Wr) : (c.post lat rank w).flow = c.flow := rfl
@[simp] theorem Core.post_cur (c : Core) (lat rank : Nat) (w : Wr) : (c.post lat rank w).cur = c.cur := rfl
@[simp] theorem Core.post_out (c : Core) (lat rank : Nat) (w : Wr) : (c.post lat rank w).out = c.out := rfl
@[simp] theorem Core.post_trap (c : Core) (lat rank : Nat) (w : Wr) : (c.post lat rank w).trap = c.trap := rfl
@[simp] theorem Core.post_recs (c : Core) (lat rank : Nat) (w : Wr) : (c.post lat rank w).recs = c.recs := rfl
@[simp] theorem Core.post_dbl (c : Core) (lat rank : Nat) (w : Wr) : (c.post lat rank w).dbl = c.dbl := rfl
@[simp] theorem Core.post_strike (c : Core) (lat rank : Nat) (w : Wr) : (c.post lat rank w).strike = c.strike := rfl
@[simp] theorem Core.post_tlbStat (c : Core) (lat rank : Nat) (w : Wr) : (c.post lat rank w).tlbStat = c.tlbStat := rfl
@[simp] theorem Core.post_icache (c : Core) (lat rank : Nat) (w : Wr) : (c.post lat rank w).icache = c.icache := rfl
@[simp] theorem Core.post_fills (c : Core) (lat rank : Nat) (w : Wr) : (c.post lat rank w).fills = c.fills := rfl
@[simp] theorem Core.post_tlb (c : Core) (lat rank : Nat) (w : Wr) : (c.post lat rank w).tlb = c.tlb := rfl
@[simp] theorem Core.post_walks (c : Core) (lat rank : Nat) (w : Wr) : (c.post lat rank w).walks = c.walks := rfl
@[simp] theorem Core.post_wfaults (c : Core) (lat rank : Nat) (w : Wr) : (c.post lat rank w).wfaults = c.wfaults := rfl
@[simp] theorem Core.post_group (c : Core) (lat rank : Nat) (w : Wr) : (c.post lat rank w).group = c.group := rfl
@[simp] theorem Core.post_early (c : Core) (lat rank : Nat) (w : Wr) : (c.post lat rank w).early = c.early := rfl
@[simp] theorem Core.post_mat (c : Core) (lat rank : Nat) (w : Wr) : (c.post lat rank w).mat = c.mat := rfl
@[simp] theorem Core.post_cpy (c : Core) (lat rank : Nat) (w : Wr) : (c.post lat rank w).cpy = c.cpy := rfl
@[simp] theorem Core.post_macros (c : Core) (lat rank : Nat) (w : Wr) : (c.post lat rank w).macros = c.macros := rfl
@[simp] theorem Core.post_lastDom (c : Core) (lat rank : Nat) (w : Wr) : (c.post lat rank w).lastDom = c.lastDom := rfl

end Sys2Proof.Machine
end

