-- ==== Sys2Proof/Laws/Store.lean ====
section
/-! SUPPORT. Laws/Store.lean: sparse data: what reading gives after writing, that every operation on memory keeps the
canonical form, and that equal contents are equal data. -/

namespace Sys2Proof.Machine

/-! ### The canonical form -/

section
variable {α : Type} [Inhabited α] [DecidableEq α]

@[simp] theorem Store.wfFrom_nil (lo : Nat) : Store.wfFrom lo ([] : Store α) = true := rfl
theorem Store.wfFrom_cons {lo k : Nat} {v : α} {r : Store α} :
    Store.wfFrom lo ((k, v) :: r) = true ↔ lo ≤ k ∧ v ≠ default ∧ Store.wfFrom (k + 1) r = true := by
  simp [Store.wfFrom, and_assoc]

theorem Store.wfFrom_mono {lo hi : Nat} {m : Store α} (h : lo ≤ hi) (w : Store.wfFrom hi m = true) : Store.wfFrom lo m = true := by
  cases m with
  | nil => rfl
  | cons e r => rw [Store.wfFrom_cons] at w ⊢; exact ⟨by omega, w.2⟩

theorem Store.get_below {lo : Nat} {m : Store α} (w : Store.wfFrom lo m = true) {k : Nat} (h : k < lo) : m.get k = default := by
  cases m with
  | nil => rfl
  | cons e r =>
    rw [Store.wfFrom_cons] at w
    rw [Store.get, if_neg (by omega), if_pos (by omega)]

/-- A write keeps the canonical form. -/
theorem Store.set_wfFrom {lo : Nat} {m : Store α} (w : Store.wfFrom lo m = true) {k : Nat} (h : lo ≤ k) (v : α) :
    Store.wfFrom lo (m.set k v) = true := by
  induction m generalizing lo with
  | nil => rw [Store.set]; split <;> simp_all [Store.wfFrom]
  | cons e r ih =>
    obtain ⟨j, x⟩ := e
    rw [Store.wfFrom_cons] at w
    rw [Store.set]
    split
    · split
      · exact Store.wfFrom_cons.2 w
      · exact Store.wfFrom_cons.2 ⟨h, ‹_›, Store.wfFrom_cons.2 ⟨by omega, w.2⟩⟩
    · split
      · split
        · exact Store.wfFrom_mono (by omega) w.2.2
        · exact Store.wfFrom_cons.2 ⟨by omega, ‹_›, by subst k; exact w.2.2⟩
      · exact Store.wfFrom_cons.2 ⟨w.1, w.2.1, ih w.2.2 (by omega)⟩
theorem Store.set_wf {m : Store α} (w : m.wf = true) (k : Nat) (v : α) : (m.set k v).wf = true :=
  Store.set_wfFrom w (Nat.zero_le k) v

/-- What stands after a write: the entry itself, or one of the old. -/
theorem Store.mem_set {m : Store α} {k : Nat} {v : α} {e : Nat × α} (h : e ∈ m.set k v) : e = (k, v) ∨ e ∈ m := by
  induction m with
  | nil => rw [Store.set] at h; split at h <;> simp_all
  | cons a r ih =>
    obtain ⟨j, x⟩ := a
    rw [Store.set] at h
    split at h
    · split at h
      · exact .inr h
      · rcases List.mem_cons.1 h with h | h
        · exact .inl h
        · exact .inr h
    · split at h
      · split at h
        · exact .inr (List.mem_cons_of_mem _ h)
        · rcases List.mem_cons.1 h with h | h
          · exact .inl h
          · exact .inr (List.mem_cons_of_mem _ h)
      · rcases List.mem_cons.1 h with h | h
        · exact .inr (h ▸ List.mem_cons_self)
        · exact (ih h).imp_right (List.mem_cons_of_mem _)

/-- No entry of the form holds the default. -/
theorem Store.ne_default_from {lo : Nat} {m : Store α} (w : Store.wfFrom lo m = true) {e : Nat × α} (h : e ∈ m) : e.2 ≠ default := by
  induction m generalizing lo with
  | nil => exact absurd h List.not_mem_nil
  | cons a r ih =>
    have c := Store.wfFrom_cons.1 w
    rcases List.mem_cons.1 h with rfl | h
    · exact c.2.1
    · exact ih c.2.2 h
theorem Store.ne_default {m : Store α} (w : m.wf = true) {e : Nat × α} (h : e ∈ m) : e.2 ≠ default := Store.ne_default_from w h

/-- Reading after a write: the value written, and everywhere else what was there. -/
theorem Store.get_set_from {lo : Nat} {m : Store α} (w : Store.wfFrom lo m = true) (k j : Nat) (v : α) :
    Store.get (m.set k v) j = if j = k then v else Store.get m j := by
  induction m generalizing lo with
  | nil =>
    rw [Store.set]
    by_cases hv : v = default
    · rw [if_pos hv]; simp [Store.get, hv]
    · rw [if_neg hv]; simp only [Store.get]
      by_cases hk : j = k
      · rw [if_pos hk.symm, if_pos hk]
      · rw [if_neg (Ne.symm hk), if_neg hk]; simp
  | cons e r ih =>
    obtain ⟨i, x⟩ := e
    rw [Store.wfFrom_cons] at w
    have below : ∀ {n}, n ≤ i → Store.get r n = default := fun hn => Store.get_below w.2.2 (by omega)
    rw [Store.set]
    by_cases h1 : k < i
    · rw [if_pos h1]
      by_cases hv : v = default
      · rw [if_pos hv]
        by_cases hj : j = k
        · rw [if_pos hj, Store.get, if_neg (by omega), if_pos (by omega), hv]
        · rw [if_neg hj]
      · rw [if_neg hv, Store.get]
        by_cases hj : j = k
        · rw [if_pos hj.symm, if_pos hj]
        · rw [if_neg (Ne.symm hj), if_neg hj]
          by_cases hl : j < k
          · rw [if_pos hl, Store.get, if_neg (by omega), if_pos (by omega)]
          · rw [if_neg hl]
    · rw [if_neg h1]
      by_cases h2 : i = k
      · subst h2
        rw [if_pos rfl]
        by_cases hv : v = default
        · rw [if_pos hv, Store.get]
          by_cases hj : j = i
          · rw [if_pos hj, below (by omega), hv]
          · rw [if_neg hj, if_neg (Ne.symm hj)]
            by_cases hl : j < i
            · rw [if_pos hl, below (by omega)]
            · rw [if_neg hl]
        · rw [if_neg hv, Store.get, Store.get]
          by_cases hj : i = j
          · rw [if_pos hj, if_pos hj.symm]
          · rw [if_neg hj, if_neg (Ne.symm hj)]
            rw [if_neg hj]
      · rw [if_neg h2, Store.get, Store.get, ih w.2.2]
        by_cases hj : j = k
        · subst hj; rw [if_neg h2, if_neg h1, if_pos rfl, if_pos rfl]
        · rw [if_neg hj, if_neg hj]
theorem Store.get_set {m : Store α} (w : m.wf = true) (k j : Nat) (v : α) :
    Store.get (m.set k v) j = if j = k then v else Store.get m j :=
  Store.get_set_from w k j v

/-- Equal contents are equal data. -/
theorem Store.ext_from {lo : Nat} {m n : Store α} (hm : Store.wfFrom lo m = true) (hn : Store.wfFrom lo n = true)
    (h : ∀ k, Store.get m k = Store.get n k) : m = n := by
  induction m generalizing lo n with
  | nil =>
    cases n with
    | nil => rfl
    | cons e r =>
      have := h e.1
      rw [Store.get, Store.get, if_pos rfl] at this
      exact absurd this.symm (Store.wfFrom_cons.1 hn).2.1
  | cons e r ih =>
    obtain ⟨i, x⟩ := e
    have wm := Store.wfFrom_cons.1 hm
    cases n with
    | nil =>
      have := h i
      rw [Store.get, Store.get, if_pos rfl] at this
      exact absurd this wm.2.1
    | cons f t =>
      obtain ⟨j, y⟩ := f
      have wn := Store.wfFrom_cons.1 hn
      have hij : i = j := by
        rcases Nat.lt_trichotomy i j with hl | hl | hl
        · have := h i
          rw [Store.get, if_pos rfl, Store.get, if_neg (by omega), if_pos hl] at this
          exact absurd this wm.2.1
        · exact hl
        · have := h j
          rw [Store.get, if_neg (by omega), if_pos hl, Store.get, if_pos rfl] at this
          exact absurd this.symm wn.2.1
      subst hij
      have hx : x = y := by simpa [Store.get] using h i
      subst hx
      congr 1
      refine ih wm.2.2 wn.2.2 fun k => ?_
      rcases Nat.lt_or_ge i k with hl | hl
      · have := h k
        simp only [Store.get] at this
        rwa [if_neg (by omega), if_neg (by omega), if_neg (by omega), if_neg (by omega)] at this
      · rw [Store.get_below wm.2.2 (by omega), Store.get_below wn.2.2 (by omega)]
theorem Store.ext {m n : Store α} (hm : m.wf = true) (hn : n.wf = true) (h : ∀ k, Store.get m k = Store.get n k) : m = n :=
  Store.ext_from hm hn h

/-- Runs of writes, selections and repeated writes keep the form. -/
theorem Store.setRun_wf {m : Store α} (w : m.wf = true) (k : Nat) (vs : List α) : (m.setRun k vs).wf = true := by
  induction vs generalizing m k with
  | nil => exact w
  | cons v r ih => exact ih (Store.set_wf w k v) (k + 1)
theorem Store.filter_wfFrom {lo : Nat} {m : Store α} (w : Store.wfFrom lo m = true) (f : Nat × α → Bool) :
    Store.wfFrom lo (m.filter f) = true := by
  induction m generalizing lo with
  | nil => rfl
  | cons e r ih =>
    have h := Store.wfFrom_cons.1 w
    rw [List.filter_cons]
    split
    · exact Store.wfFrom_cons.2 ⟨h.1, h.2.1, ih h.2.2⟩
    · exact ih (Store.wfFrom_mono (by omega) h.2.2)
theorem Store.filter_wf {m : Store α} (w : m.wf = true) (f : Nat × α → Bool) : Store.wf (m.filter f) = true :=
  Store.filter_wfFrom w f
theorem Store.foldl_wf {β : Type} {f : Store α → β → Store α} (hf : ∀ m b, Store.wf m = true → Store.wf (f m b) = true) {m : Store α}
    (w : m.wf = true) (l : List β) : Store.wf (l.foldl f m) = true := by
  induction l generalizing m with
  | nil => exact w
  | cons b r ih => exact ih (hf m b w)
end

/-! ### Byte memories -/

theorem Memory.write_wf {m : Memory} (w : m.wf = true) (a : Nat) (b : Byte) : (m.write a b).wf = true := Store.set_wf w a b
theorem Memory.writeRun_wf {m : Memory} (w : m.wf = true) (a : Nat) (bs : List Byte) : (m.writeRun a bs).wf = true := Store.setRun_wf w a bs
theorem Memory.read_write {m : Memory} (w : m.wf = true) (a j : Nat) (b : Byte) : (m.write a b).read j = if j = a then b else m.read j :=
  Store.get_set w a j b
theorem Memory.ext {m n : Memory} (hm : m.wf = true) (hn : n.wf = true) (h : ∀ a, m.read a = n.read a) : m = n := Store.ext hm hn h
theorem Memory.filter_wf {m : Memory} (w : m.wf = true) (f : Nat × Byte → Bool) : Memory.wf (m.filter f) = true := Store.filter_wf w f
theorem Memory.foldl_wf {β : Type} {f : Memory → β → Memory} (hf : ∀ m b, Memory.wf m = true → Memory.wf (f m b) = true) {m : Memory}
    (w : m.wf = true) (l : List β) : Memory.wf (l.foldl f m) = true := Store.foldl_wf (α := Byte) hf w l
theorem setBytes_wf {m : Memory} (w : m.wf = true) (bs : LBytes) : (setBytes m bs).wf = true :=
  Memory.foldl_wf (fun _ _ h => Memory.write_wf h _ _) w bs
theorem Scratch.put_wf {x : Scratch} (w : x.bytes.wf = true) (bs : LBytes) : (x.put bs).bytes.wf = true := setBytes_wf w bs
theorem Cluster.put_wf {x : Cluster} (w : x.reg.wf = true) (bs : LBytes) : (x.put bs).reg.wf = true := setBytes_wf w bs

/-! ### The byte stores behind physical addresses -/

/-- Both stores are in canonical form, and the last-level cache holds bytes of drawer memory alone. -/
def Mem.Formed (m : Mem) : Prop := m.base.wf = true ∧ m.dirty.wf = true ∧ ∀ e ∈ m.dirty, rangeOf (paOf e.1) = .drawer

theorem Mem.reset_formed : State.reset.mem.Formed := ⟨rfl, rfl, fun _ h => absurd h List.not_mem_nil⟩
theorem Mem.write_formed {m : Mem} (w : m.Formed) (a : Nat) (b : Byte) : Mem.Formed { m with base := m.base.write a b } :=
  ⟨Memory.write_wf w.1 a b, w.2⟩
theorem Mem.clean_formed {m : Mem} (w : m.Formed) (a : Nat) : Mem.Formed { m with dirty := m.dirty.set a none } := by
  have h := Store.set_wf w.2.1 a none
  refine ⟨w.1, h, fun e he => ?_⟩
  rcases Store.mem_set he with rfl | hm
  · exact absurd rfl (Store.ne_default h he)
  · exact w.2.2 e hm
theorem Mem.filter_formed {m : Mem} (w : m.Formed) (f : Nat × Byte → Bool) (g : Nat × Option Byte → Bool) :
    Mem.Formed { m with base := m.base.filter f, dirty := m.dirty.filter g } :=
  ⟨Memory.filter_wf w.1 f, Store.filter_wf w.2.1 g, fun e he => w.2.2 e (List.mem_filter.1 he).1⟩
theorem Mem.foldl_formed {β : Type} {f : Mem → β → Mem} (hf : ∀ m b, Mem.Formed m → Mem.Formed (f m b)) {m : Mem}
    (w : m.Formed) (l : List β) : Mem.Formed (l.foldl f m) := by
  induction l generalizing m with
  | nil => exact w
  | cons b r ih => exact ih (hf m b w)

/-- Every operation over the stores keeps the form. -/
theorem Mem.putByte_formed {m : Mem} (w : m.Formed) (a : Nat) (b : Byte) : (m.putByte a b).Formed := by
  unfold Mem.putByte
  split
  · refine ⟨w.1, Store.set_wf w.2.1 _ _, fun e he => ?_⟩
    rcases Store.mem_set he with rfl | hm
    · assumption
    · exact w.2.2 e hm
  · exact Mem.write_formed w a b
theorem Mem.putRun_formed {m : Mem} (w : m.Formed) (a : Nat) (bs : List Byte) : (m.putRun a bs).Formed := by
  induction bs generalizing m a with
  | nil => exact w
  | cons b r ih => exact ih (Mem.putByte_formed w a b) (a + 1)
theorem Mem.putBlots_formed {m : Mem} (w : m.Formed) (a n : Nat) (blot part : Bool) : (m.putBlots a n blot part).Formed := by
  unfold Mem.putBlots
  apply Mem.foldl_formed
  · exact fun _ _ h => h
  · exact w
theorem Mem.show_formed {m : Mem} (w : m.Formed) (a : Ahead) : (m.show a).Formed := ⟨Memory.writeRun_wf w.1 _ _, w.2⟩
theorem Mem.showAll_formed {m : Mem} (w : m.Formed) (p : Ahead → Bool) : (m.showAll p).Formed :=
  Mem.foldl_formed (fun _ a h => Mem.show_formed h a) w _
theorem Mem.overtake_formed {m : Mem} (w : m.Formed) (a n : Nat) (blot : Bool) : (m.overtake a n blot).Formed := by
  rw [Mem.overtake]
  split
  · exact w
  · exact Mem.showAll_formed w _
theorem Mem.put_formed {m : Mem} (w : m.Formed) (a : Nat) (bs : List Byte) (blot part : Bool) : (m.put a bs blot part).Formed :=
  Mem.putBlots_formed (Mem.putRun_formed (Mem.overtake_formed w _ _ _) a bs) _ _ _ _
theorem Mem.putLane_formed {m : Mem} (w : m.Formed) (st base lane : Nat) (blot part : Bool) (fuel j : Nat) (bs : List Byte) :
    (m.putLane st base lane blot part fuel j bs).Formed := by
  induction fuel generalizing m j bs with
  | zero => exact w
  | succ n ih =>
    rw [Mem.putLane]
    split
    · exact w
    · exact ih (Mem.put_formed w _ _ _ _) _ _
theorem Mem.forward_formed {m : Mem} (w : m.Formed) (homes : List HomeRun) (loc : Nat) (bs : List Byte) (blot part : Bool) :
    (m.forward homes loc bs blot part).Formed :=
  Mem.foldl_formed (fun _ _ h => by
    dsimp only
    split
    · exact Mem.putLane_formed h _ _ _ _ _ _ _ _
    · exact h) w _
/-- Dropping LLC bytes keeps the form. -/
theorem dropDirty_formed {m : Mem} (w : m.Formed) (a : Nat) : Mem.Formed { m with dirty := dropDirty m.dirty a } := by
  have h (l : List Nat) : ∀ {m : Mem}, m.Formed → Mem.Formed { m with dirty := l.foldl (fun d i => d.set (a + i) none) m.dirty } := by
    induction l with
    | nil => exact fun w => w
    | cons i r ih => exact fun w => ih (Mem.clean_formed w (a + i))
  exact h _ w
theorem Mem.cleanLine_formed {m : Mem} (w : m.Formed) (loc : Nat) : (m.cleanLine loc).Formed := by
  have h := (dropDirty_formed w (loc / 64 * 64)).2
  rw [Mem.cleanLine]
  generalize m.bytes (loc / 64 * 64) 64 = bs
  split
  · exact ⟨Memory.writeRun_wf w.1 _ _, h⟩
  · exact w
theorem Mem.evict_formed {m : Mem} (w : m.Formed) (loc : Nat) : (m.evict loc).Formed := by
  have h := Mem.cleanLine_formed w loc
  rw [Mem.evict]
  exact ⟨h.1, h.2⟩
theorem Mem.keep_formed {m : Mem} (w : m.Formed) (ls : List Nat) : (m.keep ls).Formed := w
theorem Mem.writeBack_formed {m : Mem} (w : m.Formed) : m.writeBack.Formed := Mem.foldl_formed (fun _ _ h => Mem.cleanLine_formed h _) w _
theorem Mem.discardLine_formed {m : Mem} (w : m.Formed) (loc : Nat) : (m.discardLine loc).Formed := by
  have h := (dropDirty_formed w (loc / 64 * 64)).2
  rw [Mem.discardLine]
  exact ⟨w.1, h⟩
theorem Mem.consume_formed {m : Mem} (w : m.Formed) (ls : List Nat) : (m.consume ls).Formed := w
theorem Mem.clearUnit_formed {m : Mem} (w : m.Formed) (u : Nat) : (m.clearUnit u).Formed := Mem.filter_formed w _ _
theorem Mem.putChunk_formed {m : Mem} (w : m.Formed) (pa : Nat) (c : Chunk) (top : Nat) (bl : List Nat) : (m.putChunk pa c top bl).Formed := by
  rw [Mem.putChunk]
  generalize m.bytes _ 64 = bs
  have k : (if min (pa + c.1) top % 64 = 0 then m else { m with base := m.base.writeRun (min (pa + c.1) top / 64 * 64) bs, dirty := dropDirty m.dirty (min (pa + c.1) top / 64 * 64) } : Mem).Formed := by
    split
    · exact w
    · exact ⟨Memory.writeRun_wf w.1 _ _, (dropDirty_formed w _).2⟩
  exact ⟨Memory.foldl_wf (fun _ _ h => Memory.write_wf h _ _) (Mem.filter_formed k (fun (x : Host.Cell) => decide (x.1 < pa) || decide (min (pa + c.1) top ≤ x.1)) (fun _ => true)).1 _,
    (Mem.filter_formed k (fun _ => true) fun x => decide (x.1 < pa) || decide (min (pa + c.1) top ≤ x.1)).2⟩
end Sys2Proof.Machine
end

