-- ==== Sys2Proof/Tests/Slice0.lean ====
section
/-! SUPPORT. Tests/Slice0.lean: words of the spec's encodings and what they decode to, terms that are not well formed, results of
the spec's worked examples, and for every statement with hypotheses a state and operands that meet them. Expected
words and values come from the tables and examples of spec/ that each test names. -/

namespace Sys2Proof.Tests
open Sys2Proof.Machine Sys2Proof.Claims
set_option Elab.async false

/-! ### States of the tests -/

/-- The machine after reset with its core changed. -/
def withC (f : Core → Core) : State := { State.reset with core := f State.reset.core }
/-- s registers set. -/
def regs (l : List (Nat × Word)) : State := withC fun c => { c with sc := { c.sc with s := l } }
/-- A strand of node 1, started, in domain 0. -/
def strand1 : Strand :=
  { node := 1, idx := 0, dom := 0, tag := 0, restart := false, group := none, scope := 1, inst := 0, spneed := 0, ready := 0, started := true }
/-- A core with a strand, and a page of drawer memory at address 0 in its TLB (14 R428). -/
def strandCore (c : Core) : Core :=
  { c with
    strand := some strand1
    x := { c.x with size := 131072 }
    y := { c.y with size := 131072 }
    tlb := [{ dom := 0, va := 0, size := 4096, pa := 0, w := true, x := true, app := true, cache := 0, key := 0, owner := 0 }] }
def running : State := { withC strandCore with sync := { State.reset.sync with ovf := [(0, 2 ^ 63), (1, 2 ^ 63), (2, 2 ^ 63), (3, 2 ^ 63)] } }
/-- In trap state at level SUP. -/
def handler (s : State) : State := s.mapCore fun c => { c with
  sc := { c.sc with priv := 1 }
  trap := { c.trap with active := true } }
def level (s : State) (n : BitVec 2) : State := s.mapCore fun c => { c with sc := { c.sc with priv := n } }

/-! ### States and operands that meet the hypotheses of the statements: scalar instructions -/

/-- s1 NaN, s2 +∞, s3 −0, s4 −1, s5 1, s6 −∞. -/
def floats : State := regs [(1, 0x7FC00000), (2, 0x7F800000), (3, 0x80000000), (4, 0xBF800000), (5, 0x3F800000), (6, 0xFF800000)]
theorem test_witness_ScalarFloatSpecialCases :
    nan32 (f32 floats 1) ∧ inf32 (f32 floats 2) ∧ zero32 (f32 floats 0) ∧ zero32 (f32 floats 3) ∧ inf32 (f32 floats 6)
    ∧ f32 floats 2 ≠ f32 floats 6 ∧ ¬nan32 (f32 floats 5) ∧ ¬inf32 (f32 floats 5) ∧ ¬zero32 (f32 floats 5)
    ∧ ¬nan32 (f32 floats 4) ∧ 2 ^ 31 < f32 floats 4 ∧ f32 floats 3 = 2 ^ 31 ∧ f32 floats 2 = 0x7F800000 := by
  unfold nan32 inf32 zero32; decide +kernel
theorem test_witness_ControlTransfers :
    State.reset.rp (0 : BitVec 4).toNat ≠ (0 : BitVec 1).getLsbD 0 ∧ State.reset.rp (0 : BitVec 4).toNat = (1 : BitVec 1).getLsbD 0 := by decide +kernel
theorem test_witness_LoopSetup :
    (∀ j < 10, 5 / 8 + 1 ≤ j → (1 : BitVec 10).getLsbD j = false) ∧ (∃ j < 10, 5 / 8 + 1 ≤ j ∧ (2 : BitVec 10).getLsbD j = true) := by decide
theorem test_witness_LoopClose :
    (∃ j < 1, nextK { lc := 2 } j = true) ∧ (∀ j < 1, nextK { lc := 1 } j = false) := by
  unfold nextK; decide +kernel
theorem test_witness_ImmediateInstructions : (63 : BitVec 10).toNat < 64 ∧ ¬(64 : BitVec 10).toNat < 64 := by decide
theorem test_witness_RegisterFiles :
    Store.wf (handler floats).core.sc.s = true ∧ Store.wf (handler floats).core.sc.p = true ∧ (handler floats).core.trap.active = true := by
  decide +kernel
/-- The memory word of a load at s0 with LAND 0 in the scratchpad, and with LAND 40 in global space. -/
def mScr : MW := { cls := 0, scope := 0, land := 0, space := 1, offext := 0 }
def mGlob : MW := { cls := 3, scope := 1, land := 40, space := 0, offext := 0 }
def at0 : FB := { imm := 0, a := 0, d := 5 }
theorem test_witness_ScratchpadLoads :
    running.core.place mScr.space.toNat (addrB running at0 mScr) (running.core.brel mScr.space.toNat mScr.cls) 8 8 = .scr 0
    ∧ running.core.earlyRead 1 0 8 = false ∧ mScr.land = 0 ∧ running.core.entries < 64 := by decide +kernel
theorem test_witness_GlobalLoads :
    running.core.place mGlob.space.toNat (addrB running at0 mGlob) (running.core.brel mGlob.space.toNat mGlob.cls) 8 8 = .glob 0
    ∧ running.xlate running.core.dom running.core.level.toNat .read 0 = .ok 0
    ∧ running.xlate running.core.dom running.core.level.toNat .write 0 = .ok 0 := by decide +kernel
theorem test_witness_MisalignedAccesses :
    (addrB running { at0 with imm := 4 } mGlob + running.core.brel mGlob.space.toNat mGlob.cls).toNat % 8 ≠ 0
    ∧ (addrB running { at0 with imm := 1 } mGlob + running.core.brel mGlob.space.toNat mGlob.cls).toNat % 4 ≠ 0 := by decide +kernel

/-- A load of S in flight. -/
def aLoad : Land :=
  { id := 0, seq := 1, stream := 0, slot := 1, pc := 0, cls := 0, scope := 0, hand := false, entry := true, due := 40,
    dest := .s 5 8 false, src := .reply, addr := 0, sampleAt := 0, waitFor := [], data := none, fault := none, readyAt := 0 }
def loadingState : State := running.mapCore fun c => { c with
  lands := [aLoad]
  cur := { c.cur with seq := 2 } }
/-- A store of S in its hold. -/
def aStore : Eff :=
  { id := 0, owner := 32, src := { level := 0, domain := 0, host := false }, clk := 0, leave := 320, stream := 0, cls := 0, scope := 0, seq := 1,
    after := [], kind := .store [(0, [1])] false }
def storingState : State := running.mapCore fun c => { c with
  hold := [aStore]
  cur := { c.cur with seq := 2 } }
/-- `tkwait` on VX alone. -/
def tkw : FE := { misc := 0x1F9 }
theorem test_witness_FencesAndTokens :
    running.openS 0xFFFF 3 = [] ∧ running.core.openFab 0xFFFF = false ∧ storingState.openS 0xFFFF 3 ≠ []
    ∧ (running.mapCore fun c => { c with given := [(tokKey 1 0, 1)] }).core.tokReady 0 (tkwaitFields tkw) = true
    ∧ running.core.tokReady 0 (tkwaitFields tkw) = false
    ∧ running.core.given.get 1 + running.core.pendTok.get 1 < 15
    ∧ (let c : Core := { running.core with given := [(1, 14)], pendTok := [(1, 1)] }; 15 ≤ c.given.get 1 + c.pendTok.get 1)
    ∧ running.core.place 1 (addrB running at0 mScr) (running.core.brel 1 mScr.cls) 8 8 = .scr 0
    ∧ running.core.earlyRead 1 0 8 = false ∧ (running.core.scrRead 0 8).2 = false := by decide +kernel
theorem test_witness_AtomicsIssue :
    running.syncLoc (addrA running { fn := 0, b := 6, a := 0, d := 5 } mGlob) 8 .write = .ok 0 ∧ running.engineFull (homeQuad 0) = false
    ∧ running.core.entries < 64 ∧ running.core.preempting = false := by decide +kernel
theorem test_witness_AtomicValues : 0 < 32 ∧ 0x60 ≤ 0x60 ∧ 0x71 ≤ 0x71 ∧ (0x60 : Nat) ≠ 0x6A ∧ (0x71 : Nat) ≠ 0x6A := by decide
def bar0 : FA := { fn := 1, b := 0, a := 0, d := 5 }
theorem test_witness_ArrivalsIssue :
    running.syncLoc (running.rs 0) 16 .write = .ok 0 ∧ running.barKeyOf bar0 = .inl (1, 0, 0, 1)
    ∧ running.engineFull (barQuad 1 0) = false ∧ running.core.strand = some strand1 ∧ strand1.triggered = false
    ∧ { strand1 with triggered := true }.triggered = true := by decide +kernel
/-- A query of the instruction at hand with its reply. -/
def aHeld : Held := { folio := 0, slot := 1, id := 7, stage := 0, v := 0, reply := some (3, none) }
def repliedState : State := (running.mapCore fun c => { c with
  helds := [aHeld]
  sc := { c.sc with s := [(10, 0x10000)] } })
theorem test_witness_RepliesComplete :
    replied repliedState aHeld 3 ∧ (repliedState.rs 10).getLsbD 16 = true ∧ repliedState.barKeyOf bar0 = .inl (1, 0, 0, 1)
    ∧ repliedState.engineFull (barQuad 1 0) = false ∧ aHeld.stage ≠ 2 ∧ aHeld.stage ≠ 3 ∧ mGlob.space ≠ 1 := by
  unfold replied; decide +kernel
/-- A node whose record asks for an early dispatch, with no predecessor left. -/
def earlyNode (bit : Bool) : Node :=
  { record := if bit then 1 <<< 138 else 0, phase := 2, preds := 0, early := 0, level := 0, pass := 0, pinned := false, succ := [], ccb := [] }
def withNode (n : Node) : State := { running with sched := { running.sched with nodes := [(1, some n)] } }
theorem test_witness_WaitsThatNeedNoReply :
    (running.rs 10).getLsbD 16 = false ∧ (withNode (earlyNode false)).node 1 = some (earlyNode false)
    ∧ (earlyNode false).record.getLsbD 138 = false ∧ (withNode (earlyNode true)).node 1 = some (earlyNode true)
    ∧ (earlyNode true).record.getLsbD 138 = true ∧ ∀ h ∈ (earlyNode true).predHandles, (withNode (earlyNode true)).triggered h = true := by
  decide +kernel

/-! ### Traps, levels and strands -/

theorem test_witness_TrapInstructions :
    running.core.trap.active = false ∧ running.rp 0 ≠ (0 : BitVec 22).getLsbD 20 ∧ running.rp 1 = (0x10000 : BitVec 22).getLsbD 20 := by decide +kernel
theorem test_witness_SystemRegisterMoves :
    mayRead (level running 2) 0x50 ∧ mayWrite' (level running 2) 0x50 0x40 ∧ (0x50 : Nat) ≠ 0x12 ∧ mayWrite' running 0x12 0x1F
    ∧ running.core.level.toNat < (sysLevels 0x50).1 ∧ running.core.level.toNat < (sysLevels 0x50).2 := by
  unfold mayRead mayWrite'; decide +kernel
theorem test_witness_SystemRegistersReadBack : (0x10, 3) ∈ keptBits ∧ running.core.trap.active = false := by
  unfold keptBits; decide +kernel
/-- A strand with a recorded fault and a handler. -/
def aTrap : Trap := { cause := 0x07, stream := 0, slot := 1, pc := 0x20, i0 := 4 }
def faulted : State := running.mapCore fun c => { c with
  recs := [aTrap]
  trap := { c.trap with vec := 0x1001 } }
theorem test_witness_TakingATrap :
    faulted.core.strand = some strand1 ∧ faulted.core.dbl = none ∧ faulted.core.trap.active = false ∧ Store.wf faulted.core.sc.s = true
    ∧ Store.wf faulted.core.sc.p = true ∧ firstRec faulted.core.recs = some aTrap ∧ aTrap.cause ≠ 0x09 ∧ aTrap.cause ≠ 0x17
    ∧ faulted.core.trap.vec.getLsbD 0 = true := by decide +kernel
/-- The stores of a state are lists in canonical form, as a trap asks. -/
theorem test_witness_ReturningFromATrap :
    1 ≤ (handler running).core.level.toNat ∧ (handler running).core.trap.active = true ∧ (handler running).core.handlerDone = true
    ∧ (handler running).stallPending = false ∧ 1 ≤ (level running 1).core.level.toNat ∧ (level running 1).core.trap.active = false
    ∧ running.core.level.toNat < 1
    ∧ (let s := (handler running).mapCore fun c => { c with trap := { c.trap with resume := 0x41 } }
       pointWord s.core.trap.back.folio s.core.trap.back.slot ≠ s.core.trap.resume) := by decide +kernel
theorem test_witness_LeavingThroughRft :
    (handler running).core.strand = some strand1 ∧ (handler running).core.trap.running = false
    ∧ hasArea ({ handler running with host := { running.host with ckptCtl := 4 } }.mapCore Core.returnTrap) 0 (0, 0) := by
  refine ⟨by decide +kernel, by decide +kernel, .inl ⟨by decide +kernel, rfl⟩⟩
/-- An image pool, so that an area can be taken (15 R451). -/
def pooled (s : State) : State := { s with host := { s.host with imagePool := 0x100001 } }
theorem test_witness_StrandInstructions :
    running.core.strand = some strand1 ∧ running.core.enginesIdle = true
    ∧ (running.mapCore fun c => { c with pend := [{ due := 9, rank := 0, seq := 0, stream := 1, hand := false, wr := .vbase false 0 }], queues := [(1, [c.capture 0 { folio := 0, slot := 1, stream := 1, words := [1] }])] }).core.enginesIdle = false
    ∧ running.core.trap.active = false ∧ running.core.unsettled = false
    ∧ hasArea { running with host := { running.host with ckptCtl := 4 } } 0 (0, 0)
    ∧ running.syncLoc (running.rs 0) 8 .read = .ok 0 ∧ running.core.lands = [] ∧ running.hasEffects (· == running.core.owner) = false :=
  ⟨rfl, by decide +kernel, by decide +kernel, rfl, by decide +kernel, .inl ⟨by decide +kernel, rfl⟩, by decide +kernel, rfl, by decide +kernel⟩
def woken : State := (level running 1).mapCore fun c => { c with flow := { c.flow with wfi := some 9, wake := true } }
/-- s1 65536 bytes of the carve window from unit 0. -/
def carving : State := (level running 2).mapCore fun c => { c with sc := { c.sc with s := [(1, 1)] } }
theorem test_witness_Maintenance :
    1 ≤ woken.core.level.toNat ∧ woken.core.flow.wfi = some 9 ∧ woken.core.flow.wake = true
    ∧ (let s := (level repliedState 2); 2 ≤ s.core.level.toNat ∧ s.core.helds.find? (fun x => x.folio == s.core.cur.folio && x.slot == s.core.cur.slot) = some aHeld
        ∧ s.olderThan 3 aHeld.v.toNat = false)
    ∧ 2 ≤ carving.core.level.toNat ∧ carveUnits (addrA carving { fn := 0, b := 1, a := 0, d := 0 } { mGlob with land := 0 }) (carving.rs 1) = some [0]
    ∧ carving.mem.carved.contains 0 = false ∧ ({ carving.mem with carved := [0] } : Mem).carved.contains 0 = true ∧ carving.unitBusy 0 = false
    ∧ running.core.level.toNat = 0 := by decide +kernel
theorem test_witness_WriteBackKeepsBytes :
    let m : Mem := { base := [(0, 1)], dirty := [(0, some 2), (1, some 0)] }
    Memory.wf m.base = true ∧ Store.wf m.dirty = true := by decide +kernel
theorem test_witness_ChipOperations :
    ((carving.rs 1).toNat % 32 < 28) ∧ 2 ≤ carving.core.level.toNat ∧ (carving.rs 1).toNat % 32 ≠ 16 + carving.id / 16 ∧ (carving.rs 1).toNat % 32 < 16
    ∧ Store.wf carving.bstacks = true ∧ carving.core.strand ≠ none ∧ ((carving.fenceChip 1 1).closeOp 1 1).core.strand ≠ none
    ∧ ((carving.resetChip 1).closeOp 1 2).core.strand ≠ none
    ∧ (let s := (level (regs [(1, 16)]) 2); (s.rs 1).toNat % 32 = 16 + s.id / 16) := by decide +kernel

/-! ### Vector instructions -/

/-- The VX stream issues; element 0 of register 1 is 5. -/
def vstate : State := running.mapCore fun c => { c with
  cur := { c.cur with stream := 1 }
  x := { c.x with reg := [(512, 5)] } }
def w123 : FV := { ty := 4, vb := 2, va := 1, vd := 4 }
theorem test_witness_VectorIntegers :
    goes vstate .plain (consumer .plain) ∧ goes vstate .plain 0
    ∧ usable vstate vstate.isY ((sources w123 .plain 2).flatMap fun r => bytesOf vstate .plain r 32 128) (bytesOf vstate .plain w123.vd 32 128)
    ∧ usable vstate vstate.isY ((sources w123 .plain 3).flatMap fun r => bytesOf vstate .plain r 32 128) (bytesOf vstate .plain w123.vd 32 128) := by
  unfold goes usable; decide +kernel
theorem test_witness_VectorFloats :
    let w : FV := { w123 with ty := 8 }
    goes vstate .plain (consumer .plain)
    ∧ usable vstate vstate.isY ((sources w .plain 3).flatMap fun r => bytesOf vstate .plain r 32 128) (bytesOf vstate .plain w.vd 32 128) := by
  unfold goes usable; decide +kernel
/-- Mask 1 holds element 0 alone. -/
def v1 : VW := { VW.plain with mask := 1, vc := 6 }
def masked : State := vstate.mapCore fun c => { c with x := { c.x with masks := [(1, 1)] } }
theorem test_witness_VectorWideProducts :
    goes masked v1 (consumer v1) ∧ grouped w123.vd 2 ∧ grouped v1.vc 2
    ∧ usable masked false (bytesOf masked v1 w123.va 32 128 ++ bytesOf masked v1 w123.vb 32 128 ++ gbytes masked v1 v1.vc 2 64 128) (gbytes masked v1 w123.vd 2 64 128)
    ∧ usable masked false ([w123.va, w123.vb, v1.vc].flatMap fun r => bytesOf masked v1 r 32 32) (bytesOf masked v1 w123.vd 32 32) := by
  unfold goes usable grouped; decide +kernel
theorem test_witness_VectorCompares :
    goes masked v1 (consumer v1) ∧ usable masked masked.isY (bytesOf masked v1 w123.va 32 128 ++ bytesOf masked v1 w123.vb 32 128) []
    ∧ usable masked masked.isY ((active masked v1 128).flatMap fun j => elemOffs (masked.cl.regOff (if (masked.cl.masks.get v1.vc.toNat).getLsbD j then w123.va else w123.vb).toNat) 32 j)
        (bytesOf masked v1 w123.vd 32 128) := by
  unfold goes usable; decide +kernel
theorem test_witness_MasksAndScalars :
    goes masked v1 (consumer v1) ∧ goes masked v1 0 ∧ masked.core.cur.b.toNat < 4096 / 32
    ∧ usable masked masked.isY (elemOffs (masked.cl.regOff w123.va.toNat) 32 masked.core.cur.b.toNat) [] := by
  unfold goes usable; decide +kernel
theorem test_witness_VectorMoves :
    goes masked v1 (consumer v1) ∧ usable masked masked.isY (bytesOf masked v1 w123.va 32 128) (bytesOf masked v1 w123.vd 32 128)
    ∧ usable masked masked.isY [] (bytesOf masked v1 w123.vd 32 128) ∧ usable masked masked.isY (bytesOf masked v1 w123.va 32 128) []
    ∧ usable masked (!masked.isY) [] ((active masked v1 128).flatMap fun j => elemOffs ((masked.core.cluster (!masked.isY)).regOff w123.vd.toNat) 32 j) := by
  unfold goes usable; decide +kernel
theorem test_witness_VectorTokens :
    (let s := vstate.mapCore fun c => { c with given := [(tokKey 0 1, 1)] }; s.core.tokReady 1 [0, 7, 7] = true)
    ∧ vstate.core.tokReady 1 [0, 7, 7] = false ∧ vstate.core.tokFull 1 0 = false
    ∧ (let s := vstate.mapCore fun c => { c with given := [(tokKey 1 0, 15)] }; s.core.tokFull 1 0 = true) := by decide +kernel
/-- A movement's reads lie in the register space where they are those of one element. -/
theorem movable_first (w : FV) (extra : List Nat) (src : Nat → Option (BitVec 6 × Nat)) (p : BitVec 6 × Nat) (hw : w.ty = 4) (h0 : src 0 = some p)
    (hp : p.2 < 128 ∧ vAct masked.cl v1 p.2 = true) (hr : ∀ o ∈ elemOffs (masked.cl.regOff p.1.toNat) 32 p.2, o < 131072)
    (hd : ∀ o ∈ bytesOf masked v1 w.vd 32 128, o < 131072)
    (he : ∀ o ∈ extra, o < 131072) : movable masked w v1 extra src := by
  have ha : active masked v1 (4096 / tyBits w.ty.toNat) = [0] := by rw [hw]; decide +kernel
  have hn : tyBits w.ty.toNat = 32 := by rw [hw]; rfl
  refine ⟨.inr fun i hi q hq => ?_, fun rd h => ⟨fun o ho => ?_, fun _ _ => ⟨rfl, rfl⟩⟩⟩
  · rw [ha, List.mem_singleton] at hi
    subst hi
    rw [h0, Option.some.injEq] at hq
    subst hq
    rw [hn]; exact hp
  · rw [hn] at ho
    rcases List.mem_append.1 ho with ho | ho
    · rcases (h o).1 ho with h | ⟨i, hi, q, hq, -, hm⟩
      · exact he o h
      · rw [ha, List.mem_singleton] at hi
        subst hi
        rw [h0, Option.some.injEq] at hq
        subst hq
        rw [hn] at hm
        exact hr o hm
    · exact hd o ho
theorem test_witness_LaneMovement :
    goes masked v1 (consumer v1) ∧ masked.core.cur.c.toNat ≤ 128 ∧ grouped w123.vb 1
    ∧ movable masked w123 v1 [] (fun j => if masked.core.cur.b.toNat ≤ j then some (w123.va, j - masked.core.cur.b.toNat) else none)
    ∧ movable masked w123 v1 [] (fun j => if j + masked.core.cur.b.toNat < 128 then some (w123.va, j + masked.core.cur.b.toNat) else none)
    ∧ movable masked w123 v1 [] (fun j => some (w123.va, (j + 128 - masked.core.cur.b.toNat % 128) % 128))
    ∧ movable masked w123 v1 [] (fun j => if j + masked.core.cur.c.toNat < 128 then some (w123.va, j + masked.core.cur.c.toNat)
        else some (w123.vb, j + masked.core.cur.c.toNat - 128))
    ∧ movable masked w123 v1 (gbytes masked v1 w123.vb 1 8 128) (fun j => some (w123.va, (gelt masked w123.vb 1 8 j).toNat)) := by
  refine ⟨?_, by decide +kernel, ?_, ?_, ?_, ?_, ?_, ?_⟩
  · unfold goes; decide +kernel
  · unfold grouped; decide
  all_goals exact movable_first _ _ _ (1, 0) rfl (by decide +kernel) (by decide +kernel) (by decide +kernel) (by decide +kernel) (by decide +kernel)
theorem test_witness_LanePacking :
    goes masked v1 (consumer v1) ∧ grouped w123.vd 2
    ∧ pairable masked w123 v1 (fun h i => let p := h * 128 + i; (if p % 2 = 0 then w123.va.toNat else w123.vb.toNat, p / 2))
    ∧ pairable masked { w123 with va := 2 } v1 (fun h i => let p := 2 * i + h; (2 + p / 128, p % 128)) ∧ grouped 2 2
    ∧ pairable masked w123 v1 (fun h i => (if i % 2 = 0 then w123.va.toNat else w123.vb.toNat, i / 2 * 2 + h))
    ∧ usable masked masked.isY (bytesOf masked v1 w123.va 32 128) ((List.range 128).flatMap fun i => elemOffs (masked.cl.regOff w123.vd.toNat) 32 i)
    ∧ usable masked masked.isY ((List.range (active masked v1 128).length).flatMap fun i => elemOffs (masked.cl.regOff w123.va.toNat) 32 i) (bytesOf masked v1 w123.vd 32 128) := by
  unfold goes pairable usable grouped; decide +kernel
theorem test_witness_ReductionNodes : 0 < 6 ∧ 5 < 6 ∧ fmtOf 4 = none ∧ intOf 4 = some (32, true) := by decide +kernel
theorem test_witness_Reductions :
    goes masked v1 (consumer v1) ∧ (∃ r, treeFold (redNode 0 4 0 false) 10 (reduced masked { w123 with vb := 0 } v1 4) = [r])
    ∧ usable masked masked.isY (bytesOf masked v1 w123.va 32 128) (elemOffs (masked.cl.regOff w123.vd.toNat) 32 0) := by
  refine ⟨?_, ⟨(5, 0), by decide +kernel⟩, ?_⟩
  · unfold goes; decide +kernel
  · unfold usable; decide +kernel
theorem test_witness_TreesAndScans : [1, 2, 3, 4, 5, 6, 7, 8].length = 2 ^ 3 ∧ (0 : Nat) < 1 := by decide
/-- VCVT from 16 to 32 bits, VSFN of fp32, VDQNT of fp8 to fp32, VQNT of fp32 to fp8. -/
theorem test_witness_VectorConversion :
    goes masked v1 (consumer v1) ∧ grouped (4 : BitVec 6) 2 ∧ grouped (1 : BitVec 6) 1
    ∧ usable masked masked.isY (gbytes masked v1 1 1 16 256) (gbytes masked v1 4 2 32 256)
    ∧ usable masked masked.isY (bytesOf masked v1 1 32 128) (bytesOf masked v1 4 32 128)
    ∧ masked.core.cur.b.toNat % 128 = 0 ∧ masked.core.cur.b.toNat + 128 ≤ 4096 / 8
    ∧ usable masked masked.isY ((active masked v1 128).flatMap fun i => elemOffs (masked.cl.regOff 1) 8 (0 + i) ++ [masked.cl.regOff 6 + (0 + i) / 32])
        (bytesOf masked v1 4 32 128)
    ∧ usable masked masked.isY (bytesOf masked v1 1 32 128) (elemOffs (masked.cl.regOff 4) 8 0 ++ [masked.cl.regOff 6]) := by
  unfold goes usable grouped; decide +kernel

/-! ### Vector memory, fabric requests -/

/-- VLD of 64 elements under mask 1 at address 0, from the scratchpad and from memory; and from no element at all. -/
def mScrV : MW := { mScr with land := 0 }
def unitsAt (m : MW) : List VItem := chunkItems masked.cl w123 v1 (masked.vbase m)
def scrOff : VLoc → Option Nat
  | .scr o => some o
  | _ => none
def memOff : VLoc → Option Nat
  | .mem o _ => some o
  | _ => none
theorem of_scrOff {l : VLoc} {o : Nat} (h : scrOff l = some o) : l = .scr o := by cases l <;> simp_all [scrOff]
theorem of_memOff {l : VLoc} {o : Nat} (h : memOff l = some o) : ∃ va, l = .mem o va := by cases l <;> simp_all [memOff]
theorem units_scr (u : Use) (hu : u ∈ [Use.read, .write]) : ∀ it ∈ unitsAt mScrV, masked.vloc mScrV u it = .scr (it.base.toNat + it.skip) := by
  have h : ∀ it ∈ unitsAt mScrV, ∀ u ∈ [Use.read, .write], scrOff (masked.vloc mScrV u it) = some (it.base.toNat + it.skip) := by decide +kernel
  exact fun it hi => of_scrOff (h it hi u hu)
theorem units_mem (u : Use) (hu : u ∈ [Use.read, .write]) : ∀ it ∈ unitsAt mGlob, ∃ va, masked.vloc mGlob u it = .mem (it.base.toNat + it.skip) va := by
  have h : ∀ it ∈ unitsAt mGlob, ∀ u ∈ [Use.read, .write], memOff (masked.vloc mGlob u it) = some (it.base.toNat + it.skip) := by decide +kernel
  exact fun it hi => of_memOff (h it hi u hu)
theorem test_witness_VectorLoads :
    goes masked v1 (consumer v1) ∧ usable masked masked.isY [] (regBytes (unitsAt mScrV)) ∧ usable masked masked.isY [] (regBytes (unitsAt mGlob))
    ∧ mScrV.land = 0 ∧ (unitsAt mGlob).length ≠ 0 ∧ masked.core.entries < 64 := by
  unfold goes usable; decide +kernel
theorem test_witness_VectorStores :
    goes masked v1 (consumer v1) ∧ (∀ o ∈ regBytes (unitsAt mScrV), o < masked.cl.size ∧ masked.core.earlyRead 2 o 1 = false)
    ∧ storeCells masked (unitsAt mScrV) (fun it => it.base.toNat + it.skip) ≠ []
    ∧ (chunkItems masked.cl w123 { v1 with mask := 2 } (masked.vbase mGlob)).length = 0 := by
  unfold goes; decide +kernel
/-- A word that waits for S and signals S. -/
def vWait : VW := { v1 with tok := 0xFC0 }
theorem test_witness_VectorIssue :
    masked.core.tokReady 1 (tokWaits vWait.tok) = false ∧ consumer vWait ≠ 7
    ∧ (let c : Core := { masked.core with given := [(tokKey 0 1, 1), (tokKey 1 0, 15)] }
       c.tokReady 1 (tokWaits vWait.tok) = true ∧ c.tokFull 1 (consumer vWait) = true)
    ∧ (let c : Core := { masked.core with given := [(tokKey 0 1, 1)], cur := { masked.core.cur with gate := some false } }
       c.tokReady 1 (tokWaits vWait.tok) = true ∧ c.tokFull 1 (consumer vWait) = false ∧ c.cur.gate = some false) := by decide +kernel

/-- Package 0 of a pod of two, its route to package 1 live on port 0, a page that maps to package 1. -/
def podState : State := { (running.mapCore fun c => { c with
    tlb := [{ dom := 0, va := 0, size := 2 ^ 21, pa := 0xC000000000000 + 2 ^ 42, w := true, x := false, app := true, cache := 1, key := 0, owner := 0 }]
    sc := { c.sc with s := [(1, 64), (2, 4)] } }) with
  fab := { running.fab with podId := 0x100, routes := [(1, 0x100)], portUp := 1 } }
def mPeer : MW := { cls := 0, scope := 4, land := 1200, space := 0, offext := 0 }
def wPeer : FA := { fn := 0, b := 1, a := 0, d := 0 }
def peer0 : Nat := 0xC000000000000 + 2 ^ 42
theorem test_witness_FabricRequests :
    atPeerOk podState .write (addrA podState wPeer mPeer) 8 peer0 ∧ atPeerOk podState .read (addrA podState wPeer mPeer) 8 peer0
    ∧ podState.core.entries < 64 ∧ podState.core.preempting = false := by
  unfold atPeerOk; decide +kernel
theorem test_witness_BlockStores :
    (addrA podState wPeer mPeer).toNat % 64 = 0 ∧ (podState.rs 0).toNat % 64 = 0 ∧ (podState.rs 1).toNat = 64
    ∧ (podState.rs 0).toNat + 64 ≤ 2 ^ 21 ∧ podState.core.earlyRead 1 0 64 = false
    ∧ (∃ qs, podState.blockPlaces 18 0 64 = .inl qs ∧ [(peer0, 64)] = joinPieces qs)
    ∧ ∀ q ∈ cutUp 0 [(peer0, 64)], podState.fab.reach (peerOf q.1) = true
        ∧ podState.unacked (peerOf q.1) + ((cutUp 0 [(peer0, 64)]).filter fun x => peerOf x.1 == peerOf q.1).length ≤ 4096 := by
  refine ⟨by decide +kernel, by decide +kernel, by decide +kernel, by decide +kernel, by decide +kernel, ⟨[(peer0, 64)], by rfl, by decide +kernel⟩, by decide +kernel⟩
theorem test_witness_FabricRefusals :
    (addrA podState { wPeer with a := 2 } mPeer).toNat % 8 ≠ 0 ∧ (addrA podState wPeer mPeer).toNat % 8 = 0
    ∧ podState.fabXlate .write (addrA podState wPeer mPeer) = .ok peer0 ∧ podState.fabXlate .read (addrA podState wPeer mPeer) = .ok peer0
    ∧ podState.fab.reach (peerOf peer0) = true
    ∧ (let s := { podState with fab := { podState.fab with portUp := 0 } }
       s.fab.reach (peerOf peer0) = false ∧ s.fabXlate .write (addrA s wPeer mPeer) = .ok peer0) := by decide +kernel
theorem test_witness_FabricRefusals_full :
    let o : FabOut := { id := 0, owner := none, core := 0, cls := 0, target := 1, txn := 0, land := none, req := peerReq peer0 .write [] [], floor := 0,
                        after := [], trap := aTrap }
    4096 ≤ ({ podState with fab := { podState.fab with out := List.replicate 4096 o } } : State).unacked (peerOf peer0) := by decide +kernel

/-! ### Engine streams -/

/-- Stream `st` issues on a strand with stack 0 as its group. -/
def engine (st : Nat) (f : Core → Core) : State := running.mapCore fun c => f { c with
  strand := some { strand1 with group := some (0, 1) }
  cur := { c.cur with stream := st } }
def eNone : EW := { tok := 0xFFF, scope := 1, cls := 0, xop := 0 }
/-- A nest table that MGO takes: counts 1, fp32 operands, footprint 1. -/
def nestTab : Store (BitVec 32) := [(0, 1), (1, 1), (2, 1), (3, 1), (4, 1), (5, 1), (28, 0x888), (32, 0xF), (37, 0x80)]
def mState (m : MatCtx) : State := engine 3 fun c => { c with mat := m }
theorem test_witness_MatrixSetup :
    goesE (mState {}) eNone
    ∧ (let a := ((mState {}).core.cur.a + 4 * (0 : BitVec 10).signExtend 64).toNat
       a % 4 = 0 ∧ a + 32 ≤ 2 ^ 21 ∧ (∀ j < 8, nestLegal (8 + j) (scrWord (mState {}) a j) = true)
       ∧ ∀ i < 32, (mState {}).core.scr.blots.get ((a + i) / 64) = false)
    ∧ (let s := mState { size := 8, shadow := [(32, 7)] }; s.core.mat.clear = 0 ∧ s.core.mat.sized.resize = none ∧ s.core.mat.sized.size ≤ 8 ∧ s.core.mat.busy 8 = false)
    ∧ (mState {}).core.cur.a.toNat % 16 = 0 ∧ (mState {}).core.cur.a.toNat + 16 ≤ 2 ^ 21 := by
  unfold goesE; decide +kernel
theorem test_witness_MatrixOperations :
    (let s := mState { shadow := nestTab }
     let m := s.core.mat.sized
     let g := m.goMode 0
     goesE s eNone ∧ s.running (24 + s.id / 32) = true ∧ s.core.mat.nest = none ∧ s.core.mat.clear = 0 ∧ (∀ p ∈ g.2.slots m.size, p ∉ m.inUse) ∧ m.goFault g.2 = none)
    ∧ (let s := mState { shadow := nestTab, occ := 1 }
       let m := s.core.mat
       let t : Table := m.shadow
       m.busy m.t = false ∧ t.drainAlign 0 0 = none ∧ t.bits 37 4 4 ≠ 0 ∧ (t.bits 37 4 4 = 13 → t.en % 2 = 1) ∧ m.res + m.occ ≠ m.bnd)
    ∧ (mState { shadow := nestTab, pinMask := 4 }).core.mat.pinMask.getLsbD 2 = true
    ∧ (mState {}).core.mat.busy 3 = false ∧ ((mState {}).core.cur.a + 64 * (1 : BitVec 10).signExtend 64).toNat % 64 = 0 := by
  unfold goesE; decide +kernel
theorem test_witness_MatrixWaits :
    (let s := mState { clear := 5 }
     goesE s eNone ∧ s.core.mat.clear ≠ 0 ∧ s.running (24 + s.id / 32) = true)
    ∧ (let n : Nest := { seq := 1, cls := 0, scope := 1, mode := .head 0 1, zero := false, count := 1, folio := 0, slot := 1 }
       let s := mState { nest := some n }
       goesE s eNone ∧ s.core.mat.nest ≠ none ∧ s.core.mat.busy 0 = true)
    ∧ (let x : Xfer := { seq := 1, save := true, slot := 0, addr := 0, readyAt := 0, cls := 0, scope := 1, folio := 0, qslot := 1 }
       let m : MatCtx := { shadow := nestTab, xfers := [x] }
       ∃ q ∈ (m.sized.goMode 0).2.slots m.sized.size, q ∈ m.sized.inUse)
    ∧ ({ mState {} with pkg := { (mState {}).pkg with sockets := [(24, 1)] } } : State).running 24 = false := by
  unfold goesE; decide +kernel
/-- A copy of 8 bytes from address 0 to the scratchpad. -/
def cState : State := engine 4 fun c => { c with cur := { c.cur with b := 8 } }
def toScr : EW := { eNone with xop := 1 }
theorem test_witness_CopiesIssue :
    goesE cState toScr ∧ cState.core.copiesFull = false ∧ elemSize 3 = 8 ∧ cState.core.cur.a.toNat % 8 = 0 ∧ cState.core.cur.d.toNat % 8 = 0
    ∧ cState.core.cur.b.toNat % 8 = 0 ∧ cState.core.cur.b.toNat < 2 ^ 40 ∧ xb toScr 4 1 = 0
    ∧ inside cState (flat (xb toScr 2 2) 0 1 8) 8 ∧ inside cState (flat (xb toScr 0 2) 0 1 8) 8
    ∧ (let b : Word := 0x200000008; b.toNat % 2 ^ 32 % 8 = 0 ∧ b.toNat / 2 ^ 32 ≠ 0 ∧ b.toNat % 2 ^ 32 ≠ 0 ∧ b.toNat % 2 ^ 32 < 2 ^ 31)
    ∧ inside cState { space := 1, base := 0, dims := [(1, 8), (2, 0)] } 8 := by
  unfold goesE inside; decide +kernel
/-- A layout record: one dimension of four fp32 elements (10 R308). -/
def lay4 : BitVec 512 := BitVec.ofNat 512 (8 * 2 ^ 128 + 1 * 2 ^ 135 + 3 * 2 ^ 192 + 4 * 2 ^ 216)
def tState : State := engine 4 fun c => { c with cur := { c.cur with la := lay4, lb := lay4, b := 4 } }
theorem test_witness_RecordAndTransformCopies :
    goesE tState toScr ∧ tState.core.copiesFull = false ∧ lay4 ≠ 0 ∧ xb toScr 4 1 = 0 ∧ tileExtents lay4 (decide (xb toScr 5 1 = 1)) 0 = some ([4], 0)
    ∧ (∀ j < 1, [4].getD j 0 = layCount lay4 j)
    ∧ (let src := layMap 0 lay4 (layBase lay4 + 0 + BitVec.ofInt 64 0) [4]
       let dst := layMap 1 lay4 (layBase lay4 + 0) [4]
       src.base.toNat % 4 = 0 ∧ dst.base.toNat % 4 = 0 ∧ inside tState src 4 ∧ inside tState dst 4)
    ∧ (let e : EW := { eNone with xop := 0x220 }
       xb e 2 4 = 8 ∧ xb e 6 4 = 8 ∧ inside tState (flat (xb e 0 2) 0 4 4) 4 ∧ tState.core.cur.a.toNat % 4 = 0) := by
  unfold goesE inside; decide +kernel
theorem test_witness_CopyControl :
    goesE cState eNone ∧ cState.core.cur.d.toNat % 8 = 0
    ∧ inside cState { space := xb eNone 0 1, base := cState.core.cur.d, dims := [(1, 8)] } 8 ∧ cState.core.sc.priv = 0 ∧ (level cState 1).core.sc.priv ≠ 0 := by
  unfold goesE inside; decide +kernel
/-- The strand owns one frame slot of channel 0 (10 Table 10.8). -/
def timed : State := { cState with drawer := { cState.drawer with ductus := [(0, 1)] } }
def eTimed : EW := { eNone with xop := 0x11 }
theorem test_witness_TimedCopies :
    goesE timed eTimed ∧ timed.core.copiesFull = false ∧ xb eTimed 2 2 = 0 ∧ xb eTimed 4 1 = 1 ∧ inside timed (flat (xb eTimed 0 2) 0 1 8) 8
    ∧ timed.core.preempting = false ∧ timed.unordered (timed.newCopy eTimed .plain 8 8 1 (flat 0 0 1 8) (flat 1 0 1 8)) = false ∧ timed.core.cpy.last = none ∧ timed.core.sc.chkEarly = false
    ∧ (∀ p ∈ [(0, 8)], rangeOf (paOf p.1) = .drawer)
    ∧ ∀ p ∈ [((0 : Nat), (8 : Nat))], ∀ i < p.2, timed.drawer.ech timed.id timed.core.dom ((p.1 + i) / 256 % 128) ≠ 0 := by
  unfold goesE inside; decide +kernel
theorem test_witness_TimedCopies_source : timed.run .read 0 8 = .ok [(0, 8)] := by rfl

/-! ### The bank stream -/

/-- A weight record: 16 rows of 32 fp8 weights, in stack-local space from address 0 (10 R308; 09 R283). -/
def wRec : BitVec 512 := BitVec.ofNat 512 (11 * 2 ^ 128 + 2 ^ 133 + 2 * 2 ^ 135 + 31 * 2 ^ 192 + 2 ^ 216 + 15 * 2 ^ 256 + 32 * 2 ^ 280)
def rep (cols : Bool) : Entry := (makeEntry wRec 0 0 0 0 0 32 false cols).setState 2
/-- Stack 0 holds one replica. -/
def bankOf (s : State) (e : Entry) : State := { s with bstacks := [(0, some { table := [(0, e)] })] }
/-- One slot, fp16 in, fp32 out, 128 bytes apart, rows 0 to 15; and as BAPP wants it. -/
def wCtl : Word := BitVec.ofNat 64 (9 * 2 ^ 8 + 8 * 2 ^ 12 + 2 * 2 ^ 20 + 15 * 2 ^ 48)
def appCtl : Word := BitVec.ofNat 64 (2 ^ 20 + 15 * 2 ^ 48)
def bState : State := engine 5 fun c => { c with cur := { c.cur with b := 32 } }
/-- A word with every name of a space 1. -/
def toScrB : EW := toScr

theorem test_witness_BankProducts_bact :
    goesE bState toScrB ∧ bState.core.group? = some (0, 1) ∧ xb toScrB 0 2 ≠ 0 ∧ 0 + 32 ≤ bState.core.spaceSize (xb toScrB 0 2)
    ∧ bState.core.cur.a.toNat % 32 = 0 ∧ bState.core.cur.b.toNat = 32 := by
  unfold goesE; decide +kernel
theorem test_witness_BankProducts_product :
    ∀ x ∈ [(0, false), (1, true), (2, false)],
      let s := bankOf (engine 5 fun c => { c with cur := { c.cur with b := wCtl } }) (rep x.2)
      let c : Ctl := s.core.cur.b
      s.replicaIn 0 1 s.core.cur.a = some (rep x.2) ∧ (rep x.2).dom = s.core.dom ∧ Entry.valid (rep x.2) = true ∧ (rep x.2).state = 2
      ∧ c.bad x.1 = false ∧ c.misfit x.1 (rep x.2) = false ∧ s.core.cur.d.toNat % 64 = 0
      ∧ ∀ r ∈ ({ space := 1, base := s.core.cur.d, dims := [(outCount x.1 (rep x.2) c * c.ob, 1), (c.nb, (c.stride : Int))] } : EMap).rows 1,
          r.1.toNat + r.2 ≤ s.core.spaceSize 1 := by decide +kernel
theorem test_witness_BankProducts_parts :
    let s := bankOf (engine 5 fun c => { c with cur := { c.cur with b := wCtl } }) (rep false)
    s.runsOf .write [(0, 64)] = ([[(0, 64)]], none, []) ∧ s.runsOf .write ((List.range 16).map fun i => (BitVec.ofNat 64 (32 * i), 32)) = ((List.range 16).map fun i => [(32 * i, 32)], none, []) := by
  decide +kernel
theorem test_witness_BankProducts_bapp :
    let s := bankOf (engine 5 fun c => { c with cur := { c.cur with b := appCtl } }) (rep false)
    let c : Ctl := s.core.cur.b
    let en := rep false
    let n := wBytes en.wtype (kept en.smode en.k)
    s.replicaIn 0 1 s.core.cur.a = some en ∧ c.f 0 20 = 0 ∧ en.mx = false ∧ c.row0 + c.rows ≤ en.o ∧ n ≤ c.stride ∧ c.stride ≠ 0
    ∧ ∀ r ∈ ({ space := 1, base := s.core.cur.d, dims := [(n, 1), (c.rows, (c.stride : Int))] } : EMap).rows 1, r.1.toNat + r.2 ≤ s.core.spaceSize 1 := by
  decide +kernel
def loadState : State := engine 5 fun c => { c with cur := { c.cur with la := wRec } }
theorem test_witness_BankResidency :
    (let s := loadState
     let en := makeEntry s.core.cur.la s.core.dom (Nat.log2 1) 0 0 0 0 false false
     bloadBad s.core.cur.la en 0 1 = false ∧ 0 + 2 ^ 20 * en.units ≤ 2 ^ 37 ∧ s.spaceFree 0 1 0 en.units = true
     ∧ s.replicaIn 0 1 en.key = none ∧ s.entryFree 0 1 = true ∧ s.core.cur.b = 0)
    ∧ (let s := bankOf loadState (rep false); s.replicaIn 0 1 s.core.cur.a = some (rep false) ∧ (rep false).dom = s.core.dom)
    ∧ (let e := (makeEntry wRec 1 0 0 0 0 0 false false).setState 2
       let s := bankOf loadState e; s.replicaIn 0 1 s.core.cur.a = some e ∧ e.dom ≠ s.core.dom) := by decide +kernel
/-- A page that maps to the start of stack 0. -/
def unitState : State := engine 5 fun c => { c with
  tlb := [{ dom := 0, va := 0, size := 2 ^ 21, pa := (stackLoc 0 0) % 2 ^ 52, w := true, x := false, app := true, cache := 0, key := 0, owner := 0 }]
  cur := { c.cur with b := 1, d := 0, a := 0 } }
theorem test_witness_BankResidency_units :
    (∀ u ∈ [Use.read, .write], unitState.runsOf u [(0, 2048)] = ([[(stackLoc 0 0, 2048)]], none, []))
    ∧ (∀ w ∈ [0, 1, 2], (unitState.unitBad w 0 1 0 0 0 (stackLoc 0 0) (stackLoc 0 0)).isNone = true) ∧ unitState.core.cur.b.toNat = 1 := by decide +kernel
theorem test_witness_BankControl :
    goesE bState eNone ∧ bState.bDone eNone.scope.toNat = true ∧ bState.core.cur.a.toNat % 16 = 0 ∧ bState.core.cur.a.toNat + 8 * 1 ≤ 2 ^ 21
    ∧ bState.syncLoc bState.core.cur.a 16 .write bState.core.sc.priv.toNat = .ok 0
    ∧ (∀ q < 4, ({ bState with sync := State.reset.sync } : State).joinFull 0 q = true ∧ bState.joinFull 0 q = false)
    ∧ (let m : Macro := { seq := 0, kind := .bdrop 0, cls := 0, scope := 1, g0 := 0, g := 1, issue := 0, at_ := 0, pos := [{}], folio := 0, slot := 1 }
       (bState.mapCore fun c => { c with macros := [m], cur := { c.cur with seq := 1 } }).bDone 1 = false)
    ∧ (bState.mapCore fun c => { c with strand := some strand1 }).core.group? = none := by
  unfold goesE; decide +kernel
/-- A word that waits for S and signals S; the token is given, and the count of its own token is full. -/
def eWait : EW := { eNone with tok := 0xFC0 }
theorem test_witness_EngineIssue :
    bState.core.tokReady 5 (tokWaits eWait.tok) = false ∧ eWait.tok.toNat % 8 ≠ 7
    ∧ (let c : Core := { bState.core with given := [(tokKey 0 5, 1), (tokKey 5 0, 15)] }
       c.tokReady 5 (tokWaits eWait.tok) = true ∧ c.tokFull 5 (eWait.tok.toNat % 8) = true)
    ∧ (let c : Core := { bState.core with given := [(tokKey 0 5, 1)] }
       c.tokReady 5 (tokWaits eWait.tok) = true ∧ c.tokFull 5 (eWait.tok.toNat % 8) = false) := by decide +kernel

/-! ### What falls due -/

/-- Two writes due in one cycle: the later instruction's has the lower rank (03 R90). -/
def aPend : Pend := { due := 0, rank := 0, seq := 4, stream := 0, hand := false, wr := .s 5 7 }
def pendState : State := running.mapCore fun c => { c with pend := [{ aPend with rank := 1, seq := 3, wr := .fpset 1 }, aPend] }
theorem test_witness_DueResults_writes :
    pendState.core.duePend = some aPend ∧ aPend.wr = .s 5 7 ∧ (scalarAfter pendState.core.sc (.fpset 1)).isSome = true
    ∧ ∀ w ∈ [Wr.link 63 7, .fpset 1, .reg false []],
        (running.mapCore fun c => { c with pend := [{ aPend with wr := w }] }).core.duePend = some { aPend with wr := w } := by
  decide +kernel
def landing (l : Land) : State := running.mapCore fun c => { c with lands := [l], flow := { c.flow with cycle := 40 } }
def dataLand (bs : List Byte) (blot : Bool) : Land := { aLoad with data := some (bs, blot) }
theorem test_witness_DueResults_loads :
    (landing (dataLand [1, 2, 3, 4, 5, 6, 7, 8] false)).dueLand = some (dataLand [1, 2, 3, 4, 5, 6, 7, 8] false)
    ∧ (let l := { dataLand [1] false with dest := .s 0 1 true }; (landing l).dueLand = some l)
    ∧ (let l := { dataLand [1] false with dest := .v false [(0, 0xFF)] }; (landing l).dueLand = some l)
    ∧ (let l := { aLoad with fault := some aTrap }; (landing l).dueLand = some l)
    ∧ (landing (dataLand [1] true)).dueLand = some (dataLand [1] true) ∧ running.core.trap.active = false := by decide +kernel
/-- A load that falls due in the next cycle without its data. -/
def lateState (stall : Nat) (frozen : Bool) : State := running.mapCore fun c => { c with
  lands := [{ aLoad with due := 1 }]
  flow := { c.flow with
    frozen := frozen
    stall := stall } }
def aFill : Fill := { va := 256, level := 0, doneAt := 0, loc := some 512 }
def aSig : Sig := { prod := 0, cons := 1, hand := false, cyc := 0, perf := [], lands := [], ended := none }
theorem test_witness_CoreEvents :
    (running.mapCore fun c => { c with fills := [aFill] }).dueFill = some aFill ∧ running.lateChan 512 256 = none ∧ quiet running
    ∧ (lateState 0 false).late = true ∧ running.late = false ∧ (lateState 16384 true).lateLand = some { aLoad with due := 1 }
    ∧ 16384 ≤ (lateState 16384 true).core.flow.stall
    ∧ (running.mapCore fun c => { c with sigs := [aSig] }).dueSig = some aSig := by
  unfold quiet; decide +kernel
theorem test_witness_EgressRelease :
    let rel (e : Eff) : State := running.mapCore fun c => { c with hold := [e], flow := { c.flow with conf := 320, begun := true } }
    let f : EffKind := .fabric (peerReq peer0 .write [] []) 1 none aTrap
    (rel aStore).dueEff = some aStore ∧ (rel { aStore with kind := f }).dueEff = some { aStore with kind := f }
    ∧ (rel { aStore with kind := .inCore 1 [] }).dueEff = some { aStore with kind := .inCore 1 [] } := by decide +kernel

/-! ### Engines at work -/

def aNest : Nest := { seq := 1, cls := 0, scope := 1, mode := .head 0 1, zero := false, count := 1, folio := 0, slot := 1 }
/-- The core with this matrix context, its engine with these fields. -/
def mWork (m : MatCtx) (q : Quad) : State := { mState m with quads := [(0, some q)] }
def aStep : QStep := { core := 0, seq := 1 }
def aDrain : Drain := { seq := 1, slot := 0, pinned := false, o := 0, v := 0, fields := nestTab, issued := 0, cls := 0, scope := 1, key := 0, folio := 0, qslot := 1 }
def aXfer (save : Bool) : Xfer := { seq := 1, save := save, slot := 0, addr := 0, readyAt := 0, cls := 0, scope := 1, folio := 0, qslot := 1 }
theorem test_witness_MatrixEngine_nests :
    (mState { clear := 1 }).core.mat.clear = 1
    ∧ (let s := mWork { nest := some aNest, active := nestTab } {}
       s.eng.cur = none ∧ s.nextNest (s.id / 4) = some 0 ∧ (s.coreAt 0).mat.nest = some aNest ∧ aNest.faulted = false)
    ∧ (let s := mWork { nest := some aNest, active := nestTab, rb := 1 } { cur := some aStep }
       s.eng.cur = some aStep ∧ aStep.core = s.id ∧ aStep.begun = false ∧ aStep.readyAt ≤ s.wall ∧ aNest.seq = aStep.seq
       ∧ blockReads s.core.mat = [] ∧ s.mOrder aNest.seq aNest.cls aNest.scope [] = false ∧ s.lateReq [] [] = none ∧ s.core.mat.rb ≠ 0)
    ∧ ∀ rb ∈ [6, 7], (let st := { aStep with begun := true }
       let s := mWork { nest := some aNest, active := nestTab, rb := rb } { cur := some st }
       s.eng.cur = some st ∧ st.left = 0 ∧ s.core.mat.rb = rb) := by decide +kernel
/-- One that reads rows: both operands at address 0, one element each. -/
theorem test_witness_MatrixEngine_reads :
    let s := mWork { nest := some aNest, active := nestTab, rb := 0 } { cur := some aStep }
    blockReads s.core.mat ≠ [] := by decide +kernel
theorem test_witness_MatrixEngine_drains :
    (let s := mWork { drains := [aDrain] } { epi := [(0, 1)] }
     s.headDrain = some aDrain ∧ s.drainWaits aDrain = false ∧ max (max aDrain.issued s.eng.epiEnd) aDrain.floor ≤ s.eng.cyc)
    ∧ (let d := { aDrain with started := true }
       let s := mWork { drains := [d] } { epi := [(0, 1)] }
       s.headDrain = some d ∧ d.due ≤ s.eng.cyc ∧ Table.drainReqs d.fields d.v = [] ∧ rowVa d = 0 ∧ rowLen d = 4)
    ∧ (∀ b ∈ [true, false], let s := mWork { xfers := [aXfer b] } {}
       s.dueXfer = some (aXfer b) ∧ s.mOrder 1 0 1 [(0, 512)] = false
       ∧ s.lateAny [(0, 512)] = none) := by decide +kernel
theorem test_witness_MatrixEngine_rows :
    running.runAll .read [] = .ok [] ∧ running.run .write 0 4 = .ok [(0, 4)] ∧ running.run .write 0 512 = .ok [(0, 512)] ∧ running.run .read 0 512 = .ok [(0, 512)] :=
  ⟨by rfl, by rfl, by rfl, by rfl⟩
/-- A copy of 8 bytes inside the scratchpad. -/
def aCopy (k : CopyKind) : Copy :=
  { seq := 1, kind := k, e := 8, se := 8, n := 1, src := { space := 1, base := 64, dims := [] }, dst := { space := 1, base := 0, dims := [] },
    cls := 0, scope := 1, pieceAt := 0, folio := 0, slot := 1 }
def copyWork (k : Copy) : State := engine 4 fun c => { c with cpy := { copies := [k] } }
def aGran : Gran := { loc := 0, len := 1, ch := 0, due := 0, readyAt := 0, dst := [[0]], data := some ([1], [false]) }
theorem test_witness_CopyEngine :
    (∀ k ∈ [CopyKind.fill 7, .plain], let s := copyWork (aCopy k)
      s.dueCopy = some (aCopy k) ∧ s.behind (aCopy k) = false ∧ s.earlier 4 1 0 1 [] = false ∧ s.pieceOf (aCopy k) = [0] ∧ s.clashes (aCopy k) [] [(0, 8)] = false
      ∧ s.clashes (aCopy k) [(64, 8)] [(0, 8)] = false
      ∧ overlap ((s.pieceOf (aCopy k)).map fun x => (spot (aCopy k).src x, 8)) ((s.pieceOf (aCopy k)).map fun x => (spot (aCopy k).dst x, 8)) = false)
    ∧ (let k : Copy := { aCopy .plain with timed := true, grans := [aGran] }
       k.grans.filter (fun g => decide (g.due ≤ (copyWork k).core.flow.cycle) && (g.data.isSome && decide (g.readyAt ≤ (copyWork k).wall))) ≠ []) := by decide +kernel

/-- A macro of this kind on stack 0, at this point. -/
def aMacro (kind : MacroKind) (p : MPos) : Macro :=
  { seq := 1, kind := kind, cls := 0, scope := 1, g0 := 0, g := 1, issue := 0, at_ := 0, pos := [p], folio := 0, slot := 1 }
/-- That macro in progress, as the first of stack 0's order. -/
def macroWork (m : Macro) : State := { (engine 5 fun c => { c with macros := [m], flow := { c.flow with run := 328 } }) with
  bstacks := [(0, some { table := [(0, rep false)], order := [(32, 1)] })] }
def aProduct : MacroKind := .product 0 0 wCtl 0 0 [[(0, 64)]] 0
theorem test_witness_EngineStalls :
    (mState { nest := some { aNest with wait := { n := 16384, va := 64 } } }).core.mat.nest = some { aNest with wait := { n := 16384, va := 64 } }
    ∧ (let k := { aCopy .plain with wait := { n := 16384, va := 64, src := 129 } }
       (copyWork k).core.cpy.copies.find? (fun k => !k.faulted && decide (16384 ≤ k.wait.n)) = some k ∧ k.wait.src ≠ 0)
    ∧ (let d := { aDrain with wait := { n := 16384, va := 64, src := 1 } }
       let s := mWork { drains := [d] } { epi := [(0, 1)] }
       s.core.mat.nest = none ∧ s.headDrain = some d ∧ 16384 ≤ d.wait.n)
    ∧ (let m := { aMacro aProduct {} with wait := { n := 16384, va := 64 } }
       let s := macroWork m
       s.core.strand.isSome = true ∧ s.core.macros.find? (fun m => !m.faulted && decide (16384 ≤ m.wait.n)) = some m
       ∧ s.core.macros.find? (fun j => j.seq == m.seq) = some m ∧ s.core.queues.get 5 = []) := by decide +kernel
theorem test_witness_BankStacks :
    (let m := aMacro aProduct {}
     Store.wf (macroWork m).bstacks = true ∧ (macroWork m).arriving 0 = [(0, (macroWork m).core.owner, m)]
     ∧ (macroWork (aMacro (.bdrop 0) {})).committing 0 = [(0, 32, aMacro (.bdrop 0) {})])
    ∧ (∀ kind ∈ [aProduct, .bact 0 0 [(1, false)]], let m := aMacro kind { arrived := true, started := true, endAt := some 0 }
       (macroWork m).ending 0 = some (32, 1) ∧ (macroWork m).macroOf (32, 1) = some (0, m) ∧ (macroWork m).entryFor 0 m 0 = some (rep false))
    ∧ (let m := { aMacro aProduct { ended := true } with outAt := some 0 }; (macroWork m).producing = [m]) := by decide +kernel
/-- Stack 0 with a hydration due: of a local replica, and of one whose first rows are through. -/
def hydState (e : Entry) (h : Hyd) : State := { running with bstacks := [(0, some { table := [(0, e.setState 1)], hydrate := [h] })] }
theorem test_witness_BankStacks_hydration :
    (let h : Hyd := { entry := 0, due := 0 }
     let e := makeEntry wRec 0 0 0 0 0 0 true false
     (hydState e h).dueHyd 0 = some h ∧ Entry.isLocal ((stackOf (hydState e h) 0).table.get h.entry) = true)
    ∧ (let h : Hyd := { entry := 0, due := 0, rows := 16 }
       (hydState (rep false) h).dueHyd 0 = some h ∧ Entry.isLocal ((stackOf (hydState (rep false) h) 0).table.get h.entry) = false) := by decide +kernel
theorem test_witness_BankStacks_rows :
    ((List.range (rep false).o).filter fun o => (List.range 256).any fun l => (rep false).holds (rep false).gpos l o).drop 16 = [] := by decide +kernel
/-- Pieces of every kind: CFILL to memory, a copy from memory to the scratchpad and from the scratchpad to a cluster, a conversion, a
reduction, CSIG and CFLUSH of one element. -/
def memAt (a : Word) : EMap := { space := 0, base := a, dims := [] }
def pieceCopies : List (Copy × Use × List (Nat × Nat × Nat)) :=
  let k (kind : CopyKind) (a b : EMap) (e : Nat) : Copy := { aCopy kind with src := a, dst := b, e := e, se := e }
  let scr : EMap := { space := 1, base := 64, dims := [] }
  [(k (.fill 7) { space := 0, base := 0, dims := [] } (memAt 128) 8, .read, [(0, 0, 128)]),
   (k .plain (memAt 64) { space := 1, base := 0, dims := [] } 8, .read, [(0, 64, 0)]),
   (k .plain scr { space := 2, base := 0, dims := [] } 8, .read, [(0, 64, 0)]),
   (k (.x 0 8 8 0 0 0) scr (memAt 128) 4, .read, [(0, 64, 128)]),
   (k (.x 3 8 8 0 0 0) scr (memAt 128) 4, .read, [(0, 64, 128)]),
   (k (.sig 9 true false) (memAt 0) (memAt 128) 8, .read, [(0, 0, 128)]),
   (k (.flush 0) (memAt 64) { space := 1, base := 0, dims := [] } 64, .read, [(0, 64, 0)]),
   (k (.flush 2) (memAt 64) { space := 1, base := 0, dims := [] } 64, .write, [(0, 64, 0)])]
theorem test_witness_CopySides :
    ∀ x ∈ pieceCopies, let k := x.1
      let s := copyWork k
      s.dueCopy = some k ∧ s.behind k = false ∧ s.pieceOf k = [0] ∧ s.sideBad x.2.1 k.src k.se [0] = none ∧ s.sideBad .write k.dst k.e [0] = none
      ∧ x.2.2 = k.places [0] [(k.src.base.toNat, k.se)] [(k.dst.base.toNat, k.e)]
      ∧ (let reads := if k.reads || !k.writes then x.2.2.map fun y => (y.2.1, k.se) else []
         let writes := if k.writes then x.2.2.map fun y => (y.2.2, k.e) else []
         s.clashes k reads writes = false ∧ s.earlier 4 k.seq k.cls k.scope ((if k.src.space = 0 then reads else []) ++ (if k.dst.space = 0 then writes else [])) = false
         ∧ s.unreduced k reads = false ∧ (k.src.space = k.dst.space → k.reads = true → overlap (x.2.2.map fun y => (y.2.1, k.se)) (x.2.2.map fun y => (y.2.2, k.e)) = false))
      ∧ s.pieceLate k x.2.2 = none ∧ (s.cDone k.seq k.scope fun c => c == k.cls) = true := by decide +kernel
theorem test_witness_CopySides_places :
    ∀ x ∈ pieceCopies, (copyWork x.1).sideAt x.2.1 x.1.src 0 x.1.se = .ok [(x.1.src.base.toNat, x.1.se)]
      ∧ (copyWork x.1).sideAt .write x.1.dst 0 x.1.e = .ok [(x.1.dst.base.toNat, x.1.e)] := by
  intro x hx; fin_cases hx <;> exact ⟨by rfl, by rfl⟩
/-- Macros that end: in-DRAM copies, an append, a drop; and a BFENCE that arrives. -/
theorem test_witness_BankStacks_ends :
    (∀ kind ∈ [MacroKind.units 0 0 [(0, 0, 4096)], .bapp 0 0 [], .bdrop 0], let m := aMacro kind { arrived := true, started := true, endAt := some 0 }
      (macroWork m).ending 0 = some (32, 1) ∧ (macroWork m).macroOf (32, 1) = some (0, m))
    ∧ (macroWork (aMacro (.bfence 64) {})).arriving 0 = [(0, 32, aMacro (.bfence 64) {})] := by decide +kernel
/-- Windows: of an in-DRAM copy in its second half, and of a LOCAL append. -/
theorem test_witness_BankStacks_windows :
    (∀ which ∈ [0, 1], let m := aMacro (.units which 0 [(0, 0, 4096)]) { arrived := true, started := true, todo := [(0, 0, 4096)], half := [bankIx 0] }
      let s := macroWork m
      s.macroOf (32, 1) = some (0, m) ∧ (stackOf s 0).refreshing = [] ∧ (m.at 0).todo = [(0, 0, 4096)] ∧ (m.at 0).half = [bankIx 0] ∧ s.homes = []
      ∧ s.pkg.injCtl.getLsbD 0 = false)
    ∧ (let m := aMacro (.bapp 0 0 []) { arrived := true, started := true, left := [(0, 1)] }
       (macroWork m).entryFor 0 m 0 = some (rep false) ∧ (stackOf (macroWork m) 0).refreshing = []) := by decide +kernel

/-! ### Messages, barriers, the ready pool -/

/-- A message that is due, the engines enabled. -/
def aMsg (k : EffKind) : Msg :=
  { id := 0, owner := 32, core := 0, at_ := 0, seq := 1, stream := 0, cls := 0, scope := 1, after := [], src := { level := 0, domain := 0, host := false },
    txn := 0, kind := k }
def netOf (k : EffKind) : State := { running with
  net := [aMsg k]
  sync := { running.sync with ovf := [(0, 2 ^ 63), (1, 2 ^ 63), (2, 2 ^ 63), (3, 2 ^ 63)] } }
/-- Tables that map the first 2 MiB of domain 0 to the first 2 MiB of the drawer (14 R428). -/
def mapped (s : State) : State := { s with
  host := { s.host with roots := [(0, 0x10001)] }
  mem := { s.mem with base := [(0x10000, 1), (0x10001, 0x10), (0x10002, 1), (0x11000, 1), (0x11001, 0x20), (0x11002, 1),
    (0x12000, 1), (0x12001, 0x30), (0x12002, 1), (0x13000, 0x1B)] } }
def aWalk : Walk := { dom := 0, va := 0, doneAt := 0, ticket := none }
theorem test_witness_MessagesArrive :
    (netOf (.store [(0, [1])] false)).firstMsg 0 = some (aMsg (.store [(0, [1])] false))
    ∧ (netOf (.atomic 0 8 0x60 1 0 false none)).firstMsg 1 = some (aMsg (.atomic 0 8 0x60 1 0 false none))
    ∧ (netOf (.atomic 0 8 0x60 1 0 false (some 3))).firstMsg 1 = some (aMsg (.atomic 0 8 0x60 1 0 false (some 3)))
    ∧ amoNew 0x60 false 64 (numAt running 0 8) 1 0 = some 1 ∧ running.mem.blotted 0 8 = false
    ∧ (let s := netOf (.join 0 false 0)
       let t : State := { s with mem := { s.mem with base := [(0, 1)] } }
       t.firstMsg 3 = some (aMsg (.join 0 false 0)) ∧ numAt t 0 8 % 2 ^ 16 > numAt t 0 8 / 2 ^ 16 % 2 ^ 16)
    ∧ (netOf (.reply 7 3 none)).firstMsg 4 = some (aMsg (.reply 7 3 none))
    ∧ (let s := running.mapCore fun c => { c with walks := [aWalk] }
       s.dueWalk = some aWalk ∧ ((mapped s).walk 0 0).2 = leafEntry 0 0 0x1B 2 ∧ (mapped s).dueWalk = some aWalk ∧ (s.walk 0 0).2 = .fault 0x05 0x52 0) := by decide +kernel
theorem test_witness_MessagesArrive_firm :
    (∀ l : Option Nat, (netOf (.atomic 0 8 0x60 1 0 false l)).repeated (aMsg (.atomic 0 8 0x60 1 0 false l)) = none)
    ∧ (netOf .trig).firstMsg 1 = some (aMsg .trig) ∧ (netOf .trig).repeated (aMsg .trig) = none ∧ (netOf .trig).core.lands = []
    ∧ (netOf .trig).mem.dirty = [] ∧ quiet (netOf .trig)
    ∧ (netOf (.join 0 false 0)).repeated (aMsg (.join 0 false 0)) = none ∧ (netOf (.barrier 1 0 0 1 none)).repeated (aMsg (.barrier 1 0 0 1 none)) = none :=
  ⟨fun _ => rfl, by decide +kernel, rfl, rfl, rfl, ⟨rfl, rfl⟩, rfl, rfl⟩
theorem test_witness_MessagesArrive_places : plainAt running 0 8 ∧ plainAt (mapped running) 64 8 := by
  unfold plainAt formed; decide +kernel
theorem test_witness_Barriers :
    (netOf (.barrier 1 0 0 1 none)).firstMsg 2 = some (aMsg (.barrier 1 0 0 1 none))
    ∧ (∀ r ∈ [({ exp := 1 } : Bar), { exp := 2 }, {}],
        let s := { netOf (.barrier 1 0 0 1 none) with sync := { (netOf .trig).sync with bars := [((1, 0, 0, 1), r)] } }
        s.sync.bar (1, 0, 0, 1) = r ∧ s.firstMsg 2 = some (aMsg (.barrier 1 0 0 1 none)))
    ∧ (let v : BitVec 64 := 2; v.getLsbD 25 = false ∧ v.getLsbD 26 = false ∧ (running.sync.bar (barKey false 0)).a < v.toNat % 2 ^ 16)
    ∧ (0 : BitVec 64).toNat % 2 ^ 16 = 0
    ∧ (running.sync.bar (barKey true 0)).own = false
    ∧ (let s := { podState with sync := { podState.sync with bars := [(barKey true 0, { own := true })] } }
       (s.sync.bar (barKey true 0)).own = true ∧ takeReady s.fab.others ((s.sync.bar (barKey true 0)).ready ++ [1]) = some []) := by decide +kernel
/-- READY, with a record of one strand in slot 2 of the aperture, its completion word at address 64 (12 Table 12.1). -/
def rec1 (preds : Nat) : BitVec 1024 := BitVec.ofNat 1024 preds <<< 164 ||| 1 <<< 133 ||| 64 <<< 832
def poolState (preds : Nat) : State := { running with
  host := { running.host with boot := 0x107 }
  sched := { running.sched with aperture := [(256 + 16, 32), (256 + 20, BitVec.ofNat 8 (preds * 16)), (256 + 104, 64)] } }
theorem test_witness_ReadyPool_commit :
    ∀ p ∈ [1, 0], let s : State := if p = 0 then { poolState 0 with sched := { running.sched with aperture := [(256 + 16, 32), (256 + 104, 64)] } } else poolState p
      slotRecord s 2 = rec1 p ∧ s.host.boot.getLsbD 8 = true ∧ s.ready = true ∧ s.slotUsed 2 = false ∧ s.host.ckptCtl.getLsbD 2 = false
      ∧ badOwner { level := 2, domain := 0, host := false } (recDom (rec1 p)) = false ∧ badRecord (rec1 p) = false ∧ recW (rec1 p) 384 = 0
      ∧ recW (rec1 p) 768 = 0 ∧ recF (rec1 p) 164 16 = p := by decide +kernel
/-- A node in the pool: ready, or done. -/
def aNode (phase pass : Nat) : Node :=
  { record := rec1 0, phase := phase, preds := 0, early := 0, level := 0, pass := pass, pinned := false, succ := [], ccb := [], scope := 1 }
def pool (n : Node) : State := mapped { State.reset with
  host := { State.reset.host with boot := 0x107 }
  sched := { State.reset.sched with nodes := [(2, some n)], fifo := [(0, [(2, none)])] } }
def poolM (n : Node) : State := { pool n with host := { (pool n).host with boot := 0x107 } }
theorem test_witness_ReadyPool :
    (let s := poolM (aNode 1 0)
     s.nextItem = some (2, none) ∧ s.decided.node 2 = some (aNode 1 0) ∧ recW (aNode 1 0).record 448 = 0 ∧ (aNode 1 0).moved = false)
    ∧ (let n := aNode 1 64; (poolM n).node 2 = some n ∧ 64 ≤ n.pass ∧ n.phase = 1 ∧ n.level < 3)
    ∧ (let s := poolM (aNode 3 0)
       let r := s.resolve 0 .write 64
       s.canComplete 2 = true ∧ s.node 2 = some (aNode 3 0) ∧ Store.wf s.sched.nodes = true ∧ recW (rec1 0) 832 = 64 ∧ canonical 64 = true
       ∧ r.2 = .inl 64)
    ∧ (let s := { poolM (aNode 2 0) with sched := { (pool (aNode 2 0)).sched with woken := [(2, 0)], saved := [(recordKey 2 0, some { core := none, parked := true })] } }
       (2, 0) ∈ s.sched.woken ∧ s.sched.saved.get (recordKey 2 0) = some { core := none, parked := true } ∧ s.node 2 = some (aNode 2 0)) := by decide +kernel
theorem test_witness_ReadyPool_place : plainAt ((poolM (aNode 3 0)).resolve 0 .write 64).1 64 8 := by
  unfold plainAt formed; decide +kernel
theorem test_witness_ReadyPool_placement : ((poolM (aNode 1 0)).decided.placement 2 (aNode 1 0)).isSome = true := by decide +kernel
/-- Node 1 of the running strand, with that strand changed. -/
def onCore (x : Strand) : State := mapped { running.mapCore (fun c => { c with strand := some x }) with
  sched := { running.sched with nodes := [(1, some (aNode 2 0))] } }
theorem test_witness_StrandsOnCores :
    (let x := { strand1 with started := false }
     (onCore x).core.strand = some x ∧ x.ready ≤ (onCore x).core.flow.run ∧ (onCore x).node x.node = some (aNode 2 0) ∧ (aNode 2 0).ccb = [])
    ∧ running.coreOf 1 0 = some 0 ∧ (running.coreAt 0).strand = some strand1
    ∧ (let x := { strand1 with preempt := true }
       (onCore x).core.trap.active = false ∧ (onCore x).core.unsettled = false ∧ x.dormant = false
       ∧ hasArea { onCore x with host := { (onCore x).host with ckptCtl := 4 } } 0 (0, 0))
    ∧ (let x := { strand1 with dormant := true, save := some (0, 0) }
       x.parked = false ∧ x.waitCh = none ∧ (onCore x).drained = true ∧ (onCore x).node x.node = some (aNode 2 0))
    ∧ State.reset.core.strand = none ∧ (let x := { strand1 with restart := true }; (onCore x).node x.node = some (aNode 2 0)) := by
  unfold hasArea; refine ⟨?_, ?_, ?_, ⟨?_, ?_, ?_, Or.inl ?_⟩, ?_, ?_, ?_⟩ <;> decide +kernel
/-- A strand of node 2 that waits in the pool with its image, or with its record alone. -/
def backState (v : Saved) : State := { poolM (aNode 2 0) with
  sched := { (pool (aNode 2 0)).sched with fifo := [(0, [(2, some 0)])], saved := [(recordKey 2 0, some v)] } }
theorem test_witness_StrandsOnCores_resume :
    ∀ v ∈ [({ core := some running.core } : Saved), { core := none }], let s := backState v
      v.area.2 = 0 ∧ running.core.strand = some strand1 ∧ s.nextItem = some (2, some 0) ∧ s.coreFor 2 = some 0 ∧ s.node 2 = some (aNode 2 0) ∧ s.sched.saved.get (recordKey 2 0) = some v := by decide +kernel

/-! ### Peers and collectives -/

/-- An export of 64 KiB of carved storage at window offset 0 with every right (13 R391, R392). -/
def anExport : BitVec 256 := 1 ||| 15 <<< 1 ||| 16 <<< 8 ||| 255 <<< 40 ||| 0x8000000000000 <<< 128
/-- A run of two ranks with one tile per chunk, its buffers at window offset 0, at step `x`. -/
def aRun (x : BitVec 128) : Run :=
  { ticket := 1, core := 0, dom := 0, tag := 0, va := 0x20000, header := 1 ||| 1 <<< 48 ||| 0x20100 <<< 64, steps := [x], rtab := [0, 1], started := true }
def portState (rs : List Run) : State := { podState with
  fab := { podState.fab with
    exports := [(0, anExport)]
    coll := [(0, some { runs := rs })] }
  mem := { podState.mem with
    carved := [0]
    tiles := [(0, 128)] } }
def carveLoc : Nat := 0x8000000000000
def aReq (op : FabOp) (data : List Byte) : FabReq := { origin := 1, target := 0, txn := 5, off := 0, op := op, data := data, blots := [] }
theorem test_witness_PortTraffic_requests :
    (∀ e ∈ (portState []).fab.cache, e.1 ≠ (1, 5)) ∧ (aReq .write []).target.toNat = (portState []).fab.own ∧ (portState []).window 1 0 8 1 = some carveLoc ∧ (portState []).window 1 0 8 2 = some carveLoc
    ∧ (portState []).window 1 0 64 2 = some carveLoc ∧ podState.window 1 0 8 1 = none ∧ (aReq .write [1]).data ≠ [] ∧ rangeOf (paOf carveLoc) = .carve
    ∧ (∃ e ∈ [((1, 5), FabAns.refused)], e.1 = ((aReq .write []).origin.toNat, (aReq .write []).txn))
    ∧ (let r : FabReq := { aReq .write [] with target := 1 }; r.target.toNat ≠ podState.fab.own ∧ podState.fab.reach r.target.toNat = true)
    ∧ (let r : FabReq := { aReq .write [] with target := 2 }
       r.target.toNat ≠ podState.fab.own ∧ podState.fab.reach r.target.toNat = false ∧ isCounted r.op = false ∧ podState.fabAdmits r = true
       ∧ ∀ e ∈ podState.fab.cache, e.1 ≠ (r.origin.toNat + 256 * (1 + r.target.toNat), r.txn)) := by decide +kernel
theorem test_witness_PortTraffic_place : plainAt (portState []) carveLoc 64 := by
  unfold plainAt formed; decide +kernel
def anOut : FabOut :=
  { id := 0, owner := some 32, core := 0, cls := 0, target := 1, txn := 5, land := some 3, req := peerReq peer0 .write [] [], floor := 0, after := [], trap := aTrap }
theorem test_witness_PortTraffic_replies :
    let s := { podState with fab := { podState.fab with out := [anOut], replay := [(1, 15)] } }
    s.fab.out.find? (fun o => o.target == 1 && o.txn == 5) = some anOut ∧ s.fabLeft anOut = 0 ∧ s.fabAdmits (aReq .write []) = true ∧ anOut.owner ≠ none ∧ anOut.land = some 3
    ∧ s.fab.replay.get 0 < 15 ∧ 15 ≤ s.fab.replay.get 1 := by decide +kernel
/-- A step of this operation; SEND and RRS to the next rank. -/
def cStep (op : Nat) : BitVec 128 := BitVec.ofNat 128 op ||| 1 <<< 8
theorem test_witness_Collectives :
    (∀ op ∈ [1, 2, 3, 4, 5, 6], let r := aRun (cStep op)
      let s := portState [r]
      s.runAt 0 op = some r ∧ s.unacked r.peer < 4096 ∧ s.fab.reach r.peer = true ∧ r.chunk = 0 ∧ r.acc = none ∧ r.unacked = []
      ∧ s.tiles r = some [carveLoc] ∧ [carveLoc].all s.mem.tileReady = true ∧ s.mem.blotted carveLoc 64 = false
      ∧ s.window s.fab.own (r.granOff (stepF r.cur 16 2) r.chunk) 64 1 = some carveLoc
      ∧ s.window s.fab.own (r.granOff (stepF r.cur 18 2) r.chunk) 64 2 = some carveLoc)
    := by decide +kernel
theorem test_witness_Collectives_start :
    (let r := { aRun 0 with started := false, steps := [], rtab := [] }
       let s := mapped (portState [r])
       s.headRun 0 = some r ∧ r.stopped = false ∧ (State.readAt r.dom r.level 2 (r.va + 64) 16 s).2 = .inl (List.replicate 16 0, false)
       ∧ (State.readAt r.dom r.level 2 (BitVec.ofNat 64 (runHeader r 64 64)) (runN r) s).2 = .inl ([0, 0], false))
    := by decide +kernel
theorem test_witness_Collectives_end :
    (let r := { aRun 0 with aborted := true }
       let s := mapped (portState [r])
       (collOf s 0).runs.find? Run.ended = some r ∧ r.stopped = true ∧ runHeader r 384 64 % 64 = 0 ∧ (s.resolve 0 .write 0 r.level).2 = .inl 0
       ∧ runHeader r 32 16 = 0) := by decide +kernel

/-! ### The host -/

theorem test_witness_BringUpAndPower :
    State.reset.host.boot = 0 ∧ State.reset.host.bootDue = none ∧ State.reset.host.boot.getLsbD 8 = false ∧ State.reset.host.restoring = false
    ∧ ({ State.reset.host with freeze := true } : HostPart).freeze = true ∧ (0 : BitVec 7).toNat = State.reset.id ∧ Store.wf State.reset.bstacks = true
    ∧ (∀ n < 6, (BitVec.ofNat 64 n &&& 0xF : Word).toNat = n) ∧ mayLose State.reset (.core 0)
    ∧ ¬ mayLose { State.reset with pkg := { State.reset.pkg with cuts := List.replicate 56 (0, 1) } } (.core 0) := by
  unfold mayLose; decide +kernel
def aSvc : SvcReq := { id := 9, seq := some 4, func := 0, core := 0, req := [] }
theorem test_witness_HostPort :
    State.reset.barOk 0 8 = true ∧ State.reset.host.freeze = false ∧ (0 : BitVec 36).toNat + (8 : BitVec 13).toNat ≤ 0x10000000
    ∧ (0x0FFFFFF8 : BitVec 36).toNat + (8 : BitVec 13).toNat ≤ 0x10000000
    ∧ ({ State.reset.host with freeze := true } : HostPart).freeze = true ∧ State.reset.host.svcWait = []
    ∧ Store.wf State.reset.drawer.keyBuf = true ∧ Store.wf State.reset.drawer.ductus = true ∧ Store.wf State.reset.drawer.written = true
    ∧ Memory.wf State.reset.host.mailbox = true
    ∧ (let d : Drawer := { State.reset.drawer with keyBuf := [(1, 1)], keyNext := [(1, 127)] }
       let b := d.keyBuf.get 1
       d.keyNext.get 1 % 128 = 127 ∧ b.extractLsb' 0 256 ≠ 0 ∧ b.extractLsb' 0 256 ≠ (0 : BitVec 64) ++ b.extractLsb' 256 192)
    ∧ [aSvc].find? (fun r => r.seq == some (4 : BitVec 32).toNat) = some aSvc ∧ aSvc.func = 0
    ∧ [{ aWalk with ticket := some 9 }].find? (fun w => w.ticket == some aSvc.id) = some { aWalk with ticket := some 9 }
    ∧ (let res : BitVec 192 := 0x1B ||| 1 <<< 64
       resByte res 48 = 1 ∧ (res.extractLsb' 0 64).getLsbD 0 = true ∧ (res.extractLsb' 0 64).getLsbD 3 = true ∧ (res.extractLsb' 0 64).getLsbD 5 = false
       ∧ leafEntry 0 0 (res.extractLsb' 0 64) 1
         = .leaf { dom := 0, va := 0, size := 4096, pa := 0, w := true, x := false, app := true, cache := 0, key := 0, owner := 0 }) := by decide +kernel
theorem test_witness_HostPort_write : formed State.reset ∧ State.reset.homes = [] ∧ ∀ i < 8, rangeOf (0 + i) = .drawer := by
  unfold formed; decide +kernel
/-- A domain without a root: every walk faults on it. -/
theorem test_witness_HostPort_walk (u : State) (h : u.host.roots = []) : (u.walk 0 0).2 = .fault 0x05 0x52 0 := by
  unfold State.walk; rw [h]; rfl
/-- Who may write where: the firmware everything but the host's own, a strand at SUP the barriers, the host its registers. -/
theorem test_witness_SystemBlock :
    (let fw : Agent := { level := 2, domain := 0, host := false }
     ∀ o ∈ [0, 0x08, 0x18, 0x20, 0x28, 0x30, 0x38, 0x8000, 0x10000, 0x100000, 0x3000000, 0x3001000, 0x3001200, 0x3010000, 0x3011000, 0x3012000, 0x4000000,
       0x4010000, 0x5008000, 0x6000008, 0x6080008, 0x400000, 0x6000010, 0x6080010], mayWrite fw o = true)
    ∧ (∀ o ∈ [0x10, 0x7000008, 0x7001020, 0x8080000, 0x8000000], mayWrite hostAgent o = true) ∧ mayWrite hostAgent 0x18 = false
    ∧ mayWrite { level := 0, domain := 0, host := false } 8 = false
    ∧ State.reset.slotUsed 0 = false ∧ State.reset.host.ckptCtl.getLsbD 2 = false ∧ ({ State.reset.host with ckptCtl := 4 } : HostPart).ckptCtl.getLsbD 2 = true
    ∧ (0x6000008 : BitVec 28).toNat = 0x6000008 ∧ (0x200078 : BitVec 28).toNat = 0x200000 + 128 * (0 : BitVec 14).toNat + 8 * 15 := by decide +kernel
theorem test_witness_Checkpoints :
    (let h : HostPart := { State.reset.host with ckptWant := some false }; h.ckptWant = some false)
    ∧ ({ State.reset with host := { State.reset.host with ckptCtl := 4 } } : State).ckptReady = true ∧ State.reset.host.heldCommits = []
    ∧ (withHost { State.reset with mem := { State.reset.mem with base := [(0, 0x5A), (1, 0x48), (2, 0x43), (3, 0x4B), (4, 1), (6, 1)] } }
        { State.reset.host with boot := 6 }).restorable = true
    ∧ (withHost State.reset { State.reset.host with ckptWant := none }).restorable = false
    ∧ ({ State.reset.host with restoring := true } : HostPart).restoring = true := by decide +kernel
theorem test_witness_ChipletsAndLinks :
    State.reset.pkg.sockets.get 15 = 0 ∧ State.reset.pkg.sockets.get 27 = 0 ∧ 28 ≤ (28 : BitVec 5).toNat
    ∧ State.reset.host.funcMode.getLsbD 4 = false ∧ 0 ∉ State.reset.drawer.dead := by decide +kernel

/-! ### A step -/

/-- An instruction of stream `st` alone in the folio at address 0, which is in the instruction cache. -/
noncomputable def facingIt (st : Nat) (i : Instr) (f : Core → Core) : State := running.mapCore fun c => f { c with icache := [(0, some (oneBlock 0 st (encode i)))] }
def outOf : Result → Option Out
  | .next t => some t.core.out
  | _ => none
def strandAfter : Result → Bool
  | .next t => t.core.strand.isSome
  | _ => false
noncomputable def addi5 : Instr := .addi { imm := 64, a := 5, d := 5 }
noncomputable def ldOdd : Instr := .ld { imm := 1, a := 0, d := 5 } mGlob
noncomputable def vaddNone : Instr := .vfadd32 { ty := 8, vb := 2, va := 1, vd := 3 }
theorem test_witness_StepRunsDecodedInstruction_stands :
    ∀ x ∈ [(0, addi5), (0, Instr.tkwait tkw), (0, ldOdd), (0, Instr.exit { misc := 0 }), (1, vaddNone)],
      WellFormed x.1 x.2 ∧ (facingIt x.1 x.2 id).core.pc.entry = none ∧ (facingIt x.1 x.2 id).core.pc.slot = 1 ∧ (facingIt x.1 x.2 id).core.group = none := by
  decide +kernel
theorem test_witness_StepRunsDecodedInstruction_words :
    (∀ st i, (facingIt st i id).core.block 0 = some (oneBlock 0 st (encode i)))
    ∧ ((oneBlock 0 0 (encode addi5)).data.drop ((0 : Word).toNat % 256)).take 32 = oneFolio 0 (encode addi5)
    ∧ (facingIt 0 addi5 id).core.folioAt 0 = .words (aloneWords 0 (encode addi5)) ∧ (facingIt 1 vaddNone id).core.folioAt 0 = .words (aloneWords 1 (encode vaddNone)) :=
  ⟨fun _ _ => by rfl, by rfl, by rfl, by rfl⟩
theorem test_witness_StepRunsDecodedInstruction_group :
    (let s := facingIt 0 addi5 id
     outOf (exec addi5 (facing s (encode addi5))) = some .done ∧ strandAfter (exec addi5 (facing (past s (encode addi5)) (encode addi5))) = true)
    ∧ (let i := Instr.exit { misc := 0 }
       let s := facingIt 0 i id
       outOf (exec i (facing s (encode i))) = some .done ∧ strandAfter (exec i (facing (past s (encode i)) (encode i))) = false)
    ∧ (let i := Instr.tkwait tkw
       let s := facingIt 0 i id
       outOf (exec i (facing s (encode i))) = some .hold)
    ∧ (let s := facingIt 0 ldOdd id
       (match outOf (exec ldOdd (facing s (encode ldOdd))) with
        | some (.trap t) => t.cause
        | _ => 0) = 7)
    ∧ ((facingIt 1 vaddNone id).core.queues.get 1).length < 16 ∧ (facingIt 1 vaddNone id).core.trap.active = false := by decide +kernel
/-- Queue 4 with one instruction: CFENCE, CSIG that waits for a token, CSIG at an odd address. -/
noncomputable def heads : List Instr := [.cfence { misc := 0 } eNone, .cfence { misc := 0 } eWait, .csig { fn := 0, b := 0, a := 0, d := 0 } eNone]
noncomputable def queued (i : Instr) : State := running.mapCore fun c => { c with
  queues := [(4, [{ c.capture 0 (aloneSlot 0 4 (encode i)) with d := 1 }])] }
def isTrap : Option Out → Bool
  | some (.trap _) => true
  | _ => false
theorem test_witness_StepRunsDecodedInstruction_heads :
    (∀ i ∈ heads, WellFormed 4 i ∧ ((queued i).core.queues.get 4).map (·.words) = [encode i])
    ∧ heads.map (fun i => (((queued i).core.queues.get 4).map fun q => outOf (exec i (atHead (queued i) 4 q))).map fun o =>
        (o == some .done, o == some .hold, isTrap o)) = [[(true, false, false)], [(false, true, false)], [(false, false, true)]] := by decide +kernel
def planKind : Plan → Nat
  | .event .. => 1
  | .issue .. => 2
  | .tick _ => 3
  | .stop => 4
theorem test_witness_StepRunsDecodedInstruction_plan :
    planKind ((State.reset.withFetchWord 32 0x100514CD).plan) = 1 := by decide +kernel
theorem test_witness_StepRunsDecodedInstruction_issue :
    planKind (((State.reset.withFetchWord 32 0x100514CD).mapCore fun c => { c with
      queues := [(4, [c.capture 0 (aloneSlot 0 4 (encode (.cfence { misc := 0 } eNone)))])] }).plan) = 2 := by decide +kernel
theorem test_witness_StepsKeepMemoryFormed :
    memoryFormed (State.reset.withFetchWord 32 0x100514CD) ∧ outOf (step (State.reset.withFetchWord 32 0x100514CD)) = some .done := by
  unfold memoryFormed; decide +kernel
theorem test_witness_DecodeAndEncodeAgree : WellFormed 0 addi5 ∧ decode 0 [0x100514CD] = .ok addi5 := by
  constructor
  · decide +kernel
  · rfl

/-! ### What every event needs -/

/-- The events that no witness above shows with the hypotheses of this statement. -/
theorem test_witness_EventsTakeEffect :
    (let m := aMacro (.bdrop 0) {}; 0 - m.g0 < m.pos.length)
    ∧ (let s := { netOf (.barrier 1 0 0 1 none) with sync := { (netOf .trig).sync with bars := [((1, 0, 0, 1), { exp := 2 })] } }
       (s.sync.bar (1, 0, 0, 1)).a + 1 < (s.sync.bar (1, 0, 0, 1)).exp)
    ∧ (let s := { netOf .trig with sched := { running.sched with nodes := [(1, some (aNode 2 0))] } }; s.node ((aMsg .trig).owner / 32) = some (aNode 2 0))
    ∧ (let s := { running with fab := { running.fab with replay := [(1, 14)] } }; s.fab.replay.get (1 : BitVec 4).toNat < 15)
    ∧ ({ State.reset.host with ckptWant := some false } : HostPart).ckptWant = some false ∧ State.reset.host.bootDue = none
    ∧ State.reset.host.funcMode.getLsbD 4 = false ∧ (3 : BitVec 7).toNat ∉ State.reset.drawer.dead ∧ (27 : BitVec 5).toNat < 28
    ∧ State.reset.pkg.sockets.get 27 = 0 ∧ (6 : BitVec 3).toNat < 7 := by decide +kernel
theorem test_witness_EventsTakeEffect_loop :
    let r := aRun (cStep 6 ||| 5 <<< 80)
    (portState [r]).runAt 0 6 = some r ∧ r.ctr.getD (stepF r.cur 72 2) 0 + 1 < stepF r.cur 80 16 := by decide +kernel

/-! ### Results of the spec's worked examples -/

/-- 03 R94: 470.0 and 460.0 in fp8a: RNE without and with saturation, RZ. -/
theorem test_convert_fp8 :
    convert 8 11 0 false 0 0x43EB0000 = (0x7F, fOF ||| fNX) ∧ convert 8 11 0 true 0 0x43EB0000 = (0x7E, fOF ||| fNX)
    ∧ convert 8 11 1 false 0 0x43EB0000 = (0x7E, fNX) ∧ convert 8 11 1 true 0 0x43EB0000 = (0x7E, fNX)
    ∧ convert 8 11 0 false 0 0x43E60000 = (0x7E, fNX) := by decide +kernel
/-- 03 R95's worked case: the key, its random word and the value that SR takes; RNE's. -/
theorem test_stochastic_rounding :
    (let c : Core := { sc := { srseed := 0xFF00000000000000 } }; srKey c 1 0 = 0) ∧ mix64 0 = 0
    ∧ convert 8 10 5 false 0 0x3F802000 = (0x3F81, fNX) ∧ convert 8 10 0 false 0 0x3F802000 = (0x3F80, fNX)
    ∧ (let c : Core := Core.srBump { sc := { srseed := 0xFF00000000000000 } } 1 5; srKey c 1 3 = 2 ^ 20 + 1 + 3) := by decide +kernel
/-- 03 R96: 1024 and infinity leave the range of fp8a and of sx8. -/
theorem test_convert_limits :
    (convert 4 11 0 false 0 1024).2 = fOF ||| fNX ∧ (convert 8 13 0 true 0 0x40E00000).1 = 7 ∧ (convert 8 13 0 false 0 0x40E00000).1 = 7 := by decide +kernel
/-- 04 R114: MOVI with imm16 0x8000 places 0xFFFF_FFFF_FFFF_8000. -/
theorem test_movi :
    (match exec (.movi { imm := 0x8000, d := 5 }) running with
      | .next t => t.core.pend.map (·.wr)
      | _ => []) = [.s 5 0xFFFFFFFFFFFF8000] := by decide +kernel
/-- 07 Table 7.2: the VSHUP example with mask mx2, with mx3, and with mx3 and perm. -/
def shupState : State := running.mapCore fun c => { c with
  cur := { c.cur with stream := 1, b := 1, c := 7 }
  x := { c.x with reg := [(2048, 10), (2050, 20), (2052, 30), (2054, 40)], masks := [(2, 0xF), (3, 0xE)] } }
noncomputable def shup (mask : BitVec 4) (perm : BitVec 1) : Result :=
  exec (.vshup64 { ty := 2, vb := 9, va := 4, vd := 5 } { tok := 0xFFF, vc := 10, mask := mask, ty2 := 0, rm := 0, sat := 0, perm := perm, stgen := 0 }) shupState
/-- The bytes that a vector instruction writes, by place. -/
def written : Result → List (Nat × Byte)
  | .next t => t.core.pend.flatMap fun p => match p.wr with
    | .reg _ cs => cs.map fun c => (c.at_, c.val)
    | _ => []
  | _ => []
theorem test_vshup :
    written (shup 2 0) = [(2560, 7), (2561, 0), (2562, 10), (2563, 0), (2564, 20), (2565, 0), (2566, 30), (2567, 0)]
    ∧ written (shup 3 0) = []
    ∧ (match outOf (shup 3 0) with
       | some (.trap t) => (t.i0, t.i1, t.i2, t.i3)
       | _ => (0, 0, 0, 0)) = (1, 0, 2, 3)
    ∧ written (shup 3 1) = [(2562, 0), (2563, 0), (2564, 20), (2565, 0), (2566, 30), (2567, 0)] := by decide +kernel

/-! ### Words that are no instruction, and terms that are not well formed (02 Table 2.6) -/

theorem test_reserved_words :
    defect 0 0x00000000 0 0 = some 0x01 ∧ defect 0 0x0000003D 0 0 = some 0x06 ∧ defect 0 0x100514CE 0 0 = some 0x07
    ∧ defect 1 0x20000452 0x20000FCF 0 = some 0x10B ∧ defect 3 0x0000A807 0xFFF 0 = some 0x0C ∧ defect 0 0x050A1445 0 0 = none
    ∧ defect 0 0x850A1445 0 0 = some 0x0D ∧ defect 0 0x00000003 0 0 = some 0x07 := by decide +kernel
/-- Each check of WellFormed refuses one: the stream's opcode space, no space at all, the selecting field, the words. -/
theorem test_ill_formed :
    ¬WellFormed 1 addi5 ∧ ¬WellFormed 6 addi5 ∧ ¬WellFormed 0 .groupDispatch ∧ ¬WellFormed 0 (.movl { imm := 1, d := 5 } 7)
    ∧ ¬WellFormed 0 (.rftSkip { misc := 0 }) ∧ ¬WellFormed 0 (.add { fn := 8, b := 20, a := 10, d := 5 })
    ∧ ¬WellFormed 1 (.vfadd32 { ty := 4, vb := 2, va := 1, vd := 3 }) ∧ ¬WellFormed 4 (.cfence { misc := 0 } { eNone with tok := 0xFFC }) := by
  decide +kernel

/-! ### The words of the spec's worked encodings -/

/-- Chapter 02's examples, stream 0. -/
theorem test_examples_02_0 :
    decode 0 [0x100514CD] = .ok (.addi { imm := 64, a := 5, d := 5 })
    ∧ decode 0 [0x20041942, 0x00001400] = .ok (.ld { imm := 128, a := 4, d := 6 } { cls := 0, scope := 0, land := 40, space := 0, offext := 0 })
    ∧ decode 0 [0x00000809] = .ok (.brc { disp := 0, neg := 0, p := 2 }) :=
  ⟨by rfl, by rfl, by rfl⟩
/-- Chapter 02's examples, stream 1. -/
theorem test_examples_02_1 :
    decode 1 [0x80810CC1] = .ok (.vfadd32 { ty := 8, vb := 2, va := 1, vd := 3 }) :=
  by rfl
/-- Chapter 04's examples, stream 0. -/
theorem test_examples_04_0 :
    decode 0 [0x004924CD] = .ok (.addi { imm := 1, a := 9, d := 9 })
    ∧ decode 0 [0x028B2C41] = .ok (.add { fn := 0, b := 10, a := 11, d := 11 })
    ∧ decode 0 [0x02492849] = .ok (.mul { fn := 0, b := 9, a := 9, d := 10 })
    ∧ decode 0 [0x0000001D] = .ok (.loop { disp := 0, neg := 0, p := 0 })
    ∧ decode 0 [0x004C4021] = .ok (.loopset { imm := 1, a := 12, d := 16 })
    ∧ decode 0 [0xFFFE8005] = .ok (.br { disp := 0x1fffd, neg := 0, p := 0 }) :=
  ⟨by rfl, by rfl, by rfl, by rfl, by rfl, by rfl⟩
/-- Chapter 05's examples, stream 0. -/
theorem test_examples_05_0 :
    decode 0 [0x20041942, 0x00001433] = .ok (.ld { imm := 128, a := 4, d := 6 } { cls := 3, scope := 3, land := 40, space := 0, offext := 0 })
    ∧ decode 0 [0x0007855D] = .ok (.tkwait { misc := 0x1e1 })
    ∧ decode 0 [0xFFFF6561] = .ok (.tksig { misc := 0x3fffd9 })
    ∧ decode 0 [0x00060D51] = .ok (.fence { imm := 6, d := 3 }) :=
  ⟨by rfl, by rfl, by rfl, by rfl⟩
/-- Chapter 05's examples, stream 1. -/
theorem test_examples_05_1 :
    decode 1 [0x80050D83, 0x00000FFF, 0x10006400] = .ok (.vld { ty := 8, vb := 0, va := 5, vd := 3 } { tok := 0xfff, vc := 0, mask := 0, ty2 := 0, rm := 0, sat := 0, perm := 0, stgen := 0 } { cls := 0, scope := 0, land := 200, space := 0, offext := 64 }) :=
  by rfl
/-- Chapter 06's examples, stream 1. -/
theorem test_examples_06_1 :
    decode 1 [0x200A0012, 0x00000FFA] = .ok (.vxmov64 { ty := 2, vb := 0, va := 10, vd := 0 } { tok := 0xffa, vc := 0, mask := 0, ty2 := 0, rm := 0, sat := 0, perm := 0, stgen := 0 })
    ∧ decode 1 [0x00812059] = .ok (.vmulw32 { ty := 0, vb := 2, va := 1, vd := 8 })
    ∧ decode 1 [0x22482841] = .ok (.vadd32 { ty := 2, vb := 9, va := 8, vd := 10 })
    ∧ decode 1 [0x2081109A, 0x20003FFF] = .ok (.vaddmin { ty := 2, vb := 2, va := 1, vd := 4 } { tok := 0xfff, vc := 3, mask := 0, ty2 := 0, rm := 0, sat := 1, perm := 0, stgen := 0 })
    ∧ decode 1 [0xA08118CE, 0x14006FFF] = .ok (.vfma { ty := 10, vb := 2, va := 1, vd := 6 } { tok := 0xfff, vc := 6, mask := 0, ty2 := 0, rm := 5, sat := 0, perm := 0, stgen := 0 }) :=
  ⟨by rfl, by rfl, by rfl, by rfl, by rfl⟩
/-- Chapter 06's examples, stream 2. -/
theorem test_examples_06_2 :
    decode 2 [0x20000452, 0x20000FCF] = .ok (.vmul64 { ty := 2, vb := 0, va := 0, vd := 1 } { tok := 0xfcf, vc := 0, mask := 0, ty2 := 0, rm := 0, sat := 1, perm := 0, stgen := 0 }) :=
  by rfl
/-- Chapter 07's examples, stream 1. -/
theorem test_examples_07_1 :
    decode 1 [0x22441542, 0x0008AFFF] = .ok (.vshup64 { ty := 2, vb := 9, va := 4, vd := 5 } { tok := 0xfff, vc := 10, mask := 2, ty2 := 0, rm := 0, sat := 0, perm := 0, stgen := 0 })
    ∧ decode 1 [0x80061D52, 0x00040FFF] = .ok (.vred64 { ty := 8, vb := 0, va := 6, vd := 7 } { tok := 0xfff, vc := 0, mask := 1, ty2 := 0, rm := 0, sat := 0, perm := 0, stgen := 0 })
    ∧ decode 1 [0x800120FA, 0x02800FFF] = .ok (.vcvt { ty := 8, vb := 0, va := 1, vd := 8 } { tok := 0xfff, vc := 0, mask := 0, ty2 := 10, rm := 0, sat := 0, perm := 0, stgen := 0 })
    ∧ decode 1 [0x81C20CF5] = .ok (.vsfn32 { ty := 8, vb := 7, va := 2, vd := 3 }) :=
  ⟨by rfl, by rfl, by rfl, by rfl⟩
/-- Chapter 08's examples, stream 3. -/
theorem test_examples_08_3 :
    decode 3 [0x0000A407, 0x00000FFF, 0x0009C082] = .ok (.mcfg { imm := 0, d := 41 } { tok := 0xfff, scope := 0, cls := 0, xop := 0 } 0x9c082)
    ∧ decode 3 [0x0407800A, 0x00000FFF] = .ok (.mcfgv { imm := 16, a := 7, d := 32 } { tok := 0xfff, scope := 0, cls := 0, xop := 0 })
    ∧ decode 3 [0x0000040E, 0x00000FFF] = .ok (.mgo { misc := 1 } { tok := 0xfff, scope := 0, cls := 0, xop := 0 })
    ∧ decode 3 [0x0001D00E, 0x00000FFF] = .ok (.mgo { misc := 0x74 } { tok := 0xfff, scope := 0, cls := 0, xop := 0 })
    ∧ decode 3 [0x00007812, 0x00000FFF] = .ok (.mpin { misc := 0x1e } { tok := 0xfff, scope := 0, cls := 0, xop := 0 })
    ∧ decode 3 [0x0000541A, 0x00000FFF] = .ok (.mdrain { misc := 0x15 } { tok := 0xfff, scope := 0, cls := 0, xop := 0 })
    ∧ decode 3 [0x0009141E, 0x00000FFF] = .ok (.msave { imm := 0, a := 9, d := 5 } { tok := 0xfff, scope := 0, cls := 0, xop := 0 })
    ∧ decode 3 [0x00013026, 0x00000FF8] = .ok (.mstat { misc := 0x4c } { tok := 0xff8, scope := 0, cls := 0, xop := 0 })
    ∧ decode 3 [0x0000002A, 0x00003FF8] = .ok (.mfence { misc := 0 } { tok := 0xff8, scope := 3, cls := 0, xop := 0 }) :=
  ⟨by rfl, by rfl, by rfl, by rfl, by rfl, by rfl, by rfl, by rfl, by rfl⟩
/-- Chapter 09's examples, stream 5. -/
theorem test_examples_09_5 :
    decode 5 [0x03400006, 0x00080FFF] = .ok (.bact { fn := 0, b := 13, a := 0, d := 0 } { tok := 0xfff, scope := 0, cls := 0, xop := 1 })
    ∧ decode 5 [0x030A2C0A, 0x00080FF8] = .ok (.bmv { fn := 0, b := 12, a := 10, d := 11 } { tok := 0xff8, scope := 0, cls := 0, xop := 1 })
    ∧ decode 5 [0x00140026, 0x00180FFF] = .ok (.bload { fn := 0, b := 0, a := 20, d := 0 } { tok := 0xfff, scope := 0, cls := 0, xop := 3 })
    ∧ decode 5 [0x0009002E, 0x00003FFF] = .ok (.bjoin { fn := 0, b := 0, a := 9, d := 0 } { tok := 0xfff, scope := 3, cls := 0, xop := 0 })
    ∧ decode 5 [0x00011C32, 0x00003FF8] = .ok (.bfence { misc := 0x47 } { tok := 0xff8, scope := 3, cls := 0, xop := 0 }) :=
  ⟨by rfl, by rfl, by rfl, by rfl, by rfl⟩
/-- Chapter 10's examples, stream 0. -/
theorem test_examples_10_0 :
    decode 0 [0x00070D5A, 0x00100000] = .ok (.lrec { imm := 0, a := 7, d := 3 } { cls := 0, scope := 0, land := 0, space := 1, offext := 0 }) :=
  by rfl
/-- Chapter 10's examples, stream 4. -/
theorem test_examples_10_4 :
    decode 4 [0x434A2C06, 0x00898FF8] = .ok (.cpy { fn := 4, b := 13, a := 10, d := 11 } { tok := 0xff8, scope := 0, cls := 3, xop := 0x11 })
    ∧ decode 4 [0x15955012, 0x15010FFF] = .ok (.cpyxScale { fn := 1, b := 22, a := 21, d := 20 } { tok := 0xfff, scope := 0, cls := 2, xop := 0x2a0 })
    ∧ decode 4 [0x0015501A, 0x0001BFFF] = .ok (.csig { fn := 0, b := 0, a := 21, d := 20 } { tok := 0xfff, scope := 3, cls := 3, xop := 0 })
    ∧ decode 4 [0x00002026, 0x00003FFF] = .ok (.cfence { misc := 8 } { tok := 0xfff, scope := 3, cls := 0, xop := 0 }) :=
  ⟨by rfl, by rfl, by rfl, by rfl⟩
/-- Chapter 11's examples, stream 0. -/
theorem test_examples_11_0 :
    decode 0 [0x050A1582, 0x0000C830] = .ok (.aadd { fn := 0, b := 20, a := 10, d := 5 } { cls := 0, scope := 3, land := 400, space := 0, offext := 0 })
    ∧ decode 0 [0x51CB19A6, 0x0000C830] = .ok (.acas { fn := 5, b := 7, a := 11, d := 6 } { cls := 0, scope := 3, land := 400, space := 0, offext := 0 })
    ∧ decode 0 [0x050A01B2, 0x02000032] = .ok (.radd { fn := 0, b := 20, a := 10, d := 0 } { cls := 2, scope := 3, land := 0, space := 0, offext := 8 })
    ∧ decode 0 [0x10802605] = .ok (.barv { fn := 1, b := 2, a := 0, d := 9 })
    ∧ decode 0 [0x10892A09] = .ok (.bwait { fn := 1, b := 2, a := 9, d := 10 })
    ∧ decode 0 [0x34402201] = .ok (.bar { fn := 3, b := 17, a := 0, d := 8 })
    ∧ decode 0 [0x00090221] = .ok (.jarv { fn := 0, b := 0, a := 9, d := 0 })
    ∧ decode 0 [0x00092A25] = .ok (.jwait { fn := 0, b := 0, a := 9, d := 10 })
    ∧ decode 0 [0x00145556, 0x00000030] = .ok (.waitw { imm := 0, a := 20, d := 21 } { cls := 0, scope := 3, land := 0, space := 0, offext := 0 })
    ∧ decode 0 [0x04072156, 0x00100680] = .ok (.waitw { imm := 16, a := 7, d := 8 } { cls := 0, scope := 0, land := 13, space := 1, offext := 0 })
    ∧ decode 0 [0x030A2629] = .ok (.watch { fn := 0, b := 12, a := 10, d := 9 })
    ∧ decode 0 [0x00092E2D] = .ok (.unwatch { fn := 0, b := 0, a := 9, d := 11 }) :=
  ⟨by rfl, by rfl, by rfl, by rfl, by rfl, by rfl, by rfl, by rfl, by rfl, by rfl, by rfl, by rfl⟩
/-- Chapter 12's examples, stream 0. -/
theorem test_examples_12_0 :
    decode 0 [0x00000025] = .ok (.exit { misc := 0 })
    ∧ decode 0 [0x00000029] = .ok (.yield { misc := 0 })
    ∧ decode 0 [0x0055502D] = .ok (.suspend { misc := 0x1554 })
    ∧ decode 0 [0x00000031] = .ok (.seal { misc := 0 })
    ∧ decode 0 [0x0000020D] = .ok (.trig { fn := 0, b := 0, a := 0, d := 0 })
    ∧ decode 0 [0x00001611] = .ok (.gwait { fn := 0, b := 0, a := 0, d := 5 })
    ∧ decode 0 [0x00091615] = .ok (.spawn { fn := 0, b := 0, a := 9, d := 5 })
    ∧ decode 0 [0x00091619] = .ok (.nsub { fn := 0, b := 0, a := 9, d := 5 })
    ∧ decode 0 [0x0009161D] = .ok (.prio { fn := 0, b := 0, a := 9, d := 5 }) :=
  ⟨by rfl, by rfl, by rfl, by rfl, by rfl, by rfl, by rfl, by rfl, by rfl⟩
/-- Chapter 13's examples, stream 0. -/
theorem test_examples_13_0 :
    decode 0 [0x000A1A42, 0x00025842] = .ok (.pld { fn := 0, b := 0, a := 10, d := 6 } { cls := 2, scope := 4, land := 1200, space := 0, offext := 0 })
    ∧ decode 0 [0x000A5246, 0x10000040] = .ok (.pst { fn := 0, b := 0, a := 10, d := 20 } { cls := 0, scope := 4, land := 0, space := 0, offext := 64 })
    ∧ decode 0 [0x830A2E46, 0x00000041] = .ok (.pstBlock { fn := 8, b := 12, a := 10, d := 11 } { cls := 1, scope := 4, land := 0, space := 0, offext := 0 })
    ∧ decode 0 [0x050A164A, 0x00032040] = .ok (.pfaa { fn := 0, b := 20, a := 10, d := 5 } { cls := 0, scope := 4, land := 1600, space := 0, offext := 0 })
    ∧ decode 0 [0x51CB1A4E, 0x00032040] = .ok (.pcas { fn := 5, b := 7, a := 11, d := 6 } { cls := 0, scope := 4, land := 1600, space := 0, offext := 0 })
    ∧ decode 0 [0x150A1A52, 0x00000040] = .ok (.pred { fn := 1, b := 20, a := 10, d := 6 } { cls := 0, scope := 4, land := 0, space := 0, offext := 0 })
    ∧ decode 0 [0x004D0256, 0x00000040] = .ok (.pfence { fn := 0, b := 1, a := 13, d := 0 } { cls := 0, scope := 4, land := 0, space := 0, offext := 0 })
    ∧ decode 0 [0x0009165A, 0x00000000] = .ok (.clrun { fn := 0, b := 0, a := 9, d := 5 } { cls := 0, scope := 0, land := 0, space := 0, offext := 0 })
    ∧ decode 0 [0x014A1A5E, 0x00000000] = .ok (.clwait { fn := 0, b := 5, a := 10, d := 6 } { cls := 0, scope := 0, land := 0, space := 0, offext := 0 }) :=
  ⟨by rfl, by rfl, by rfl, by rfl, by rfl, by rfl, by rfl, by rfl, by rfl⟩
/-- Chapter 14's examples, stream 0. -/
theorem test_examples_14_0 :
    decode 0 [0x00201781] = .ok (.mfs { imm := 32, d := 5 })
    ∧ decode 0 [0x00121B85] = .ok (.mts { imm := 18, d := 6 })
    ∧ decode 0 [0x0C004835] = .ok (.trap { misc := 0x30012 })
    ∧ decode 0 [0x00001C39] = .ok (.brk { misc := 7 })
    ∧ decode 0 [0x00001789] = .ok (.svc { misc := 5 })
    ∧ decode 0 [0x0000038D] = .ok (.rftResume { misc := 0 })
    ∧ decode 0 [0x0000078D] = .ok (.rftSkip { misc := 1 })
    ∧ decode 0 [0x00000B8D] = .ok (.rftPark { misc := 2 })
    ∧ decode 0 [0x00000F8D] = .ok (.rftRestart { misc := 3 })
    ∧ decode 0 [0x000043A5] = .ok (.wfi { misc := 0x10 }) :=
  ⟨by rfl, by rfl, by rfl, by rfl, by rfl, by rfl, by rfl, by rfl, by rfl, by rfl⟩

/-! ### Every instruction from its word: fields placed by the layouts of 02 Tables 2.5 to 2.12, opcodes from the chapters' tables -/

/-- NOP to ADD. -/
theorem test_words_1 :
    [[0x00000001], [0xFFFE8005], [0xFFFE8009], [0xFFFE800D], [0x000A0011], [0x00000015], [0x000A0019], [0xFFFE801D], [0x000A1421],
     [0x00000025], [0x00000029], [0x0000002D], [0x00000031], [0x00000035], [0x00000039], [0x050A1441]].map (decode 0)
    = [.ok (.nop { misc := 0 }), .ok (.br { disp := 0x1fffd, neg := 0, p := 0 }), .ok (.brc { disp := 0x1fffd, neg := 0, p := 0 }),
       .ok (.call { disp := 0x1fffd, neg := 0, p := 0 }), .ok (.calli { fn := 0, b := 0, a := 10, d := 0 }), .ok (.ret { misc := 0 }),
       .ok (.jmpi { fn := 0, b := 0, a := 10, d := 0 }), .ok (.loop { disp := 0x1fffd, neg := 0, p := 0 }),
       .ok (.loopset { imm := 0, a := 10, d := 5 }), .ok (.exit { misc := 0 }), .ok (.yield { misc := 0 }), .ok (.suspend { misc := 0 }),
       .ok (.seal { misc := 0 }), .ok (.trap { misc := 0 }), .ok (.brk { misc := 0 }), .ok (.add { fn := 0, b := 20, a := 10, d := 5 })] := by rfl
/-- SUB to ROT. -/
theorem test_words_2 :
    [[0x050A1445], [0x050A1449], [0x050A144D], [0x050A1451], [0x050A1455], [0x050A1459], [0x050A145D], [0x050A1461], [0x050A1465],
     [0x050A1469], [0x050A146D], [0x050A1471], [0x050A1475], [0x050A1479], [0x050A147D], [0x050A1481]].map (decode 0)
    = [.ok (.sub { fn := 0, b := 20, a := 10, d := 5 }), .ok (.mul { fn := 0, b := 20, a := 10, d := 5 }),
       .ok (.mulh { fn := 0, b := 20, a := 10, d := 5 }), .ok (.mulhn { fn := 0, b := 20, a := 10, d := 5 }),
       .ok (.div { fn := 0, b := 20, a := 10, d := 5 }), .ok (.divn { fn := 0, b := 20, a := 10, d := 5 }),
       .ok (.rem { fn := 0, b := 20, a := 10, d := 5 }), .ok (.remn { fn := 0, b := 20, a := 10, d := 5 }),
       .ok (.and { fn := 0, b := 20, a := 10, d := 5 }), .ok (.or { fn := 0, b := 20, a := 10, d := 5 }),
       .ok (.xor { fn := 0, b := 20, a := 10, d := 5 }), .ok (.andn { fn := 0, b := 20, a := 10, d := 5 }),
       .ok (.shl { fn := 0, b := 20, a := 10, d := 5 }), .ok (.shr { fn := 0, b := 20, a := 10, d := 5 }),
       .ok (.sha { fn := 0, b := 20, a := 10, d := 5 }), .ok (.rot { fn := 0, b := 20, a := 10, d := 5 })] := by rfl
/-- MIN to MOVL_HI. -/
theorem test_words_3 :
    [[0x050A1485], [0x050A1489], [0x050A148D], [0x050A1491], [0x100A1495], [0x100A1499], [0x100A149D], [0x050A14A1], [0x050A14A5],
     [0x050A14A9], [0x050A14AD], [0x050A14B1], [0x050A14B5], [0x123414C1], [0x000014C6, 0x89ABCDEF], [0x000114C6, 0x89ABCDEF]].map (decode 0)
    = [.ok (.min { fn := 0, b := 20, a := 10, d := 5 }), .ok (.max { fn := 0, b := 20, a := 10, d := 5 }),
       .ok (.minn { fn := 0, b := 20, a := 10, d := 5 }), .ok (.maxn { fn := 0, b := 20, a := 10, d := 5 }),
       .ok (.clz { fn := 1, b := 0, a := 10, d := 5 }), .ok (.ctz { fn := 1, b := 0, a := 10, d := 5 }),
       .ok (.popc { fn := 1, b := 0, a := 10, d := 5 }), .ok (.ext { fn := 0, b := 20, a := 10, d := 5 }),
       .ok (.extn { fn := 0, b := 20, a := 10, d := 5 }), .ok (.ins { fn := 0, b := 20, a := 10, d := 5 }),
       .ok (.sel { fn := 0, b := 20, a := 10, d := 5 }), .ok (.lea { fn := 0, b := 20, a := 10, d := 5 }),
       .ok (.cmp { fn := 0, b := 20, a := 10, d := 5 }), .ok (.movi { imm := 4660, d := 5 }), .ok (.movl { imm := 0, d := 5 } 0x89abcdef),
       .ok (.movlHi { imm := 1, d := 5 } 0x89abcdef)] := by rfl
/-- MOVHI to MOVP_TO_B. -/
theorem test_words_4 :
    [[0x123414C9], [0x554A14CD], [0x554A14D1], [0x554A14D5], [0x554A14D9], [0x554A14DD], [0x094A14E1], [0x094A14E5], [0x094A14E9],
     [0x554A14ED], [0x100A14F1], [0x100A14F5], [0x100A14F9], [0x000014FD], [0x100A00FD], [0x200A14FD]].map (decode 0)
    = [.ok (.movhi { imm := 4660, d := 5 }), .ok (.addi { imm := 341, a := 10, d := 5 }), .ok (.muli { imm := 341, a := 10, d := 5 }),
       .ok (.andi { imm := 341, a := 10, d := 5 }), .ok (.ori { imm := 341, a := 10, d := 5 }),
       .ok (.xori { imm := 341, a := 10, d := 5 }), .ok (.shli { imm := 37, a := 10, d := 5 }),
       .ok (.shri { imm := 37, a := 10, d := 5 }), .ok (.shai { imm := 37, a := 10, d := 5 }),
       .ok (.cmpi { imm := 341, a := 10, d := 5 }), .ok (.pand { fn := 1, b := 0, a := 10, d := 5 }),
       .ok (.por { fn := 1, b := 0, a := 10, d := 5 }), .ok (.pxor { fn := 1, b := 0, a := 10, d := 5 }),
       .ok (.movpFromP { fn := 0, b := 0, a := 0, d := 5 }), .ok (.movpToP { fn := 1, b := 0, a := 10, d := 0 }),
       .ok (.movpToB { fn := 2, b := 0, a := 10, d := 5 })] := by rfl
/-- MOVP_FROM_B to FCMP. -/
theorem test_words_5 :
    [[0x300014FD], [0x400A00FD], [0x500014FD], [0x600014FD], [0x700014FD], [0x050A1501], [0x050A1505], [0x050A1509], [0x050A150D],
     [0x050A1511], [0x100A1515], [0x050A1519], [0x050A151D], [0x000A1521], [0x000A1525], [0x050A1529]].map (decode 0)
    = [.ok (.movpFromB { fn := 3, b := 0, a := 0, d := 5 }), .ok (.movpToK { fn := 4, b := 0, a := 10, d := 0 }),
       .ok (.movpFromK { fn := 5, b := 0, a := 0, d := 5 }), .ok (.movpFromLc { fn := 6, b := 0, a := 0, d := 5 }),
       .ok (.movpKToP { fn := 7, b := 0, a := 0, d := 5 }), .ok (.fadd { fn := 0, b := 20, a := 10, d := 5 }),
       .ok (.fsub { fn := 0, b := 20, a := 10, d := 5 }), .ok (.fmul { fn := 0, b := 20, a := 10, d := 5 }),
       .ok (.ffma { fn := 0, b := 20, a := 10, d := 5 }), .ok (.fdiv { fn := 0, b := 20, a := 10, d := 5 }),
       .ok (.fsqrt { fn := 1, b := 0, a := 10, d := 5 }), .ok (.fmin { fn := 0, b := 20, a := 10, d := 5 }),
       .ok (.fmax { fn := 0, b := 20, a := 10, d := 5 }), .ok (.fabs { fn := 0, b := 0, a := 10, d := 5 }),
       .ok (.fneg { fn := 0, b := 0, a := 10, d := 5 }), .ok (.fcmp { fn := 0, b := 20, a := 10, d := 5 })] := by rfl
/-- FCVTI to AMIN. -/
theorem test_words_6 :
    [[0x100A152D], [0x100A1531], [0x554A1542, 0x00801430], [0x554A1546, 0x00800013], [0x554A154A, 0x00801430], [0x554A154E, 0x00800013],
     [0x01550D51], [0x554A1556, 0x00800010], [0x554A155A, 0x00801430], [0x0005555D], [0x00055561], [0x050A1582, 0x00801430],
     [0x050A1586, 0x00801430], [0x050A158A, 0x00801430], [0x050A158E, 0x00801430], [0x050A1592, 0x00801430]].map (decode 0)
    = [.ok (.fcvti { fn := 1, b := 0, a := 10, d := 5 }), .ok (.icvtf { fn := 1, b := 0, a := 10, d := 5 }),
       .ok (.ld { imm := 341, a := 10, d := 5 } { cls := 0, scope := 3, land := 40, space := 0, offext := 2 }),
       .ok (.st { imm := 341, a := 10, d := 5 } { cls := 3, scope := 1, land := 0, space := 0, offext := 2 }),
       .ok (.lds { imm := 341, a := 10, d := 5 } { cls := 0, scope := 3, land := 40, space := 0, offext := 2 }),
       .ok (.sts { imm := 341, a := 10, d := 5 } { cls := 3, scope := 1, land := 0, space := 0, offext := 2 }),
       .ok (.fence { imm := 341, d := 3 }),
       .ok (.waitw { imm := 341, a := 10, d := 5 } { cls := 0, scope := 1, land := 0, space := 0, offext := 2 }),
       .ok (.lrec { imm := 341, a := 10, d := 5 } { cls := 0, scope := 3, land := 40, space := 0, offext := 2 }),
       .ok (.tkwait { misc := 0x155 }), .ok (.tksig { misc := 0x155 }),
       .ok (.aadd { fn := 0, b := 20, a := 10, d := 5 } { cls := 0, scope := 3, land := 40, space := 0, offext := 2 }),
       .ok (.aand { fn := 0, b := 20, a := 10, d := 5 } { cls := 0, scope := 3, land := 40, space := 0, offext := 2 }),
       .ok (.aor { fn := 0, b := 20, a := 10, d := 5 } { cls := 0, scope := 3, land := 40, space := 0, offext := 2 }),
       .ok (.axor { fn := 0, b := 20, a := 10, d := 5 } { cls := 0, scope := 3, land := 40, space := 0, offext := 2 }),
       .ok (.amin { fn := 0, b := 20, a := 10, d := 5 } { cls := 0, scope := 3, land := 40, space := 0, offext := 2 })] := by rfl
/-- AMAX to BAR. -/
theorem test_words_7 :
    [[0x050A1596, 0x00801430], [0x050A159A, 0x00801430], [0x050A159E, 0x00801430], [0x050A15A2, 0x00801430], [0x050A15A6, 0x00801430],
     [0x550A15AA, 0x00801430], [0x050A15AE, 0x00801430], [0x150A01B2, 0x00800013], [0x150A01B6, 0x00800013], [0x150A01BA, 0x00800013],
     [0x150A01BE, 0x00800013], [0x150A01C2, 0x00800013], [0x150A01C6, 0x00800013], [0x150A01CA, 0x00800013], [0x250A01CE, 0x00800013],
     [0x10001601]].map (decode 0)
    = [.ok (.amax { fn := 0, b := 20, a := 10, d := 5 } { cls := 0, scope := 3, land := 40, space := 0, offext := 2 }),
       .ok (.aminn { fn := 0, b := 20, a := 10, d := 5 } { cls := 0, scope := 3, land := 40, space := 0, offext := 2 }),
       .ok (.amaxn { fn := 0, b := 20, a := 10, d := 5 } { cls := 0, scope := 3, land := 40, space := 0, offext := 2 }),
       .ok (.aswp { fn := 0, b := 20, a := 10, d := 5 } { cls := 0, scope := 3, land := 40, space := 0, offext := 2 }),
       .ok (.acas { fn := 0, b := 20, a := 10, d := 5 } { cls := 0, scope := 3, land := 40, space := 0, offext := 2 }),
       .ok (.afadd { fn := 5, b := 20, a := 10, d := 5 } { cls := 0, scope := 3, land := 40, space := 0, offext := 2 }),
       .ok (.ainc { fn := 0, b := 20, a := 10, d := 5 } { cls := 0, scope := 3, land := 40, space := 0, offext := 2 }),
       .ok (.radd { fn := 1, b := 20, a := 10, d := 0 } { cls := 3, scope := 1, land := 0, space := 0, offext := 2 }),
       .ok (.rand { fn := 1, b := 20, a := 10, d := 0 } { cls := 3, scope := 1, land := 0, space := 0, offext := 2 }),
       .ok (.ror { fn := 1, b := 20, a := 10, d := 0 } { cls := 3, scope := 1, land := 0, space := 0, offext := 2 }),
       .ok (.rxor { fn := 1, b := 20, a := 10, d := 0 } { cls := 3, scope := 1, land := 0, space := 0, offext := 2 }),
       .ok (.rmin { fn := 1, b := 20, a := 10, d := 0 } { cls := 3, scope := 1, land := 0, space := 0, offext := 2 }),
       .ok (.rmax { fn := 1, b := 20, a := 10, d := 0 } { cls := 3, scope := 1, land := 0, space := 0, offext := 2 }),
       .ok (.rfadd { fn := 1, b := 20, a := 10, d := 0 } { cls := 3, scope := 1, land := 0, space := 0, offext := 2 }),
       .ok (.rbfadd { fn := 2, b := 20, a := 10, d := 0 } { cls := 3, scope := 1, land := 0, space := 0, offext := 2 }),
       .ok (.bar { fn := 1, b := 0, a := 0, d := 5 })] := by rfl
/-- BARV to PCAS. -/
theorem test_words_8 :
    [[0x10001605], [0x100A1609], [0x0000020D], [0x00001611], [0x000A1615], [0x000A1619], [0x000A161D], [0x150A0221], [0x000A1625],
     [0x050A1629], [0x000A162D], [0x000A1A42, 0x00025842], [0x000A5246, 0x00000042], [0x830A2E46, 0x00000042], [0x0A0A164A, 0x00025842],
     [0x0A0A164E, 0x00025842]].map (decode 0)
    = [.ok (.barv { fn := 1, b := 0, a := 0, d := 5 }), .ok (.bwait { fn := 1, b := 0, a := 10, d := 5 }),
       .ok (.trig { fn := 0, b := 0, a := 0, d := 0 }), .ok (.gwait { fn := 0, b := 0, a := 0, d := 5 }),
       .ok (.spawn { fn := 0, b := 0, a := 10, d := 5 }), .ok (.nsub { fn := 0, b := 0, a := 10, d := 5 }),
       .ok (.prio { fn := 0, b := 0, a := 10, d := 5 }), .ok (.jarv { fn := 1, b := 20, a := 10, d := 0 }),
       .ok (.jwait { fn := 0, b := 0, a := 10, d := 5 }), .ok (.watch { fn := 0, b := 20, a := 10, d := 5 }),
       .ok (.unwatch { fn := 0, b := 0, a := 10, d := 5 }),
       .ok (.pld { fn := 0, b := 0, a := 10, d := 6 } { cls := 2, scope := 4, land := 1200, space := 0, offext := 0 }),
       .ok (.pst { fn := 0, b := 0, a := 10, d := 20 } { cls := 2, scope := 4, land := 0, space := 0, offext := 0 }),
       .ok (.pstBlock { fn := 8, b := 12, a := 10, d := 11 } { cls := 2, scope := 4, land := 0, space := 0, offext := 0 }),
       .ok (.pfaa { fn := 0, b := 40, a := 10, d := 5 } { cls := 2, scope := 4, land := 1200, space := 0, offext := 0 }),
       .ok (.pcas { fn := 0, b := 40, a := 10, d := 5 } { cls := 2, scope := 4, land := 1200, space := 0, offext := 0 })] := by rfl
/-- PRED to LLCOP_CLEAN. -/
theorem test_words_9 :
    [[0x1A0A0252, 0x00000042], [0x00400256, 0x00000040], [0x100A165A, 0x00800000], [0x050A165E, 0x00800000], [0x00251781], [0x00121B85],
     [0x00000389], [0x0000038D], [0x0000078D], [0x00000B8D], [0x00000F8D], [0x050A0391], [0x00000395], [0x050A039A, 0x00800030],
     [0x150A039A, 0x00800030], [0x2000039A, 0x00000030]].map (decode 0)
    = [.ok (.pred { fn := 1, b := 40, a := 10, d := 0 } { cls := 2, scope := 4, land := 0, space := 0, offext := 0 }),
       .ok (.pfence { fn := 0, b := 1, a := 0, d := 0 } { cls := 0, scope := 4, land := 0, space := 0, offext := 0 }),
       .ok (.clrun { fn := 1, b := 0, a := 10, d := 5 } { cls := 0, scope := 0, land := 0, space := 0, offext := 2 }),
       .ok (.clwait { fn := 0, b := 20, a := 10, d := 5 } { cls := 0, scope := 0, land := 0, space := 0, offext := 2 }),
       .ok (.mfs { imm := 37, d := 5 }), .ok (.mts { imm := 18, d := 6 }), .ok (.svc { misc := 0 }), .ok (.rftResume { misc := 0 }),
       .ok (.rftSkip { misc := 1 }), .ok (.rftPark { misc := 2 }), .ok (.rftRestart { misc := 3 }),
       .ok (.tlbi { fn := 0, b := 20, a := 10, d := 0 }), .ok (.tlbia { misc := 0 }),
       .ok (.llcopCarve { fn := 0, b := 20, a := 10, d := 0 } { cls := 0, scope := 3, land := 0, space := 0, offext := 2 }),
       .ok (.llcopUncarve { fn := 1, b := 20, a := 10, d := 0 } { cls := 0, scope := 3, land := 0, space := 0, offext := 2 }),
       .ok (.llcopClean { fn := 2, b := 0, a := 0, d := 0 } { cls := 0, scope := 3, land := 0, space := 0, offext := 0 })] := by rfl
/-- LLCOP_FLUSH to WFI. -/
theorem test_words_10 :
    [[0x3000039A, 0x00000030], [0x050A179D], [0x000A17A1], [0x004A17A1], [0x008A17A1], [0x00CA17A1], [0x000003A5]].map (decode 0)
    = [.ok (.llcopFlush { fn := 3, b := 0, a := 0, d := 0 } { cls := 0, scope := 3, land := 0, space := 0, offext := 0 }),
       .ok (.purge { fn := 0, b := 20, a := 10, d := 5 }), .ok (.chipopStatus { imm := 0, a := 10, d := 5 }),
       .ok (.chipopFence { imm := 1, a := 10, d := 5 }), .ok (.chipopReset { imm := 2, a := 10, d := 5 }),
       .ok (.chipopClearlost { imm := 3, a := 10, d := 5 }), .ok (.wfi { misc := 0 })] := by rfl
/-- VNOP to VMOR_32. -/
theorem test_words_11 :
    [[0x00000001], [0x00000007, 0x00000FFF, 0x00008000], [0x2000180B, 0x80080FFF, 0x89ABCDEF], [0x2004180D], [0x2004180E, 0x80080FFF],
     [0x20041811], [0x20041812, 0x80080FFF], [0x20041815], [0x20041816, 0x80080FFF], [0x20841819], [0x2084181A, 0x80080FFF],
     [0x0004181D], [0x0004181E, 0x80080FFF], [0x00841821], [0x00841822, 0x80080FFF], [0x00841825]].map (decode 1)
    = [.ok (.vnop { ty := 0, vb := 0, va := 0, vd := 0 }),
       .ok (.vview { ty := 0, vb := 0, va := 0, vd := 0 } { tok := 0xfff, vc := 0, mask := 0, ty2 := 0, rm := 0, sat := 0, perm := 0, stgen := 0 } 0x8000),
       .ok (.tview { ty := 2, vb := 0, va := 0, vd := 6 } { tok := 0xfff, vc := 0, mask := 2, ty2 := 0, rm := 0, sat := 0, perm := 0, stgen := 1 } 0x89abcdef),
       .ok (.vmov32 { ty := 2, vb := 0, va := 4, vd := 6 }),
       .ok (.vmov64 { ty := 2, vb := 0, va := 4, vd := 6 } { tok := 0xfff, vc := 0, mask := 2, ty2 := 0, rm := 0, sat := 0, perm := 0, stgen := 1 }),
       .ok (.vxmov32 { ty := 2, vb := 0, va := 4, vd := 6 }),
       .ok (.vxmov64 { ty := 2, vb := 0, va := 4, vd := 6 } { tok := 0xfff, vc := 0, mask := 2, ty2 := 0, rm := 0, sat := 0, perm := 0, stgen := 1 }),
       .ok (.vbcast32 { ty := 2, vb := 0, va := 4, vd := 6 }),
       .ok (.vbcast64 { ty := 2, vb := 0, va := 4, vd := 6 } { tok := 0xfff, vc := 0, mask := 2, ty2 := 0, rm := 0, sat := 0, perm := 0, stgen := 1 }),
       .ok (.vtos32 { ty := 2, vb := 2, va := 4, vd := 6 }),
       .ok (.vtos64 { ty := 2, vb := 2, va := 4, vd := 6 } { tok := 0xfff, vc := 0, mask := 2, ty2 := 0, rm := 0, sat := 0, perm := 0, stgen := 1 }),
       .ok (.vmset32 { ty := 0, vb := 0, va := 4, vd := 6 }),
       .ok (.vmset64 { ty := 0, vb := 0, va := 4, vd := 6 } { tok := 0xfff, vc := 0, mask := 2, ty2 := 0, rm := 0, sat := 0, perm := 0, stgen := 1 }),
       .ok (.vmand32 { ty := 0, vb := 2, va := 4, vd := 6 }),
       .ok (.vmand64 { ty := 0, vb := 2, va := 4, vd := 6 } { tok := 0xfff, vc := 0, mask := 2, ty2 := 0, rm := 0, sat := 0, perm := 0, stgen := 1 }),
       .ok (.vmor32 { ty := 0, vb := 2, va := 4, vd := 6 })] := by rfl
/-- VMOR_64 to VMUL_32. -/
theorem test_words_12 :
    [[0x00841826, 0x80080FFF], [0x00841829], [0x0084182A, 0x80080FFF], [0x2004182D], [0x2004182E, 0x80080FFF], [0x00840031],
     [0x20842035], [0x20841841], [0x20841842, 0x80080FFF], [0x20841845], [0x20841846, 0x80080FFF], [0x20841849],
     [0x2084184A, 0x80080FFF], [0x2084184D], [0x2084184E, 0x80080FFF], [0x20841851]].map (decode 1)
    = [.ok (.vmor64 { ty := 0, vb := 2, va := 4, vd := 6 } { tok := 0xfff, vc := 0, mask := 2, ty2 := 0, rm := 0, sat := 0, perm := 0, stgen := 1 }),
       .ok (.vmxor32 { ty := 0, vb := 2, va := 4, vd := 6 }),
       .ok (.vmxor64 { ty := 0, vb := 2, va := 4, vd := 6 } { tok := 0xfff, vc := 0, mask := 2, ty2 := 0, rm := 0, sat := 0, perm := 0, stgen := 1 }),
       .ok (.vmpop32 { ty := 2, vb := 0, va := 4, vd := 6 }),
       .ok (.vmpop64 { ty := 2, vb := 0, va := 4, vd := 6 } { tok := 0xfff, vc := 0, mask := 2, ty2 := 0, rm := 0, sat := 0, perm := 0, stgen := 1 }),
       .ok (.vtkw { ty := 0, vb := 2, va := 4, vd := 0 }), .ok (.vtks { ty := 2, vb := 2, va := 4, vd := 8 }),
       .ok (.vadd32 { ty := 2, vb := 2, va := 4, vd := 6 }),
       .ok (.vadd64 { ty := 2, vb := 2, va := 4, vd := 6 } { tok := 0xfff, vc := 0, mask := 2, ty2 := 0, rm := 0, sat := 0, perm := 0, stgen := 1 }),
       .ok (.vsub32 { ty := 2, vb := 2, va := 4, vd := 6 }),
       .ok (.vsub64 { ty := 2, vb := 2, va := 4, vd := 6 } { tok := 0xfff, vc := 0, mask := 2, ty2 := 0, rm := 0, sat := 0, perm := 0, stgen := 1 }),
       .ok (.vadds32 { ty := 2, vb := 2, va := 4, vd := 6 }),
       .ok (.vadds64 { ty := 2, vb := 2, va := 4, vd := 6 } { tok := 0xfff, vc := 0, mask := 2, ty2 := 0, rm := 0, sat := 0, perm := 0, stgen := 1 }),
       .ok (.vsubs32 { ty := 2, vb := 2, va := 4, vd := 6 }),
       .ok (.vsubs64 { ty := 2, vb := 2, va := 4, vd := 6 } { tok := 0xfff, vc := 0, mask := 2, ty2 := 0, rm := 0, sat := 0, perm := 0, stgen := 1 }),
       .ok (.vmul32 { ty := 2, vb := 2, va := 4, vd := 6 })] := by rfl
/-- VMUL_64 to VSHL_64. -/
theorem test_words_13 :
    [[0x20841852, 0x80080FFF], [0x20841855], [0x20841856, 0x80080FFF], [0x20841859], [0x2084185A, 0x80080FFF], [0x2084185E, 0x00088FFF],
     [0x20841862, 0x00088FFF], [0x00841866, 0x80488FFF], [0x20841869], [0x2084186A, 0x80080FFF], [0x2084186D], [0x2084186E, 0x80080FFF],
     [0x20841871], [0x20841872, 0x80080FFF], [0x20841875], [0x20841876, 0x80080FFF]].map (decode 1)
    = [.ok (.vmul64 { ty := 2, vb := 2, va := 4, vd := 6 } { tok := 0xfff, vc := 0, mask := 2, ty2 := 0, rm := 0, sat := 0, perm := 0, stgen := 1 }),
       .ok (.vmulh32 { ty := 2, vb := 2, va := 4, vd := 6 }),
       .ok (.vmulh64 { ty := 2, vb := 2, va := 4, vd := 6 } { tok := 0xfff, vc := 0, mask := 2, ty2 := 0, rm := 0, sat := 0, perm := 0, stgen := 1 }),
       .ok (.vmulw32 { ty := 2, vb := 2, va := 4, vd := 6 }),
       .ok (.vmulw64 { ty := 2, vb := 2, va := 4, vd := 6 } { tok := 0xfff, vc := 0, mask := 2, ty2 := 0, rm := 0, sat := 0, perm := 0, stgen := 1 }),
       .ok (.vmac { ty := 2, vb := 2, va := 4, vd := 6 } { tok := 0xfff, vc := 8, mask := 2, ty2 := 0, rm := 0, sat := 0, perm := 0, stgen := 0 }),
       .ok (.vmacw { ty := 2, vb := 2, va := 4, vd := 6 } { tok := 0xfff, vc := 8, mask := 2, ty2 := 0, rm := 0, sat := 0, perm := 0, stgen := 0 }),
       .ok (.vdot4 { ty := 0, vb := 2, va := 4, vd := 6 } { tok := 0xfff, vc := 8, mask := 2, ty2 := 1, rm := 0, sat := 0, perm := 0, stgen := 1 }),
       .ok (.vand32 { ty := 2, vb := 2, va := 4, vd := 6 }),
       .ok (.vand64 { ty := 2, vb := 2, va := 4, vd := 6 } { tok := 0xfff, vc := 0, mask := 2, ty2 := 0, rm := 0, sat := 0, perm := 0, stgen := 1 }),
       .ok (.vor32 { ty := 2, vb := 2, va := 4, vd := 6 }),
       .ok (.vor64 { ty := 2, vb := 2, va := 4, vd := 6 } { tok := 0xfff, vc := 0, mask := 2, ty2 := 0, rm := 0, sat := 0, perm := 0, stgen := 1 }),
       .ok (.vxor32 { ty := 2, vb := 2, va := 4, vd := 6 }),
       .ok (.vxor64 { ty := 2, vb := 2, va := 4, vd := 6 } { tok := 0xfff, vc := 0, mask := 2, ty2 := 0, rm := 0, sat := 0, perm := 0, stgen := 1 }),
       .ok (.vshl32 { ty := 2, vb := 2, va := 4, vd := 6 }),
       .ok (.vshl64 { ty := 2, vb := 2, va := 4, vd := 6 } { tok := 0xfff, vc := 0, mask := 2, ty2 := 0, rm := 0, sat := 0, perm := 0, stgen := 1 })] := by rfl
/-- VSHR_32 to VADDMIN. -/
theorem test_words_14 :
    [[0x20841879], [0x2084187A, 0x80080FFF], [0x2084187D], [0x2084187E, 0x80080FFF], [0x20841881], [0x20841882, 0x80080FFF],
     [0x20841885], [0x20841886, 0x80080FFF], [0x20041889], [0x2004188A, 0x80080FFF], [0x2004188D], [0x2004188E, 0x80080FFF],
     [0x20841891], [0x20841892, 0x80080FFF], [0x20841896, 0x00088FFF], [0x2084189A, 0x00088FFF]].map (decode 1)
    = [.ok (.vshr32 { ty := 2, vb := 2, va := 4, vd := 6 }),
       .ok (.vshr64 { ty := 2, vb := 2, va := 4, vd := 6 } { tok := 0xfff, vc := 0, mask := 2, ty2 := 0, rm := 0, sat := 0, perm := 0, stgen := 1 }),
       .ok (.vsha32 { ty := 2, vb := 2, va := 4, vd := 6 }),
       .ok (.vsha64 { ty := 2, vb := 2, va := 4, vd := 6 } { tok := 0xfff, vc := 0, mask := 2, ty2 := 0, rm := 0, sat := 0, perm := 0, stgen := 1 }),
       .ok (.vmin32 { ty := 2, vb := 2, va := 4, vd := 6 }),
       .ok (.vmin64 { ty := 2, vb := 2, va := 4, vd := 6 } { tok := 0xfff, vc := 0, mask := 2, ty2 := 0, rm := 0, sat := 0, perm := 0, stgen := 1 }),
       .ok (.vmax32 { ty := 2, vb := 2, va := 4, vd := 6 }),
       .ok (.vmax64 { ty := 2, vb := 2, va := 4, vd := 6 } { tok := 0xfff, vc := 0, mask := 2, ty2 := 0, rm := 0, sat := 0, perm := 0, stgen := 1 }),
       .ok (.vabs32 { ty := 2, vb := 0, va := 4, vd := 6 }),
       .ok (.vabs64 { ty := 2, vb := 0, va := 4, vd := 6 } { tok := 0xfff, vc := 0, mask := 2, ty2 := 0, rm := 0, sat := 0, perm := 0, stgen := 1 }),
       .ok (.vneg32 { ty := 2, vb := 0, va := 4, vd := 6 }),
       .ok (.vneg64 { ty := 2, vb := 0, va := 4, vd := 6 } { tok := 0xfff, vc := 0, mask := 2, ty2 := 0, rm := 0, sat := 0, perm := 0, stgen := 1 }),
       .ok (.vcmp32 { ty := 2, vb := 2, va := 4, vd := 6 }),
       .ok (.vcmp64 { ty := 2, vb := 2, va := 4, vd := 6 } { tok := 0xfff, vc := 0, mask := 2, ty2 := 0, rm := 0, sat := 0, perm := 0, stgen := 1 }),
       .ok (.vsel { ty := 2, vb := 2, va := 4, vd := 6 } { tok := 0xfff, vc := 8, mask := 2, ty2 := 0, rm := 0, sat := 0, perm := 0, stgen := 0 }),
       .ok (.vaddmin { ty := 2, vb := 2, va := 4, vd := 6 } { tok := 0xfff, vc := 8, mask := 2, ty2 := 0, rm := 0, sat := 0, perm := 0, stgen := 0 })] := by rfl
/-- VADDMAX to VFMIN_64. -/
theorem test_words_15 :
    [[0x2084189E, 0x00088FFF], [0x200418A1], [0x200418A2, 0x80080FFF], [0x200418A5], [0x200418A6, 0x80080FFF], [0x808418C1],
     [0x808418C2, 0x80080FFF], [0x808418C5], [0x808418C6, 0x80080FFF], [0x808418C9], [0x808418CA, 0x80080FFF], [0x808418CE, 0x80088FFF],
     [0x808418D2, 0x80088FFF], [0x808418D6, 0x80088FFF], [0x808418D9], [0x808418DA, 0x80080FFF]].map (decode 1)
    = [.ok (.vaddmax { ty := 2, vb := 2, va := 4, vd := 6 } { tok := 0xfff, vc := 8, mask := 2, ty2 := 0, rm := 0, sat := 0, perm := 0, stgen := 0 }),
       .ok (.vclz32 { ty := 2, vb := 0, va := 4, vd := 6 }),
       .ok (.vclz64 { ty := 2, vb := 0, va := 4, vd := 6 } { tok := 0xfff, vc := 0, mask := 2, ty2 := 0, rm := 0, sat := 0, perm := 0, stgen := 1 }),
       .ok (.vpopc32 { ty := 2, vb := 0, va := 4, vd := 6 }),
       .ok (.vpopc64 { ty := 2, vb := 0, va := 4, vd := 6 } { tok := 0xfff, vc := 0, mask := 2, ty2 := 0, rm := 0, sat := 0, perm := 0, stgen := 1 }),
       .ok (.vfadd32 { ty := 8, vb := 2, va := 4, vd := 6 }),
       .ok (.vfadd64 { ty := 8, vb := 2, va := 4, vd := 6 } { tok := 0xfff, vc := 0, mask := 2, ty2 := 0, rm := 0, sat := 0, perm := 0, stgen := 1 }),
       .ok (.vfsub32 { ty := 8, vb := 2, va := 4, vd := 6 }),
       .ok (.vfsub64 { ty := 8, vb := 2, va := 4, vd := 6 } { tok := 0xfff, vc := 0, mask := 2, ty2 := 0, rm := 0, sat := 0, perm := 0, stgen := 1 }),
       .ok (.vfmul32 { ty := 8, vb := 2, va := 4, vd := 6 }),
       .ok (.vfmul64 { ty := 8, vb := 2, va := 4, vd := 6 } { tok := 0xfff, vc := 0, mask := 2, ty2 := 0, rm := 0, sat := 0, perm := 0, stgen := 1 }),
       .ok (.vfma { ty := 8, vb := 2, va := 4, vd := 6 } { tok := 0xfff, vc := 8, mask := 2, ty2 := 0, rm := 0, sat := 0, perm := 0, stgen := 1 }),
       .ok (.vfms { ty := 8, vb := 2, va := 4, vd := 6 } { tok := 0xfff, vc := 8, mask := 2, ty2 := 0, rm := 0, sat := 0, perm := 0, stgen := 1 }),
       .ok (.vfnma { ty := 8, vb := 2, va := 4, vd := 6 } { tok := 0xfff, vc := 8, mask := 2, ty2 := 0, rm := 0, sat := 0, perm := 0, stgen := 1 }),
       .ok (.vfmin32 { ty := 8, vb := 2, va := 4, vd := 6 }),
       .ok (.vfmin64 { ty := 8, vb := 2, va := 4, vd := 6 } { tok := 0xfff, vc := 0, mask := 2, ty2 := 0, rm := 0, sat := 0, perm := 0, stgen := 1 })] := by rfl
/-- VFMAX_32 to VQNT. -/
theorem test_words_16 :
    [[0x808418DD], [0x808418DE, 0x80080FFF], [0x800418E1], [0x800418E2, 0x80080FFF], [0x800418E5], [0x800418E6, 0x80080FFF],
     [0x808418E9], [0x808418EA, 0x80080FFF], [0x808418ED], [0x808418EE, 0x80080FFF], [0x800418F1], [0x800418F2, 0x80080FFF],
     [0x808418F5], [0x808418F6, 0x80080FFF], [0x200418FA, 0x82080FFF], [0xB08418FE, 0x82088FFF]].map (decode 1)
    = [.ok (.vfmax32 { ty := 8, vb := 2, va := 4, vd := 6 }),
       .ok (.vfmax64 { ty := 8, vb := 2, va := 4, vd := 6 } { tok := 0xfff, vc := 0, mask := 2, ty2 := 0, rm := 0, sat := 0, perm := 0, stgen := 1 }),
       .ok (.vfabs32 { ty := 8, vb := 0, va := 4, vd := 6 }),
       .ok (.vfabs64 { ty := 8, vb := 0, va := 4, vd := 6 } { tok := 0xfff, vc := 0, mask := 2, ty2 := 0, rm := 0, sat := 0, perm := 0, stgen := 1 }),
       .ok (.vfneg32 { ty := 8, vb := 0, va := 4, vd := 6 }),
       .ok (.vfneg64 { ty := 8, vb := 0, va := 4, vd := 6 } { tok := 0xfff, vc := 0, mask := 2, ty2 := 0, rm := 0, sat := 0, perm := 0, stgen := 1 }),
       .ok (.vfcmp32 { ty := 8, vb := 2, va := 4, vd := 6 }),
       .ok (.vfcmp64 { ty := 8, vb := 2, va := 4, vd := 6 } { tok := 0xfff, vc := 0, mask := 2, ty2 := 0, rm := 0, sat := 0, perm := 0, stgen := 1 }),
       .ok (.vfdiv32 { ty := 8, vb := 2, va := 4, vd := 6 }),
       .ok (.vfdiv64 { ty := 8, vb := 2, va := 4, vd := 6 } { tok := 0xfff, vc := 0, mask := 2, ty2 := 0, rm := 0, sat := 0, perm := 0, stgen := 1 }),
       .ok (.vfsqrt32 { ty := 8, vb := 0, va := 4, vd := 6 }),
       .ok (.vfsqrt64 { ty := 8, vb := 0, va := 4, vd := 6 } { tok := 0xfff, vc := 0, mask := 2, ty2 := 0, rm := 0, sat := 0, perm := 0, stgen := 1 }),
       .ok (.vsfn32 { ty := 8, vb := 2, va := 4, vd := 6 }),
       .ok (.vsfn64 { ty := 8, vb := 2, va := 4, vd := 6 } { tok := 0xfff, vc := 0, mask := 2, ty2 := 0, rm := 0, sat := 0, perm := 0, stgen := 1 }),
       .ok (.vcvt { ty := 2, vb := 0, va := 4, vd := 6 } { tok := 0xfff, vc := 0, mask := 2, ty2 := 8, rm := 0, sat := 0, perm := 0, stgen := 1 }),
       .ok (.vqnt { ty := 11, vb := 2, va := 4, vd := 6 } { tok := 0xfff, vc := 8, mask := 2, ty2 := 8, rm := 0, sat := 0, perm := 0, stgen := 1 })] := by rfl
/-- VDQNT to VUZP_64. -/
theorem test_words_17 :
    [[0x80841902, 0x80088FFF], [0x20841941], [0x20841942, 0x00088FFF], [0x20841945], [0x20841946, 0x00088FFF], [0x20841949],
     [0x2084194A, 0x80080FFF], [0x2084194E, 0x80480FFF], [0x20841951], [0x20841952, 0x80880FFF], [0x20841955], [0x20841956, 0x80080FFF],
     [0x20841959], [0x2084195A, 0x80080FFF], [0x2004195D], [0x2004195E, 0x80080FFF]].map (decode 1)
    = [.ok (.vdqnt { ty := 8, vb := 2, va := 4, vd := 6 } { tok := 0xfff, vc := 8, mask := 2, ty2 := 0, rm := 0, sat := 0, perm := 0, stgen := 1 }),
       .ok (.vshup32 { ty := 2, vb := 2, va := 4, vd := 6 }),
       .ok (.vshup64 { ty := 2, vb := 2, va := 4, vd := 6 } { tok := 0xfff, vc := 8, mask := 2, ty2 := 0, rm := 0, sat := 0, perm := 0, stgen := 0 }),
       .ok (.vshdn32 { ty := 2, vb := 2, va := 4, vd := 6 }),
       .ok (.vshdn64 { ty := 2, vb := 2, va := 4, vd := 6 } { tok := 0xfff, vc := 8, mask := 2, ty2 := 0, rm := 0, sat := 0, perm := 0, stgen := 0 }),
       .ok (.vrot32 { ty := 2, vb := 2, va := 4, vd := 6 }),
       .ok (.vrot64 { ty := 2, vb := 2, va := 4, vd := 6 } { tok := 0xfff, vc := 0, mask := 2, ty2 := 0, rm := 0, sat := 0, perm := 0, stgen := 1 }),
       .ok (.vperm { ty := 2, vb := 2, va := 4, vd := 6 } { tok := 0xfff, vc := 0, mask := 2, ty2 := 1, rm := 0, sat := 0, perm := 0, stgen := 1 }),
       .ok (.vred32 { ty := 2, vb := 2, va := 4, vd := 6 }),
       .ok (.vred64 { ty := 2, vb := 2, va := 4, vd := 6 } { tok := 0xfff, vc := 0, mask := 2, ty2 := 2, rm := 0, sat := 0, perm := 0, stgen := 1 }),
       .ok (.vscan32 { ty := 2, vb := 2, va := 4, vd := 6 }),
       .ok (.vscan64 { ty := 2, vb := 2, va := 4, vd := 6 } { tok := 0xfff, vc := 0, mask := 2, ty2 := 0, rm := 0, sat := 0, perm := 0, stgen := 1 }),
       .ok (.vzip32 { ty := 2, vb := 2, va := 4, vd := 6 }),
       .ok (.vzip64 { ty := 2, vb := 2, va := 4, vd := 6 } { tok := 0xfff, vc := 0, mask := 2, ty2 := 0, rm := 0, sat := 0, perm := 0, stgen := 1 }),
       .ok (.vuzp32 { ty := 2, vb := 0, va := 4, vd := 6 }),
       .ok (.vuzp64 { ty := 2, vb := 0, va := 4, vd := 6 } { tok := 0xfff, vc := 0, mask := 2, ty2 := 0, rm := 0, sat := 0, perm := 0, stgen := 1 })] := by rfl
/-- VEXT_32 to VSTX. -/
theorem test_words_18 :
    [[0x20841961], [0x20841962, 0x00088FFF], [0x20041965], [0x20041966, 0x80080FFF], [0x20041969], [0x2004196A, 0x80080FFF],
     [0x2084196D], [0x2084196E, 0x80080FFF], [0x20041971], [0x20041972, 0x80080FFF], [0x20041983, 0x80080FFF, 0x00801413],
     [0x20041987, 0x80080FFF, 0x00800013], [0x2084198B, 0x80080FFF, 0x00801413], [0x2084198F, 0x80080FFF, 0x00800013],
     [0x20841993, 0x80880FFF, 0x00801413], [0x20841997, 0x80880FFF, 0x00800013]].map (decode 1)
    = [.ok (.vext32 { ty := 2, vb := 2, va := 4, vd := 6 }),
       .ok (.vext64 { ty := 2, vb := 2, va := 4, vd := 6 } { tok := 0xfff, vc := 8, mask := 2, ty2 := 0, rm := 0, sat := 0, perm := 0, stgen := 0 }),
       .ok (.vcompr32 { ty := 2, vb := 0, va := 4, vd := 6 }),
       .ok (.vcompr64 { ty := 2, vb := 0, va := 4, vd := 6 } { tok := 0xfff, vc := 0, mask := 2, ty2 := 0, rm := 0, sat := 0, perm := 0, stgen := 1 }),
       .ok (.vexpd32 { ty := 2, vb := 0, va := 4, vd := 6 }),
       .ok (.vexpd64 { ty := 2, vb := 0, va := 4, vd := 6 } { tok := 0xfff, vc := 0, mask := 2, ty2 := 0, rm := 0, sat := 0, perm := 0, stgen := 1 }),
       .ok (.vtrn32 { ty := 2, vb := 2, va := 4, vd := 6 }),
       .ok (.vtrn64 { ty := 2, vb := 2, va := 4, vd := 6 } { tok := 0xfff, vc := 0, mask := 2, ty2 := 0, rm := 0, sat := 0, perm := 0, stgen := 1 }),
       .ok (.viota32 { ty := 2, vb := 0, va := 4, vd := 6 }),
       .ok (.viota64 { ty := 2, vb := 0, va := 4, vd := 6 } { tok := 0xfff, vc := 0, mask := 2, ty2 := 0, rm := 0, sat := 0, perm := 0, stgen := 1 }),
       .ok (.vld { ty := 2, vb := 0, va := 4, vd := 6 } { tok := 0xfff, vc := 0, mask := 2, ty2 := 0, rm := 0, sat := 0, perm := 0, stgen := 1 } { cls := 3, scope := 1, land := 40, space := 0, offext := 2 }),
       .ok (.vst { ty := 2, vb := 0, va := 4, vd := 6 } { tok := 0xfff, vc := 0, mask := 2, ty2 := 0, rm := 0, sat := 0, perm := 0, stgen := 1 } { cls := 3, scope := 1, land := 0, space := 0, offext := 2 }),
       .ok (.vldsd { ty := 2, vb := 2, va := 4, vd := 6 } { tok := 0xfff, vc := 0, mask := 2, ty2 := 0, rm := 0, sat := 0, perm := 0, stgen := 1 } { cls := 3, scope := 1, land := 40, space := 0, offext := 2 }),
       .ok (.vstsd { ty := 2, vb := 2, va := 4, vd := 6 } { tok := 0xfff, vc := 0, mask := 2, ty2 := 0, rm := 0, sat := 0, perm := 0, stgen := 1 } { cls := 3, scope := 1, land := 0, space := 0, offext := 2 }),
       .ok (.vldx { ty := 2, vb := 2, va := 4, vd := 6 } { tok := 0xfff, vc := 0, mask := 2, ty2 := 2, rm := 0, sat := 0, perm := 0, stgen := 1 } { cls := 3, scope := 1, land := 40, space := 0, offext := 2 }),
       .ok (.vstx { ty := 2, vb := 2, va := 4, vd := 6 } { tok := 0xfff, vc := 0, mask := 2, ty2 := 2, rm := 0, sat := 0, perm := 0, stgen := 1 } { cls := 3, scope := 1, land := 0, space := 0, offext := 2 })] := by rfl
/-- VLDT to VLDB. -/
theorem test_words_19 :
    [[0x2084199B, 0x80088FFF, 0x00801413], [0x2084199F, 0x80088FFF, 0x00800013], [0x200419A3, 0x80080FFF, 0x00801413]].map (decode 1)
    = [.ok (.vldt { ty := 2, vb := 2, va := 4, vd := 6 } { tok := 0xfff, vc := 8, mask := 2, ty2 := 0, rm := 0, sat := 0, perm := 0, stgen := 1 } { cls := 3, scope := 1, land := 40, space := 0, offext := 2 }),
       .ok (.vstt { ty := 2, vb := 2, va := 4, vd := 6 } { tok := 0xfff, vc := 8, mask := 2, ty2 := 0, rm := 0, sat := 0, perm := 0, stgen := 1 } { cls := 3, scope := 1, land := 0, space := 0, offext := 2 }),
       .ok (.vldb { ty := 2, vb := 0, va := 4, vd := 6 } { tok := 0xfff, vc := 0, mask := 2, ty2 := 0, rm := 0, sat := 0, perm := 0, stgen := 1 } { cls := 3, scope := 1, land := 40, space := 0, offext := 2 })] := by rfl
/-- MNOP to MFENCE. -/
theorem test_words_20 :
    [[0x00000001], [0x0000A407, 0x00000FFF, 0x0009C082], [0x554A140A, 0x00000FFF], [0x0000000E, 0x00019FF8], [0x00000412, 0x00000FFF],
     [0x00000416, 0x00000FFF], [0x0000001A, 0x00019FF8], [0x554A141E, 0x00019FF8], [0x554A1422, 0x00019FF8], [0x00017026, 0x00000FFF],
     [0x0000002A, 0x00001FFF]].map (decode 3)
    = [.ok (.mnop { misc := 0 }), .ok (.mcfg { imm := 0, d := 41 } { tok := 0xfff, scope := 0, cls := 0, xop := 0 } 0x9c082),
       .ok (.mcfgv { imm := 341, a := 10, d := 5 } { tok := 0xfff, scope := 0, cls := 0, xop := 0 }),
       .ok (.mgo { misc := 0 } { tok := 0xff8, scope := 1, cls := 3, xop := 0 }),
       .ok (.mpin { misc := 1 } { tok := 0xfff, scope := 0, cls := 0, xop := 0 }),
       .ok (.munpin { misc := 1 } { tok := 0xfff, scope := 0, cls := 0, xop := 0 }),
       .ok (.mdrain { misc := 0 } { tok := 0xff8, scope := 1, cls := 3, xop := 0 }),
       .ok (.msave { imm := 341, a := 10, d := 5 } { tok := 0xff8, scope := 1, cls := 3, xop := 0 }),
       .ok (.mload { imm := 341, a := 10, d := 5 } { tok := 0xff8, scope := 1, cls := 3, xop := 0 }),
       .ok (.mstat { misc := 0x5c } { tok := 0xfff, scope := 0, cls := 0, xop := 0 }),
       .ok (.mfence { misc := 0 } { tok := 0xfff, scope := 1, cls := 0, xop := 0 })] := by rfl
/-- CNOP to CFENCE. -/
theorem test_words_21 :
    [[0x00000001], [0x050A1406, 0x00019FF8], [0x050A140A, 0x00019FF8], [0x100A140E, 0x00899FFF], [0x050A1412, 0x00019FF8],
     [0x150A1412, 0x00019FF8], [0x250A1412, 0x00019FF8], [0x350A1412, 0x11019FF8], [0x050A1416, 0x00019FF8], [0x000A141A, 0x00099FFF],
     [0x050A001E, 0x00019FFF], [0x050A0022, 0x00019FFF], [0x150A0022, 0x00019FFF], [0x250A0022, 0x00019FFF], [0x00055426, 0x00001FFF]].map (decode 4)
    = [.ok (.cnop { misc := 0 }), .ok (.cpy { fn := 0, b := 20, a := 10, d := 5 } { tok := 0xff8, scope := 1, cls := 3, xop := 0 }),
       .ok (.cpy2 { fn := 0, b := 20, a := 10, d := 5 } { tok := 0xff8, scope := 1, cls := 3, xop := 0 }),
       .ok (.cpyt { fn := 1, b := 0, a := 10, d := 5 } { tok := 0xfff, scope := 1, cls := 3, xop := 0x11 }),
       .ok (.cpyxCast { fn := 0, b := 20, a := 10, d := 5 } { tok := 0xff8, scope := 1, cls := 3, xop := 0 }),
       .ok (.cpyxScale { fn := 1, b := 20, a := 10, d := 5 } { tok := 0xff8, scope := 1, cls := 3, xop := 0 }),
       .ok (.cpyxAdd { fn := 2, b := 20, a := 10, d := 5 } { tok := 0xff8, scope := 1, cls := 3, xop := 0 }),
       .ok (.cpyxReduce { fn := 3, b := 20, a := 10, d := 5 } { tok := 0xff8, scope := 1, cls := 3, xop := 0x220 }),
       .ok (.cfill { fn := 0, b := 20, a := 10, d := 5 } { tok := 0xff8, scope := 1, cls := 3, xop := 0 }),
       .ok (.csig { fn := 0, b := 0, a := 10, d := 5 } { tok := 0xfff, scope := 1, cls := 3, xop := 1 }),
       .ok (.cpref { fn := 0, b := 20, a := 10, d := 0 } { tok := 0xfff, scope := 1, cls := 3, xop := 0 }),
       .ok (.cflushClean { fn := 0, b := 20, a := 10, d := 0 } { tok := 0xfff, scope := 1, cls := 3, xop := 0 }),
       .ok (.cflushInval { fn := 1, b := 20, a := 10, d := 0 } { tok := 0xfff, scope := 1, cls := 3, xop := 0 }),
       .ok (.cflushDiscard { fn := 2, b := 20, a := 10, d := 0 } { tok := 0xfff, scope := 1, cls := 3, xop := 0 }),
       .ok (.cfence { misc := 0x155 } { tok := 0xfff, scope := 1, cls := 0, xop := 0 })] := by rfl
/-- BNOP to BFENCE. -/
theorem test_words_22 :
    [[0x00000001], [0x150A0006, 0x00081FF8], [0x050A140A, 0x00019FF8], [0x050A140E, 0x00019FF8], [0x050A1412, 0x00019FF8],
     [0x050A1416, 0x00099FF8], [0x050A141A, 0x00019FF8], [0x0500141E, 0x00019FF8], [0x050A1422, 0x00019FF8], [0x100A1426, 0x00099FF8],
     [0x000A002A, 0x00001FF8], [0x000A002E, 0x00001FF8], [0x00017032, 0x00001FF8]].map (decode 5)
    = [.ok (.bnop { misc := 0 }), .ok (.bact { fn := 1, b := 20, a := 10, d := 0 } { tok := 0xff8, scope := 1, cls := 0, xop := 1 }),
       .ok (.bmv { fn := 0, b := 20, a := 10, d := 5 } { tok := 0xff8, scope := 1, cls := 3, xop := 0 }),
       .ok (.bmvc { fn := 0, b := 20, a := 10, d := 5 } { tok := 0xff8, scope := 1, cls := 3, xop := 0 }),
       .ok (.bvm { fn := 0, b := 20, a := 10, d := 5 } { tok := 0xff8, scope := 1, cls := 3, xop := 0 }),
       .ok (.bapp { fn := 0, b := 20, a := 10, d := 5 } { tok := 0xff8, scope := 1, cls := 3, xop := 1 }),
       .ok (.browcp { fn := 0, b := 20, a := 10, d := 5 } { tok := 0xff8, scope := 1, cls := 3, xop := 0 }),
       .ok (.browz { fn := 0, b := 20, a := 0, d := 5 } { tok := 0xff8, scope := 1, cls := 3, xop := 0 }),
       .ok (.bbufcp { fn := 0, b := 20, a := 10, d := 5 } { tok := 0xff8, scope := 1, cls := 3, xop := 0 }),
       .ok (.bload { fn := 1, b := 0, a := 10, d := 5 } { tok := 0xff8, scope := 1, cls := 3, xop := 1 }),
       .ok (.bdrop { fn := 0, b := 0, a := 10, d := 0 } { tok := 0xff8, scope := 1, cls := 0, xop := 0 }),
       .ok (.bjoin { fn := 0, b := 0, a := 10, d := 0 } { tok := 0xff8, scope := 1, cls := 0, xop := 0 }),
       .ok (.bfence { misc := 0x5c } { tok := 0xff8, scope := 1, cls := 0, xop := 0 })] := by rfl

end Sys2Proof.Tests
end

section
/-! Sparse data: what reads answer after runs of writes and after a selection of keys, and of what writes that put in a
value, without the canonical form. -/

namespace Sys2Proof.Machine

section
variable {α : Type} [Inhabited α] [DecidableEq α]

/-- A write of anything but the default needs no canonical form: only the removal of an entry can uncover another. -/
theorem Store.get_set_of_ne_default (m : Store α) (k j : Nat) {v : α} (hv : v ≠ default) :
    Store.get (m.set k v) j = if j = k then v else Store.get m j := by
  induction m with
  | nil => simp only [Store.set, if_neg hv, Store.get]; grind
  | cons e r ih =>
    obtain ⟨i, x⟩ := e
    rw [Store.set]
    rcases Nat.lt_trichotomy k i with h | h | h
    · simp only [if_pos h, if_neg hv, Store.get]; grind
    · simp only [h, Nat.lt_irrefl, if_false, if_true, if_neg hv, Store.get]; grind
    · simp only [Nat.not_lt_of_lt h, Nat.ne_of_lt h, if_false, Store.get, ih]; grind

omit [DecidableEq α] in
/-- A key that reads a value has an entry. -/
theorem Store.mem_of_get_ne_default {m : Store α} {k : Nat} (h : m.get k ≠ default) : (k, m.get k) ∈ m := by
  induction m with
  | nil => exact absurd rfl h
  | cons e r ih =>
    obtain ⟨i, x⟩ := e
    by_cases h1 : i = k
    · subst h1; simp [Store.get]
    · by_cases h2 : k < i
      · exact absurd (by rw [Store.get, if_neg h1, if_pos h2]) h
      · rw [Store.get, if_neg h1, if_neg h2] at h ⊢
        exact List.mem_cons_of_mem _ (ih h)

/-- Selecting entries by their keys leaves the chosen keys as they read and clears the others. -/
theorem Store.get_filter_key_from {lo : Nat} {m : Store α} (w : Store.wfFrom lo m = true) (p : Nat → Bool) (k : Nat) :
    Store.get (m.filter fun e => p e.1) k = if p k then m.get k else default := by
  induction m generalizing lo with
  | nil => simp [Store.get]
  | cons e r ih =>
    obtain ⟨i, x⟩ := e
    have hw := (Store.wfFrom_cons.1 w).2.2
    have below {j : Nat} (h : j ≤ i) : Store.get (r.filter fun e => p e.1) j = default :=
      Store.get_below (Store.filter_wfFrom hw _) (by omega)
    rw [List.filter_cons]
    rcases Nat.lt_trichotomy k i with h | h | h
    · by_cases hp : p i <;> simp only [hp, if_true, Store.get, below (Nat.le_of_lt h)] <;> grind
    · subst h
      by_cases hp : p k <;> simp [hp, Store.get, below]
    · by_cases hp : p i <;> simp only [hp, if_true, Store.get, ih hw] <;> grind
theorem Store.get_filter_key {m : Store α} (w : m.wf = true) (p : Nat → Bool) (k : Nat) :
    Store.get (m.filter fun e => p e.1) k = if p k then m.get k else default := Store.get_filter_key_from w p k

/-- Reading after a run of writes. -/
theorem Store.get_setRun {m : Store α} (w : m.wf = true) (a j : Nat) (vs : List α) :
    Store.get (m.setRun a vs) j = if a ≤ j ∧ j < a + vs.length then vs.getD (j - a) default else m.get j := by
  induction vs generalizing m a with
  | nil => simp only [Store.setRun, List.length_nil]; grind
  | cons v r ih =>
    rw [Store.setRun, ih (Store.set_wf w a v), Store.get_set w]
    rcases Nat.lt_trichotomy j a with h | h | h
    · simp only [List.length_cons]; grind
    · subst h; simp
    · obtain ⟨d, rfl⟩ : ∃ d, j = a + 1 + d := ⟨j - (a + 1), by omega⟩
      have : a + 1 + d - a = d + 1 := by omega
      simp only [List.length_cons, this, List.getD_cons_succ]; grind
end

theorem Memory.read_writeRun {m : Memory} (w : m.wf = true) (a j : Nat) (bs : List Byte) :
    (m.writeRun a bs).read j = if a ≤ j ∧ j < a + bs.length then bs.getD (j - a) 0 else m.read j := Store.get_setRun w a j bs
theorem Memory.read_filter {m : Memory} (w : m.wf = true) (p : Nat → Bool) (a : Nat) :
    Memory.read (m.filter fun c => p c.1) a = if p a then m.read a else 0 := Store.get_filter_key w p a
/-- Memories that read alike in a run answer the same bytes there. -/
theorem Memory.readRun_congr {m n : Memory} {a k : Nat} (h : ∀ j, a ≤ j → j < a + k → m.read j = n.read j) : m.readRun a k = n.readRun a k := by
  induction k generalizing a with
  | zero => rfl
  | succ k ih => exact congrArg₂ List.cons (h a (Nat.le_refl a) (by omega)) (ih fun j h1 h2 => h j (by omega) (by omega))

end Sys2Proof.Machine
end

section
/-! Lines of the last-level cache: what writing one back, or all of them, leaves of the data that agents see (05 R145, R149). -/

namespace Sys2Proof.Machine

/-! ### Locations and lines -/

theorem keyOf_line (loc : Nat) : keyOf (loc / 64 * 64) = keyOf loc := by unfold keyOf; omega
theorem paOf_line (loc : Nat) : paOf (loc / 64 * 64) / 64 = paOf loc / 64 := by unfold paOf; omega
/-- A location's key and physical line name its line. -/
theorem line_eq_of_key {a b : Nat} (hk : keyOf a = keyOf b) (hp : paOf a / 64 = paOf b / 64) : a / 64 = b / 64 := by
  unfold keyOf paOf at *; omega
theorem paOf_div_line {line k j : Nat} (hl : line < 2 ^ 46) (h1 : line * 64 + k * 2 ^ 52 ≤ j) (h2 : j < line * 64 + k * 2 ^ 52 + 64) :
    paOf j / 64 = line := by unfold paOf; omega
theorem paOf_line_lt (loc : Nat) : paOf loc / 64 < 2 ^ 46 := by unfold paOf; omega
/-- The drawer's range ends at a line. -/
theorem rangeOf_drawer_iff (pa : Nat) : rangeOf pa = .drawer ↔ pa < 0x8000000000000 := by
  unfold rangeOf; repeat' split
  all_goals simp_all
theorem drawer_of_line {a b : Nat} (h : paOf a / 64 = paOf b / 64) (hb : rangeOf (paOf b) = .drawer) : rangeOf (paOf a) = .drawer := by
  rw [rangeOf_drawer_iff] at hb ⊢; omega

/-! ### The dirty bytes of a line -/

/-- Dropping a line's dirty bytes leaves all others. -/
theorem dropDirty_get {d : Store (Option Byte)} (w : d.wf = true) (a j : Nat) :
    (dropDirty d a).get j = if a ≤ j ∧ j < a + 64 then none else d.get j := by
  have h (n : Nat) : Store.wf ((List.range n).foldl (fun d i => d.set (a + i) none) d) = true
      ∧ Store.get ((List.range n).foldl (fun d i => d.set (a + i) none) d) j = if a ≤ j ∧ j < a + n then none else d.get j := by
    induction n with
    | zero => exact ⟨w, (if_neg (by omega)).symm⟩
    | succ n ih =>
      obtain ⟨hw, hg⟩ := ih
      simp only [List.range_succ, List.foldl_append, List.foldl_cons, List.foldl_nil]
      refine ⟨Store.set_wf hw _ _, ?_⟩
      rw [Store.get_set hw, hg]; grind
  exact (h 64).2
theorem dropDirty_wf {d : Store (Option Byte)} (w : d.wf = true) (a : Nat) : (dropDirty d a).wf = true :=
  Store.foldl_wf (fun _ _ h => Store.set_wf h _ _) w _
@[simp] theorem dropDirty_nil (a : Nat) : dropDirty [] a = [] :=
  List.foldlRecOn (motive := fun d => d = []) _ _ rfl fun _ h _ _ => by rw [h]; rfl

theorem Mem.dirtyLine_iff (m : Mem) (a : Nat) : m.dirtyLine a = true ↔ ∃ d, d / 64 = a / 64 ∧ m.dirty.get d ≠ none := by
  simp only [Mem.dirtyLine, List.any_eq_true, List.mem_range, Option.isSome_iff_ne_none]
  constructor
  · rintro ⟨i, hi, h⟩; exact ⟨a / 64 * 64 + i, by omega, h⟩
  · rintro ⟨d, hd, h⟩; exact ⟨d % 64, by omega, by rwa [← hd, Nat.div_add_mod']⟩

/-! ### Writing one line back -/

/-- The byte stores are in canonical form. -/
def Mem.Canonical (m : Mem) : Prop := m.base.wf = true ∧ m.dirty.wf = true
/-- The cache holds dirty bytes of the physical line of `loc` under its key alone. -/
def Mem.OneKey (m : Mem) (loc : Nat) : Prop := ∀ d, m.dirty.get d ≠ none → paOf d / 64 = paOf loc / 64 → keyOf d = keyOf loc

theorem Mem.cleanLine_of_clean {m : Mem} {loc : Nat} (h : ¬ m.dirtyLine loc = true) : m.cleanLine loc = m := if_neg h
theorem Mem.cleanLine_of_dirty {m : Mem} {loc : Nat} (h : m.dirtyLine loc = true) :
    m.cleanLine loc = { m with
      base := m.base.writeRun (loc / 64 * 64) (m.bytes (loc / 64 * 64) 64)
      dirty := dropDirty m.dirty (loc / 64 * 64)
      kept := dropDirty m.kept (loc / 64 * 64)
      under := m.under.set (loc / 64) none
      keyed := m.keyed.set (paOf (loc / 64 * 64) / 64) (some (keyOf (loc / 64 * 64), m.keys.get (keyOf (loc / 64 * 64)))) } := if_pos h

theorem Mem.cleanLine_blots (m : Mem) (loc : Nat) : (m.cleanLine loc).blots = m.blots := by unfold Mem.cleanLine; dsimp only; split <;> rfl
theorem Mem.cleanLine_ahead (m : Mem) (loc : Nat) : (m.cleanLine loc).ahead = m.ahead := by unfold Mem.cleanLine; dsimp only; split <;> rfl
theorem Mem.cleanLine_keys (m : Mem) (loc : Nat) : (m.cleanLine loc).keys = m.keys := by unfold Mem.cleanLine; dsimp only; split <;> rfl
theorem Mem.cleanLine_kept {m : Mem} (hk : m.kept = []) (loc : Nat) : (m.cleanLine loc).kept = [] := by
  by_cases hd : m.dirtyLine loc = true
  · rw [Mem.cleanLine_of_dirty hd]; dsimp only; rw [hk, dropDirty_nil]
  · rw [Mem.cleanLine_of_clean hd, hk]
theorem Mem.cleanLine_canonical {m : Mem} (c : m.Canonical) (loc : Nat) : (m.cleanLine loc).Canonical := by
  by_cases hd : m.dirtyLine loc = true
  · rw [Mem.cleanLine_of_dirty hd, Mem.Canonical]; dsimp only
    exact ⟨Memory.writeRun_wf c.1 _ _, dropDirty_wf c.2 _⟩
  · rwa [Mem.cleanLine_of_clean hd]

/-- No byte of the line stays dirty, and no other line's changes. -/
theorem Mem.cleanLine_dirty {m : Mem} (c : m.Canonical) (a j : Nat) :
    (m.cleanLine a).dirty.get j = if j / 64 = a / 64 then none else m.dirty.get j := by
  by_cases hd : m.dirtyLine a = true
  · rw [Mem.cleanLine_of_dirty hd]; dsimp only
    rw [dropDirty_get c.2]; grind
  · rw [Mem.cleanLine_of_clean hd]
    split
    · by_contra hj
      exact hd ((m.dirtyLine_iff a).2 ⟨j, ‹_›, hj⟩)
    · rfl
theorem Mem.OneKey.cleanLine {m : Mem} {loc : Nat} (o : m.OneKey loc) (c : m.Canonical) (a : Nat) : (m.cleanLine a).OneKey loc := by
  intro d hd hp
  rw [Mem.cleanLine_dirty c] at hd
  refine o d (fun h => hd ?_) hp
  rw [h, ite_self]
/-- The physical line is then held under the key of the line written back. -/
theorem Mem.cleanLine_keyed {m : Mem} {a : Nat} (hd : m.dirtyLine a = true) (j : Nat) :
    (m.cleanLine a).keyed.get j = if j = paOf a / 64 then some (keyOf a, m.keys.get (keyOf a)) else m.keyed.get j := by
  rw [Mem.cleanLine_of_dirty hd]; dsimp only
  rw [Store.get_set_of_ne_default _ _ _ (Option.some_ne_none _), paOf_line, keyOf_line]
/-- The drawer then holds the line's bytes as every agent saw them, and no other line's change. -/
theorem Mem.cleanLine_base {m : Mem} (c : m.Canonical) {a : Nat} (hd : m.dirtyLine a = true) (j : Nat) :
    (m.cleanLine a).base.read j = if j / 64 = a / 64 then m.byte j else m.base.read j := by
  have hlen : (m.bytes (a / 64 * 64) 64).length = 64 := by simp [Mem.bytes]
  rw [Mem.cleanLine_of_dirty hd]; dsimp only
  rw [Memory.read_writeRun c.1, hlen]
  by_cases h : j / 64 = a / 64
  · have hin : j - a / 64 * 64 < 64 := by omega
    have hle : a / 64 * 64 ≤ j := by omega
    rw [if_pos (by omega), if_pos h]
    simp [Mem.bytes, hin, hle]
  · rw [if_neg (by omega), if_neg h]

/-- What a byte reads as depends on nothing but its line in the stores and its own key. -/
theorem Mem.byte_congr {m n : Mem} {loc : Nat} (hd : m.dirty.get loc = n.dirty.get loc) (hk : m.kept.get loc = n.kept.get loc)
    (hy : m.keyed.get (paOf loc / 64) = n.keyed.get (paOf loc / 64)) (hs : m.keys.get (keyOf loc) = n.keys.get (keyOf loc))
    (hb : ∀ j, paOf j / 64 = paOf loc / 64 → m.base.read j = n.base.read j) : m.byte loc = n.byte loc := by
  have hx (k0 : Nat) (key0 : BitVec 512) : m.crossByte loc k0 key0 = n.crossByte loc k0 key0 := by
    have : m.base.readRun (paOf loc / 64 * 64 + k0 * 2 ^ 52) 64 = n.base.readRun (paOf loc / 64 * 64 + k0 * 2 ^ 52) 64 :=
      Memory.readRun_congr fun j h1 h2 => hb j (paOf_div_line (paOf_line_lt loc) h1 h2)
    unfold Mem.crossByte; dsimp only; rw [this, hs]
  unfold Mem.byte; simp only [hd, hk, hy, hs, hx, hb loc rfl]

/-- A clean byte of a line that was written back under its own key reads as the drawer holds it. -/
theorem Mem.byte_of_keyed {m : Mem} {loc : Nat} (hd : m.dirty.get loc = none) (hk : m.kept = [])
    (hy : m.keyed.get (paOf loc / 64) = some (keyOf loc, m.keys.get (keyOf loc))) : m.byte loc = m.base.read loc := by
  have h0 : m.kept.get loc = none := by rw [hk]; rfl
  unfold Mem.byte; simp only [hd, hy, h0, if_true]

/-- Writing back the line of `loc` itself leaves its byte as every agent sees it. -/
theorem Mem.cleanLine_byte_same {m : Mem} (c : m.Canonical) (hk : m.kept = []) {a loc : Nat} (hd : m.dirtyLine a = true)
    (hkey : keyOf loc = keyOf a) (hp : paOf loc / 64 = paOf a / 64) : (m.cleanLine a).byte loc = m.byte loc := by
  have hl : loc / 64 = a / 64 := line_eq_of_key hkey hp
  rw [Mem.byte_of_keyed (by rw [Mem.cleanLine_dirty c, if_pos hl]) (Mem.cleanLine_kept hk a)
    (by rw [Mem.cleanLine_keyed hd, if_pos hp, Mem.cleanLine_keys, hkey]), Mem.cleanLine_base c hd, if_pos hl]

/-- Writing back a line of another physical line leaves the byte of `loc`. -/
theorem Mem.cleanLine_byte_other {m : Mem} (c : m.Canonical) (hk : m.kept = []) {a loc : Nat} (hd : m.dirtyLine a = true)
    (hp : paOf loc / 64 ≠ paOf a / 64) : (m.cleanLine a).byte loc = m.byte loc := by
  have off {j : Nat} (h : paOf j / 64 = paOf loc / 64) : j / 64 ≠ a / 64 := fun hl =>
    hp (by rw [← h, ← paOf_line j, ← paOf_line a, hl])
  exact Mem.byte_congr (by rw [Mem.cleanLine_dirty c, if_neg (off rfl)]) (by rw [Mem.cleanLine_kept hk, hk])
    (by rw [Mem.cleanLine_keyed hd, if_neg hp]) (by rw [Mem.cleanLine_keys])
    fun j hj => by rw [Mem.cleanLine_base c hd, if_neg (off hj)]

/-- A write-back shows in no byte, but in one of the same physical line under another key (05 R149). -/
theorem Mem.cleanLine_byte {m : Mem} (c : m.Canonical) (hk : m.kept = []) {loc : Nat} (o : m.OneKey loc) (a : Nat) :
    (m.cleanLine a).byte loc = m.byte loc := by
  by_cases hd : m.dirtyLine a = true
  · by_cases hp : paOf loc / 64 = paOf a / 64
    · obtain ⟨d, hda, hne⟩ := (m.dirtyLine_iff a).1 hd
      have hpd : paOf d / 64 = paOf loc / 64 := by rw [hp, ← paOf_line d, ← paOf_line a, hda]
      have hka : keyOf d = keyOf a := by rw [← keyOf_line d, ← keyOf_line a, hda]
      exact Mem.cleanLine_byte_same c hk hd ((o d hne hpd).symm.trans hka) hp
    · exact Mem.cleanLine_byte_other c hk hd hp
  · rw [Mem.cleanLine_of_clean hd]

/-! ### Writing every line back -/

/-- Lines written back one after another. -/
def Mem.cleanLines (m : Mem) (ls : List Nat) : Mem := ls.foldl (fun m l => m.cleanLine (64 * l)) m

theorem Mem.cleanLines_canonical {m : Mem} (c : m.Canonical) (ls : List Nat) : (m.cleanLines ls).Canonical :=
  List.foldlRecOn _ _ c fun _ h _ _ => Mem.cleanLine_canonical h _
theorem Mem.cleanLines_keys (m : Mem) (ls : List Nat) : (m.cleanLines ls).keys = m.keys :=
  List.foldlRecOn (motive := fun n : Mem => n.keys = m.keys) _ _ rfl fun _ h _ _ => (Mem.cleanLine_keys _ _).trans h
theorem Mem.cleanLines_kept {m : Mem} (hk : m.kept = []) (ls : List Nat) : (m.cleanLines ls).kept = [] :=
  List.foldlRecOn (motive := fun n : Mem => n.kept = []) _ _ hk fun _ h _ _ => Mem.cleanLine_kept h _
theorem Mem.cleanLines_byte {m : Mem} (c : m.Canonical) (hk : m.kept = []) {loc : Nat} (o : m.OneKey loc) (ls : List Nat) :
    (m.cleanLines ls).byte loc = m.byte loc := by
  induction ls generalizing m with
  | nil => rfl
  | cons l r ih => exact (ih (Mem.cleanLine_canonical c _) (Mem.cleanLine_kept hk _) (o.cleanLine c _)).trans (Mem.cleanLine_byte c hk o _)
theorem Mem.cleanLines_dirty {m : Mem} (c : m.Canonical) (ls : List Nat) (j : Nat) :
    (m.cleanLines ls).dirty.get j = if j / 64 ∈ ls then none else m.dirty.get j := by
  induction ls generalizing m with
  | nil => rfl
  | cons l r ih =>
    refine (ih (Mem.cleanLine_canonical c _)).trans ?_
    rw [Mem.cleanLine_dirty c, Nat.mul_div_cancel_left l (by decide)]; grind

theorem Mem.writeBack_eq (m : Mem) : m.writeBack = m.cleanLines (m.dirty.map fun e => e.1 / 64).eraseDups := rfl
theorem Mem.writeBack_canonical {m : Mem} (c : m.Canonical) : m.writeBack.Canonical := Mem.cleanLines_canonical c _
theorem Mem.writeBack_keys (m : Mem) : m.writeBack.keys = m.keys := Mem.cleanLines_keys m _
theorem Mem.writeBack_kept {m : Mem} (hk : m.kept = []) : m.writeBack.kept = [] := Mem.cleanLines_kept hk _
/-- Writing everything back shows in no byte whose line the cache holds under its key alone. -/
theorem Mem.writeBack_byte {m : Mem} (c : m.Canonical) (hk : m.kept = []) {loc : Nat} (o : m.OneKey loc) : m.writeBack.byte loc = m.byte loc :=
  Mem.cleanLines_byte c hk o _
/-- Nothing stays dirty. -/
theorem Mem.writeBack_dirty {m : Mem} (c : m.Canonical) (j : Nat) : m.writeBack.dirty.get j = none := by
  rw [Mem.writeBack_eq, Mem.cleanLines_dirty c]
  split
  · rfl
  · next h =>
    by_contra hj
    exact h (List.mem_eraseDups.2 (List.mem_map.2 ⟨_, Store.mem_of_get_ne_default hj, rfl⟩))

end Sys2Proof.Machine
end

section
/-! A read as it reaches memory: what it leaves of the core, and of the blots where no error is armed (05 R145; 09 R287; 14 R446). -/

namespace Sys2Proof.Machine

/-! ### Lines that enter and leave the last-level cache -/

theorem Mem.evict_blots (m : Mem) (loc : Nat) : (m.evict loc).blots = m.blots := by
  unfold Mem.evict; dsimp only; exact Mem.cleanLine_blots m loc
theorem Mem.evict_ahead (m : Mem) (loc : Nat) : (m.evict loc).ahead = m.ahead := by
  unfold Mem.evict; dsimp only; exact Mem.cleanLine_ahead m loc

/-- What no line of the cache that comes or goes touches. -/
structure State.LineFrame (s t : State) : Prop where
  core : t.core = s.core
  pkg : t.pkg = s.pkg
  blots : t.mem.blots = s.mem.blots
  ahead : t.mem.ahead = s.mem.ahead

theorem State.LineFrame.refl (s : State) : s.LineFrame s := ⟨rfl, rfl, rfl, rfl⟩
theorem State.LineFrame.trans {s t u : State} (h : s.LineFrame t) (k : t.LineFrame u) : s.LineFrame u :=
  ⟨k.core.trans h.core, k.pkg.trans h.pkg, k.blots.trans h.blots, k.ahead.trans h.ahead⟩

theorem State.allocLine_frame (s : State) (l : Nat) : s.LineFrame (s.allocLine l) := by
  unfold State.allocLine
  extract_lets rest ways same v
  split
  · exact ⟨rfl, rfl, rfl, rfl⟩
  · exact ⟨rfl, rfl, Mem.evict_blots _ _, Mem.evict_ahead _ _⟩
theorem State.fetchLines_frame (s : State) (loc n : Nat) : s.LineFrame (s.fetchLines loc n) := by
  unfold State.fetchLines
  refine List.foldlRecOn _ _ (.refl s) fun t h l _ => ?_
  split
  · exact h
  · exact h.trans (t.allocLine_frame l)

/-! ### Reads -/

theorem State.loadAhead_core (s : State) (loc n : Nat) : (s.loadAhead loc n).core = s.core := by
  unfold State.loadAhead
  refine List.foldlRecOn (motive := fun t : State => t.core = s.core) _ _ rfl fun t h a _ => ?_
  dsimp only [State.bump]; split <;> exact h
theorem State.loadAhead_of_none {s : State} (h : s.mem.ahead = []) (loc n : Nat) : s.loadAhead loc n = s := by
  rw [State.loadAhead, h]; rfl
theorem State.strikeRead_core (s : State) (loc n : Nat) (walk : Bool) : (s.strikeRead loc n walk).core = s.core := by
  unfold State.strikeRead; dsimp only; split <;> rfl
theorem State.strikeRead_unarmed {s : State} (h : s.pkg.injCtl.getLsbD 0 = false) (loc n : Nat) (walk : Bool) : s.strikeRead loc n walk = s := by
  rw [State.strikeRead, h]; rfl

/-- A read changes nothing of the core that makes it. -/
@[simp] theorem State.inject_core (s : State) (loc n : Nat) (walk : Bool) : (s.inject loc n walk).core = s.core := by
  rw [State.inject, State.strikeRead_core, State.loadAhead_core]
  exact (s.fetchLines_frame loc n).core
/-- With no error armed and no in-DRAM copy's bytes still to be seen, a read does no more than bring its lines in. -/
theorem State.inject_of_quiet {s : State} (h : Claims.quiet s) (loc n : Nat) (walk : Bool) :
    s.inject loc n walk = { s.fetchLines loc n with sync := s.sync.recent loc n } := by
  obtain ⟨harm, hahead⟩ := h
  have f := s.fetchLines_frame loc n
  have hl := State.loadAhead_of_none (s := { s.fetchLines loc n with sync := s.sync.recent loc n }) (f.ahead.trans hahead) loc n
  rw [State.inject, hl]
  exact State.strikeRead_unarmed (by dsimp only; rw [f.pkg]; exact harm) loc n walk
theorem State.inject_blots {s : State} (h : Claims.quiet s) (loc n : Nat) (walk : Bool) : (s.inject loc n walk).mem.blots = s.mem.blots := by
  rw [State.inject_of_quiet h]
  exact (s.fetchLines_frame loc n).blots

end Sys2Proof.Machine
end

section
/-! The core's own events (01 R24 to R26; 04 R133; 05 R156, R157; 14 R426). -/

namespace Sys2Proof.Machine
open Sys2Proof.Claims

/-! ### ICACHE_FILL -/

theorem exec_icacheFill_of_due {s : State} {f : Fill} (h : s.dueFill = some f) : exec .icacheFill s = .next (s.fillStep f) := by
  change execIcacheFill s = _
  rw [execIcacheFill, h]
/-- The bytes of a translated fill that no retraining channel holds up enter the cache (04 R133). -/
theorem State.fillStep_of_bytes {s : State} {f : Fill} {loc : Nat} (hl : f.loc = some loc) (hc : s.lateChan loc 256 = none) :
    s.fillStep f = (s.inject loc 256 false).mapCore fun c =>
      (c.dropFill f.va).setBlock f.va (some { tag := blockTag f.va, data := (s.inject loc 256 false).bytesAt loc 256 }) := by
  rw [State.fillStep]; simp only [hl, hc]; rfl

/-! ### Freezes and STALL -/

theorem exec_lateDataFreeze {s : State} (hl : s.late = true) (hf : s.core.flow.frozen = false) :
    exec .lateDataFreeze s = .next (withCore s (freezes s.core true)) := by
  change execLateDataFreeze s = _
  rw [execLateDataFreeze, hl, hf]; rfl
theorem exec_lateDataArrival {s : State} (hl : s.late = false) (hf : s.core.flow.frozen = true) :
    exec .lateDataArrival s = .next (withCore s (freezes s.core false)) := by
  change execLateDataArrival s = _
  rw [execLateDataArrival, hl, hf]; rfl
/-- A load's STALL is recorded against the instruction that loads (01 R26). -/
theorem exec_lateStall_of_land {s : State} {l : Land} (hn : 16384 ≤ s.core.flow.stall) (hl : s.lateLand = some l) (ha : s.core.trap.active = false) :
    exec .lateStall s = .next (withCore s (andRec (freezes s.core false)
      { cause := 0x0C, stream := l.stream, slot := l.slot, pc := l.pc, i0 := l.addr, i2 := BitVec.ofNat 64 (s.lateName l), op := l.seq })) := by
  change execLateStall s = _
  rw [execLateStall, if_neg (by omega)]
  simp only [hl]
  exact congrArg Host.Outcome.next (Laws.record_gives (s.mapCore fun c => c.freeze false 0) _ ha)

/-! ### WFI_TIMEOUT -/

/-- The bound of a held WFI has passed: the core is awake, also where something else had woken it (14 R426). -/
theorem exec_wfiTimeout_of_passed {s : State} {d : Nat} (hw : s.core.flow.wfi = some d) (h0 : 0 < d) (hd : d ≤ s.core.flow.run) :
    exec .wfiTimeout s = .next (withCore s { s.core with flow := { s.core.flow with wake := true } }) := by
  change execWfiTimeout s = _
  cases hk : s.core.flow.wake
  · have : s.core.wfiOver = true := by simp [Core.wfiOver, hw, hk, hd]; omega
    rw [execWfiTimeout, if_pos this]; rfl
  · have : s.core.wfiOver = false := by simp [Core.wfiOver, hw, hk]
    rw [execWfiTimeout, this, if_neg Bool.false_ne_true, ← hk]; rfl

/-! ### SIGNAL_GIVEN -/

theorem exec_signalGiven_of_due {s : State} {g : Sig} (h : s.dueSig = some g) : exec .signalGiven s = .next (withCore s (s.core.give g)) := by
  change execSignalGiven s = _
  rw [execSignalGiven, h]; rfl
/-- The signal given is a pending one whose conditions hold (05 R157). -/
theorem State.dueSigFrom_spec {s : State} {g : Sig} {l before : List Sig} (h : s.dueSigFrom l before = some g) : g ∈ l ∧ s.sigReady g = true := by
  induction l generalizing before with
  | nil => cases h
  | cons x r ih =>
    rw [State.dueSigFrom] at h
    split at h
    · obtain ⟨hm, hr⟩ := ih h
      exact ⟨List.mem_cons_of_mem x hm, hr⟩
    · next hx =>
      cases h
      exact ⟨List.mem_cons_self, by simp_all⟩
theorem State.performed_of_sigReady {s : State} {g : Sig} (h : s.sigReady g = true) : s.performed g.perf = true := by
  simp only [State.sigReady, Bool.and_eq_true] at h
  obtain ⟨⟨⟨-, hp⟩, -⟩, -⟩ := h
  exact hp

end Sys2Proof.Machine

namespace Sys2Proof.Proofs
open Sys2Proof.Machine Sys2Proof.Claims

/-- Settles O39, clause by clause from what each event answers. -/
theorem coreEvents : Obligations.CoreEvents := by
  unfold Obligations.CoreEvents
  intro s
  refine ⟨fun f loc hf hl hc => ⟨s.inject_core loc 256 false, fun hq => State.inject_blots hq loc 256 false, ?_⟩,
    exec_lateDataFreeze, exec_lateDataArrival, fun l hn hl ha => ⟨_, rfl, rfl, rfl, rfl, rfl, rfl, exec_lateStall_of_land hn hl ha⟩,
    fun d hw h0 hd => exec_wfiTimeout_of_passed hw h0 hd, fun g hg => ?_⟩
  · rw [exec_icacheFill_of_due hf, State.fillStep_of_bytes hl hc, State.mapCore, State.inject_core]; rfl
  · obtain ⟨hm, hr⟩ := State.dueSigFrom_spec hg
    refine ⟨hm, State.performed_of_sigReady hr, ?_⟩
    rw [exec_signalGiven_of_due hg]
    simp only [Core.give, tokKey, Nat.mul_comm g.prod 6]

end Sys2Proof.Proofs
end

section
/-! The machine after reset (04 R105; 08 R231; 09 Table 9.10; 15 Table 15.4). -/

namespace Sys2Proof.Machine
open Sys2Proof.Claims

theorem Core.reset_rs (n : Nat) : State.reset.core.rs n = 0 := by
  unfold Core.rs; split <;> rfl
/-- p0 alone reads 1 (04 R105). -/
theorem Core.reset_rp (n : Nat) : State.reset.core.rp n = decide (n = 0) := by
  unfold Core.rp
  by_cases h : n = 0
  · simp [h]
  · rw [if_neg h, decide_eq_false h]; rfl
theorem State.reset_sysReg :
    ∀ n ∈ [0x11, 0x12, 0x13, 0x14, 0x15, 0x16, 0x20, 0x21, 0x22, 0x23, 0x24, 0x25, 0x26, 0x27], State.reset.sysReg n = 0 := by
  simp only [List.forall_mem_cons, List.not_mem_nil, false_imp_iff, implies_true, and_true]
  repeat' apply And.intro
  all_goals rfl
theorem Core.reset_lrec (n : Nat) : State.reset.core.sc.lrec.get n = 0 := BitVec.zero_eq
theorem Mem.reset_byte (a : Nat) : State.reset.mem.byte a = 0 := rfl

end Sys2Proof.Machine

namespace Sys2Proof.Proofs
open Sys2Proof.Machine Sys2Proof.Claims

/-- Settles O58: every part of the machine reads its value of reset. -/
theorem resetState : Obligations.ResetState := by
  unfold Obligations.ResetState
  exact ⟨rfl, rfl, Core.reset_rs, Core.reset_rp, fun n => ⟨rfl, rfl, Core.reset_lrec n⟩, rfl, rfl, rfl, State.reset_sysReg, fun _ _ => rfl, rfl, rfl, rfl, rfl,
    rfl, rfl, rfl, fun _ => rfl, rfl, rfl, rfl, fun _ => rfl, Mem.reset_formed, Mem.reset_byte⟩

end Sys2Proof.Proofs
end

section
/-! Bring-up and its steps (15 R453). -/

namespace Sys2Proof.Machine
open Sys2Proof.Claims

@[simp] theorem State.mapHost_core (s : State) (f : HostPart → HostPart) : (s.mapHost f).core = s.core := rfl

/-! ### BOOT_STATUS -/

theorem State.atStep_boot (s : State) (n e : Nat) :
    (s.atStep n e).host.boot = (s.host.boot &&& ~~~(0xFF : Word)) ||| BitVec.ofNat 64 (n + 16 * e) := rfl
theorem State.atStep_bootDue (s : State) (n e : Nat) :
    (s.atStep n e).host.bootDue = if e = 0 ∧ n < 6 then some (s.wall + 1 + Config.delay s.freeCtr) else none := rfl

/-- A field of the low byte is read from what was put in there. -/
theorem lowByte_and (b x : Word) {m : Word} (hm : ~~~(0xFF : Word) &&& m = 0) : ((b &&& ~~~(0xFF : Word)) ||| x) &&& m = x &&& m := by
  have distrib (p q : Word) : (p ||| q) &&& m = (p &&& m) ||| (q &&& m) := by
    ext i; simp only [BitVec.getElem_and, BitVec.getElem_or, Bool.and_or_distrib_right]
  rw [distrib, BitVec.and_assoc, hm]; simp
/-- STEP stands in bits 3:0 and ERR in bits 7:4. -/
theorem bootStatus_step (b : Word) {n e : Nat} (hn : n < 16) :
    (((b &&& ~~~(0xFF : Word)) ||| BitVec.ofNat 64 (n + 16 * e)) &&& 0xF).toNat = n := by
  rw [lowByte_and _ _ (by decide), BitVec.toNat_and, BitVec.toNat_ofNat]
  refine (Nat.and_two_pow_sub_one_eq_mod _ 4).trans ?_
  omega
theorem bootStatus_err (b : Word) {n e : Nat} (hn : n < 16) (he : e < 16) :
    ((b &&& ~~~(0xFF : Word)) ||| BitVec.ofNat 64 (n + 16 * e)) &&& 0xF0 = 0 ↔ e = 0 := by
  have small : ∀ n < 16, ∀ e < 16, BitVec.ofNat 64 (n + 16 * e) &&& 0xF0 = 0 ↔ e = 0 := by decide
  rw [lowByte_and _ _ (by decide)]
  exact small n hn e he

/-! ### The steps -/

/-- `t` stands at step `n` of bring-up with the error `e`, the core as in `s`; the next step is due unless this one ended in an
error or was the last. -/
structure State.BootedTo (s t : State) (n e : Nat) : Prop where
  core : t.core = s.core
  step : (t.host.boot &&& 0xF).toNat = n
  err : t.host.boot &&& 0xF0 = 0 ↔ e = 0
  due : t.host.bootDue ≠ none ↔ e = 0 ∧ n < 6

theorem State.bootedTo_atStep {s u : State} (hc : u.core = s.core) {n e : Nat} (hn : n < 16) (he : e < 16) : s.BootedTo (u.atStep n e) n e where
  core := hc
  step := bootStatus_step _ hn
  err := bootStatus_err _ hn he
  due := by rw [State.atStep_bootDue]; split <;> simp_all

/-- Step 2 needs a signature of the image (R453). -/
theorem State.bootStep_of_one {s : State} (h : (s.host.boot &&& 0xF).toNat = 1) :
    s.BootedTo s.bootStep 2 (if Config.signed s.host.image then 0 else 1) := by
  rw [State.bootStep]; simp only [h]
  by_cases hs : Config.signed s.host.image = true
  · rw [if_pos hs, if_pos hs]
    exact State.bootedTo_atStep (State.mapHost_core _ _) (by decide) (by decide)
  · rw [if_neg hs, if_neg hs]
    exact State.bootedTo_atStep (by rfl) (by decide) (by decide)

/-- Every chiplet of a mask is fenced. -/
def State.fenceMask (s : State) (mask n : Nat) : State := (List.range n).foldl (fun s k => if mask.testBit k then s.setSocket k 1 else s) s

theorem State.fenceMask_succ (s : State) (mask n : Nat) :
    s.fenceMask mask (n + 1) = if mask.testBit n then (s.fenceMask mask n).setSocket n 1 else s.fenceMask mask n := by
  simp only [State.fenceMask, List.range_succ, List.foldl_append, List.foldl_cons, List.foldl_nil]
theorem State.fenceMask_core (s : State) (mask n : Nat) : (s.fenceMask mask n).core = s.core := by
  induction n with
  | zero => rfl
  | succ n ih => rw [State.fenceMask_succ]; split <;> exact ih
theorem State.fenceMask_host (s : State) (mask n : Nat) : (s.fenceMask mask n).host = s.host := by
  induction n with
  | zero => rfl
  | succ n ih => rw [State.fenceMask_succ]; split <;> exact ih
theorem State.setSocket_sockets (s : State) (k j : Nat) :
    (s.setSocket k 1).pkg.sockets.get j = if j = k then 1 else s.pkg.sockets.get j := Store.get_set_of_ne_default _ _ _ (by decide)
theorem State.fenceMask_sockets (s : State) (mask n k : Nat) (hk : k < n) (hm : mask.testBit k = true) :
    (s.fenceMask mask n).pkg.sockets.get k = 1 := by
  induction n with
  | zero => exact absurd hk (Nat.not_lt_zero k)
  | succ n ih =>
    rw [State.fenceMask_succ]
    rcases Nat.lt_succ_iff_lt_or_eq.1 hk with h | rfl
    · split
      · rw [State.setSocket_sockets, ih h, ite_self]
      · exact ih h
    · rw [if_pos hm, State.setSocket_sockets, if_pos rfl]

/-- The package whose chiplets of `mask` fail to verify: the others are measured, these are fenced and named from bit 9 of
BOOT_STATUS on (R453, R454). -/
def State.verified (s : State) (mask : Nat) : State :=
  (((s.bump 2).measure mask).fenceMask mask 28).mapHost fun h => { h with boot := h.boot ||| BitVec.ofNat 64 (mask * 2 ^ 9) }
theorem State.verified_core (s : State) (mask : Nat) : (s.verified mask).core = s.core := State.fenceMask_core _ _ _
theorem State.verified_boot (s : State) (mask : Nat) : (s.verified mask).host.boot = s.host.boot ||| BitVec.ofNat 64 (mask * 2 ^ 9) := by
  rw [State.verified, State.mapHost, State.fenceMask_host]; rfl
theorem State.verified_sockets (s : State) (mask k : Nat) (hk : k < 28) (hm : mask.testBit k = true) : (s.verified mask).pkg.sockets.get k = 1 :=
  State.fenceMask_sockets _ _ _ _ hk hm

/-- Step 3 stops at an error, or comes with the chiplets that fail (R453). -/
theorem State.bootStep_of_two {s : State} (h : (s.host.boot &&& 0xF).toNat = 2) :
    s.bootStep = (s.bump 2).atStep 3 2 ∨ ∃ mask < 2 ^ 28, s.bootStep = (s.verified mask).atStep 3 0 := by
  rw [State.bootStep]; simp only [h]
  split
  · exact .inl rfl
  · exact .inr ⟨_, Nat.mod_lt _ (by decide), rfl⟩

/-- Every step of bring-up up to 6 is followed by the next, or stops at an error (R453). -/
theorem State.bootStep_bootedTo {s : State} {n : Nat} (hn : n < 6) (h : (s.host.boot &&& 0xF).toNat = n) :
    ∃ e, s.BootedTo s.bootStep (n + 1) e := by
  match n, hn with
  | 0, _ => exact ⟨0, by rw [State.bootStep]; simp only [h]; exact State.bootedTo_atStep (by rfl) (by decide) (by decide)⟩
  | 1, _ => exact ⟨_, State.bootStep_of_one h⟩
  | 2, _ =>
    rcases State.bootStep_of_two h with e | ⟨mask, -, e⟩
    · exact ⟨2, e ▸ State.bootedTo_atStep (by rfl) (by decide) (by decide)⟩
    · exact ⟨0, e ▸ State.bootedTo_atStep (s.verified_core mask) (by decide) (by decide)⟩
  | 3, _ =>
    rw [State.bootStep]; simp only [h]
    split
    · exact ⟨3, State.bootedTo_atStep (by rfl) (by decide) (by decide)⟩
    · exact ⟨0, State.bootedTo_atStep (by rfl) (by decide) (by decide)⟩
  | 4, _ => exact ⟨0, by rw [State.bootStep]; simp only [h]; exact State.bootedTo_atStep (by rfl) (by decide) (by decide)⟩
  | 5, _ => exact ⟨0, by rw [State.bootStep]; simp only [h]; exact State.bootedTo_atStep (by rfl) (by decide) (by decide)⟩

/-! ### POWER_GOOD and SETREADY -/

theorem exec_powerGood_off {s : State} (hb : s.host.boot = 0) (hd : s.host.bootDue = none) : exec .powerGood s = .next (s.atStep 0 0) := by
  change execPowerGood s = _
  rw [execPowerGood, hb, hd]; rfl
theorem exec_powerGood_on {s : State} (h : s.host.boot ≠ 0 ∨ s.host.bootDue ≠ none) : exec .powerGood s = .next s := by
  change execPowerGood s = _
  rw [execPowerGood, if_pos (by rwa [Option.isSome_iff_ne_none])]
theorem exec_setready {s : State} (hr : s.host.boot.getLsbD 8 = false) (hs : s.host.restoring = false) (hd : s.host.bootDue = none) :
    exec .setready s = .next (withHost s { s.host with boot := (s.host.boot &&& ~~~(0xF : Word)) ||| 0x107 }) := by
  change execSetready s = _
  rw [execSetready, State.setready, State.ready, hr, hs, hd]; rfl

end Sys2Proof.Machine
end

section
/-! Resets of the package: what of memory they leave (01 R32, Table 1.11; 15 R447, R465). -/

namespace Sys2Proof.Machine
open Sys2Proof.Claims

theorem formed_iff_canonical (s : State) : formed s ↔ s.mem.Canonical := Iff.rfl
theorem oneKey_iff (s : State) (loc : Nat) : oneKey s loc ↔ s.mem.OneKey loc := Iff.rfl

/-- Of what stands behind physical addresses, a reset leaves the bytes of drawer memory. -/
theorem State.packageReset_base {s : State} (c : s.mem.Canonical) (j : Nat) :
    s.packageReset.mem.base.read j = if rangeOf (paOf j) = .drawer then s.mem.writeBack.base.read j else 0 := by
  refine (Memory.read_filter (Mem.writeBack_canonical c).1 (fun a => rangeOf (paOf a) == .drawer) j).trans ?_
  simp only [beq_iff_eq]
/-- A drawer byte under key 0 reads after a reset as the agents saw it before. -/
theorem State.packageReset_drawer {s : State} (c : s.mem.Canonical) {loc : Nat} (hr : rangeOf (paOf loc) = .drawer) (h0 : keyOf loc = 0)
    (o : s.mem.OneKey loc) (hk : s.mem.kept = []) (hs : s.mem.keys.get 0 = s.packageReset.mem.keys.get 0) :
    s.packageReset.mem.byte loc = s.mem.byte loc := by
  rw [← Mem.writeBack_byte c hk o]
  refine Mem.byte_congr ?_ ?_ rfl ?_ fun j hj => ?_
  · rw [Mem.writeBack_dirty c]; rfl
  · rw [Mem.writeBack_kept hk]; rfl
  · rw [h0, Mem.writeBack_keys, hs]
  · rw [State.packageReset_base c, if_pos (drawer_of_line hj hr)]
/-- Any other byte that was never written back under a key reads 0 after it (log 3). -/
theorem State.packageReset_other {s : State} (c : s.mem.Canonical) {loc : Nat} (hr : rangeOf (paOf loc) ≠ .drawer)
    (hy : s.packageReset.mem.keyed.get (paOf loc / 64) = none) : s.packageReset.mem.byte loc = 0 := by
  have hd : s.packageReset.mem.dirty.get loc = none := rfl
  unfold Mem.byte; simp only [hd, hy]
  rw [State.packageReset_base c, if_neg hr]

theorem State.packageReset_afterReset {s : State} (h : formed s) : afterReset s s.packageReset :=
  have c := (formed_iff_canonical s).1 h
  ⟨rfl, rfl, rfl, rfl, rfl, rfl, rfl, rfl, rfl, rfl, rfl, rfl, rfl,
    fun loc hr h0 o hk hs => State.packageReset_drawer c hr h0 ((oneKey_iff s loc).1 o) hk hs, fun _ hr hy => State.packageReset_other c hr hy⟩

end Sys2Proof.Machine
end

section
/-! FREEZE, throttling and heat (15 R447, R448, R459, R460). -/

namespace Sys2Proof.Machine
open Sys2Proof.Claims

/-! ### Cores, stacks and matrix engines by number -/

theorem State.coreAt_self {s : State} {k : Nat} (h : k = s.id) : s.coreAt k = s.core := if_pos h.symm
theorem State.setCoreAt_self {s : State} {k : Nat} (h : k = s.id) (c : Core) : s.setCoreAt k c = withCore s c := if_pos h.symm

/-- An engine that is written with anything but its reset state reads as written. -/
theorem quadOf_setQuad (s : State) (n : Nat) {q : Quad} (hq : q ≠ {}) : quadOf (s.setQuad n q) n = q := by
  simp only [quadOf, State.setQuad, if_neg hq]
  rw [Store.get_set_of_ne_default _ _ _ (Option.some_ne_none q), if_pos rfl]; rfl
theorem stackOf_setStack_of_ne (s : State) (n : Nat) {k : Stack} (hk : k ≠ {}) : stackOf (s.setStack n k) n = k := by
  simp only [stackOf, State.setStack, if_neg hk]
  rw [Store.get_set_of_ne_default _ _ _ (Option.some_ne_none k), if_pos rfl]; rfl
theorem stackOf_setStack {s : State} (w : Store.wf s.bstacks = true) (n : Nat) (k : Stack) : stackOf (s.setStack n k) n = k := by
  simp only [stackOf, State.setStack, Store.get_set w, if_true]
  split
  · exact Eq.symm ‹_›
  · rfl

/-! ### THROTTLE -/

/-- A domain's cuts that still count, beside this cycle's. -/
def State.nearCuts (s : State) (dom : FreezeDomain) : List (Nat × Nat) :=
  s.pkg.cuts.filter fun x => decide (s.wall < x.2 + 64) && x != (domCode dom, s.wall)
/-- The cycle counts among those that the domain has lost. -/
def State.cut (s : State) (dom : FreezeDomain) : State :=
  { s with pkg := { s.pkg with cuts := s.nearCuts dom ++ [(domCode dom, s.wall)] } }

theorem mayLose_iff (s : State) (dom : FreezeDomain) : mayLose s dom ↔ ((s.nearCuts dom).filter fun x => x.1 == domCode dom).length < 56 := by
  simp only [mayLose, State.nearCuts, List.filter_filter, Bool.and_assoc]
theorem exec_throttle_full {s : State} {dom : FreezeDomain} (h : ¬ mayLose s dom) : exec (.throttle dom) s = .next s := by
  rw [mayLose_iff, Nat.not_lt] at h
  exact congrArg Host.Outcome.next (if_pos h)
/-! A domain that may lose the cycle loses it (15 R459). -/

theorem exec_throttle_core {s : State} {k : BitVec 7} (h : mayLose s (.core k)) (hk : k.toNat = s.id) :
    exec (.throttle (.core k)) s = .next (withCore (s.cut (.core k)) { s.core with flow := { s.core.flow with throttled := true } }) := by
  rw [mayLose_iff, ← Nat.not_le] at h
  rw [← State.setCoreAt_self (s := s.cut (.core k)) hk, ← State.coreAt_self hk]
  exact congrArg Host.Outcome.next (if_neg h)
theorem exec_throttle_matrix {s : State} {q : BitVec 5} (h : mayLose s (.matrix q)) :
    exec (.throttle (.matrix q)) s = .next ((s.cut (.matrix q)).setQuad q.toNat { quadOf s q.toNat with throttled := true }) := by
  rw [mayLose_iff, ← Nat.not_le] at h
  exact congrArg Host.Outcome.next (if_neg h)
theorem exec_throttle_stack {s : State} {n : BitVec 4} (h : mayLose s (.stack n)) :
    exec (.throttle (.stack n)) s = .next ((s.cut (.stack n)).setStack n.toNat { stackOf s n.toNat with throttled := true }) := by
  rw [mayLose_iff, ← Nat.not_le] at h
  exact congrArg Host.Outcome.next (if_neg h)

theorem exec_freezeRelease {s : State} (h : s.host.freeze = true) :
    exec .freezeRelease s = .next { withHost s { s.host with freeze := false } with
      drawer := { s.drawer with retrain := List.range 128 }
      fab := { s.fab with portUp := 0, retrain := s.fab.retrain ||| s.fab.portUp } } := by
  change execFreezeRelease s = _
  rw [execFreezeRelease, h]; rfl

end Sys2Proof.Machine

namespace Sys2Proof.Proofs
open Sys2Proof.Machine Sys2Proof.Claims

/-- Settles O51, part by part: bring-up, resets, FREEZE, throttling and heat. -/
theorem bringUpAndPower : Obligations.BringUpAndPower := by
  unfold Obligations.BringUpAndPower
  intro s
  refine ⟨fun hb hd => ?powerGood, exec_powerGood_on, fun n hn h => ?bootStep, fun hf => ⟨_, rfl, rfl, State.packageReset_afterReset hf⟩,
    exec_setready, rfl, rfl, rfl, exec_freezeRelease, fun dom h => exec_throttle_full h, fun k h hk => ?core, fun q h => ?matrix, fun n h => ?stack,
    fun n w => ⟨⟨_, rfl, stackOf_setStack w _ _, rfl, rfl⟩, ⟨_, rfl, stackOf_setStack w _ _, rfl, rfl⟩⟩⟩
  case powerGood =>
    refine ⟨_, _, exec_powerGood_off hb hd, rfl, rfl, ?_, rfl, by omega⟩
    rw [State.atStep_boot, hb]; rfl
  case bootStep =>
    obtain ⟨e, b⟩ := State.bootStep_bootedTo hn h
    refine ⟨b.core, b.step, fun he => ?_, fun he h5 => b.due.2 ⟨b.err.1 he, by omega⟩, ?_, ?_⟩
    · by_contra hd
      exact he (b.err.2 (b.due.1 hd).1)
    · rintro rfl
      rw [(State.bootStep_of_one h).err]; split <;> simp_all
    · rintro rfl he
      rcases State.bootStep_of_two h with ht | ⟨mask, hm, ht⟩
      · rw [ht] at he
        exact absurd ((bootStatus_err _ (by decide) (by decide)).1 he) (by decide)
      · refine ⟨mask, hm, ?_⟩
        rw [ht]
        exact ⟨by rw [State.atStep_boot, State.verified_boot]; rfl, s.verified_sockets mask⟩
  case core => exact ⟨_, exec_throttle_core h hk, rfl, rfl, List.mem_append_right _ (List.mem_singleton_self _)⟩
  case matrix => exact ⟨_, exec_throttle_matrix h, rfl, rfl, quadOf_setQuad _ _ fun he => Bool.noConfusion (congrArg Quad.throttled he)⟩
  case stack => exact ⟨_, exec_throttle_stack h, rfl, rfl, stackOf_setStack_of_ne _ _ fun he => Bool.noConfusion (congrArg Stack.throttled he)⟩

end Sys2Proof.Proofs
end

section
/-! What the decoder reads and what the encoder writes agree (02 R45 to R59). -/

namespace Sys2Proof
open Machine

/-! ### First words that have a known opcode and length -/

section
variable {a : SlotWord} {o : BitVec 8} {n : BitVec 2}

theorem opc_part (ho : opcOf a = o.toNat) : a.extractLsb' 2 8 = o := BitVec.eq_of_toNat_eq ho
theorem len_part (hl : lenOf a = n.toNat) : a.extractLsb' 0 2 = n := BitVec.eq_of_toNat_eq hl

theorem FA.enc_dec_of (ho : opcOf a = o.toNat) (hl : lenOf a = n.toNat) : (FA.dec a).enc o n = a := by
  rw [← opc_part ho, ← len_part hl, FA.enc_dec]
theorem FB.enc_dec_of (ho : opcOf a = o.toNat) (hl : lenOf a = n.toNat) : (FB.dec a).enc o n = a := by
  rw [← opc_part ho, ← len_part hl, FB.enc_dec]
theorem FC.enc_dec_of (ho : opcOf a = o.toNat) (hl : lenOf a = n.toNat) : (FC.dec a).enc o n = a := by
  rw [← opc_part ho, ← len_part hl, FC.enc_dec]
theorem FD.enc_dec_of (ho : opcOf a = o.toNat) (hl : lenOf a = n.toNat) : (FD.dec a).enc o n = a := by
  rw [← opc_part ho, ← len_part hl, FD.enc_dec]
theorem FE.enc_dec_of (ho : opcOf a = o.toNat) (hl : lenOf a = n.toNat) : (FE.dec a).enc o n = a := by
  rw [← opc_part ho, ← len_part hl, FE.enc_dec]
theorem FV.enc_dec_of (ho : opcOf a = o.toNat) (hl : lenOf a = n.toNat) : (FV.dec a).enc o n = a := by
  rw [← opc_part ho, ← len_part hl, FV.enc_dec]
end

/-! ### Words without a defect -/

namespace Machine

theorem lowest2_eq_none {x y : Option SubCode} : lowest2 x y = none ↔ x = none ∧ y = none := by
  cases x <;> cases y <;> simp [lowest2]
/-- A check finds nothing exactly when none of its defects is present. -/
theorem pickDefect_cons_eq_none {d : Bool} {c : SubCode} {r : List (Bool × SubCode)} :
    pickDefect ((d, c) :: r) = none ↔ d = false ∧ pickDefect r = none := by
  cases d <;> simp [pickDefect, lowest2_eq_none]
/-- A field that a check asks a value of has it in words without a defect. -/
theorem field_of_clean {n k : Nat} {x : BitVec n} {c : SubCode} {r : List (Bool × SubCode)}
    (h : pickDefect ((x.toNat != k, c) :: r) = none) : x.toNat = k := by
  simpa using (pickDefect_cons_eq_none.1 h).1
theorem sized_eq_none {len n : Nat} {cs : List (Bool × SubCode)} : sized len n cs = none ↔ len = n ∧ pickDefect cs = none := by
  unfold sized; split <;> simp [*]
theorem sized2_eq_none {len : Nat} {c32 c64 : List (Bool × SubCode)} :
    sized2 len c32 c64 = none ↔ len = 1 ∧ pickDefect c32 = none ∨ len = 2 ∧ pickDefect c64 = none := by
  unfold sized2; split_ifs <;> simp [*]

/-- The space's own check, as `defect` picks it. -/
def defectIn : Space → Nat → Nat → Nat → SlotWord → SlotWord → SlotWord → Option SubCode
  | .s => defectS
  | .v => defectV
  | .m => defectM
  | .c => defectC
  | .b => defectB
/-- The instruction of a space in words without a defect, as `decode` picks it. -/
noncomputable def buildIn : Space → Nat → Nat → SlotWord → SlotWord → SlotWord → Instr
  | .s => buildS
  | .v => buildV
  | .m => buildM
  | .c => buildC
  | .b => buildB

theorem defect_eq_none {st : Nat} {a b c : SlotWord} :
    defect st a b c = none ↔ lenOf a ≠ 0 ∧ ∃ sp, spaceOf st = some sp ∧ defectIn sp st (lenOf a) (opcOf a) a b c = none := by
  unfold defect
  split
  · simp [*]
  · cases hs : spaceOf st with
    | none => simp
    | some sp => cases sp <;> simp [*, defectIn]
end Machine

theorem decode_eq_ok {st : Nat} {ws : List SlotWord} {i : Instr} :
    decode st ws = .ok i ↔ ∃ sp, spaceOf st = some sp ∧ defect st (ws.headD 0) (ws.getD 1 0) (ws.getD 2 0) = none
      ∧ buildIn sp (lenOf (ws.headD 0)) (opcOf (ws.headD 0)) (ws.headD 0) (ws.getD 1 0) (ws.getD 2 0) = i := by
  unfold decode
  dsimp only
  cases hd : defect st (ws.headD 0) (ws.getD 1 0) (ws.getD 2 0) with
  | some e => simp
  | none =>
    cases hs : spaceOf st with
    | none => simp
    | some sp => cases sp <;> simp [buildIn]

theorem Instr.wf_iff {st : Nat} {i : Instr} :
    WellFormed st i ↔ (∃ sp, i.space = some sp ∧ spaceOf st = some sp) ∧ i.selected = true
      ∧ defect st ((encode i).headD 0) ((encode i).getD 1 0) ((encode i).getD 2 0) = none := by
  simp only [WellFormed, Instr.wf, Bool.and_eq_true, beq_iff_eq, and_assoc, Option.isSome_iff_exists]
  constructor
  · rintro ⟨⟨sp, h⟩, hs, hr⟩
    exact ⟨⟨sp, h, hs.symm.trans h⟩, hr⟩
  · rintro ⟨⟨sp, h, hs⟩, hr⟩
    exact ⟨⟨sp, h⟩, h.trans hs.symm, hr⟩

/-! ### Opcodes that several rows of the opcode table share: the row is picked by a field -/

theorem imm_low (a : SlotWord) : a.extractLsb' 16 1 = 1 ↔ (FC.dec a).imm.getLsbD 0 = true := by simp [FC.dec, BitVec.eq_of_getLsbD_eq_iff]
theorem misc_low (a : SlotWord) : a.extractLsb' 10 2 = (FE.dec a).misc.extractLsb' 0 2 := by ext i hi; simp [FE.dec]; omega

/-- MOVL and MOVLHI share opcode 49. -/
noncomputable def rowMovl (w : FC) (l : SlotWord) : Instr := if w.imm.getLsbD 0 then .movlHi w l else .movl w l
/-- The moves of opcode 63. -/
noncomputable def rowMovp (w : FA) : Instr :=
  if w.fn = 1 then .movpToP w else if w.fn = 2 then .movpToB w else if w.fn = 3 then .movpFromB w else if w.fn = 4 then .movpToK w
  else if w.fn = 5 then .movpFromK w else if w.fn = 6 then .movpFromLc w else if w.fn = 7 then .movpKToP w else .movpFromP w
noncomputable def rowPst (w : FA) (m : MW) : Instr := if w.fn = 8 then .pstBlock w m else .pst w m
noncomputable def rowRft (w : FE) : Instr :=
  if w.misc.extractLsb' 0 2 = 1 then .rftSkip w else if w.misc.extractLsb' 0 2 = 2 then .rftPark w
  else if w.misc.extractLsb' 0 2 = 3 then .rftRestart w else .rftResume w
noncomputable def rowLlcop (w : FA) (m : MW) : Instr :=
  if w.fn = 1 then .llcopUncarve w m else if w.fn = 2 then .llcopClean w m else if w.fn = 3 then .llcopFlush w m else .llcopCarve w m
noncomputable def rowChipop (w : FB) : Instr :=
  if w.imm = 1 then .chipopFence w else if w.imm = 2 then .chipopReset w else if w.imm = 3 then .chipopClearlost w else .chipopStatus w
noncomputable def rowCpyx (w : FA) (e : EW) : Instr :=
  if w.fn = 1 then .cpyxScale w e else if w.fn = 2 then .cpyxAdd w e else if w.fn = 3 then .cpyxReduce w e else .cpyxCast w e
noncomputable def rowCflush (w : FA) (e : EW) : Instr :=
  if w.fn = 1 then .cflushInval w e else if w.fn = 2 then .cflushDiscard w e else .cflushClean w e

section
variable (len : Nat) (a b c : SlotWord)
theorem buildS_movl : buildS len 49 a b c = rowMovl (FC.dec a) b := by simp only [rowMovl, ← imm_low]; rfl
theorem buildS_movp : buildS len 63 a b c = rowMovp (FA.dec a) := rfl
theorem buildS_pst : buildS len 145 a b c = rowPst (FA.dec a) (MW.dec b) := rfl
theorem buildS_rft : buildS len 227 a b c = rowRft (FE.dec a) := by rw [rowRft, ← misc_low]; rfl
theorem buildS_llcop : buildS len 230 a b c = rowLlcop (FA.dec a) (MW.dec b) := rfl
theorem buildS_chipop : buildS len 232 a b c = rowChipop (FB.dec a) := rfl
theorem buildC_cpyx : buildC len 4 a b c = rowCpyx (FA.dec a) (EW.dec b) := rfl
theorem buildC_cflush : buildC len 8 a b c = rowCflush (FA.dec a) (EW.dec b) := rfl
end

/-- `i` belongs to `sp`, the field that picks its row holds the row's value, and `ws` are its words. -/
structure Instr.HasWords (i : Instr) (sp : Space) (ws : List SlotWord) : Prop where
  space : i.space = some sp
  selected : i.selected = true
  words : encode i = ws

section
variable (w : FA) (f : FB) (l : FC) (g : FE) (m : MW) (e : EW) (x : SlotWord)
theorem rowMovl_hasWords : (rowMovl l x).HasWords .s [l.enc 49 2, x] := by
  unfold rowMovl; split_ifs <;> constructor <;> simp_all [Instr.space, Instr.selected, encode]
theorem rowMovp_hasWords (h : w.fn.toNat < 8) : (rowMovp w).HasWords .s [w.enc 63 1] := by
  unfold rowMovp; split_ifs <;> constructor <;> simp_all [Instr.space, Instr.selected, encode, BitVec.toNat_eq]
  omega
theorem rowPst_hasWords : (rowPst w m).HasWords .s [w.enc 145 2, m.enc] := by
  unfold rowPst; split_ifs <;> constructor <;> simp_all [Instr.space, Instr.selected, encode]
theorem rowRft_hasWords : (rowRft g).HasWords .s [g.enc 227 1] := by
  unfold rowRft; split_ifs <;> constructor <;> simp_all [Instr.space, Instr.selected, encode, BitVec.toNat_eq]
  omega
theorem rowLlcop_hasWords (h : w.fn.toNat < 4) : (rowLlcop w m).HasWords .s [w.enc 230 2, m.enc] := by
  unfold rowLlcop; split_ifs <;> constructor <;> simp_all [Instr.space, Instr.selected, encode, BitVec.toNat_eq]
  omega
theorem rowChipop_hasWords (h : f.imm.toNat < 4) : (rowChipop f).HasWords .s [f.enc 232 1] := by
  unfold rowChipop; split_ifs <;> constructor <;> simp_all [Instr.space, Instr.selected, encode, BitVec.toNat_eq]
  omega
theorem rowCpyx_hasWords (h : w.fn.toNat < 4) : (rowCpyx w e).HasWords .c [w.enc 4 2, e.enc] := by
  unfold rowCpyx; split_ifs <;> constructor <;> simp_all [Instr.space, Instr.selected, encode, BitVec.toNat_eq]
  omega
theorem rowCflush_hasWords (h : w.fn.toNat < 3) : (rowCflush w e).HasWords .c [w.enc 8 2, e.enc] := by
  unfold rowCflush; split_ifs <;> constructor <;> simp_all [Instr.space, Instr.selected, encode, BitVec.toNat_eq]
  omega
end

/-! ### From the instruction to its words and back -/

/-- A selected instruction is what its space builds from its own words. -/
theorem buildIn_encode {i : Instr} {sp : Space} (hs : i.space = some sp) (h : i.selected = true) :
    buildIn sp (lenOf ((encode i).headD 0)) (opcOf ((encode i).headD 0)) ((encode i).headD 0) ((encode i).getD 1 0) ((encode i).getD 2 0) = i := by
  cases i <;> cases hs
  all_goals simp only [encode, List.headD_cons, List.getD_cons_succ, List.getD_cons_zero, List.getD_nil, FA.opcOf_enc, FB.opcOf_enc,
    FC.opcOf_enc, FD.opcOf_enc, FE.opcOf_enc, FV.opcOf_enc, FA.lenOf_enc, FB.lenOf_enc, FC.lenOf_enc, FD.lenOf_enc, FE.lenOf_enc, FV.lenOf_enc]
  case movl w l | movlHi w l => exact (buildS_movl 2 _ l 0).trans (by simp_all [rowMovl, Instr.selected])
  case movpFromP | movpToP | movpToB | movpFromB | movpToK | movpFromK | movpFromLc | movpKToP =>
    exact (buildS_movp 1 _ 0 0).trans (by simp_all [rowMovp, Instr.selected])
  case pst | pstBlock => exact (buildS_pst 2 _ _ 0).trans (by simp_all [rowPst, Instr.selected])
  case rftResume | rftSkip | rftPark | rftRestart => exact (buildS_rft 1 _ 0 0).trans (by simp_all [rowRft, Instr.selected])
  case llcopCarve | llcopUncarve | llcopClean | llcopFlush => exact (buildS_llcop 2 _ _ 0).trans (by simp_all [rowLlcop, Instr.selected])
  case chipopStatus | chipopFence | chipopReset | chipopClearlost => exact (buildS_chipop 1 _ 0 0).trans (by simp_all [rowChipop, Instr.selected])
  case cpyxCast | cpyxScale | cpyxAdd | cpyxReduce => exact (buildC_cpyx 2 _ _ 0).trans (by simp_all [rowCpyx, Instr.selected])
  case cflushClean | cflushInval | cflushDiscard => exact (buildC_cflush 2 _ _ 0).trans (by simp_all [rowCflush, Instr.selected])
  all_goals
    conv_lhs => whnf
    simp only [FA.dec_enc, FB.dec_enc, FC.dec_enc, FD.dec_enc, FE.dec_enc, FV.dec_enc, EW.dec_enc, VW.dec_enc, MW.dec_enc]

/-- A well-formed instruction is decoded from its words. -/
theorem decode_encode {st : Nat} {i : Instr} (h : WellFormed st i) : decode st (encode i) = .ok i := by
  obtain ⟨⟨sp, hi, hs⟩, hsel, hd⟩ := Instr.wf_iff.1 h
  exact decode_eq_ok.2 ⟨sp, hs, hd, buildIn_encode hi hsel⟩

/-! ### From the words to their instruction -/

/-- `i` is what the first `l` of the words `a`, `b`, `c` say in stream `st`, with opcode `o` of space `sp`; alone they have no defect either. -/
structure Says (sp : Space) (st l o : Nat) (a b c : SlotWord) (i : Instr) : Prop extends i.HasWords sp ([a, b, c].take l) where
  sound : defectIn sp st l o a (([a, b, c].take l).getD 1 0) (([a, b, c].take l).getD 2 0) = none

theorem Says.of_words {sp : Space} {st l o : Nat} {a b c : SlotWord} {i : Instr} {ws : List SlotWord} (hi : i.HasWords sp ws)
    (hw : ws = [a, b, c].take l) (h : defectIn sp st l o a (([a, b, c].take l).getD 1 0) (([a, b, c].take l).getD 2 0) = none) :
    Says sp st l o a b c i := ⟨hw ▸ hi, h⟩

/-! The rows of each space, opcode by opcode as its check lists them; the last case is the reserved opcodes. -/

theorem says_buildS {st l o : Nat} {a b c : SlotWord} (hl : lenOf a = l) (ho : opcOf a = o) (h : defectS st l o a b c = none) :
    Says .s st l o a b c (buildS l o a b c) := by
  revert h
  fun_cases defectS st l o a b c <;> intro h
  case case134 => cases h
  all_goals obtain ⟨rfl, hc⟩ := sized_eq_none.1 h
  -- MOVL
  case case47 => exact buildS_movl _ a b c ▸ .of_words (rowMovl_hasWords _ _) (by simp [FC.enc_dec_of, ho, hl]) h
  -- MOVP
  case case61 =>
    have hf : (FA.dec a).fn.toNat < 8 := by split_ifs at hc <;> simp [field_of_clean hc]
    exact .of_words (rowMovp_hasWords _ hf) (by simp [FA.enc_dec_of, ho, hl]) h
  -- PST
  case case117 => exact .of_words (rowPst_hasWords (FA.dec a) (MW.dec b)) (by simp [FA.enc_dec_of, ho, hl]) h
  -- RFT
  case case127 => exact buildS_rft _ a b c ▸ .of_words (rowRft_hasWords _) (by simp [FE.enc_dec_of, ho, hl]) h
  -- LLCOP
  case case130 =>
    have hf : (FA.dec a).fn.toNat < 4 := by split_ifs at hc <;> simp [field_of_clean hc]
    exact .of_words (rowLlcop_hasWords (FA.dec a) (MW.dec b) hf) (by simp [FA.enc_dec_of, ho, hl]) h
  -- CHIPOP
  case case132 =>
    have hf : (FB.dec a).imm.toNat < 4 := by split_ifs at hc <;> simp [field_of_clean hc]
    exact .of_words (rowChipop_hasWords _ hf) (by simp [FB.enc_dec_of, ho, hl]) h
  all_goals
    refine ⟨⟨rfl, rfl, ?_⟩, h⟩
    conv_lhs => whnf
    simp only [FA.enc_dec_of, FB.enc_dec_of, FC.enc_dec_of, FD.enc_dec_of, FE.enc_dec_of, ho, hl, BitVec.reduceToNat, MW.enc_dec,
      List.take_succ_cons, List.take_zero]

theorem says_buildV {st l o : Nat} {a b c : SlotWord} (hl : lenOf a = l) (ho : opcOf a = o) (h : defectV st l o a b c = none) :
    Says .v st l o a b c (buildV l o a b c) := by
  revert h
  fun_cases defectV st l o a b c <;> intro h
  -- VPERM in 32 bits
  case case61 => cases h
  case case81 => cases h
  all_goals
    have hn := h
    simp only [sized_eq_none, sized2_eq_none] at hn
    obtain ⟨rfl, -⟩ | ⟨rfl, -⟩ := hn
  all_goals
    refine ⟨⟨rfl, rfl, ?_⟩, h⟩
    conv_lhs => whnf
    simp only [FV.enc_dec_of, ho, hl, BitVec.reduceToNat, VW.enc_dec, MW.enc_dec, List.take_succ_cons, List.take_zero]

theorem says_buildM {st l o : Nat} {a b c : SlotWord} (hl : lenOf a = l) (ho : opcOf a = o) (h : defectM st l o a b c = none) :
    Says .m st l o a b c (buildM l o a b c) := by
  revert h
  fun_cases defectM st l o a b c <;> intro h
  case case12 => cases h
  all_goals
    obtain rfl := (sized_eq_none.1 h).1
    refine ⟨⟨rfl, rfl, ?_⟩, h⟩
    conv_lhs => whnf
    simp only [FB.enc_dec_of, FC.enc_dec_of, FE.enc_dec_of, ho, hl, BitVec.reduceToNat, EW.enc_dec, List.take_succ_cons, List.take_zero]

theorem says_buildC {st l o : Nat} {a b c : SlotWord} (hl : lenOf a = l) (ho : opcOf a = o) (h : defectC st l o a b c = none) :
    Says .c st l o a b c (buildC l o a b c) := by
  revert h
  fun_cases defectC st l o a b c <;> intro h
  case case11 => cases h
  all_goals obtain ⟨rfl, hc⟩ := sized_eq_none.1 h
  -- CPYX
  case case5 =>
    have hf : (FA.dec a).fn.toNat < 4 := by split_ifs at hc <;> simp [field_of_clean hc]
    exact .of_words (rowCpyx_hasWords (FA.dec a) (EW.dec b) hf) (by simp [FA.enc_dec_of, ho, hl]) h
  -- CFLUSH
  case case9 =>
    have hf : (FA.dec a).fn.toNat < 3 := by split_ifs at hc <;> simp [field_of_clean hc]
    exact .of_words (rowCflush_hasWords (FA.dec a) (EW.dec b) hf) (by simp [FA.enc_dec_of, ho, hl]) h
  all_goals
    refine ⟨⟨rfl, rfl, ?_⟩, h⟩
    conv_lhs => whnf
    simp only [FA.enc_dec_of, FE.enc_dec_of, ho, hl, BitVec.reduceToNat, EW.enc_dec, List.take_succ_cons, List.take_zero]

theorem says_buildB {st l o : Nat} {a b c : SlotWord} (hl : lenOf a = l) (ho : opcOf a = o) (h : defectB st l o a b c = none) :
    Says .b st l o a b c (buildB l o a b c) := by
  revert h
  fun_cases defectB st l o a b c <;> intro h
  case case14 => cases h
  all_goals
    obtain rfl := (sized_eq_none.1 h).1
    refine ⟨⟨rfl, rfl, ?_⟩, h⟩
    conv_lhs => whnf
    simp only [FA.enc_dec_of, FE.enc_dec_of, ho, hl, BitVec.reduceToNat, EW.enc_dec, List.take_succ_cons, List.take_zero]

theorem says_buildIn {sp : Space} {st : Nat} {a b c : SlotWord} (h : defectIn sp st (lenOf a) (opcOf a) a b c = none) :
    Says sp st (lenOf a) (opcOf a) a b c (buildIn sp (lenOf a) (opcOf a) a b c) := by
  cases sp
  exacts [says_buildS rfl rfl h, says_buildV rfl rfl h, says_buildM rfl rfl h, says_buildC rfl rfl h, says_buildB rfl rfl h]

/-- What decodes is well formed, and its words are those that it was read from. -/
theorem wf_of_decode {st : Nat} {ws : List SlotWord} {i : Instr} (h : decode st ws = .ok i) :
    WellFormed st i ∧ encode i = [ws.headD 0, ws.getD 1 0, ws.getD 2 0].take (lenOf (ws.headD 0)) := by
  obtain ⟨sp, hs, hd, rfl⟩ := decode_eq_ok.1 h
  generalize ws.headD 0 = a, ws.getD 1 0 = b, ws.getD 2 0 = c at hd ⊢
  obtain ⟨hl, sp', hs', hd⟩ := defect_eq_none.1 hd
  obtain rfl : sp = sp' := Option.some.inj (hs.symm.trans hs')
  obtain ⟨⟨hsp, hsel, hw⟩, hsound⟩ := says_buildIn hd
  have hhead : ([a, b, c].take (lenOf a)).headD 0 = a := by
    obtain ⟨n, hn⟩ := Nat.exists_eq_succ_of_ne_zero hl
    rw [hn]; rfl
  refine ⟨Instr.wf_iff.2 ⟨⟨sp, hsp, hs⟩, hsel, ?_⟩, hw⟩
  rw [hw, hhead]
  exact defect_eq_none.2 ⟨hl, sp, hs, hsound⟩

end Sys2Proof

namespace Sys2Proof.Proofs

/-- Settles O56: both directions, from the rows of the five spaces. -/
theorem decodeAndEncodeAgree : Obligations.DecodeAndEncodeAgree := by
  unfold Obligations.DecodeAndEncodeAgree
  exact ⟨fun _ _ => decode_encode, fun _ _ _ => wf_of_decode⟩

/-- Settles O55: each word is decoded by evaluation. -/
theorem specWordsDecode : Obligations.SpecWordsDecode := by
  unfold Obligations.SpecWordsDecode
  exact ⟨rfl, rfl, rfl, rfl, rfl, rfl, rfl, rfl, rfl⟩

end Sys2Proof.Proofs
end

section
/-! The heads of the vector and engine queues: every instruction there issues through `State.issue` (02 R52, 04 R132, 05 R156). -/

namespace Sys2Proof.Machine
open Sys2Proof.Claims

/-- `i` at the head of its queue waits for the tokens of `tok` and signals its consumer. -/
def IssuesWith (tok : BitVec 12) (i : Instr) (s : State) : Prop := ∃ body, exec i s = .next (s.issue tok (tokField tok 0) body)

theorem tokField_zero (tok : BitVec 12) : tokField tok 0 = tok.toNat % 8 := by simp [tokField]

/-- A gated instruction takes its tokens and gives its own one cycle on (04 R132). -/
theorem issue_gated {s : State} {tok : BitVec 12} {sig : Nat} (h : s.core.tokReady s.core.cur.stream (tokWaits tok) = true)
    (hf : sig = 7 ∨ s.core.tokFull s.core.cur.stream sig = false) (hg : s.core.cur.gate = some false) (body : State → State) :
    s.issue tok sig body = { s with core := { (s.core.tokTake s.core.cur.stream (tokWaits tok)).signalAt sig 1 with out := .done } } := by
  have : (sig != 7 && s.core.tokFull s.core.cur.stream sig) = false := by rcases hf with h | h <;> simp [h]
  simp only [State.issue, h, this, hg, Bool.not_true, Bool.false_eq_true, if_false, if_true]; rfl

theorem IssuesWith.head {tok : BitVec 12} {i : Instr} {s : State} (hi : IssuesWith tok i s) :
    let st := s.core.cur.stream
    let cons := tok.toNat % 8
    let ready := s.core.tokReady st (tokWaits tok)
    let full := s.core.tokFull st cons
    (ready = false → exec i s = .next s.hold)
    ∧ (ready = true → cons ≠ 7 → full = true → exec i s = .next (raises s 0x10 (BitVec.ofNat 64 (st * 8 + cons)) 0 0))
    ∧ (ready = true → (cons = 7 ∨ full = false) → s.core.cur.gate = some false →
      exec i s = .next { s with core := { (s.core.tokTake st (tokWaits tok)).signalAt cons 1 with out := .done } }) := by
  obtain ⟨body, hb⟩ := hi
  rw [hb, tokField_zero]
  exact ⟨fun h => congrArg _ (Laws.issue_waits h _ _), fun h h7 hf => congrArg _ (Laws.issue_full h h7 hf _),
    fun h hf hg => congrArg _ (issue_gated h hf hg _)⟩

theorem IssuesWith.of_next {tok : BitVec 12} {i : Instr} {s t : State} (hi : exec i s = .next t)
    (ht : ∃ body, t = s.issue tok (tokField tok 0) body) : IssuesWith tok i s := by
  obtain ⟨body, rfl⟩ := ht
  exact ⟨body, hi⟩

/-! The operations that reach `State.issue` through another one. -/

section
variable (w : FV) (v : VW) (x : FA) (e : EW) (s : State)
theorem vCmp_issue : ∃ body, vCmp w v s = s.issue v.tok (tokField v.tok 0) body := by unfold vCmp; exact ⟨_, rfl⟩
theorem vFcmp_issue : ∃ body, vFcmp w v s = s.issue v.tok (tokField v.tok 0) body := by unfold vFcmp; exact ⟨_, rfl⟩
theorem vAddMinMax_issue (mx : Bool) : ∃ body, vAddMinMax mx w v s = s.issue v.tok (tokField v.tok 0) body := by unfold vAddMinMax; exact ⟨_, rfl⟩
theorem vFpQuiet_issue (n : Nat) (f : Num → Num → Num) : ∃ body, vFpQuiet n f w v s = s.issue v.tok (tokField v.tok 0) body := by
  unfold vFpQuiet; exact ⟨_, rfl⟩
theorem product_issue (k : Nat) : ∃ body, s.product k e = s.issue e.tok (tokField e.tok 0) body := by unfold State.product; exact ⟨_, rfl⟩
theorem unitCopy_issue (k : Nat) : ∃ body, s.unitCopy k e = s.issue e.tok (tokField e.tok 0) body := by unfold State.unitCopy; exact ⟨_, rfl⟩

theorem vcmp64_issues : IssuesWith v.tok (.vcmp64 w v) s := .of_next rfl (vCmp_issue w v s)
theorem vfcmp64_issues : IssuesWith v.tok (.vfcmp64 w v) s := .of_next rfl (vFcmp_issue w v s)
theorem vaddmin_issues : IssuesWith v.tok (.vaddmin w v) s := .of_next rfl (vAddMinMax_issue w v s false)
theorem vaddmax_issues : IssuesWith v.tok (.vaddmax w v) s := .of_next rfl (vAddMinMax_issue w v s true)
theorem vfmin64_issues : IssuesWith v.tok (.vfmin64 w v) s := .of_next rfl (vFpQuiet_issue w v s 2 _)
theorem vfmax64_issues : IssuesWith v.tok (.vfmax64 w v) s := .of_next rfl (vFpQuiet_issue w v s 2 _)
theorem vfabs64_issues : IssuesWith v.tok (.vfabs64 w v) s := .of_next rfl (vFpQuiet_issue w v s 1 _)
theorem vfneg64_issues : IssuesWith v.tok (.vfneg64 w v) s := .of_next rfl (vFpQuiet_issue w v s 1 _)
theorem bmv_issues : IssuesWith e.tok (.bmv x e) s := .of_next rfl (product_issue e s 0)
theorem bmvc_issues : IssuesWith e.tok (.bmvc x e) s := .of_next rfl (product_issue e s 1)
theorem bvm_issues : IssuesWith e.tok (.bvm x e) s := .of_next rfl (product_issue e s 2)
theorem browcp_issues : IssuesWith e.tok (.browcp x e) s := .of_next rfl (unitCopy_issue e s 0)
theorem browz_issues : IssuesWith e.tok (.browz x e) s := .of_next rfl (unitCopy_issue e s 1)
theorem bbufcp_issues : IssuesWith e.tok (.bbufcp x e) s := .of_next rfl (unitCopy_issue e s 2)
end

theorem vectorForms_issue (w : FV) (v : VW) (m : MW) (l : BitVec 32) (s : State) :
    ∀ i ∈ (vectorForms1.map fun f => f w v) ++ (vectorForms2.map fun f => f w v) ++ vectorForms3 w v m l, IssuesWith v.tok i s := by
  simp only [vectorForms1, vectorForms2, vectorForms3, List.map_cons, List.map_nil, List.cons_append, List.nil_append, List.forall_mem_cons,
    List.not_mem_nil, false_imp_iff, implies_true, and_true, true_and,
    vcmp64_issues, vfcmp64_issues, vaddmin_issues, vaddmax_issues, vfmin64_issues, vfmax64_issues, vfabs64_issues, vfneg64_issues]
  repeat' apply And.intro
  all_goals exact ⟨_, rfl⟩
theorem engineForms_issue (w : FA) (a : FE) (b : FB) (c : FC) (l : BitVec 32) (e : EW) (s : State) :
    ∀ i ∈ matrixForms a b c l e ++ copyForms w a e ++ bankForms w a e, IssuesWith e.tok i s := by
  simp only [matrixForms, copyForms, bankForms, List.cons_append, List.nil_append, List.forall_mem_cons, List.not_mem_nil, false_imp_iff,
    implies_true, and_true, true_and, bmv_issues, bmvc_issues, bvm_issues, browcp_issues, browz_issues, bbufcp_issues]
  repeat' apply And.intro
  all_goals exact ⟨_, rfl⟩

end Sys2Proof.Machine
namespace Sys2Proof.Proofs
open Sys2Proof.Machine

/-- Settles O30: every form issues through `State.issue`, which alone says what its head does. -/
theorem queueHeads : Obligations.QueueHeads := by
  unfold Obligations.QueueHeads
  exact ⟨fun w v m l s i hi => (vectorForms_issue w v m l s i hi).head, fun w a b c l e s i hi => (engineForms_issue w a b c l e s i hi).head⟩

end Sys2Proof.Proofs
end

section
/-! Results and landings that fall due (02 R62, R63; 03 R90; 05 R150 to R154). -/

namespace Sys2Proof.Machine
open Sys2Proof.Claims

/-! ### The first due -/

theorem firstPend_eq_none {l : List Pend} (h : firstPend l = none) : l = [] := by
  cases l with
  | nil => rfl
  | cons x r => rw [firstPend] at h; grind
theorem Pend.before_iff {a b : Pend} : a.before b = true ↔ a.rank < b.rank ∨ a.rank = b.rank ∧ a.seq < b.seq := by simp [Pend.before]
/-- The first of a list of writes has the lowest rank, and among those the earliest place in program order. -/
theorem firstPend_spec {l : List Pend} {p : Pend} (h : firstPend l = some p) :
    p ∈ l ∧ ∀ q ∈ l, p.rank < q.rank ∨ (p.rank = q.rank ∧ p.seq ≤ q.seq) := by
  induction l generalizing p with
  | nil => cases h
  | cons x r ih =>
    rw [firstPend] at h
    cases hr : firstPend r with
    | none =>
      rw [firstPend_eq_none hr] at h ⊢
      cases h
      simp
    | some q =>
      obtain ⟨hq, hle⟩ := ih hr
      simp only [hr, Pend.before_iff] at h
      split at h <;> cases h <;> grind
theorem firstLand_mem {l : List Land} {x : Land} (h : firstLand l = some x) : x ∈ l := by
  induction l generalizing x with
  | nil => cases h
  | cons y r ih => rw [firstLand] at h; grind

theorem Core.duePend_spec {c : Core} {p : Pend} (h : c.duePend = some p) :
    p ∈ c.pend ∧ p.hand = c.trap.active ∧ p.due ≤ c.now
    ∧ ∀ q ∈ c.pend, q.hand = c.trap.active → q.due ≤ c.now → p.rank < q.rank ∨ (p.rank = q.rank ∧ p.seq ≤ q.seq) := by
  obtain ⟨hm, hle⟩ := firstPend_spec h
  simp only [List.mem_filter, Core.pendDue, Bool.and_eq_true, beq_iff_eq, decide_eq_true_eq] at hm hle
  obtain ⟨hp, hh, hd⟩ := hm
  exact ⟨hp, hh, hd, fun q hq h1 h2 => hle q ⟨hq, h1, h2⟩⟩
theorem State.dueLand_spec {s : State} {l : Land} (h : s.dueLand = some l) :
    l.hand = s.core.trap.active ∧ l.due ≤ s.core.now ∧ l ∈ s.core.lands := by
  have hm := firstLand_mem h
  simp only [List.mem_filter, Core.landDue, Bool.and_eq_true, beq_iff_eq, decide_eq_true_eq] at hm
  obtain ⟨hl, ⟨hh, hd⟩, -⟩ := hm
  exact ⟨hh, hd, hl⟩

/-! ### RESULT_WRITE -/

/-- What no write of a register, a landing's or a due one's, touches of the core. -/
structure Core.WriteFrame (c d : Core) : Prop where
  pend : d.pend = c.pend
  lands : d.lands = c.lands

theorem Core.setCluster_frame (c : Core) (y : Bool) (v : Cluster) : c.WriteFrame (c.setCluster y v) := by
  cases y <;> exact ⟨rfl, rfl⟩
theorem Core.setSys_frame (c : Core) (n : Nat) (v : Word) : c.WriteFrame (c.setSys n v) := by
  fun_cases Core.setSys c n v <;> exact ⟨rfl, rfl⟩
theorem Core.apply_frame (c : Core) (w : Wr) : c.WriteFrame (c.apply w) := by
  cases w
  case reg | mask | tile | vbase => exact c.setCluster_frame _ _
  case sys n v => exact c.setSys_frame n v
  all_goals exact ⟨rfl, rfl⟩
/-- A due write changes no memory, and no other write or landing. -/
theorem State.applyWr_frame (s : State) (w : Wr) : (s.applyWr w).mem = s.mem ∧ s.core.WriteFrame (s.applyWr w).core := by
  fun_cases State.applyWr s w
  case case1 n v =>
    fun_cases State.applySys s n v
    case case4 => exact ⟨rfl, s.core.setSys_frame n v⟩
    all_goals exact ⟨rfl, rfl, rfl⟩
  case case2 => exact ⟨rfl, s.core.apply_frame w⟩

/-- A write of a register ends the link of a CALLI that has landed there (04 R125). -/
theorem Core.setS_eq_putS (c : Core) (r : Nat) (v : Word) : c.setS r v = putS c r v false := by
  have note : (fun a : Arrive => if a.landed = true ∧ a.link.map (·.1) = some r then { a with link := none } else a)
      = fun a => if a.link.map (·.1) = some r then (if a.landed then { a with link := none } else a) else a := by
    funext a; split_ifs <;> simp_all
  simp only [Core.setS, Pc.unlink, note]; rfl

theorem exec_resultWrite_of_due {s : State} {p : Pend} (h : s.core.duePend = some p) :
    exec .resultWrite s = .next ((withCore s (less s.core p)).applyWr p.wr) := by
  change execResultWrite s = _
  rw [execResultWrite, h]; rfl
theorem State.applyWr_of_scalarAfter {s : State} {w : Wr} {x : Scalar} (h : scalarAfter s.core.sc w = some x) :
    s.applyWr w = withCore s (withScalar s.core x) := by
  cases w <;> cases h <;> rfl

/-! ### LANDING -/

theorem leNat_lt (bs : List Byte) : leNat bs < 2 ^ (8 * bs.length) := by
  induction bs with
  | nil => simp [leNat]
  | cons b r ih =>
    have := b.isLt
    rw [leNat, List.length_cons, Nat.mul_add, Nat.pow_add]
    omega
/-- An unsigned load of `size` bytes leaves their number. -/
theorem loadedWord_unsigned (bs : List Byte) (size : Nat) : loadedWord bs size false = BitVec.ofNat 64 (leNat (bs.take size)) := by
  have h : leNat (bs.take size) < 2 ^ (8 * size) :=
    (leNat_lt _).trans_le (Nat.pow_le_pow_right (by decide) (by simp))
  apply BitVec.eq_of_toNat_eq
  simp [loadedWord, Nat.mod_eq_of_lt h]

theorem exec_landing_of_due {s : State} {l : Land} (h : s.dueLand = some l) : exec .landing s = .next (s.land l) := by
  change execLanding s = _
  rw [execLanding, h]
/-- Sound data that its destination takes is written (05 R150). -/
theorem State.land_of_data {s : State} {l : Land} {bs : List Byte} (hf : l.fault = none) (hd : l.data = some (bs, false)) (hb : l.dest.bad bs = none) :
    s.land l = withCore s ((landed s.core l).landWrite l bs) := by
  simp only [State.land, hf, hd, hb]; rfl
theorem Core.landWrite_s {c : Core} {l : Land} {r size : Nat} {sign : Bool} (h : l.dest = .s r size sign) (bs : List Byte) :
    c.landWrite l bs = if r = 0 then c else putS c r (loadedWord bs size sign) false := by
  have : (if sign then (BitVec.ofNat (8 * size) (leNat (bs.take size))).signExtend 64 else BitVec.ofNat 64 (leNat (bs.take size)) : Word)
      = loadedWord bs size sign := by
    cases sign
    · exact (loadedWord_unsigned bs size).symm
    · rfl
  simp only [Core.landWrite, h, this, Core.setS_eq_putS]
theorem Core.landWrite_v {c : Core} {l : Land} {y : Bool} {cs : List (Nat × Byte)} (h : l.dest = .v y cs) (bs : List Byte) :
    c.landWrite l bs = c.setCluster y ((c.cluster y).put ((cs.zip bs).map fun x => { at_ := x.1.1, mask := x.1.2, val := x.2, blot := false })) := by
  simp only [Core.landWrite, h, List.zip, List.map_zipWith]

end Sys2Proof.Machine

namespace Sys2Proof.Proofs
open Sys2Proof.Machine Sys2Proof.Claims

/-- Settles O38: the due write and the due landing, destination by destination. -/
theorem dueResults : Obligations.DueResults := by
  unfold Obligations.DueResults
  refine ⟨fun s p h => ?write, fun s l h => ?land⟩
  case write =>
    obtain ⟨hp, hh, hd, hle⟩ := Core.duePend_spec h
    have f := (withCore s (less s.core p)).applyWr_frame p.wr
    rw [exec_resultWrite_of_due h]
    refine ⟨hp, hh, hd, hle, fun r v hw => ?scalar, fun r v hw => ?link, fun x hx => ?other, fun y bs hw => ?reg, _, rfl, f.1, f.2.pend, f.2.lands⟩
    case scalar => rw [hw, ← Core.setS_eq_putS]; rfl
    case link => rw [hw]; rfl
    case other => rw [State.applyWr_of_scalarAfter (s := withCore s (less s.core p)) hx]; rfl
    case reg => rw [hw]; cases y <;> rfl
  case land =>
    obtain ⟨hh, hd, hl⟩ := State.dueLand_spec h
    rw [exec_landing_of_due h]
    refine ⟨⟨hh, hd, hl⟩, fun bs r size sign hf hb hs hr _ => ?scalar, fun bs size sign hf hb hs => ?s0, fun bs y cs hf hb hv _ => ?vector,
      fun t hf ha => ?fault, fun bs hf hb ha => ?blot⟩
    case scalar => rw [State.land_of_data hf hb (by rw [hs]; rfl), Core.landWrite_s hs, if_neg (by omega)]
    case s0 => rw [State.land_of_data hf hb (by rw [hs]; rfl), Core.landWrite_s hs, if_pos rfl]
    case vector => rw [State.land_of_data hf hb (by rw [hv]; rfl), Core.landWrite_v hv]; cases y <;> rfl
    case fault => 
      simp only [State.land, hf]
      exact congrArg _ (Laws.record_gives _ _ ha)
    case blot =>
      refine ⟨{ cause := 0x09, stream := l.stream, slot := l.slot, pc := l.pc, i0 := (l.addr >>> 6) <<< 6, late := true, op := l.seq }, rfl, rfl, rfl, rfl, rfl, rfl, ?_⟩
      simp only [State.land, hf, hb, if_true]
      exact congrArg _ (Laws.record_gives _ _ ha)

end Sys2Proof.Proofs
end

section
/-! From the bytes at the program counter to the meaning that runs (02 R34 to R44, R61; 04 R135; 14 R417). -/

namespace Sys2Proof.Machine
open Sys2Proof.Claims

/-! ### The meaning of words is the meaning of what they decode to -/

/-- Running the words of a space, as `runWords` picks it. -/
def runIn : Space → Nat → Nat → SlotWord → SlotWord → SlotWord → State → Result
  | .s => runS
  | .v => runV
  | .m => runM
  | .c => runC
  | .b => runB

theorem exec_ite (c : Prop) [Decidable c] (x y : Instr) (s : State) :
    exec (if c then x else y) s = if c then exec x s else exec y s :=
  apply_ite (exec · s) c x y

theorem exec_buildS {st l o : Nat} {a b c : SlotWord} (h : defectS st l o a b c = none) (s : State) :
    exec (buildS l o a b c) s = runS l o a b c s := by
  revert h
  fun_cases defectS st l o a b c <;> intro h
  case case134 => cases h
  case case47 => simp only [buildS_movl, rowMovl, ← imm_low, exec_ite]; rfl
  case case61 => simp only [buildS_movp, rowMovp, exec_ite]; rfl
  case case117 => simp only [buildS_pst, rowPst, exec_ite]; rfl
  case case127 => simp only [buildS_rft, rowRft, ← misc_low, exec_ite]; rfl
  case case130 => simp only [buildS_llcop, rowLlcop, exec_ite]; rfl
  case case132 => simp only [buildS_chipop, rowChipop, exec_ite]; rfl
  all_goals rfl

theorem exec_buildV {st l o : Nat} {a b c : SlotWord} (h : defectV st l o a b c = none) (s : State) :
    exec (buildV l o a b c) s = runV l o a b c s := by
  revert h
  fun_cases defectV st l o a b c <;> intro h
  case case61 => cases h
  case case81 => cases h
  all_goals
    simp only [sized_eq_none, sized2_eq_none] at h
    obtain ⟨rfl, -⟩ | ⟨rfl, -⟩ := h
  all_goals rfl

theorem exec_buildM {st l o : Nat} {a b c : SlotWord} (h : defectM st l o a b c = none) (s : State) :
    exec (buildM l o a b c) s = runM l o a b c s := by
  revert h
  fun_cases defectM st l o a b c <;> intro h
  case case12 => cases h
  all_goals rfl

theorem exec_buildC {st l o : Nat} {a b c : SlotWord} (h : defectC st l o a b c = none) (s : State) :
    exec (buildC l o a b c) s = runC l o a b c s := by
  revert h
  fun_cases defectC st l o a b c <;> intro h
  case case11 => cases h
  case case5 => simp only [buildC_cpyx, rowCpyx, exec_ite]; rfl
  case case9 => simp only [buildC_cflush, rowCflush, exec_ite]; rfl
  all_goals rfl

theorem exec_buildB {st l o : Nat} {a b c : SlotWord} (h : defectB st l o a b c = none) (s : State) :
    exec (buildB l o a b c) s = runB l o a b c s := by
  revert h
  fun_cases defectB st l o a b c <;> intro h
  case case14 => cases h
  all_goals rfl

theorem exec_buildIn {sp : Space} {st l o : Nat} {a b c : SlotWord} (h : defectIn sp st l o a b c = none) (s : State) :
    exec (buildIn sp l o a b c) s = runIn sp l o a b c s := by
  cases sp
  case s => exact exec_buildS (st := st) (c := c) h s
  case v => exact exec_buildV (st := st) (c := c) h s
  case m => exact exec_buildM (st := st) (c := c) h s
  case c => exact exec_buildC (st := st) (c := c) h s
  case b => exact exec_buildB (st := st) (c := c) h s

/-- What decodes runs as its words do. -/
theorem runWords_of_decode {st : Nat} {ws : List SlotWord} {i : Instr} (h : decode st ws = .ok i) (s : State) :
    runWords st ws s = exec i s := by
  obtain ⟨sp, hs, hd, rfl⟩ := decode_eq_ok.1 h
  obtain ⟨-, sp', hs', hd'⟩ := defect_eq_none.1 hd
  obtain rfl : sp = sp' := Option.some.inj (hs.symm.trans hs')
  rw [exec_buildIn hd']
  unfold runWords
  simp only [hd, hs]
  cases sp <;> rfl

/-! ### A folio that holds one instruction alone -/

/-- A stream that has an instruction is one of six. -/
theorem stream_lt_of_wf {st : Nat} {i : Instr} (h : WellFormed st i) : st < 6 := by
  obtain ⟨⟨sp, -, hs⟩, -⟩ := Instr.wf_iff.1 h
  have spaceOf_none : ∀ k, spaceOf (k + 6) = none := fun _ => rfl
  by_contra hn
  rw [show st = st - 6 + 6 by omega, spaceOf_none] at hs
  cases hs

/-- The words of a well-formed instruction are as many as its length field says, one to three. -/
theorem encode_length_of_wf {st : Nat} {i : Instr} (h : WellFormed st i) :
    (encode i).length = lenOf ((encode i).headD 0) ∧ 1 ≤ (encode i).length ∧ (encode i).length < 4 := by
  have hw := congrArg List.length (wf_of_decode (decode_encode h)).2
  have hl := (defect_eq_none.1 (Instr.wf_iff.1 h).2.2).1
  have h4 : lenOf ((encode i).headD 0) < 4 := BitVec.isLt _
  simp only [List.length_take, List.length_cons, List.length_nil] at hw
  omega

theorem oneRubric_top : ∀ st : Fin 6, ∀ n : Fin 4, (oneRubric st n).toNat / 2 ^ 29 = 0 := by decide

theorem oneRubric_stream : ∀ st : Fin 6, ∀ n : Fin 4, ∀ k : Fin 3, k.val < n.val →
    (oneRubric st n).toNat / 2 ^ (4 * k.val) % 8 = st := by decide

theorem oneRubric_stop : ∀ st : Fin 6, ∀ n : Fin 4, ∀ k : Fin 3, (oneRubric st n).getLsbD (4 * k.val + 3) = (k.val == 0) := by decide

/-- A word is the number of its four little-endian bytes (02 R34). -/
theorem leNat_natLe (n v : Nat) : leNat (natLe n v) = v % 256 ^ n := by
  induction n generalizing v with
  | zero => simp [natLe, leNat, Nat.mod_one]
  | succ n ih =>
    rw [natLe, leNat, ih, BitVec.toNat_ofNat, (Nat.pow_succ' : 256 ^ (n + 1) = 256 * 256 ^ n), Nat.mod_mul]

theorem natLe_length (n v : Nat) : (natLe n v).length = n := by
  induction n generalizing v with
  | zero => rfl
  | succ n ih => rw [natLe, List.length_cons, ih]

theorem ofNat_leNat_word (w : SlotWord) : BitVec.ofNat 32 (leNat (natLe 4 w.toNat)) = w := by
  rw [leNat_natLe, Nat.mod_eq_of_lt (show w.toNat < 256 ^ 4 from w.isLt), BitVec.ofNat_toNat, BitVec.setWidth_eq]

/-- Bytes that begin with those of some words read as those words. -/
theorem wordsOf_eq {ws : List SlotWord} {bs : List Byte} (h : bs.take (4 * ws.length) = ws.flatMap fun w => natLe 4 w.toNat) :
    wordsOf bs ws.length = ws := by
  induction ws generalizing bs with
  | nil => rfl
  | cons w ws ih =>
    rw [List.length_cons, show 4 * (ws.length + 1) = 4 + 4 * ws.length by omega, List.take_add, List.flatMap_cons] at h
    have hlen : (bs.take 4).length = (natLe 4 w.toNat).length := by
      have := congrArg List.length h
      simp only [List.length_append, List.length_take, List.length_drop, natLe_length, List.length_flatMap, List.map_const', List.sum_replicate, smul_eq_mul] at this ⊢
      omega
    obtain ⟨hw, hr⟩ := List.append_inj h hlen
    rw [List.length_cons, wordsOf, hw, ofNat_leNat_word, ih hr]

theorem aloneWords_length {st : Nat} {i : Instr} (h : WellFormed st i) : (aloneWords st (encode i)).length = 8 := by
  obtain ⟨-, -, h4⟩ := encode_length_of_wf h
  simp only [aloneWords, List.length_append, List.length_cons, List.length_replicate]
  omega

/-- A folio's words are those of the 32 bytes at its place in its block. -/
theorem folioAt_of_oneFolio {c : Core} {folio : Word} {b : IBlock} {st : Nat} {i : Instr} (hc : canonical folio = true)
    (hb : c.block folio.toNat = some b) (h : WellFormed st i)
    (hd : (b.data.drop (folio.toNat % 256)).take 32 = oneFolio st (encode i)) :
    c.folioAt folio = .words (aloneWords st (encode i)) := by
  have hw := wordsOf_eq (ws := aloneWords st (encode i)) (bs := b.data.drop (folio.toNat % 256)) (by rw [aloneWords_length h]; exact hd)
  rw [aloneWords_length h] at hw
  simp only [Core.folioAt, hc, hb, hw, Bool.not_true, Bool.false_eq_true, if_false]

/-! ### The slots of that folio -/

theorem slotWord_aloneWords (st : Nat) (ws : List SlotWord) (k : Nat) : slotWord (aloneWords st ws) (1 + k) = ws.getD k 0 := by
  rw [slotWord, aloneWords, Nat.add_comm, List.cons_append, List.getD_cons_succ]
  simp only [List.getD_eq_getElem?_getD, List.getElem?_append, List.getElem?_replicate]
  split
  · rfl
  · rw [List.getElem?_eq_none (by omega)]; split <;> rfl

theorem slotWord_lead (st : Nat) (ws : List SlotWord) : slotWord (aloneWords st ws) 1 = ws.headD 0 := by
  rw [show 1 = 1 + 0 from rfl, slotWord_aloneWords]
  cases ws <;> rfl

section
variable {st : Nat} {i : Instr} (h : WellFormed st i)
include h

theorem aloneWords_top : (rubric (aloneWords st (encode i))).toNat / 2 ^ 29 = 0 :=
  oneRubric_top ⟨st, stream_lt_of_wf h⟩ ⟨_, (encode_length_of_wf h).2.2⟩

/-- The instruction's slots are of its stream. -/
theorem streamOf_aloneWords {k : Nat} (hk : k < (encode i).length) : streamOf (aloneWords st (encode i)) (1 + k) = st := by
  obtain ⟨-, -, h4⟩ := encode_length_of_wf h
  rw [streamOf, Nat.add_sub_cancel_left]
  exact oneRubric_stream ⟨st, stream_lt_of_wf h⟩ ⟨_, h4⟩ ⟨k, by omega⟩ hk

/-- Its lead slot alone ends the group. -/
theorem stopOf_aloneWords {k : Nat} (hk : k < 3) : stopOf (aloneWords st (encode i)) (1 + k) = (k == 0) := by
  obtain ⟨-, -, h4⟩ := encode_length_of_wf h
  rw [stopOf, Nat.add_sub_cancel_left]
  exact oneRubric_stop ⟨st, stream_lt_of_wf h⟩ ⟨_, h4⟩ ⟨k, hk⟩

theorem slotDefect_aloneWords : slotDefect (aloneWords st (encode i)) 1 [] {} false = none := by
  obtain ⟨hl, h1, h4⟩ := encode_length_of_wf h
  have hst : streamOf (aloneWords st (encode i)) 1 = st := streamOf_aloneWords h (k := 0) h1
  have hd := (Instr.wf_iff.1 h).2.2
  have hk : ∀ k ∈ [1, 2], ¬ (decide (k < (encode i).length) &&
      (streamOf (aloneWords st (encode i)) (1 + k) != st || stopOf (aloneWords st (encode i)) (1 + k))) = true := by
    intro k hk
    have h12 : k ≠ 0 ∧ k < 3 := by simp at hk; omega
    simp only [Bool.and_eq_true, decide_eq_true_eq, Bool.or_eq_true, not_and, stopOf_aloneWords h h12.2]
    intro hlt
    simp [streamOf_aloneWords h hlt, h12.1]
  have hclash : ∀ w w1 w2, Uses.clashAt {} st w w1 w2 = none := by
    intro w w1 w2
    simp [Uses.clashAt, Uses.clash]
  have hroom : ([] : List GSlot).length < if st = 0 then 2 else 1 := by split <;> decide
  simp only [slotDefect, slotWord_lead, slotWord_aloneWords _ _ 1, slotWord_aloneWords _ _ 2, hst, hd, ← hl, hclash, List.find?_eq_none.2 hk]
  rw [if_neg (by omega), List.filter_nil, if_pos hroom]
  rfl

/-- The slots of the folio close the instruction's group behind its words. -/
theorem folioPart_aloneWords (folio : Word) :
    folioPart folio (aloneWords st (encode i)) 8 1 [] {} false = .closed [aloneSlot folio st (encode i)] (1 + (encode i).length) := by
  obtain ⟨hl, h1, -⟩ := encode_length_of_wf h
  have hst : streamOf (aloneWords st (encode i)) 1 = st := streamOf_aloneWords h (k := 0) h1
  have hstop : stopOf (aloneWords st (encode i)) 1 = true := stopOf_aloneWords h (k := 0) (by decide)
  have h7 : st ≠ 7 := by have := stream_lt_of_wf h; omega
  have hw := (wf_of_decode (decode_encode h)).2
  rw [← hl] at hw
  rw [folioPart, if_neg (by decide)]
  simp only [hst, h7, if_false, slotDefect_aloneWords h, hstop, if_true, slotWord_lead, slotWord_aloneWords _ _ 1, slotWord_aloneWords _ _ 2, ← hl]
  rw [← hw]
  rfl

/-- A folio that holds one instruction assembles to that instruction's group. -/
theorem assemble_aloneWords {c : Core} {folio : Word} (hf : c.folioAt folio = .words (aloneWords st (encode i))) :
    c.assemble 1032 folio 1 true [] {} false = .group (aloneGroup folio st (encode i)) := by
  obtain ⟨-, -, h4⟩ := encode_length_of_wf h
  rw [Core.assemble]
  simp only [hf, Bool.not_true, Bool.false_and, Bool.false_eq_true, if_false, aloneWords_top h, ne_eq, not_true_eq_false, folioPart_aloneWords h]
  rw [if_pos (by omega)]
  rfl
end

/-! ### GROUP_DISPATCH of that group -/

section
variable {s : State} {x : Strand} {i : Instr}

theorem runWords_encode {st : Nat} (h : WellFormed st i) (s : State) : runWords st (encode i) s = exec i s :=
  runWords_of_decode (decode_encode h) s

theorem execGroupDispatch_of_standsAt {st : Nat} (h : standsAt s x st i) : exec .groupDispatch s = s.dispatch (groupHere s st (encode i)) := by
  obtain ⟨hx, he, hg, hslot, hw, hf⟩ := h
  have hd : s.dispatchHere = s.dispatch (groupHere s st (encode i)) := by
    simp only [State.dispatchHere, hg, hslot, assemble_aloneWords hw hf]
    rfl
  rw [← hd]
  change execGroupDispatch s = _
  simp only [execGroupDispatch, hx, he, Option.isNone_some, Bool.false_eq_true, if_false]

/-- An S instruction alone in its group runs by itself as it does at its place, and behind the group with the pc past it. -/
theorem runS1_groupHere (h : WellFormed 0 i) :
    s.runS1 (aloneSlot s.core.pc.folio 0 (encode i)) 0 (groupHere s 0 (encode i)) = exec i (facing s (encode i)) :=
  runWords_encode h _

theorem runS1_advance_groupHere (h : WellFormed 0 i) :
    (s.mapCore fun c => c.advance (groupHere s 0 (encode i))).runS1 (aloneSlot s.core.pc.folio 0 (encode i)) 0 (groupHere s 0 (encode i))
      = exec i (facing (past s (encode i)) (encode i)) :=
  runWords_encode h _

/-- What the run of such a group comes to. -/
theorem steps_groupHere (h : WellFormed 0 i) {o t : State} (ho : exec i (facing s (encode i)) = .next o)
    (ht : exec i (facing (past s (encode i)) (encode i)) = .next t) :
    SRun.steps (groupHere s 0 (encode i)) [(aloneSlot s.core.pc.folio 0 (encode i), 0)]
        { all := s.mapCore fun c => c.advance (groupHere s 0 (encode i)), own := s }
      = .next (match t.core.out with
        | .done => { all := t, own := s }
        | .hold => { all := s.mapCore fun c => c.advance (groupHere s 0 (encode i)), own := if o.core.out = .done then s else o, held := [opcOf ((encode i).headD 0)] }
        | .trap f => { all := s.mapCore fun c => c.advance (groupHere s 0 (encode i)), own := if o.core.out = .done then s else o, traps := [f] }) := by
  simp only [SRun.steps, SRun.step, runS1_groupHere h, runS1_advance_groupHere h, ho, ht]
  cases t.core.out <;> rfl

theorem scalarSlots_groupHere (s : State) (ws : List SlotWord) :
    (groupHere s 0 ws).slots.zipIdx.filter (fun x => x.1.stream == 0) = [(aloneSlot s.core.pc.folio 0 ws, 0)] := rfl

theorem engineSlots_groupHere_scalar (s : State) (ws : List SlotWord) : (groupHere s 0 ws).slots.zipIdx.filter (fun x => x.1.stream != 0) = [] := rfl

/-- An S instruction that does its work takes its place in program order, unless the strand left the core; one that waits is held as its group,
and one that faults records its fault. -/
theorem groupDispatch_scalar {o t : State} (h : standsAt s x 0 i) (ho : exec i (facing s (encode i)) = .next o)
    (ht : exec i (facing (past s (encode i)) (encode i)) = .next t) :
    let u := if o.core.out = .done then s else o
    exec .groupDispatch s = .next (match t.core.out with
      | .done => match t.core.strand with
        | some y => (dispatched t y).prefetch (groupHere s 0 (encode i))
        | none => t
      | .hold => (withCore u (({ u.core with group := some (groupHere s 0 (encode i)) } : Core).countWait [opcOf ((encode i).headD 0)])).stalled
      | .trap f => withCore u (({ u.core with group := none } : Core).record f)) := by
  rw [execGroupDispatch_of_standsAt h]
  obtain ⟨-, -, -, -, hw, -⟩ := h
  simp only [State.dispatch, scalarSlots_groupHere, engineSlots_groupHere_scalar, steps_groupHere hw ho ht, List.isEmpty_nil, Bool.not_true,
    Bool.and_false, Bool.false_eq_true, if_false, List.any_nil]
  cases t.core.out with
  | done =>
    cases hy : t.core.strand with
    | none => simp only [List.isEmpty_nil, Bool.not_true, Bool.false_eq_true, if_false, Option.isNone_none, if_true]
    | some y =>
      simp only [hy, List.isEmpty_nil, Bool.not_true, Bool.false_eq_true, if_false, Option.isNone_some, dispatched, State.mapCore]
      rfl
  | hold => rfl
  | trap f => rfl

theorem scalarSlots_groupHere_engine {st : Nat} (h : st ≠ 0) (s : State) (ws : List SlotWord) :
    (groupHere s st ws).slots.zipIdx.filter (fun x => x.1.stream == 0) = [] := by
  simp [groupHere, aloneGroup, aloneSlot, h]

theorem engineSlots_groupHere {st : Nat} (h : st ≠ 0) (s : State) (ws : List SlotWord) :
    (groupHere s st ws).slots.zipIdx.filter (fun x => x.1.stream != 0) = [(aloneSlot s.core.pc.folio st ws, 0)] := by
  simp [groupHere, aloneGroup, aloneSlot, h]

/-- An engine instruction joins its queue with its captured operands. -/
theorem groupDispatch_engine {st : Nat} (h : standsAt s x st i) (hst : st ≠ 0) (htr : s.core.trap.active = false)
    (hq : (s.core.queues.get st).length < 16) :
    exec .groupDispatch s = .next ((enqueued s x st (encode i)).prefetch (groupHere s st (encode i))) := by
  have hroom : decide (16 ≤ (s.core.queues.get (aloneSlot s.core.pc.folio st (encode i)).stream).length) = false :=
    decide_eq_false (Nat.not_le.2 hq)
  rw [execGroupDispatch_of_standsAt h]
  obtain ⟨hx, -⟩ := h
  simp only [State.dispatch, scalarSlots_groupHere_engine hst, engineSlots_groupHere hst, SRun.steps, htr, List.any_cons, List.any_nil, hroom,
    Bool.false_and, Bool.or_false, Bool.false_eq_true, if_false, List.isEmpty_nil, Bool.not_true]
  rw [if_neg (by simp [State.mapCore, Core.advance, hx])]
  simp only [enqueued, dispatched, State.mapCore, Core.advance, hx]
  rfl

/-! ### The head of a queue -/

variable {st : Nat} {q : QEnt} {r : List QEnt} {t : State}

theorem issueHead_eq (hq : s.core.queues.get st = q :: r) (h : WellFormed st i) (hw : q.words = encode i) (ht : exec i (atHead s st q) = .next t) :
    s.issueHead st = match t.core.out with
      | .done => .next (dequeued t st)
      | .hold => .next t
      | .trap f => .next (if st = 5 then (t.record f).faultJoins t.id true else t.record f) := by
  have hr : runWords st q.words (s.mapCore fun c => { c with cur := q.cur st, out := .done, flow := { c.flow with issued := c.flow.issued ++ [st] } }) = .next t := by
    rw [hw, runWords_encode h]
    exact ht
  simp only [State.issueHead, hq, hr]
  rfl
end
end Sys2Proof.Machine

namespace Sys2Proof.Proofs
open Sys2Proof.Machine

/-- Settles O54: the words of a well-formed instruction run as the instruction (`runWords_encode`), and each place that runs words hands over the
right ones: the folio, the group, the dispatch and the head of a queue. -/
theorem stepRunsDecodedInstruction : Obligations.StepRunsDecodedInstruction := by
  unfold Obligations.StepRunsDecodedInstruction
  refine ⟨?event, ?issue, ?folio, ?group, ?scalar, ?engine, ?head⟩
  case event => intro s u i h; rw [step, h]; rfl
  case issue => intro s u st h; rw [step, h]; rfl
  case folio => exact fun c folio b st i hc hb h hd => folioAt_of_oneFolio hc hb h hd
  case group => exact fun c folio st i h hf => assemble_aloneWords h hf
  case scalar =>
    intro s x i h ws g o t ho ht u
    have hg := groupDispatch_scalar h ho ht
    refine ⟨fun y hd hy => ?done, fun hd hn => ?left, fun hh => ?hold, fun f hf => ?trap⟩
    case done => rw [hg, hd, hy]
    case left => rw [hg, hd, hn]
    case hold => rw [hg, hh]
    case trap => rw [hg, hf]
  case engine => exact fun s x st i h hst htr hq => groupDispatch_engine h hst htr hq
  case head =>
    intro s st q r i t hq h hw ht
    rw [issueHead_eq hq h hw ht]
    refine ⟨fun hd => ?done, fun hh => ?hold, fun f hf h5 => ?trap⟩
    case done => rw [hd]
    case hold => rw [hh]
    case trap => rw [hf]; exact congrArg _ (if_neg h5)
end Sys2Proof.Proofs
end

section
/-! Reductions and scans: the nodes and their identities, trees and scans over any operation, VRED and VSCAN (03 R83, R100, R101;
07 R211 to R214). -/

namespace Sys2Proof.Machine
open Sys2Proof.Claims

/-! ### Values of an integer type -/

theorem intOf_width_pos {t n : Nat} {sg : Bool} (h : intOf t = some (n, sg)) : 0 < n := by
  unfold intOf at h; split at h <;> cases h <;> decide

theorem val_injective {n : Nat} {sg : Bool} {a b : BitVec n} (h : val sg a = val sg b) : a = b := by
  have := congrArg (intBits n) h
  rw [Laws.intBits_val, Laws.intBits_val] at this
  exact BitVec.eq_of_toNat_eq this

/-- The largest and the smallest value of an integer type. -/
def largest (n : Nat) (sg : Bool) : BitVec n := if sg then BitVec.intMax n else BitVec.allOnes n
def smallest (n : Nat) (sg : Bool) : BitVec n := if sg then BitVec.intMin n else 0#n

section
variable {n : Nat} (sg : Bool) (a : BitVec n)

theorem intVal_toNat (hn : 0 < n) : intVal n sg a.toNat = val sg a := by
  have hp := Nat.two_pow_pred_mul_two hn
  cases sg with
  | false => simp [intVal, val]
  | true =>
    simp only [intVal, val, BitVec.toInt, Bool.true_and, decide_eq_true_eq, if_true]
    split <;> split <;> omega

theorem val_largest : val sg (largest n sg) = if sg then ((2 ^ (n - 1) : Nat) : Int) - 1 else ((2 ^ n : Nat) : Int) - 1 := by
  have := Nat.two_pow_pos n
  cases sg with
  | false => simp only [val, largest, Bool.false_eq_true, if_false, BitVec.toNat_allOnes]; omega
  | true => simp [val, largest, BitVec.toInt_intMax]

theorem val_smallest (hn : 0 < n) : val sg (smallest n sg) = if sg then -((2 ^ (n - 1) : Nat) : Int) else 0 := by
  cases sg with
  | false => simp [val, smallest]
  | true => simp [val, smallest, BitVec.toInt_intMin_of_pos hn]

theorem val_smallest_le (hn : 0 < n) : val sg (smallest n sg) ≤ val sg a := by
  rw [val_smallest sg hn]
  cases sg with
  | false => simp [val]
  | true => simpa [val] using BitVec.le_toInt a

theorem val_le_largest : val sg a ≤ val sg (largest n sg) := by
  rw [val_largest]
  cases sg with
  | false => have := a.isLt; simp only [val, Bool.false_eq_true, if_false]; omega
  | true => simpa [val] using BitVec.toInt_le (x := a)

/-- A value of the type is encoded as itself, with SAT and without. -/
theorem fit_val (sat : Bool) (hn : 0 < n) : fit n sg sat (val sg a) = a := by
  have hlo := val_smallest_le sg a hn
  have hhi := val_le_largest sg a
  rw [val_smallest sg hn] at hlo
  rw [val_largest] at hhi
  have hc : clampInt n sg (val sg a) = val sg a := by
    simp only [clampInt]
    rw [if_neg (by omega), if_neg (by cases sg <;> simpa using hhi)]
  apply BitVec.eq_of_toNat_eq
  rw [← Laws.fit_toNat, hc, ite_self, Laws.intBits_val]
end

/-! ### Nodes (07 Table 7.3) -/

/-- The identity of an operation on an integer type. -/
def intIdentity (op n : Nat) (sg : Bool) : BitVec n := match op with
  | 1 => largest n sg
  | 2 => smallest n sg
  | 3 => BitVec.allOnes n
  | _ => 0#n

theorem intNode_comm (op n : Nat) (sg sat : Bool) (a b : BitVec n) : intNode op n sg sat a b = intNode op n sg sat b a := by
  have antisymm (h : val sg a ≤ val sg b) (h' : val sg b ≤ val sg a) : a = b := val_injective (le_antisymm h h')
  unfold intNode
  split
  case h_1 => rw [Int.add_comm]
  case h_2 => split <;> split <;> grind
  case h_3 => split <;> split <;> grind
  case h_4 => exact BitVec.and_comm ..
  case h_5 => exact BitVec.or_comm ..
  case h_6 => exact BitVec.xor_comm ..

/-- A node with the identity gives the other operand. -/
theorem intNode_identity {n : Nat} (hn : 0 < n) (op : Nat) (sg sat : Bool) (b : BitVec n) : intNode op n sg sat (intIdentity op n sg) b = b := by
  match op with
  | 0 =>
    have h0 : val sg (0#n) = 0 := by cases sg <;> simp [val]
    simp only [intNode, intIdentity, h0, Int.zero_add, fit_val sg b sat hn]
  | 1 => rw [intNode_comm]; exact if_pos (val_le_largest sg b)
  | 2 => exact if_pos (val_smallest_le sg b hn)
  | 3 => exact BitVec.allOnes_and
  | 4 => exact BitVec.zero_or
  | k + 5 => cases k <;> exact BitVec.zero_xor

section
variable {t n : Nat} {sg : Bool} (hf : fmtOf t = none) (hi : intOf t = some (n, sg))
include hf hi

theorem redIdentity_of_int (op : Nat) : redIdentity op t = (intIdentity op n sg).toNat := by
  have hn := intOf_width_pos hi
  simp only [redIdentity, hf, hi]
  match op with
  | 1 => cases sg <;> simp [intIdentity, largest, BitVec.toNat_intMax]
  | 2 => cases sg <;> simp [intIdentity, smallest, BitVec.toNat_intMin_of_pos hn]
  | 3 => simp [intIdentity]
  | 0 => rfl
  | k + 4 => rfl

theorem redNode_of_int (op rm : Nat) (sat : Bool) (a b : BitVec n) (f g : Fp) :
    redNode op t rm sat (a.toNat, f) (b.toNat, g) = ((intNode op n sg sat a b).toNat, f ||| g) := by
  have hn := intOf_width_pos hi
  simp only [redNode, hf, hi, intVal_toNat _ _ hn, Prod.mk.injEq, and_true]
  match op with
  | 0 => exact Laws.fit_toNat ..
  | 1 => simp only [intNode, min_def]; split <;> exact Laws.intBits_val ..
  | 2 => simp only [intNode, max_def]; split <;> exact Laws.intBits_val ..
  | 3 => exact (BitVec.toNat_and ..).symm
  | 4 => exact (BitVec.toNat_or ..).symm
  | k + 5 => exact (BitVec.toNat_xor ..).symm
end

/-! ### Trees and scans over any operation (03 R100, R101) -/

section
variable {α : Type} (op : α → α → α)

theorem treePairs_length (n : Nat) (l : List α) (h : l.length = 2 * n) : (treePairs op l).length = n := by
  induction n generalizing l with
  | zero => rw [List.length_eq_zero_iff.1 h]; rfl
  | succ n ih =>
    match l, h with
    | a :: b :: r, h => rw [treePairs, List.length_cons, ih r (by simp only [List.length_cons] at h; omega)]

/-- A tree over 2^k elements leaves one. -/
theorem treeFold_singleton (k : Nat) (l : List α) (h : l.length = 2 ^ k) : ∃ r, treeFold op k l = [r] := by
  induction k generalizing l with
  | zero => exact List.length_eq_one_iff.1 h
  | succ k ih => exact ih _ (treePairs_length op _ l (by rw [h, Nat.pow_succ']))

theorem scanPass_length (d : Nat) (l : List α) : (scanPass op d l).length = l.length := by
  simp only [scanPass, List.length_append, List.length_take, List.length_map, List.length_zip, List.length_drop]
  omega

theorem scanFrom_length (k d : Nat) (l : List α) : (scanFrom op k d l).length = l.length := by
  induction k generalizing d l with
  | zero => rfl
  | succ k ih =>
    rw [scanFrom]
    split
    · rfl
    · rw [ih, scanPass_length]

/-- An element below the distance stays. -/
theorem scanPass_getElem?_below {d i : Nat} (h : i < d) (l : List α) : (scanPass op d l)[i]? = l[i]? := by
  rw [scanPass, List.getElem?_append, List.length_take]
  split
  · rw [List.getElem?_take_of_lt h]
  · rw [List.drop_eq_nil_of_le (by omega), List.zip_nil_right, List.map_nil, List.getElem?_nil, List.getElem?_eq_none (by omega)]

/-- An element from the distance on meets the one that far below it. -/
theorem scanPass_getElem?_from {d i : Nat} {l : List α} {x y : α} (hx : l[i]? = some x) (hy : l[i + d]? = some y) :
    (scanPass op d l)[i + d]? = some (op x y) := by
  obtain ⟨hlt, -⟩ := List.getElem?_eq_some_iff.1 hy
  have hxy : (l.zip (l.drop d))[i]? = some (x, y) :=
    List.getElem?_zip_eq_some.2 ⟨hx, by rw [List.getElem?_drop, Nat.add_comm]; exact hy⟩
  rw [scanPass, List.getElem?_append_right (by rw [List.length_take]; omega), List.length_take,
    show i + d - min d l.length = i by omega, List.getElem?_map, hxy, Option.map_some]

theorem scanFrom_getElem?_zero (k : Nat) {d : Nat} (hd : 0 < d) (l : List α) : (scanFrom op k d l)[0]? = l[0]? := by
  induction k generalizing d l with
  | zero => rfl
  | succ k ih =>
    rw [scanFrom]
    split
    · rfl
    · rw [ih (by omega), scanPass_getElem?_below op hd]
end

/-! ### Trees and scans of sums -/

theorem treePairs_sum : ∀ l : List Nat, (treePairs (· + ·) l).sum = l.sum
  | [] => rfl
  | [_] => rfl
  | a :: b :: r => by simp only [treePairs, List.sum_cons, treePairs_sum r, Nat.add_assoc]

theorem treeFold_sum (k : Nat) (l : List Nat) : (treeFold (· + ·) k l).sum = l.sum := by
  induction k generalizing l with
  | zero => rfl
  | succ k ih => rw [treeFold, ih, treePairs_sum]

/-- The tree of additions over 2^k elements is their sum. -/
theorem treeFold_add {k : Nat} {l : List Nat} (h : l.length = 2 ^ k) : treeFold (· + ·) k l = [l.sum] := by
  obtain ⟨r, hr⟩ := treeFold_singleton (· + ·) k l h
  rw [hr, ← treeFold_sum k l, hr, List.sum_singleton]

/-- The sum of the elements of `l` from position `i + 1 - d` to position `i`. -/
def windowSum (l : List Nat) (d i : Nat) : Nat := ((l.take (i + 1)).drop (i + 1 - d)).sum

/-- The window between two positions, cut at a third. -/
theorem drop_take_split {β : Type} (l : List β) {a b m : Nat} (hab : a ≤ b) (hbm : b ≤ m) :
    (l.take m).drop a = (l.take b).drop a ++ (l.take m).drop b := by
  rw [← List.take_append_drop (b - a) ((l.take m).drop a), List.take_drop, List.drop_drop, List.take_take, Nat.add_sub_cancel' hab,
    Nat.min_eq_left hbm]

/-- Two neighbouring windows are one of twice the length. -/
theorem windowSum_add (l : List Nat) (d i : Nat) : windowSum l d i + windowSum l d (i + d) = windowSum l (2 * d) (i + d) := by
  simp only [windowSum]
  rw [show i + d + 1 - 2 * d = i + 1 - d by omega, show i + d + 1 - d = i + 1 by omega,
    drop_take_split l (Nat.sub_le (i + 1) d) (show i + 1 ≤ i + d + 1 by omega), List.sum_append]

theorem windowSum_one {l : List Nat} {i : Nat} (h : i < l.length) : windowSum l 1 i = l[i] := by
  rw [windowSum, Nat.add_sub_cancel, List.take_succ_eq_append_getElem h, List.drop_left' (List.length_take_of_le h.le), List.sum_singleton]

theorem windowSum_full (l : List Nat) {d i : Nat} (h : i < d) : windowSum l d i = (l.take (i + 1)).sum := by
  rw [windowSum, Nat.sub_eq_zero_of_le h, List.drop_zero]

/-- A pass at distance d doubles the windows that are summed. -/
theorem scanPass_add_window (l : List Nat) {v : List Nat} {d : Nat} (hv : ∀ i < l.length, v[i]? = some (windowSum l d i)) :
    ∀ i < l.length, (scanPass (· + ·) d v)[i]? = some (windowSum l (2 * d) i) := by
  intro i hi
  by_cases h : i < d
  · rw [scanPass_getElem?_below _ h, hv i hi, windowSum_full l h, windowSum_full l (by omega)]
  · obtain ⟨j, rfl⟩ := Nat.exists_eq_add_of_le' (Nat.le_of_not_lt h)
    rw [scanPass_getElem?_from _ (hv j (by omega)) (hv (j + d) hi), windowSum_add]

/-- Passes of additions that reach over the whole list leave its prefix sums. -/
theorem scanFrom_add (l : List Nat) {k d : Nat} {v : List Nat} (hl : v.length = l.length) (hk : l.length ≤ d * 2 ^ k)
    (hv : ∀ i < l.length, v[i]? = some (windowSum l d i)) :
    ∀ i < l.length, (scanFrom (· + ·) k d v)[i]? = some (l.take (i + 1)).sum := by
  have stop {d : Nat} {v : List Nat} (h : l.length ≤ d) (hv : ∀ i < l.length, v[i]? = some (windowSum l d i)) :
      ∀ i < l.length, v[i]? = some (l.take (i + 1)).sum := fun i hi => by rw [hv i hi, windowSum_full l (by omega)]
  induction k generalizing d v with
  | zero => exact stop (by omega) hv
  | succ k ih =>
    rw [scanFrom]
    split
    · exact stop (by omega) hv
    · exact ih ((scanPass_length _ d v).trans hl) (by rwa [Nat.pow_succ', Nat.mul_left_comm, ← Nat.mul_assoc] at hk) (scanPass_add_window l hv)

/-! ### VRED and VSCAN -/

theorem redTy_eq (a b : BitVec 4) : redTy a b = if b = 0 ∨ b = a then a.toNat else b.toNat := by simp [redTy]

theorem redVals_eq_reduced (s : State) (w : FV) (v : VW) (t : Nat) : redVals s.cl w v t = reduced s w v t := by
  simp only [redVals, reduced, Laws.elt_toNat, Laws.intVal_elt s w.va _ _ _ (Laws.tyBits_pos _), Laws.intBits_eq]
  rfl

theorem reduced_length (s : State) (w : FV) (v : VW) (t : Nat) : (reduced s w v t).length = 4096 / tyBits w.ty.toNat := by
  simp only [reduced, List.length_map, List.length_range]

theorem Num.isNan_iff (x : Num) : x.isNan = true ↔ x = .nan := by cases x <;> simp [Num.isNan]

theorem canonNan_eq_plainNan (t b : Nat) : canonNan t b = plainNan t b := by
  unfold canonNan plainNan
  cases fmtOf t with
  | none => rfl
  | some f => simp only [Num.isNan_iff]

/-- Of the elements of a list with their positions, the active ones. -/
theorem zipIdx_filter_active {β : Type} (s : State) (v : VW) (n : Nat) (rs : List (Nat × Fp)) (hl : rs.length = n) (f : Nat → Nat → List β) :
    ((rs.zipIdx.filter fun p => vAct s.cl v p.2).flatMap fun p => f p.2 p.1.1) = (active s v n).flatMap fun j => f j (rs.getD j (0, 0)).1 := by
  have hz : rs.zipIdx = (List.range n).map fun j => (rs.getD j (0, 0), j) := by
    subst hl
    refine List.ext_getElem (by simp) fun j hj _ => ?_
    rw [List.length_zipIdx] at hj
    simp [hj]
  rw [hz, List.filter_map, List.flatMap_map]
  rfl

section
variable {w : FV} {v : VW} {s : State} (hg : goes s v (consumer v))
include hg

theorem vRed_eq {t : Nat} (ht : t = redTy w.ty v.ty2) {r : Nat × Fp}
    (hr : treeFold (redNode (w.vb.toNat % 8) t v.rm.toNat (v.sat == 1)) 10 (reduced s w v t) = [r])
    (hu : usable s s.isY (bytesOf s v w.va (tyBits w.ty.toNat) (4096 / tyBits w.ty.toNat)) (elemOffs (s.cl.regOff w.vd.toNat) (tyBits t) 0)) :
    vRed w v s = issued s v (consumer v) 3 1
      ([res s 3 0 (.reg s.isY (elemPut (s.cl.regOff w.vd.toNat) (tyBits t) 0 r.1))] ++ resF s 3 r.2) := by
  subst ht
  refine Laws.issue_vbody (fs := [none]) rfl hg ?_
  simp only [redVals_eq_reduced, isSat, hr, Laws.touch_alone, vN, Laws.regFault_none hu]
  rfl

theorem vScan_eq {rs : List (Nat × Fp)}
    (hr : rs = scanFrom (redNode (w.vb.toNat % 8) w.ty.toNat v.rm.toNat (v.sat == 1)) 10 1 (reduced s w v w.ty.toNat))
    (hu : usable s s.isY (bytesOf s v w.va (tyBits w.ty.toNat) (4096 / tyBits w.ty.toNat))
      (bytesOf s v w.vd (tyBits w.ty.toNat) (4096 / tyBits w.ty.toNat))) :
    vScan w v s = issued s v (consumer v) 3 1
      ([res s 3 0 (.reg s.isY ((active s v (4096 / tyBits w.ty.toNat)).flatMap fun j =>
          elemPut (s.cl.regOff w.vd.toNat) (tyBits w.ty.toNat) j (plainNan w.ty.toNat (rs.getD j (0, 0)).1)))]
        ++ resF s 3 (rs.foldl (fun f p => f ||| p.2) 0)) := by
  have hl : rs.length = 4096 / tyBits w.ty.toNat := by rw [hr, scanFrom_length, reduced_length]
  refine Laws.issue_vbody (fs := [none]) rfl hg ?_
  simp only [redVals_eq_reduced, isSat, ← hr, Laws.touch_alone, vN, Laws.regFault_none hu, canonNan_eq_plainNan,
    zipIdx_filter_active s v _ rs hl fun j x => elemPut (s.cl.regOff w.vd.toNat) (tyBits w.ty.toNat) j (plainNan w.ty.toNat x)]
  rfl
end

/-- Both forms of an instruction run as the 64-bit one. -/
theorem exec_of_mem_both {f32 : FV → Instr} {f64 : FV → VW → Instr} {f : FV → VW → State → State} (h64 : ∀ w v s, exec (f64 w v) s = .next (f w v s))
    (h32 : ∀ w s, exec (f32 w) s = .next (f w VW.plain s)) {w : FV} {v : VW} {i : Instr} (hi : i ∈ both f32 f64 w v) (s : State) :
    exec i s = .next (f w v s) := by
  unfold both at hi
  split at hi
  · next hv =>
    rcases List.mem_cons.1 hi with rfl | hi
    · exact h64 w v s
    · rw [List.mem_singleton.1 hi, h32, hv]
  · rw [List.mem_singleton.1 hi, h64]

theorem exec_vred {w : FV} {v : VW} {i : Instr} (hi : i ∈ both .vred32 .vred64 w v) (s : State) : exec i s = .next (vRed w v s) :=
  exec_of_mem_both (fun _ _ _ => rfl) (fun _ _ => rfl) hi s
theorem exec_vscan {w : FV} {v : VW} {i : Instr} (hi : i ∈ both .vscan32 .vscan64 w v) (s : State) : exec i s = .next (vScan w v s) :=
  exec_of_mem_both (fun _ _ _ => rfl) (fun _ _ => rfl) hi s

end Sys2Proof.Machine

namespace Sys2Proof.Proofs
open Sys2Proof.Machine Sys2Proof.Claims

theorem reductionNodes : ReductionNodes := by
  intro op t rm n sg sat a b f g _ hf hi
  have hn := intOf_width_pos hi
  rw [redIdentity_of_int hf hi]
  simp only [redNode_of_int hf hi, intNode_identity hn, intNode_comm op n sg sat a, and_self]

theorem reductions : Reductions := by
  intro w v s hg n t
  refine ⟨fun r hr hu i hi => ?red, fun rs hr hu i hi => ?scan⟩
  case red => rw [exec_vred hi, vRed_eq hg (redTy_eq ..).symm hr hu]
  case scan => rw [exec_vscan hi, vScan_eq hg hr hu]

theorem treesAndScans : TreesAndScans := by
  refine ⟨treeFold_singleton, scanFrom_length, ?first, fun l hl => ⟨treeFold_add hl, fun i hi => ?sums⟩⟩
  case first => exact fun op k d a l hd => scanFrom_getElem?_zero op k hd (a :: l)
  case sums => exact scanFrom_add l rfl (by omega) (fun i hi => by rw [windowSum_one hi, List.getElem?_eq_getElem hi]) i (by omega)

/-- Settles O27: integer nodes with their identities, VRED and VSCAN, and the shape of trees and scans. -/
theorem reductionsAndScans : Obligations.ReductionsAndScans := by
  unfold Obligations.ReductionsAndScans
  exact ⟨reductionNodes, reductions, treesAndScans⟩
end Sys2Proof.Proofs
end

section
/-! The scalar and predicate registers, and the handler's bank in trap state (04 R105; 14 R419). -/

namespace Sys2Proof.Machine

@[simp] theorem Core.rs_zero (c : Core) : c.rs 0 = 0 := rfl
@[simp] theorem Core.rp_zero (c : Core) : c.rp 0 = true := rfl
theorem Core.rs_of_pos (c : Core) {n : Nat} (h : 0 < n) : c.rs n = c.sc.s.get (c.sIx n) := if_neg (by omega)
theorem Core.rp_of_pos (c : Core) {n : Nat} (h : 0 < n) : c.rp n = c.sc.p.get (c.pIx n) := if_neg (by omega)

/-- Two names of registers stand for one place only if they are one name. -/
theorem Core.sIx_inj (c : Core) (n m : Nat) : c.sIx m = c.sIx n ↔ m = n := by
  cases h : c.trap.active <;> simp only [Core.sIx, h, Bool.false_and, Bool.true_and, decide_eq_true_eq] <;> grind
theorem Core.pIx_inj (c : Core) (n m : Nat) : c.pIx m = c.pIx n ↔ m = n := by
  cases h : c.trap.active <;> simp only [Core.pIx, h, Bool.false_and, Bool.true_and, decide_eq_true_eq] <;> grind

section
variable {c : Core} (ht : c.trap.active = true)
include ht
/-- In trap state the bank stands above every register of the strand. -/
theorem Core.sIx_bank {n : Nat} (h : 56 ≤ n) : 64 ≤ c.sIx n := by simp only [Core.sIx, ht, h, decide_true, Bool.and_self, if_true]; omega
theorem Core.pIx_bank {n : Nat} (h : 12 ≤ n) : 16 ≤ c.pIx n := by simp only [Core.pIx, ht, h, decide_true, Bool.and_self, if_true]; omega
end

section
variable {c : Core} {n m : Nat}

/-- A write that leaves the names of registers alone is read in its own register only. -/
theorem Core.rs_of_set {d : Core} (hw : Store.wf c.sc.s = true) (ht : d.trap.active = c.trap.active) {v : Word}
    (hd : d.sc.s = c.sc.s.set (c.sIx n) v) (h : 0 < m) : d.rs m = if m = n then v else c.rs m := by
  have hix : d.sIx m = c.sIx m := by simp only [Core.sIx, ht]
  simp only [Core.rs_of_pos _ h, hd, hix, Store.get_set hw, Core.sIx_inj]
theorem Core.rs_apply_s (hw : Store.wf c.sc.s = true) (h : 0 < m) (v : Word) :
    (c.apply (.s (c.sIx n) v)).rs m = if m = n then v else c.rs m := Core.rs_of_set (d := c.apply _) hw rfl rfl h
theorem Core.rs_apply_link (hw : Store.wf c.sc.s = true) (h : 0 < m) (v : Word) :
    (c.apply (.link (c.sIx n) v)).rs m = if m = n then v else c.rs m := Core.rs_of_set (d := c.apply _) hw rfl rfl h
theorem Core.rp_apply_p (hw : Store.wf c.sc.p = true) (h : 0 < m) (v : Bool) :
    (c.apply (.p (c.pIx n) v)).rp m = if m = n then v else c.rp m := by
  have hr : (c.apply (.p (c.pIx n) v)).rp m = Store.get (c.sc.p.set (c.pIx n) v) (c.pIx m) := Core.rp_of_pos _ h
  simp only [hr, Store.get_set hw, Core.pIx_inj, Core.rp_of_pos c h]
end

end Sys2Proof.Machine

namespace Sys2Proof.Proofs
open Sys2Proof.Machine

/-- Settles O9: each write is one entry of the file, and distinct names have distinct entries. -/
theorem registerFiles : Obligations.RegisterFiles := by
  unfold Obligations.RegisterFiles
  intro c hs hp
  refine ⟨c.rs_zero, c.rp_zero, fun n m v _ _ h _ => Core.rs_apply_s hs h v, fun n m v _ _ h _ => Core.rp_apply_p hp h v,
    fun n m v _ _ h _ => Core.rs_apply_link hs h v, fun n v => ⟨Core.rs_zero _, Core.rp_zero _, Core.rp_zero _⟩, ?strandS, ?strandP⟩
  case strandS =>
    intro ht n v h56 _ k hk
    have := Core.sIx_bank ht h56
    exact (Store.get_set hs _ k v).trans (if_neg (by omega))
  case strandP =>
    intro ht n v h12 _ k hk
    have := Core.pIx_bank ht h12
    exact (Store.get_set hp _ k v).trans (if_neg (by omega))

end Sys2Proof.Proofs
end

section
/-! Writes that an instruction leaves pending, one after the other, and what stands once it is done (02 R62, R63). -/

namespace Sys2Proof.Machine
open Sys2Proof.Claims

/-- `s` with these writes pending behind the others. -/
def State.posted (s : State) (ps : List Pend) : State := s.mapCore fun c => { c with pend := c.pend ++ ps }

section
variable (s : State) (lat : Nat) (ps qs : List Pend)

theorem State.posted_nil : s.posted [] = s := by simp [State.posted, State.mapCore]
@[simp] theorem State.posted_posted : (s.posted ps).posted qs = s.posted (ps ++ qs) := by simp [State.posted, State.mapCore]
@[simp] theorem resF_posted (f : Fp) : resF (s.posted ps) lat f = resF s lat f := rfl
theorem State.posted_done : (s.posted ps).done = gives s ps := rfl

theorem State.post_eq_posted (w : Wr) : s.post lat w = s.posted [res s lat 0 w] := rfl
theorem State.postS_eq_posted (d : Nat) (v : Word) : s.postS lat d v = s.posted (resS s lat d v) := by
  by_cases h : d = 0
  · subst h; exact s.posted_nil.symm
  · simp only [State.postS, Core.postS, resS, h, if_false, Core.sIx, Bool.and_eq_true, decide_eq_true_eq]; rfl
theorem State.postP_eq_posted (d : Nat) (v : Bool) : s.postP lat d v = s.posted (resP s lat d v) := by
  by_cases h : d = 0
  · subst h; exact s.posted_nil.symm
  · simp only [State.postP, Core.postP, resP, h, if_false, Core.pIx, Bool.and_eq_true, decide_eq_true_eq]; rfl
theorem State.postF_eq_posted (f : Fp) : s.postF lat f = s.posted (resF s lat f) := by
  by_cases h : f = 0
  · subst h; exact s.posted_nil.symm
  · simp only [State.postF, Core.postF, resF, h, if_false]; rfl

/-- Writes posted one by one, none of which looks at what is pending, stand in their order. -/
theorem State.foldl_posted {α : Type} {f : State → α → List Pend} (hf : ∀ t ps x, f (t.posted ps) x = f t x) (l : List α) :
    l.foldl (fun t x => t.posted (f t x)) s = s.posted (l.flatMap (f s)) := by
  induction l generalizing s with
  | nil => exact s.posted_nil.symm
  | cons x r ih => rw [List.foldl_cons, ih, State.posted_posted, List.flatMap_cons, funext (hf s (f s x))]
theorem State.foldl_post {α : Type} (f : α → Wr) (l : List α) :
    l.foldl (fun t x => t.post lat (f x)) s = s.posted (l.map fun x => res s lat 0 (f x)) := by
  rw [List.map_eq_flatMap]
  exact s.foldl_posted (f := fun t x => [res t lat 0 (f x)]) (fun _ _ _ => rfl) l
theorem State.foldl_postP {α : Type} (d : α → Nat) (v : α → Bool) (l : List α) :
    l.foldl (fun t x => t.postP lat (d x) (v x)) s = s.posted (l.flatMap fun x => resP s lat (d x) (v x)) := by
  simp only [State.postP_eq_posted]
  exact s.foldl_posted (f := fun t x => resP t lat (d x) (v x)) (fun _ _ _ => rfl) l
end

/-- A control transfer behind pending writes. -/
theorem State.goto_posted (s : State) (ps : List Pend) (target : Word) (delay : Nat) (link : Option (Nat × Word)) :
    ((s.posted ps).goto target delay link).done = gives (jumps s target delay link) ps := rfl
theorem State.goto_done (s : State) (target : Word) (delay : Nat) (link : Option (Nat × Word)) :
    (s.goto target delay link).done = gives (jumps s target delay link) [] := Laws.done_gives _

end Sys2Proof.Machine
end

section
/-! Control transfer (02 R36, R37; 04 R124 to R128). -/

namespace Sys2Proof.Machine
open Sys2Proof.Claims

/-- A displacement counts folios of 32 bytes. -/
theorem dispTarget_eq (s : State) (w : FD) : dispTarget s.core.cur.folio w = target17 s w := by
  rw [dispTarget, target17, BitVec.signExtend, Int.mul_comm, BitVec.ofInt_mul]; rfl
theorem sIx_link (s : State) : s.core.sIx 63 = if s.core.trap.active then 71 else 63 := by
  cases h : s.core.trap.active <;> simp [Core.sIx, h]

theorem exec_br (w : FD) (s : State) : exec (.br w) s = .next (gives (jumps s (target17 s w) 2 none) []) := by
  rw [← dispTarget_eq, ← State.goto_done]; rfl
theorem exec_brc (w : FD) (s : State) :
    exec (.brc w) s = .next (if s.rp w.p.toNat = w.neg.getLsbD 0 then gives s [] else gives (jumps s (target17 s w) 2 none) []) := by
  change Host.Outcome.next (if (s.rp w.p.toNat ^^ w.neg.getLsbD 0) = true then _ else s).done = _
  rw [dispTarget_eq, apply_ite State.done, State.goto_done, Laws.done_gives]
  congr 1
  grind
theorem exec_call (w : FD) (s : State) :
    exec (.call w) s = .next (gives (jumps s (target17 s w) 2 none) (resS s 1 63 (s.core.cur.folio + 32))) := by
  rw [← dispTarget_eq, ← State.goto_posted, ← State.postS_eq_posted]; rfl
theorem exec_calli (w : FA) (s : State) :
    exec (.calli w) s = .next (gives (jumps s (s.rs w.a.toNat) 3 (some (if s.core.trap.active then 71 else 63, s.rs 63)))
      [res s 1 0 (.link (if s.core.trap.active then 71 else 63) (s.core.cur.folio + 32))]) := by
  rw [← sIx_link, ← State.goto_posted, ← State.post_eq_posted]; rfl

end Sys2Proof.Machine

namespace Sys2Proof.Proofs
open Sys2Proof.Machine Sys2Proof.Claims

/-- Settles O7: each transfer is `State.goto` behind the write of its link. -/
theorem controlTransfers : Obligations.ControlTransfers := by
  unfold Obligations.ControlTransfers
  intro s
  refine ⟨fun w => ?nop, fun w => exec_br w s, fun w h => ?taken, fun w h => ?untaken, fun w => exec_call w s, fun w => exec_calli w s,
    fun w => ?ret, fun w => ?jmpi⟩
  case nop => rw [← Laws.done_gives]; rfl
  case taken => rw [exec_brc, if_neg h]
  case untaken => rw [exec_brc, if_pos h]
  case ret | jmpi => rw [← State.goto_done]; rfl

end Sys2Proof.Proofs
end

section
/-! Defects of a first word in stream S (02 R45, R46, R57). -/

namespace Sys2Proof.Machine
open Sys2Proof.Claims

/-- A word of length 1 has the defects that its opcode's row lists. -/
theorem defectOf_of_opc {a : SlotWord} {o : Nat} (hl : lenOf a = 1) (ho : opcOf a = o) : defectOf a = defectS 0 1 o a 0 0 := by
  simp only [defectOf, defect, hl, ho, spaceOf]; rfl
@[simp] theorem sized_self (n : Nat) (cs : List (Bool × SubCode)) : sized n n cs = pickDefect cs := if_pos rfl

/-- Where every defect of a check has one sub-code, that is what it answers. -/
theorem pickDefect_uniform (c : SubCode) (ds : List Bool) :
    pickDefect (ds.map fun d => (d, c)) = if ds.any id then some c else none := by
  induction ds with
  | nil => rfl
  | cons d r ih =>
    cases d <;> simp only [List.map_cons, pickDefect, ih, List.any_cons, id, Bool.false_or, Bool.true_or, if_true]
    split <;> simp [lowest2]

/-- A field lies below 2^k when no bit from k on is set. -/
theorem toNat_lt_two_pow_iff {n : Nat} (x : BitVec n) (k : Nat) : x.toNat < 2 ^ k ↔ ∀ j < n, k ≤ j → x.getLsbD j = false := by
  constructor
  · intro h j _ hk
    exact Nat.testBit_lt_two_pow (h.trans_le (Nat.pow_le_pow_right (by decide) hk))
  · intro h
    refine Nat.lt_pow_two_of_testBit _ fun j hk => ?_
    by_cases hj : j < n
    · exact h j hj hk
    · exact BitVec.getLsbD_of_ge x j (by omega)

end Sys2Proof.Machine
end

section
/-! Modulo-scheduled loops (04 R129, R130). -/

namespace Sys2Proof.Machine
open Sys2Proof.Claims

theorem State.postLoop_eq_posted (s : State) (lc : Word) (n st : Nat) (k : Nat → Bool) :
    s.postLoop lc n st k = s.posted (loopWrites s lc n st k) := by
  rw [State.postLoop, State.foldl_post _ _ fun j => .k j (k j), State.post_eq_posted, State.posted_posted]; rfl

theorem nextLc_eq (c : Scalar) : (if c.lc = 0 then 0 else c.lc - 1) = nextLc c := by
  unfold nextLc
  by_cases h : c.lc = 0
  · simp [h]
  · have h0 : c.lc.toNat ≠ 0 := fun e => h (BitVec.eq_of_toNat_eq e)
    rw [if_neg h, if_neg h0]
    exact BitVec.eq_of_toNat_eq (by rw [BitVec.toNat_sub_of_le] <;> bv_omega)
theorem loopK_eq (c : Scalar) : loopK c (nextLc c) = nextK c := by
  funext j
  cases j with
  | zero => simp only [loopK, nextK, if_true]; grind
  | succ j => by_cases h : j + 1 < c.st <;> simp [loopK, nextK, h]

/-- What LOOP leaves pending: the loop state and the rotated b registers. -/
def loopStep (s : State) : List Pend :=
  loopWrites s (nextLc s.core.sc) s.core.sc.n s.core.sc.st (nextK s.core.sc)
    ++ (List.range s.core.sc.n).map fun i => res s 1 0 (.b i (s.core.sc.b.get ((i + 1) % s.core.sc.n)))

theorem exec_loop (w : FD) (s : State) :
    exec (.loop w) s = .next (if (List.range s.core.sc.st).any (nextK s.core.sc) then gives (jumps s (target17 s w) 1 none) (loopStep s)
      else gives s (loopStep s)) := by
  change execLoop w s = _
  simp only [execLoop, nextLc_eq, loopK_eq, State.postLoop_eq_posted, dispTarget_eq]
  rw [State.foldl_post _ _ fun i => .b i (s.core.sc.b.get ((i + 1) % s.core.sc.n)), State.posted_posted, apply_ite State.done]
  rfl
theorem exec_loopset (w : FB) (s : State) : exec (.loopset w) s =
    .next (gives s (loopWrites s (s.rs w.a.toNat) (w.d.toNat % 8 + 1) (w.d.toNat / 8 + 1) fun j => w.imm.getLsbD j)) := by
  rw [← State.posted_done, ← State.postLoop_eq_posted]; rfl

/-- LOOPSET's mask holds no stage at or above st. -/
theorem defectOf_loopset (w : FB) : defectOf (w.enc 0x08 1) = if w.imm.toNat < 2 ^ (w.d.toNat / 8 + 1) then none else some 0x0D := by
  rw [defectOf_of_opc (w.lenOf_enc _ _) (w.opcOf_enc _ _)]
  change sized 1 1 (chkLoopset (FB.dec _)) = _
  rw [FB.dec_enc, sized_self]
  refine (pickDefect_uniform 0x0D [decide (2 ^ (w.d.toNat / 8 + 1) ≤ w.imm.toNat)]).trans ?_
  grind
theorem defectOf_loop (w : FD) : defectOf (w.enc 0x07 1) = if w.neg = 0 ∧ w.p = 0 then none else some 0x0D := by
  rw [defectOf_of_opc (w.lenOf_enc _ _) (w.opcOf_enc _ _)]
  change sized 1 1 (chkBr (FD.dec _)) = _
  rw [FD.dec_enc, sized_self]
  refine (pickDefect_uniform 0x0D [w.neg != 0, w.p != 0]).trans ?_
  grind

end Sys2Proof.Machine

namespace Sys2Proof.Proofs
open Sys2Proof.Machine Sys2Proof.Claims

theorem loopSetup : LoopSetup := by
  refine ⟨exec_loopset, fun w => ?_⟩
  rw [defectOf_loopset]
  constructor
  · intro h
    exact if_pos ((toNat_lt_two_pow_iff _ _).2 h)
  · rintro ⟨j, hj, hst, hb⟩
    refine if_neg fun hlt => ?_
    rw [(toNat_lt_two_pow_iff _ _).1 hlt j hj hst] at hb
    cases hb

theorem loopClose : LoopClose := by
  intro w s
  refine ⟨fun h => ?live, fun h => ?last, ?word⟩
  case live => rw [exec_loop, if_pos (by simpa using h)]; rfl
  case last => rw [exec_loop, if_neg (by simpa using h)]; rfl
  case word => rw [defectOf_loop]; grind

/-- Settles O8: LOOPSET and LOOP with their writes, and the words that their rows reject. -/
theorem loopSetupAndClose : Obligations.LoopSetupAndClose := by
  unfold Obligations.LoopSetupAndClose
  exact ⟨loopSetup, loopClose⟩

end Sys2Proof.Proofs
end

section
/-! Selection, comparison, constants and immediates (04 R112 to R116). -/

namespace Sys2Proof.Machine
open Sys2Proof.Claims

/-! ### Values -/

theorem lea_value (a b : Word) (n : Nat) : a + (b <<< n) = BitVec.ofNat 64 (a.toNat + b.toNat * 2 ^ n) := by
  apply BitVec.eq_of_toNat_eq; simp [Nat.shiftLeft_eq]
/-- A literal over the low bits of a register. -/
theorem append_setWidth {n m : Nat} (l : BitVec n) (x : Word) :
    l ++ x.setWidth m = BitVec.ofNat (n + m) (l.toNat * 2 ^ m + x.toNat % 2 ^ m) := by
  apply BitVec.eq_of_toNat_eq
  have hx := Nat.mod_lt x.toNat (Nat.two_pow_pos m)
  have hl : l.toNat * 2 ^ m + x.toNat % 2 ^ m < 2 ^ (n + m) := by
    have := Nat.mul_le_mul_right (2 ^ m) l.isLt
    rw [Nat.pow_add]; grind
  rw [BitVec.toNat_append, BitVec.toNat_setWidth, ← Nat.shiftLeft_add_eq_or_of_lt hx, Nat.shiftLeft_eq, BitVec.toNat_ofNat, Nat.mod_eq_of_lt hl]

/-- The conditions of 04 Table 4.4. -/
theorem cmpCond_iff (fn : Nat) (a b : Word) : cmpCond fn a b = true ↔ cmpHolds fn a b := by
  unfold cmpCond cmpHolds
  split <;> simp [BitVec.slt_iff_toInt_lt, BitVec.sle_iff_toInt_le, BitVec.ult_iff_toNat_lt, BitVec.ule_iff_toNat_le]
/-- CMPI has the first four of them. -/
theorem cmpiCond_eq {fn : Nat} (h : fn < 4) (a b : Word) : cmpiCond fn a b = cmpCond fn a b := by
  match fn, h with
  | 0, _ | 1, _ | 2, _ | 3, _ => rfl

/-- An immediate below 64 is its own shift amount. -/
theorem shamt_imm {w : FB} (h : w.imm.toNat < 64) : shamt (imm10 w) = w.imm.toNat := by
  have hm : w.imm.msb = false := by rw [BitVec.msb_eq_decide]; grind
  rw [shamt, imm10, BitVec.signExtend_eq_setWidth_of_msb_false hm]
  simp only [BitVec.toNat_and, BitVec.toNat_setWidth]
  rw [Nat.mod_eq_of_lt (by omega)]
  exact (Nat.and_two_pow_sub_one_eq_mod _ 6).trans (Nat.mod_eq_of_lt h)
theorem shl_value (a : Word) (n : Nat) : a <<< n = BitVec.ofNat 64 (a.toNat * 2 ^ n) := by
  apply BitVec.eq_of_toNat_eq; simp [Nat.shiftLeft_eq]
theorem shr_value (a : Word) (n : Nat) : a >>> n = BitVec.ofNat 64 (a.toNat / 2 ^ n) := by
  apply BitVec.eq_of_toNat_eq
  have := Nat.div_le_self a.toNat (2 ^ n)
  simp only [BitVec.toNat_ushiftRight, Nat.shiftRight_eq_div_pow, BitVec.toNat_ofNat]
  exact (Nat.mod_eq_of_lt (this.trans_lt a.isLt)).symm
theorem sha_value (a : Word) (n : Nat) : a.sshiftRight n = BitVec.ofInt 64 (a.toInt / (2 ^ n : Nat)) := by
  rw [BitVec.sshiftRight_eq, Int.shiftRight_eq_div_pow]

/-! ### Instructions -/

section
variable (w : FA) (f : FB) (c : FC) (l : BitVec 32) (s : State)
theorem exec_sel : exec (.sel w) s = .next (gives s (resS s 1 w.d.toNat (if s.rp w.fn.toNat = true then s.rs w.a.toNat else s.rs w.b.toNat))) := by
  rw [← Laws.postS_gives]; rfl
theorem exec_lea : exec (.lea w) s =
    .next (gives s (resS s 1 w.d.toNat (BitVec.ofNat 64 ((s.rs w.a.toNat).toNat + (s.rs w.b.toNat).toNat * 2 ^ w.fn.toNat)))) := by
  rw [← lea_value, ← Laws.postS_gives]; rfl
theorem exec_cmp : exec (.cmp w) s = .next (gives s (resP s 1 w.d.toNat (cmpCond w.fn.toNat (s.rs w.a.toNat) (s.rs w.b.toNat)))) := by
  rw [← Laws.postP_gives]; rfl
theorem exec_movi : exec (.movi c) s = .next (gives s (resS s 1 c.d.toNat (BitVec.ofInt 64 c.imm.toInt))) := by
  rw [← Laws.postS_gives]; rfl
theorem exec_movl : exec (.movl c l) s = .next (gives s (resS s 1 c.d.toNat (BitVec.ofInt 64 l.toInt))) := by
  rw [← Laws.postS_gives]; rfl
theorem exec_movlHi : exec (.movlHi c l) s =
    .next (gives s (resS s 1 c.d.toNat (BitVec.ofNat 64 (l.toNat * 2 ^ 32 + (s.rs c.d.toNat).toNat % 2 ^ 32)))) := by
  change Host.Outcome.next (s.postS 1 c.d.toNat (l ++ (s.rs c.d.toNat).setWidth 32)).done = _
  rw [Laws.postS_gives, append_setWidth]
theorem exec_movhi : exec (.movhi c) s =
    .next (gives s (resS s 1 c.d.toNat (BitVec.ofNat 64 (c.imm.toNat * 2 ^ 48 + (s.rs c.d.toNat).toNat % 2 ^ 48)))) := by
  change Host.Outcome.next (s.postS 1 c.d.toNat (c.imm ++ (s.rs c.d.toNat).setWidth 48)).done = _
  rw [Laws.postS_gives, append_setWidth]
theorem State.immOp_gives (lat : Nat) (v : Word → Word → Word) :
    s.immOp f lat v = gives s (resS s lat f.d.toNat (v (s.rs f.a.toNat) (imm10 f))) := Laws.postS_gives ..
theorem exec_cmpi : exec (.cmpi f) s =
    .next (gives s (resP s 1 (f.d.toNat % 16) (cmpCond (f.d.toNat / 16) (s.rs f.a.toNat) (sx10 f.imm)))) := by
  have hd := f.d.isLt
  rw [← cmpiCond_eq (by omega), ← Laws.postP_gives]; rfl
end

/-! ### Encodings -/

theorem defectOf_cmp (w : FA) : defectOf (w.enc 0x2D 1) = if w.d.toNat < 16 ∧ w.fn.toNat < 10 then none else some 0x0D := by
  rw [defectOf_of_opc (w.lenOf_enc _ _) (w.opcOf_enc _ _)]
  change sized 1 1 (chkCmp (FA.dec _)) = _
  rw [FA.dec_enc, sized_self]
  refine (pickDefect_uniform 0x0D [decide (2 ^ 4 ≤ w.d.toNat), decide (10 ≤ w.fn.toNat)]).trans ?_
  grind
theorem pickDefect_chkShi (w : FB) : pickDefect (chkShi w) = if w.imm.toNat < 64 then none else some 0x0D := by
  refine (pickDefect_uniform 0x0D [decide (2 ^ 6 ≤ w.imm.toNat)]).trans ?_
  grind

end Sys2Proof.Machine

namespace Sys2Proof.Proofs
open Sys2Proof.Machine Sys2Proof.Claims

theorem selectAndCompare : SelectAndCompare :=
  fun w s => ⟨exec_sel w s, exec_lea w s, _, cmpCond_iff _ _ _, exec_cmp w s⟩

/-- Settles O2: the three instructions, and the words that CMP's row rejects. -/
theorem selectLeaAndCompare : Obligations.SelectLeaAndCompare := by
  unfold Obligations.SelectLeaAndCompare
  exact ⟨selectAndCompare, defectOf_cmp⟩

theorem placeConstants : PlaceConstants :=
  fun c l s => ⟨exec_movi c s, exec_movl c l s, exec_movlHi c l s, exec_movhi c s⟩

theorem immediateInstructions : ImmediateInstructions := by
  intro w s a
  refine ⟨?addi, ?muli, ?andi, ?ori, ?xori, fun h => ⟨?shli, ?shri, ?shai⟩, _, cmpCond_iff _ _ _, exec_cmpi w s⟩
  case addi | muli | andi | ori | xori => exact congrArg _ (s.immOp_gives w _ _)
  case shli => exact congrArg _ ((s.immOp_gives w _ _).trans (by rw [shamt_imm h, shl_value]))
  case shri => exact congrArg _ ((s.immOp_gives w _ _).trans (by rw [shamt_imm h, shr_value]))
  case shai => exact congrArg _ ((s.immOp_gives w _ _).trans (by rw [shamt_imm h, sha_value]))

theorem shiftEncodings : ShiftEncodings := by
  intro w opc h
  have hrow : defectOf (w.enc opc 1) = sized 1 1 (chkShi (FB.dec (w.enc opc 1))) := by
    rw [defectOf_of_opc (w.lenOf_enc _ _) (w.opcOf_enc _ _)]
    rcases h with rfl | rfl | rfl <;> rfl
  rw [hrow, FB.dec_enc, sized_self, pickDefect_chkShi]

/-- Settles O3: the constants, the immediate forms, and the words that the shifts' rows reject. -/
theorem constantsAndImmediates : Obligations.ConstantsAndImmediates := by
  unfold Obligations.ConstantsAndImmediates
  exact ⟨placeConstants, immediateInstructions, shiftEncodings⟩

end Sys2Proof.Proofs
end

section
/-! Bit fields, predicate logic and the transfers of 04 Table 4.5 (04 R111, R117, R118). -/

namespace Sys2Proof.Machine
open Sys2Proof.Claims

/-! ### Bit fields -/

theorem fieldPos_eq (b : Word) : fieldPos b = posOf b := by
  rw [fieldPos, BitVec.toNat_and]
  exact Nat.and_two_pow_sub_one_eq_mod _ 6
theorem fieldLen_eq (b : Word) : fieldLen b = lenOf' b := by
  rw [fieldLen, BitVec.toNat_and, BitVec.toNat_ushiftRight, Nat.shiftRight_eq_div_pow]
  exact congrArg (min 64) (Nat.and_two_pow_sub_one_eq_mod _ 7)

theorem testBit_extField (a b : Word) (i : Nat) : (extField a b).testBit i = fieldBit a (posOf b) (lenOf' b) i := by
  rw [extField, fieldPos_eq, fieldLen_eq, Nat.testBit_mod_two_pow, Nat.testBit_div_two_pow, Nat.add_comm]; rfl

theorem extn_isExtn (a b : Word) : isExtn a b (BitVec.ofNat 64 (extField a b)) := by
  intro i hi
  rw [BitVec.getLsbD_ofNat, testBit_extField, decide_eq_true hi, Bool.true_and]
theorem extValue_isExt (a b : Word) : isExt a b (extValue a b) := by
  intro i hi
  have hbit (j : Nat) (hj : j < fieldLen b) : (BitVec.ofNat (fieldLen b) (extField a b)).getLsbD j = fieldBit a (posOf b) (lenOf' b) j := by
    rw [BitVec.getLsbD_ofNat, testBit_extField, decide_eq_true hj, Bool.true_and]
  rw [extValue, BitVec.getLsbD_signExtend, BitVec.msb_eq_getLsbD_last, decide_eq_true hi, Bool.true_and, ← fieldLen_eq]
  split
  · next h => rw [hbit i h, fieldLen_eq]
  · split
    · next h0 => exact BitVec.getLsbD_of_ge _ _ (by omega)
    · next h0 => rw [hbit _ (Nat.sub_one_lt h0), fieldLen_eq]

/-- The mask of INS holds the bits of the field. -/
theorem testBit_insMask (len pos i : Nat) : ((2 ^ len - 1) * 2 ^ pos).testBit i = decide (pos ≤ i ∧ i < pos + len) := by
  rw [Nat.testBit_mul_two_pow, Nat.testBit_two_pow_sub_one]
  grind
theorem insValue_isIns (d a b : Word) : isIns d a b (insValue d a b) := by
  intro i hi
  simp only [insValue, BitVec.getLsbD_or, BitVec.getLsbD_and, BitVec.getLsbD_not, BitVec.getLsbD_ofNat, BitVec.getLsbD_shiftLeft,
    testBit_insMask, fieldPos_eq, fieldLen_eq]
  by_cases h : posOf b ≤ i ∧ i < posOf b + lenOf' b
  · simp [h, hi]
  · simp [h, hi]

section
variable (w : FA) (s : State)
theorem exec_ext : exec (.ext w) s = .next (gives s (resS s 1 w.d.toNat (extValue (s.rs w.a.toNat) (s.rs w.b.toNat)))) := by
  rw [← Laws.postS_gives]; rfl
theorem exec_extn : exec (.extn w) s = .next (gives s (resS s 1 w.d.toNat (BitVec.ofNat 64 (extField (s.rs w.a.toNat) (s.rs w.b.toNat))))) := by
  rw [← Laws.postS_gives]; rfl
theorem exec_ins : exec (.ins w) s = .next (gives s (resS s 1 w.d.toNat (insValue (s.rs w.d.toNat) (s.rs w.a.toNat) (s.rs w.b.toNat)))) := by
  rw [← Laws.postS_gives]; rfl
end

/-! ### Predicates as the bits of a word -/

/-- The number whose bits below `n` are those of `f`, as `bitsOf` sums it. -/
def lowBits (f : Nat → Bool) (n : Nat) : Nat := (List.range n).foldl (fun a j => if f j then a + 2 ^ j else a) 0

theorem lowBits_succ (f : Nat → Bool) (n : Nat) : lowBits f (n + 1) = 2 ^ n * (f n).toNat + lowBits f n := by
  rw [lowBits, List.range_succ, List.foldl_append]
  cases h : f n <;> simp [lowBits, h, Nat.add_comm]
theorem lowBits_lt (f : Nat → Bool) (n : Nat) : lowBits f n < 2 ^ n := by
  induction n with
  | zero => exact Nat.one_pos
  | succ n ih =>
    have := Nat.mul_le_mul_left (2 ^ n) (Bool.toNat_le (f n))
    rw [lowBits_succ, Nat.pow_succ]; omega
theorem testBit_lowBits (f : Nat → Bool) (n j : Nat) : (lowBits f n).testBit j = (decide (j < n) && f j) := by
  induction n with
  | zero => simp [lowBits]
  | succ n ih =>
    rw [lowBits_succ, Nat.testBit_two_pow_mul_add _ (lowBits_lt f n), Nat.testBit_bool_toNat, ih]
    grind
theorem getLsbD_bitsOf (n : Nat) (hn : n ≤ 64) (f : Nat → Bool) (j : Nat) : (bitsOf n f).getLsbD j = (decide (j < n) && f j) := by
  change (BitVec.ofNat 64 (lowBits f n)).getLsbD j = _
  rw [BitVec.getLsbD_ofNat, testBit_lowBits]
  grind

theorem State.predOp_gives (s : State) (w : FA) (f : Bool → Bool → Bool) :
    s.predOp w f = gives s (resP s 1 w.d.toNat (f (s.rp w.a.toNat ^^ w.fn.getLsbD 0) (s.rp w.b.toNat ^^ w.fn.getLsbD 1))) :=
  Laws.postP_gives ..

/-! ### The transfers of 04 Table 4.5 -/

section
variable (w : FA) (s : State)
theorem exec_movpFromP : exec (.movpFromP w) s = .next (gives s (resS s 1 w.d.toNat (bitsOf 16 s.rp))) := by
  rw [← Laws.postS_gives]; rfl
theorem exec_movpToP : exec (.movpToP w) s = .next (gives s
    ([1, 2, 3, 4, 5, 6, 7, 8, 9, 10, 11, 12, 13, 14, 15].flatMap fun j => resP s 1 j ((s.rs w.a.toNat).getLsbD j))) := by
  change Host.Outcome.next ((List.range 15).foldl (fun t j => t.postP 1 (j + 1) ((s.rs w.a.toNat).getLsbD (j + 1))) s).done = _
  rw [s.foldl_postP 1 (· + 1) fun j => (s.rs w.a.toNat).getLsbD (j + 1), State.posted_done]
  rfl
theorem exec_movpToB : exec (.movpToB w) s =
    .next (gives s [res s 1 0 (.b w.d.toNat ((s.rs w.a.toNat).extractLsb' 0 32))]) := by
  rw [← BitVec.setWidth_eq_extractLsb' (by decide)]; rfl
theorem exec_movpFromB : exec (.movpFromB w) s = .next (gives s (resS s 1 w.d.toNat (0#32 ++ s.core.sc.b.get w.a.toNat))) := by
  have hx (x : BitVec 32) : 0#32 ++ x = x.setWidth 64 := (BitVec.setWidth_eq_append (by decide)).symm
  rw [hx, ← Laws.postS_gives]; rfl
theorem exec_movpToK : exec (.movpToK w) s = .next (gives s
    ([0, 1, 2, 3, 4, 5, 6, 7].map fun j => res s 1 0 (.k j ((s.rs w.a.toNat).getLsbD j)))) := by
  change Host.Outcome.next ((List.range 8).foldl (fun t j => t.post 1 (.k j ((s.rs w.a.toNat).getLsbD j))) s).done = _
  rw [s.foldl_post 1 fun j => .k j ((s.rs w.a.toNat).getLsbD j), State.posted_done]
  rfl
theorem exec_movpFromK : exec (.movpFromK w) s = .next (gives s (resS s 1 w.d.toNat (bitsOf 8 s.core.sc.k.get))) := by
  rw [← Laws.postS_gives]; rfl
theorem exec_movpFromLc : exec (.movpFromLc w) s = .next (gives s (resS s 1 w.d.toNat s.core.sc.lc)) := by
  rw [← Laws.postS_gives]; rfl
theorem exec_movpKToP : exec (.movpKToP w) s = .next (gives s (resP s 1 w.d.toNat (s.core.sc.k.get w.a.toNat))) := by
  rw [← Laws.postP_gives]; rfl
end

end Sys2Proof.Machine

namespace Sys2Proof.Proofs
open Sys2Proof.Machine Sys2Proof.Claims

theorem fieldInstructions : FieldInstructions :=
  fun w s => ⟨⟨_, extValue_isExt _ _, exec_ext w s⟩, ⟨_, extn_isExtn _ _, exec_extn w s⟩, ⟨_, insValue_isIns _ _ _, exec_ins w s⟩⟩

theorem predicateLogic : PredicateLogic :=
  fun w s => ⟨congrArg _ (s.predOp_gives w _), congrArg _ (s.predOp_gives w _), congrArg _ (s.predOp_gives w _)⟩

theorem predicateMoves : PredicateMoves := by
  intro w s
  have hp := getLsbD_bitsOf 16 (by decide) s.rp
  have hk := getLsbD_bitsOf 8 (by decide) s.core.sc.k.get
  exact ⟨⟨_, hp, hp 0, exec_movpFromP w s⟩, exec_movpToP w s, exec_movpToB w s, exec_movpFromB w s, exec_movpToK w s,
    ⟨_, hk, exec_movpFromK w s⟩, exec_movpFromLc w s, exec_movpKToP w s⟩

/-- Settles O4: fields bit by bit, predicate logic, and the transfers of 04 Table 4.5. -/
theorem fieldsAndPredicates : Obligations.FieldsAndPredicates := by
  unfold Obligations.FieldsAndPredicates
  exact ⟨fieldInstructions, predicateLogic, predicateMoves⟩

end Sys2Proof.Proofs
end

section
/-! Integer instructions: the model's numbers are the bit vectors of 04 Table 4.3 (04 R107, R109, R110). -/

namespace Sys2Proof.Machine
open Sys2Proof.Claims

/-- An operation on numbers at a width, and one on bit vectors of every width: both take the operands and the whole of s[b]. -/
abbrev NatOp := Nat → Nat → Nat → Nat → Nat
abbrev BitOp := (n : Nat) → BitVec n → BitVec n → Word → BitVec n

/-- `f` on numbers is `op` on bit vectors of every width that is not 0, once reduced to the width. -/
def Computes (f : NatOp) (op : BitOp) : Prop :=
  ∀ (n : Nat) (a b : BitVec n) (m : Word), 0 < n → f n a.toNat b.toNat m.toNat % 2 ^ n = (op n a b m).toNat

/-- A choice of two operations. -/
theorem Computes.ite {f g : NatOp} {op oq : BitOp}
    {p : Nat → Nat → Nat → Nat → Prop} {q : (n : Nat) → BitVec n → BitVec n → Word → Prop} [∀ w a b m, Decidable (p w a b m)]
    [∀ n a b m, Decidable (q n a b m)] (hpq : ∀ (n : Nat) (a b : BitVec n) (m : Word), 0 < n → (p n a.toNat b.toNat m.toNat ↔ q n a b m))
    (hf : Computes f op) (hg : Computes g oq) :
    Computes (fun w a b m => if p w a b m then f w a b m else g w a b m) (fun n a b m => if q n a b m then op n a b m else oq n a b m) := by
  intro n a b m hn
  by_cases h : q n a b m
  · simpa only [h, (hpq n a b m hn).2 h, if_true] using hf n a b m hn
  · simpa only [h, mt (hpq n a b m hn).1 h, if_false] using hg n a b m hn

/-! ### Signed values -/

theorem sVal_toNat {n : Nat} (hn : 0 < n) (a : BitVec n) : sVal n a.toNat = a.toInt := by
  have hp := Nat.two_pow_pred_mul_two hn
  rw [sVal, Nat.mod_eq_of_lt a.isLt, BitVec.toInt]
  grind
theorem intBits_mod (n : Nat) (i : Int) : intBits n i % 2 ^ n = (BitVec.ofInt n i).toNat := by
  rw [Laws.intBits_eq, Nat.mod_eq_of_lt (BitVec.isLt _)]
/-- An operation on the signed values of the operands. -/
theorem computes_signed {f : Int → Int → Nat → Int} {op : BitOp}
    (h : ∀ (n : Nat) (a b : BitVec n) (m : Word), BitVec.ofInt n (f a.toInt b.toInt m.toNat) = op n a b m) :
    Computes (fun w a b m => intBits w (f (sVal w a) (sVal w b) m)) op := by
  intro n a b m hn
  simp only [intBits_mod, sVal_toNat hn, h]

theorem toNat_eq_zero_iff {n : Nat} (b : BitVec n) : b.toNat = 0 ↔ b = 0 := ⟨fun h => BitVec.eq_of_toNat_eq h, fun h => by rw [h]; rfl⟩

/-! ### The operations of 04 Table 4.3 -/

theorem computes_left : Computes (fun _ a _ _ => a) fun _ a _ _ => a := fun _ a _ _ _ => Nat.mod_eq_of_lt a.isLt
theorem computes_right : Computes (fun _ _ b _ => b) fun _ _ b _ => b := fun _ _ b _ _ => Nat.mod_eq_of_lt b.isLt
theorem computes_zero : Computes (fun _ _ _ _ => 0) fun _ _ _ _ => 0 := fun _ _ _ _ _ => rfl
theorem computes_allOnes : Computes (fun w _ _ _ => 2 ^ w - 1) fun _ _ _ _ => -1 := by
  intro n a b m hn
  have h := Nat.two_pow_pos n
  have h1 : (-1 : BitVec n).toNat = 2 ^ n - 1 := by rw [← BitVec.toNat_allOnes]; exact congrArg _ BitVec.neg_one_eq_allOnes
  exact (Nat.mod_eq_of_lt (Nat.sub_one_lt h.ne')).trans h1.symm

theorem opAdd_computes : Computes opAdd fun _ a b _ => a + b := fun _ a b _ _ => (BitVec.toNat_add a b).symm
theorem opSub_computes : Computes opSub fun _ a b _ => a - b := by
  intro n a b m hn
  have := b.isLt
  rw [opSub, BitVec.toNat_sub, Nat.add_comm, Nat.sub_add_comm (by omega)]
theorem opMul_computes : Computes opMul fun _ a b _ => a * b := fun _ a b _ _ => (BitVec.toNat_mul a b).symm

/-- The upper half of a number of two halves is the quotient by the lower half's range. -/
theorem upper_half (x : Int) {q : Nat} (hq : 0 < q) : (x / q % q).toNat = (x % (q * q : Nat)).toNat / q % q := by
  have hqq : ((q * q : Nat) : Int) ≠ 0 := by exact_mod_cast (Nat.mul_pos hq hq).ne'
  obtain ⟨r, hr⟩ := Int.eq_ofNat_of_zero_le (Int.emod_nonneg x hqq)
  have hx : x / q = q * (x / (q * q : Nat)) + (r / q : Nat) := by
    conv_lhs => rw [← Int.mul_ediv_add_emod x (q * q : Nat), hr, Nat.cast_mul, Int.mul_assoc, Int.add_comm,
      Int.add_mul_ediv_left _ _ (Nat.cast_ne_zero.2 hq.ne'), Int.add_comm]
    rw [Int.natCast_ediv, Nat.cast_mul]
  rw [hx, Int.mul_add_emod_self_left, hr, ← Int.natCast_emod, Int.toNat_natCast, Int.toNat_natCast]
theorem opMulh_computes : Computes opMulh fun n a b _ => (a.signExtend (2 * n) * b.signExtend (2 * n)).extractLsb' n n := by
  intro n a b m hn
  have hn2 : 2 ^ (2 * n) = 2 ^ n * 2 ^ n := by rw [two_mul, Nat.pow_add]
  have hprod : a.signExtend (2 * n) * b.signExtend (2 * n) = BitVec.ofInt (2 * n) (a.toInt * b.toInt) := (BitVec.ofInt_mul ..).symm
  dsimp only
  rw [opMulh, intBits_mod, sVal_toNat hn, sVal_toNat hn, hprod, BitVec.extractLsb'_toNat,
    BitVec.toNat_ofInt, BitVec.toNat_ofInt, upper_half _ (Nat.two_pow_pos n), hn2, Nat.shiftRight_eq_div_pow]
theorem opMulhn_computes : Computes opMulhn fun n a b _ => (a.setWidth (2 * n) * b.setWidth (2 * n)).extractLsb' n n := by
  intro n a b m hn
  have hn2 : 2 ^ (2 * n) = 2 ^ n * 2 ^ n := by rw [two_mul, Nat.pow_add]
  have hlt : a.toNat * b.toNat < 2 ^ (2 * n) := hn2 ▸ Nat.mul_lt_mul'' a.isLt b.isLt
  have hx (x : BitVec n) : (x.setWidth (2 * n)).toNat = x.toNat := BitVec.toNat_setWidth_of_le (by omega)
  rw [opMulhn, BitVec.extractLsb'_toNat, BitVec.toNat_mul, hx, hx, Nat.mod_eq_of_lt hlt, Nat.shiftRight_eq_div_pow]

theorem opDiv_computes : Computes opDiv fun _ a b _ => if b = 0 then -1 else a.sdiv b :=
  .ite (fun _ _ b _ _ => toNat_eq_zero_iff b) computes_allOnes
    (computes_signed (f := fun x y _ => x.tdiv y) fun n a b _ => BitVec.eq_of_toInt_eq (by rw [BitVec.toInt_ofInt, BitVec.toInt_sdiv]))
theorem opDivn_computes : Computes opDivn fun _ a b _ => if b = 0 then -1 else a / b :=
  .ite (fun _ _ b _ _ => toNat_eq_zero_iff b) computes_allOnes fun _ a b _ _ => by rw [← BitVec.toNat_udiv, Nat.mod_eq_of_lt (BitVec.isLt _)]
theorem opRem_computes : Computes opRem fun _ a b _ => if b = 0 then a else a.srem b :=
  .ite (fun _ _ b _ _ => toNat_eq_zero_iff b) computes_left
    (computes_signed (f := fun x y _ => x.tmod y) fun n a b _ => by rw [← BitVec.toInt_srem, BitVec.ofInt_toInt])
theorem opRemn_computes : Computes opRemn fun _ a b _ => if b = 0 then a else a % b :=
  .ite (fun _ _ b _ _ => toNat_eq_zero_iff b) computes_left fun _ a b _ _ => by rw [← BitVec.toNat_umod, Nat.mod_eq_of_lt (BitVec.isLt _)]

theorem opAnd_computes : Computes opAnd fun _ a b _ => a &&& b := fun _ a b _ _ => by
  rw [opAnd, ← BitVec.toNat_and, Nat.mod_eq_of_lt (BitVec.isLt _)]
theorem opOr_computes : Computes opOr fun _ a b _ => a ||| b := fun _ a b _ _ => by
  rw [opOr, ← BitVec.toNat_or, Nat.mod_eq_of_lt (BitVec.isLt _)]
theorem opXor_computes : Computes opXor fun _ a b _ => a ^^^ b := fun _ a b _ _ => by
  rw [opXor, ← BitVec.toNat_xor, Nat.mod_eq_of_lt (BitVec.isLt _)]
theorem opAndn_computes : Computes opAndn fun _ a b _ => a &&& ~~~b := fun n a b _ _ => by
  rw [opAndn, ← BitVec.toNat_allOnes, ← BitVec.toNat_xor, BitVec.xor_allOnes, ← BitVec.toNat_and, Nat.mod_eq_of_lt (BitVec.isLt _)]

theorem opShl_computes : Computes opShl fun n a _ m => if m.toNat < n then a <<< m.toNat else 0 :=
  .ite (fun _ _ _ _ _ => Iff.rfl) (fun _ a _ m _ => by rw [BitVec.toNat_shiftLeft, Nat.shiftLeft_eq]) computes_zero
theorem opShr_computes : Computes opShr fun n a _ m => if m.toNat < n then a >>> m.toNat else 0 :=
  .ite (fun _ _ _ _ _ => Iff.rfl)
    (fun _ a _ m _ => by rw [← Nat.shiftRight_eq_div_pow, ← BitVec.toNat_ushiftRight, Nat.mod_eq_of_lt (BitVec.isLt _)]) computes_zero
/-- A signed shift by the whole width leaves the sign alone. -/
theorem sshiftRight_width {n : Nat} (a : BitVec n) : a.sshiftRight n = if a.msb then -1 else 0 := by
  rw [show (-1 : BitVec n) = BitVec.allOnes n from BitVec.neg_one_eq_allOnes]
  ext i hi
  cases h : a.msb <;> simp [BitVec.getElem_sshiftRight, h]
theorem opSha_computes : Computes opSha fun n a _ m => if m.toNat < n then a.sshiftRight m.toNat else if a.msb then -1 else 0 := by
  intro n a b m hn
  have hsh : opSha n a.toNat b.toNat m.toNat % 2 ^ n = (a.sshiftRight (min m.toNat n)).toNat := by
    rw [opSha, intBits_mod, sVal_toNat hn, ← Int.shiftRight_eq_div_pow, BitVec.sshiftRight_eq]
  rw [hsh]
  dsimp only
  by_cases h : m.toNat < n
  · rw [if_pos h, Nat.min_eq_left h.le]
  · rw [if_neg h, Nat.min_eq_right (by omega), sshiftRight_width]
theorem opRot_computes : Computes opRot fun n a _ m => a.rotateRight (m.toNat % n) := by
  intro n a b m hn
  have hk := Nat.mod_lt m.toNat hn
  rw [opRot, BitVec.toNat_rotateRight, Nat.mod_mod]
  generalize m.toNat % n = k at hk
  have hpow : 2 ^ n = 2 ^ k * 2 ^ (n - k) := by rw [← Nat.pow_add, Nat.add_sub_cancel' hk.le]
  have hlow : a.toNat / 2 ^ k < 2 ^ (n - k) := Nat.div_lt_of_lt_mul (hpow ▸ a.isLt)
  have hhigh : a.toNat <<< (n - k) % 2 ^ n = (a.toNat % 2 ^ k) <<< (n - k) := by
    rw [Nat.shiftLeft_eq, Nat.shiftLeft_eq, hpow, Nat.mul_mod_mul_right]
  have hsum : a.toNat <<< (n - k) % 2 ^ n + a.toNat / 2 ^ k < 2 ^ n := by
    have := Nat.mul_le_mul_right (2 ^ (n - k)) (Nat.mod_lt a.toNat (Nat.two_pow_pos k))
    rw [hhigh, Nat.shiftLeft_eq, hpow]; grind
  rw [Nat.shiftRight_eq_div_pow, Nat.lor_comm, hhigh, ← Nat.shiftLeft_add_eq_or_of_lt hlow, ← hhigh, Nat.add_comm, ← Nat.shiftLeft_eq,
    ← Nat.mod_add_mod, Nat.mod_eq_of_lt hsum]

theorem toInt_le_iff {n : Nat} (a b : BitVec n) : (a.toInt ≤ b.toInt) ↔ (a.slt b = true ∨ a = b) := by
  rw [BitVec.slt_iff_toInt_lt, ← BitVec.toInt_inj]; omega
theorem opMin_computes : Computes opMin fun _ a b _ => if a.slt b then a else b := by
  have h : Computes opMin fun _ a b _ => if a.toInt ≤ b.toInt then a else b :=
    .ite (fun _ a b _ hn => by rw [sVal_toNat hn, sVal_toNat hn]) computes_left computes_right
  refine fun n a b m hn => (h n a b m hn).trans (congrArg _ ?_)
  simp only [toInt_le_iff]; grind
theorem opMax_computes : Computes opMax fun _ a b _ => if a.slt b then b else a := by
  have h : Computes opMax fun _ a b _ => if a.toInt ≤ b.toInt then b else a :=
    .ite (fun _ a b _ hn => by rw [sVal_toNat hn, sVal_toNat hn]) computes_right computes_left
  refine fun n a b m hn => (h n a b m hn).trans (congrArg _ ?_)
  simp only [toInt_le_iff]; grind
theorem opMinn_computes : Computes opMinn fun _ a b _ => if a.ult b then a else b := by
  intro n a b m hn
  have := a.isLt
  have := b.isLt
  simp only [opMinn, BitVec.ult_iff_toNat_lt]
  rw [Nat.mod_eq_of_lt (by omega)]
  split <;> omega
theorem opMaxn_computes : Computes opMaxn fun _ a b _ => if a.ult b then b else a := by
  intro n a b m hn
  have := a.isLt
  have := b.isLt
  simp only [opMaxn, BitVec.ult_iff_toNat_lt]
  rw [Nat.mod_eq_of_lt (by omega)]
  split <;> omega

/-! ### Counts of bits -/

theorem clzFrom_eq {a k : Nat} {p : Nat → Bool} (hp : ∀ i < k, p i = !a.testBit (k - 1 - i)) : clzFrom a k = ((List.range k).takeWhile p).length := by
  induction k generalizing p with
  | zero => rfl
  | succ k ih =>
    have ih := ih (p := p ∘ Nat.succ) fun i hi => (hp (i + 1) (by omega)).trans (by rw [show k + 1 - 1 - (i + 1) = k - 1 - i by omega])
    have h0 : p 0 = !a.testBit k := hp 0 (by omega)
    rw [List.range_succ_eq_map, List.takeWhile_cons, List.takeWhile_map, clzFrom, ih, h0]
    cases a.testBit k <;> simp
theorem ctzFrom_eq (a i k : Nat) : ctzFrom a i k = ((List.range' i k).takeWhile fun j => !a.testBit j).length := by
  induction k generalizing i with
  | zero => rfl
  | succ k ih => cases h : a.testBit i <;> simp [ctzFrom, List.range'_succ, h, ih]
theorem popFrom_eq (a k : Nat) : popFrom a k = ((List.range k).filter a.testBit).length := by
  induction k with
  | zero => rfl
  | succ k ih => cases h : a.testBit k <;> simp [popFrom, List.range_succ, h, ih]

theorem opClz_computes : Computes opClz fun n a _ _ => BitVec.ofNat n ((List.range n).takeWhile fun i => !a.getMsbD i).length := by
  intro n a b m hn
  have hp (i : Nat) (hi : i < n) : (!a.getMsbD i) = !a.toNat.testBit (n - 1 - i) := by
    rw [BitVec.getMsbD, decide_eq_true hi, Bool.true_and]; rfl
  rw [opClz, clzFrom_eq hp, BitVec.toNat_ofNat]
theorem opCtz_computes : Computes opCtz fun n a _ _ => BitVec.ofNat n ((List.range n).takeWhile fun i => !a.getLsbD i).length := by
  intro n a b m hn
  rw [opCtz, ctzFrom_eq, ← List.range_eq_range', BitVec.toNat_ofNat]; rfl
theorem opPopc_computes : Computes opPopc fun n a _ _ => BitVec.ofNat n ((List.range n).filter fun i => a.getLsbD i).length := by
  intro n a b m hn
  rw [opPopc, popFrom_eq, BitVec.toNat_ofNat]; rfl

/-! ### The result of an instruction -/

theorem intWidth_eq (fn : BitVec 4) : intWidth fn = width fn := by revert fn; decide
theorem width_pos (fn : BitVec 4) : 0 < width fn := by revert fn; decide

theorem intResult_eq {f : NatOp} {op : BitOp} (h : Computes f op)
    (w : FA) (s : State) : Machine.intResult w.fn f (s.rs w.a.toNat) (s.rs w.b.toNat) = Claims.intResult w s op := by
  unfold Machine.intResult Claims.intResult
  rw [intWidth_eq]
  dsimp only
  rw [← BitVec.toNat_setWidth, ← BitVec.toNat_setWidth, h _ _ _ _ (width_pos w.fn), BitVec.ofNat_toNat, BitVec.ofNat_toNat, BitVec.setWidth_eq]
theorem State.intOp_gives {f : NatOp} {op : BitOp} (h : Computes f op)
    (w : FA) (s : State) (lat : Nat) : s.intOp w lat f = gives s (resS s lat w.d.toNat (Claims.intResult w s op)) := by
  rw [← intResult_eq h, ← Laws.postS_gives]; rfl

/-- The instruction of a row runs the row's operation. -/
def IntRow.Runs (e : IntRow) : Prop := ∃ f, Computes f e.2.2 ∧ ∀ w s, exec (e.1 w) s = .next (s.intOp w e.2.1 f)

theorem intInstrs1_run : ∀ e ∈ intInstrs1, IntRow.Runs e := by
  unfold intInstrs1
  simp only [List.forall_mem_cons]
  exact ⟨⟨_, opAdd_computes, fun _ _ => rfl⟩, ⟨_, opSub_computes, fun _ _ => rfl⟩, ⟨_, opMul_computes, fun _ _ => rfl⟩,
    ⟨_, opMulh_computes, fun _ _ => rfl⟩, ⟨_, opMulhn_computes, fun _ _ => rfl⟩, ⟨_, opDiv_computes, fun _ _ => rfl⟩,
    ⟨_, opDivn_computes, fun _ _ => rfl⟩, ⟨_, opRem_computes, fun _ _ => rfl⟩, ⟨_, opRemn_computes, fun _ _ => rfl⟩,
    ⟨_, opAnd_computes, fun _ _ => rfl⟩, ⟨_, opOr_computes, fun _ _ => rfl⟩, ⟨_, opXor_computes, fun _ _ => rfl⟩, List.forall_mem_nil _⟩
theorem intInstrs2_run : ∀ e ∈ intInstrs2, IntRow.Runs e := by
  unfold intInstrs2
  simp only [List.forall_mem_cons]
  exact ⟨⟨_, opAndn_computes, fun _ _ => rfl⟩, ⟨_, opShl_computes, fun _ _ => rfl⟩, ⟨_, opShr_computes, fun _ _ => rfl⟩,
    ⟨_, opSha_computes, fun _ _ => rfl⟩, ⟨_, opRot_computes, fun _ _ => rfl⟩, ⟨_, opMin_computes, fun _ _ => rfl⟩,
    ⟨_, opMax_computes, fun _ _ => rfl⟩, ⟨_, opMinn_computes, fun _ _ => rfl⟩, ⟨_, opMaxn_computes, fun _ _ => rfl⟩,
    ⟨_, opClz_computes, fun _ _ => rfl⟩, ⟨_, opCtz_computes, fun _ _ => rfl⟩, ⟨_, opPopc_computes, fun _ _ => rfl⟩, List.forall_mem_nil _⟩

end Sys2Proof.Machine

namespace Sys2Proof.Proofs
open Sys2Proof.Machine Sys2Proof.Claims

/-- Settles O1: every row runs an operation on numbers that computes the row's on bit vectors. -/
theorem integerInstructions : Obligations.IntegerInstructions := by
  unfold Obligations.IntegerInstructions
  intro e he w s
  obtain ⟨f, hf, hrun⟩ : IntRow.Runs e := (List.mem_append.1 he).elim (intInstrs1_run e) (intInstrs2_run e)
  rw [hrun, State.intOp_gives hf]

end Sys2Proof.Proofs
end

section
/-! The encodings of fp32: their values, one rounding of a value that has an encoding, and their order (03 R81, R83, R92, R97). -/

namespace Sys2Proof.Machine
open Sys2Proof.Claims

/-! ### Sign, magnitude and value -/

/-- The sign bit, and mantissa and exponent of a finite magnitude. -/
def signBit (x : Nat) : Bool := x.testBit 31
def mant32 (mag : Nat) : Nat := if mag / 2 ^ 23 = 0 then mag % 2 ^ 23 else mag % 2 ^ 23 + 2 ^ 23
def expo32 (mag : Nat) : Int := if mag / 2 ^ 23 = 0 then -149 else ((mag / 2 ^ 23 : Nat) : Int) - 150

theorem signBit_eq (x : Nat) : signBit x = decide (x / 2 ^ 31 % 2 = 1) := by rw [signBit, Nat.testBit_eq_decide_div_mod_eq]
theorem signBit_of_lt {x : Nat} (h : x < 2 ^ 32) : signBit x = decide (2 ^ 31 ≤ x) := by rw [signBit_eq, decide_eq_decide]; omega
/-- A sign over a magnitude. -/
theorem enc_signBit {x : Nat} (h : x < 2 ^ 32) : fp32.enc (signBit x) (x % 2 ^ 31) = x := by
  rw [signBit_of_lt h]; simp only [Fmt.enc, fp32, decide_eq_true_eq]; split <;> omega

theorem v32_eq (x : Nat) : v32 x =
    if 0x7F7FFFFF < x % 2 ^ 31 then (if x % 2 ^ 31 % 2 ^ 23 = 0 then .inf (signBit x) else .nan)
    else .fin (signBit x) (mant32 (x % 2 ^ 31)) (expo32 (x % 2 ^ 31)) false := by
  unfold v32 Fmt.value fp32 signBit mant32 expo32
  dsimp only [Nat.reduceAdd]
  simp only [Bool.true_and, beq_iff_eq]
  split_ifs <;> congr 1
  -- the exponent of a normal number
  omega

theorem v32_nan {x : Nat} (h : nan32 x) : v32 x = .nan := by
  unfold nan32 at h
  rw [v32_eq, if_pos (by omega), if_neg (by omega)]
theorem v32_inf {x : Nat} (h : inf32 x) : v32 x = .inf (signBit x) := by
  unfold inf32 at h
  rw [v32_eq, if_pos (by omega), if_pos (by omega)]
theorem v32_fin {x : Nat} (h : x % 2 ^ 31 < 0x7F800000) : v32 x = .fin (signBit x) (mant32 (x % 2 ^ 31)) (expo32 (x % 2 ^ 31)) false := by
  rw [v32_eq, if_neg (by omega)]
theorem v32_zero {x : Nat} (h : zero32 x) : v32 x = .fin (signBit x) 0 (-149) false := by
  unfold zero32 at h
  rw [v32_fin (by omega), h]; rfl
/-- An encoding that is no NaN is finite or an infinity. -/
theorem fin_or_inf {x : Nat} (h : ¬nan32 x) : x % 2 ^ 31 < 0x7F800000 ∨ inf32 x := by unfold nan32 at h; unfold inf32; omega

theorem isNan_v32 (x : Nat) : (v32 x).isNan = true ↔ nan32 x := by
  by_cases h : nan32 x
  · simp [v32_nan h, h, Num.isNan]
  · rcases fin_or_inf h with hf | hi
    · simp [v32_fin hf, h, Num.isNan]
    · simp [v32_inf hi, h, Num.isNan]
theorem isNan_v32_of_not {x : Nat} (h : ¬nan32 x) : (v32 x).isNan = false := Bool.eq_false_iff.2 (mt (isNan_v32 x).1 h)
theorem isNeg_v32 {x : Nat} (h : ¬nan32 x) : (v32 x).isNeg = signBit x := by
  rcases fin_or_inf h with hf | hi
  · rw [v32_fin hf]; rfl
  · rw [v32_inf hi]; rfl

/-- Clearing and inverting the sign. -/
theorem abs_v32 (x : Nat) : (v32 x).abs = v32 (x % 2 ^ 31) := by
  have hn : signBit (x % 2 ^ 31) = false := by rw [signBit_eq]; simp
  rw [v32_eq, v32_eq, hn, Nat.mod_mod, apply_ite Num.abs, apply_ite Num.abs]; rfl
theorem neg_v32 {x : Nat} (hx : x < 2 ^ 32) : (v32 x).neg = v32 ((x + 2 ^ 31) % 2 ^ 32) := by
  have hm : (x + 2 ^ 31) % 2 ^ 32 % 2 ^ 31 = x % 2 ^ 31 := by omega
  have hn : signBit ((x + 2 ^ 31) % 2 ^ 32) = !signBit x := by
    rw [signBit_of_lt hx, signBit_of_lt (by omega), ← decide_not, decide_eq_decide]; omega
  rw [v32_eq, v32_eq, hn, hm, apply_ite Num.neg, apply_ite Num.neg]; rfl

/-! ### A value with an encoding is rounded to it -/

theorem mant32_lt {mag : Nat} : mant32 mag < 2 ^ 24 := by unfold mant32; split <;> omega
theorem mant32_eq_zero {mag : Nat} : mant32 mag = 0 ↔ mag = 0 := by unfold mant32; split <;> omega
/-- The grid of a finite magnitude is its own exponent's. -/
theorem grid32 {mag : Nat} (h0 : mag ≠ 0) : max (((mant32 mag).log2 : Int) + expo32 mag - 23) (-149) = expo32 mag := by
  have hm : mant32 mag ≠ 0 := mt mant32_eq_zero.1 h0
  by_cases he : mag / 2 ^ 23 = 0
  · have := (Nat.log2_lt hm).2 (show mant32 mag < 2 ^ 23 by rw [mant32, if_pos he]; omega)
    rw [expo32, if_pos he]; omega
  · have h1 := (Nat.log2_lt hm).2 (mant32_lt (mag := mag))
    have h2 := (Nat.le_log2 hm).2 (show 2 ^ 23 ≤ mant32 mag by rw [mant32, if_neg he]; omega)
    rw [expo32, if_neg he]; omega
theorem base32 (mag : Nat) : (expo32 mag + 149).toNat * 2 ^ 23 + mant32 mag = mag := by
  unfold expo32 mant32; split <;> omega

theorem roundTo_v32 {x : Nat} (hx : x < 2 ^ 32) (h : ¬nan32 x) (rm : Nat) (sat : Bool) (key : Word) : roundTo fp32 (v32 x) rm sat key = (x, 0) := by
  have henc := enc_signBit hx
  rcases fin_or_inf h with hf | hi
  · rw [v32_fin hf]
    generalize x % 2 ^ 31 = mag at hf henc
    by_cases h0 : mag = 0
    · subst h0
      exact Prod.ext henc rfl
    · simp only [roundTo]
      rw [if_neg (mt mant32_eq_zero.1 h0)]
      have hg : max (((mant32 mag).log2 : Int) + expo32 mag - (fp32.mb : Int)) (1 - (fp32.bias : Int) - fp32.mb) = expo32 mag := grid32 h0
      simp only [hg, Int.sub_self, Int.toNat_zero, Nat.pow_zero, Nat.div_one, Nat.mul_one, Nat.mod_one]
      have hb : (expo32 mag - (1 - (fp32.bias : Int) - fp32.mb)).toNat * 2 ^ fp32.mb + mant32 mag = mag := base32 mag
      have ht : mag ≤ fp32.top := Nat.le_of_lt_succ hf
      rw [hb, if_pos (by decide), if_pos ht, henc]
  · rw [v32_inf hi]
    unfold inf32 at hi
    rw [hi] at henc
    exact Prod.ext henc rfl
theorem rne32_v32 {x : Nat} (hx : x < 2 ^ 32) (h : ¬nan32 x) : rne32 (v32 x) = (x, 0) := roundTo_v32 hx h 0 false 0

/-! ### Order -/

/-- A number with a sign. -/
def signed (n : Bool) (m : Nat) : Int := if n then -(m : Int) else m

theorem signed_not (n : Bool) (m : Nat) : signed (!n) m = -signed n m := by cases n <;> simp [signed]
theorem ord32_eq {x : Nat} (hx : x < 2 ^ 32) : ord32 x = signed (signBit x) (x % 2 ^ 31) := by
  rw [signBit_of_lt hx, ord32, signed]; simp only [decide_eq_true_eq]; split_ifs <;> omega
theorem sign_eq_ite (z : Int) : z.sign = if z < 0 then -1 else if 0 < z then 1 else 0 := by
  split_ifs with hn hp
  · exact Int.sign_eq_neg_one_of_neg hn
  · exact Int.sign_eq_one_of_pos hp
  · rw [show z = 0 by omega]; rfl

/-- A strictly rising scale of magnitudes keeps the order of signed ones. -/
theorem sign_signed_sub {f : Nat → Nat} (hf : StrictMono f) (h0 : f 0 = 0) (n k : Bool) (x y : Nat) :
    (signed n (f x) - signed k (f y)).sign = (signed n x - signed k y).sign := by
  have h1 : f x < f y ↔ x < y := hf.lt_iff_lt
  have h2 : f y < f x ↔ y < x := hf.lt_iff_lt
  have hx : f x = 0 ↔ x = 0 := by rw [← h0, hf.injective.eq_iff, h0]
  have hy : f y = 0 ↔ y = 0 := by rw [← h0, hf.injective.eq_iff, h0]
  rw [sign_eq_ite, sign_eq_ite]
  cases n <;> cases k <;> simp only [signed, if_true, Bool.false_eq_true, if_false] <;> split_ifs <;> omega

/-- A finite magnitude in units of 2^-149, the least positive value. -/
def units32 (mag : Nat) : Nat := mant32 mag * 2 ^ (expo32 mag + 149).toNat

theorem units32_zero : units32 0 = 0 := rfl
theorem units32_strictMono : StrictMono units32 := by
  refine strictMono_nat_of_lt_succ fun x => ?_
  have hu (y : Nat) : units32 y = mant32 y * 2 ^ (y / 2 ^ 23 - 1) := by
    rw [units32, expo32]; congr 2; split <;> omega
  rw [hu, hu]
  by_cases hc : x % 2 ^ 23 + 1 < 2 ^ 23
  · have he : (x + 1) / 2 ^ 23 = x / 2 ^ 23 := by omega
    rw [he]
    refine Nat.mul_lt_mul_of_pos_right ?_ (Nat.two_pow_pos _)
    unfold mant32
    rw [he]; split <;> omega
  · have he : (x + 1) / 2 ^ 23 = x / 2 ^ 23 + 1 := by omega
    have hm : mant32 (x + 1) = 2 ^ 23 := by rw [mant32, if_neg (by omega)]; omega
    rw [he, hm, Nat.add_sub_cancel]
    by_cases h0 : x / 2 ^ 23 = 0
    · have : mant32 x < 2 ^ 23 := by rw [mant32, if_pos h0]; omega
      rw [h0]; simpa using this
    · have hp : 2 ^ (x / 2 ^ 23) = 2 * 2 ^ (x / 2 ^ 23 - 1) := by rw [← Nat.pow_succ']; congr 1; omega
      rw [hp, ← Nat.mul_assoc]
      exact Nat.mul_lt_mul_of_pos_right mant32_lt (Nat.two_pow_pos _)

/-- An exact sum has the sign of the sum in units of a power that neither term is below. -/
theorem addFin_sign (n k : Bool) (x y : Nat) {e f q : Int} (he : 0 ≤ e + q) (hf : 0 ≤ f + q) :
    (addFin n x e k y f).1.sign = (signed n (x * 2 ^ (e + q).toNat) + signed k (y * 2 ^ (f + q).toNat)).sign := by
  have h1 : (e + q).toNat = (e - min e f).toNat + (min e f + q).toNat := by omega
  have h2 : (f + q).toNat = (f - min e f).toNat + (min e f + q).toNat := by omega
  have hs : signed n (x * 2 ^ (e + q).toNat) + signed k (y * 2 ^ (f + q).toNat)
      = (addFin n x e k y f).1 * (2 ^ (min e f + q).toNat : Nat) := by
    rw [h1, h2, Nat.pow_add, Nat.pow_add]
    cases n <;> cases k <;> simp only [addFin, signed, if_true, Bool.false_eq_true, if_false] <;> push_cast <;> ring
  rw [hs, Int.sign_mul, Int.sign_natCast_of_ne_zero (Nat.two_pow_pos _).ne', Int.mul_one]

theorem cmp_v32 {a b : Nat} (ha : a < 2 ^ 32) (hb : b < 2 ^ 32) (na : ¬nan32 a) (nb : ¬nan32 b) :
    (v32 a).cmp (v32 b) = (ord32 a - ord32 b).sign := by
  have low (m : Nat) : 0 ≤ expo32 m + 149 := by unfold expo32; split <;> omega
  rw [ord32_eq ha, ord32_eq hb]
  rcases fin_or_inf na with ha | ha <;> rcases fin_or_inf nb with hb | hb
  case inl.inl =>
    rw [v32_fin ha, v32_fin hb, ← sign_signed_sub units32_strictMono units32_zero, sub_eq_add_neg, ← signed_not]
    exact addFin_sign _ _ _ _ (low _) (low _)
  -- an infinity lies beyond every finite magnitude
  case' inl.inr => rw [v32_fin ha, v32_inf hb]
  case' inr.inl => rw [v32_inf ha, v32_fin hb]
  case' inr.inr => rw [v32_inf ha, v32_inf hb]
  all_goals
    unfold inf32 at *
    rw [sign_eq_ite]
    cases signBit a <;> cases signBit b <;> simp only [Num.cmp, signed, if_true, Bool.false_eq_true, if_false] <;> split_ifs <;> omega

end Sys2Proof.Machine
end

section
/-! Scalar floating point: one rounding with its flags, the exact operations, and the special cases (04 R119 to R123; 03 R95, R97). -/

namespace Sys2Proof.Machine
open Sys2Proof.Claims

theorem f32_lt (s : State) (n : BitVec 6) : f32 s n < 2 ^ 32 := Nat.mod_lt _ (Nat.two_pow_pos 32)

/-! ### Rounding instructions -/

/-- An exact value rounded once, pending with its flags: what the rounding instructions answer. -/
def fpResult (s : State) (w : FA) (lat : Nat) (x : Num × Fp) : State :=
  givesFp s w lat (BitVec.ofNat 64 (rounded s w x).1) (rounded s w x).2

theorem srKey_eq (s : State) : srKey s.core 0 0 = srKey0 s := by simp [srKey, srKey0]
/-- A result with its flags, and the stochastic counter of the stream. -/
theorem givesFp_eq (s : State) (w : FA) (lat : Nat) (r : Word) (f : Fp) :
    (((s.postS lat w.d.toNat r).postF lat f).srBump 0 (rmOf w.fn)).done = givesFp s w lat r f := by
  rw [State.postS_eq_posted, State.postF_eq_posted, resF_posted, State.posted_posted, givesFp, rmOf]
  split_ifs with h <;> simp only [State.srBump, Core.srBump, h, if_true, if_false] <;> rfl
theorem State.fpOp_eq (s : State) (w : FA) (lat : Nat) (x : Num × Fp) : s.fpOp w lat x = fpResult s w lat x := by
  rw [fpResult, ← givesFp_eq, rounded, ← srKey_eq]; rfl

/-- fn bit 3 picks the unsigned conversions. -/
theorem fn_unsigned (fn : BitVec 4) : fn.getLsbD 3 = !decide (fn.toNat < 8) := by revert fn; decide

section
variable (w : FA) (s : State)
theorem exec_fadd : exec (.fadd w) s = .next (fpResult s w 4 (Num.add (w.fn.toNat % 8) (v32 (f32 s w.a)) (v32 (f32 s w.b)))) :=
  congrArg _ (s.fpOp_eq w 4 _)
theorem exec_fsub : exec (.fsub w) s = .next (fpResult s w 4 (Num.add (w.fn.toNat % 8) (v32 (f32 s w.a)) (v32 (f32 s w.b)).neg)) :=
  congrArg _ (s.fpOp_eq w 4 _)
theorem exec_fmul : exec (.fmul w) s = .next (fpResult s w 4 (Num.mul (v32 (f32 s w.a)) (v32 (f32 s w.b)))) :=
  congrArg _ (s.fpOp_eq w 4 _)
theorem exec_ffma : exec (.ffma w) s =
    .next (fpResult s w 4 (Num.fma (w.fn.toNat % 8) (v32 (f32 s w.a)) (v32 (f32 s w.b)) (v32 (f32 s w.d)))) :=
  congrArg _ (s.fpOp_eq w 4 _)
theorem exec_fdiv : exec (.fdiv w) s = .next (fpResult s w 14 (Num.div (v32 (f32 s w.a)) (v32 (f32 s w.b)))) :=
  congrArg _ (s.fpOp_eq w 14 _)
theorem exec_fsqrt : exec (.fsqrt w) s = .next (fpResult s w 14 (Num.sqrt (v32 (f32 s w.a)))) :=
  congrArg _ (s.fpOp_eq w 14 _)
theorem exec_icvtf : exec (.icvtf w) s =
    .next (fpResult s w 4 (Num.ofInt (if w.fn.toNat < 8 then (s.rs w.a.toNat).toInt else (s.rs w.a.toNat).toNat), 0)) := by
  refine (congrArg _ (s.fpOp_eq w 4 _)).trans ?_
  rw [fn_unsigned]
  by_cases h : w.fn.toNat < 8 <;> simp [h]
theorem exec_fcvti : exec (.fcvti w) s =
    .next (givesFp s w 4 (BitVec.ofInt 64 (toInt (v32 (f32 s w.a)) 64 (decide (w.fn.toNat < 8)) (w.fn.toNat % 8) (srKey0 s)).1)
      (toInt (v32 (f32 s w.a)) 64 (decide (w.fn.toNat < 8)) (w.fn.toNat % 8) (srKey0 s)).2) := by
  rw [← givesFp_eq, ← srKey_eq, ← Bool.not_not (decide _), ← fn_unsigned]; rfl
end

/-! ### Exact operations -/

theorem State.fpExact_of_encoding {x : Num} {r : Nat} (h : rne32 x = (r, 0)) (s : State) (w : FA) :
    s.fpExact w x = gives s (resS s 2 w.d.toNat (BitVec.ofNat 64 r)) := by
  rw [State.fpExact, Laws.postS_gives, h]
theorem rne32_abs {x : Nat} (h : ¬nan32 x) : rne32 (v32 x).abs = (x % 2 ^ 31, 0) := by
  rw [abs_v32]; exact rne32_v32 (by omega) (by unfold nan32 at *; omega)
theorem rne32_neg {x : Nat} (hx : x < 2 ^ 32) (h : ¬nan32 x) : rne32 (v32 x).neg = ((x + 2 ^ 31) % 2 ^ 32, 0) := by
  rw [neg_v32 hx]; exact rne32_v32 (by omega) (by unfold nan32 at *; omega)
/-- A change of the sign makes a NaN canonical. -/
theorem State.fpExact_of_sign (s : State) (w : FA) {a r : Nat} {x : Num} (hn : nan32 a → x = .nan) (hx : ¬nan32 a → rne32 x = (r, 0)) :
    ∃ q, (nan32 a → q = 0x7FC00000) ∧ (¬nan32 a → q = r) ∧ s.fpExact w x = gives s (resS s 2 w.d.toNat (BitVec.ofNat 64 q)) := by
  by_cases h : nan32 a
  · exact ⟨_, fun _ => rfl, absurd h, State.fpExact_of_encoding (hn h ▸ rfl) s w⟩
  · exact ⟨r, fun h' => absurd h' h, fun _ => rfl, State.fpExact_of_encoding (hx h) s w⟩

theorem rank32_lt_iff {a b : Nat} (hb : b < 2 ^ 32) :
    rank32 a < rank32 b ↔ ord32 a < ord32 b ∨ ord32 a = ord32 b ∧ 2 ^ 31 ≤ a ∧ b < 2 ^ 31 := by
  simp only [rank32, ord32]; split_ifs <;> omega
/-- `Num.minmax` takes the operand of the lower or the higher rank, −0 below +0. -/
theorem minmax_v32 {a b : Nat} (ha : a < 2 ^ 32) (hb : b < 2 ^ 32) (na : ¬nan32 a) (nb : ¬nan32 b) (max : Bool) :
    Num.minmax max (v32 a) (v32 b) = v32 (if decide (rank32 a < rank32 b) = max then b else a) := by
  have hless : (if (v32 a).cmp (v32 b) = 0 then (v32 a).isNeg && !(v32 b).isNeg else decide ((v32 a).cmp (v32 b) < 0))
      = decide (rank32 a < rank32 b) := by
    rw [cmp_v32 ha hb na nb, isNeg_v32 na, isNeg_v32 nb, signBit_of_lt ha, signBit_of_lt hb]
    simp only [Int.sign_eq_zero_iff_zero, Int.sign_neg_iff, rank32_lt_iff hb]
    grind
  rw [Num.minmax, if_neg (mt (isNan_v32 a).1 na), if_neg (mt (isNan_v32 b).1 nb)]
  dsimp only
  rw [hless, apply_ite v32]
theorem isMinmax_minmax {a b : Nat} (ha : a < 2 ^ 32) (hb : b < 2 ^ 32) (max : Bool) :
    ∃ r, isMinmax max a b r ∧ rne32 (Num.minmax max (v32 a) (v32 b)) = (r, 0) := by
  by_cases na : nan32 a
  · have hm : Num.minmax max (v32 a) (v32 b) = v32 b := if_pos ((isNan_v32 a).2 na)
    by_cases nb : nan32 b
    · exact ⟨0x7FC00000, by simp [isMinmax, na, nb], by rw [hm, v32_nan nb]; rfl⟩
    · exact ⟨b, by simp [isMinmax, na, nb], by rw [hm, rne32_v32 hb nb]⟩
  · by_cases nb : nan32 b
    · have hm : Num.minmax max (v32 a) (v32 b) = v32 a := (if_neg (mt (isNan_v32 a).1 na)).trans (if_pos ((isNan_v32 b).2 nb))
      exact ⟨a, by simp [isMinmax, na, nb], by rw [hm, rne32_v32 ha na]⟩
    · refine ⟨if decide (rank32 a < rank32 b) = max then b else a, ?_, ?_⟩
      · simp only [isMinmax, na, nb]; grind
      · rw [minmax_v32 ha hb na nb, rne32_v32] <;> split <;> assumption

theorem test_v32 {a b : Nat} (ha : a < 2 ^ 32) (hb : b < 2 ^ 32) (fn : Nat) : Num.test fn (v32 a) (v32 b) = true ↔ fcmpHolds fn a b := by
  by_cases hn : nan32 a ∨ nan32 b
  · have hu : ((v32 a).isNan || (v32 b).isNan) = true := by rwa [Bool.or_eq_true, isNan_v32, isNan_v32]
    unfold Num.test fcmpHolds
    simp only [hu]
    split <;> grind
  · obtain ⟨ha', hb'⟩ := not_or.1 hn
    have hu : ((v32 a).isNan || (v32 b).isNan) = false := by rw [isNan_v32_of_not ha', isNan_v32_of_not hb']; rfl
    have hc := cmp_v32 ha hb ha' hb'
    unfold Num.test fcmpHolds
    simp only [hu, hc]
    split <;> simp [ha', hb', Int.sign_eq_zero_iff_zero, Int.sign_neg_iff, Int.sign_pos_iff, Int.sub_eq_zero]

section
variable (w : FA) (s : State)
theorem exec_fmin : exec (.fmin w) s = .next (s.fpExact w (Num.minmax false (v32 (f32 s w.a)) (v32 (f32 s w.b)))) := rfl
theorem exec_fmax : exec (.fmax w) s = .next (s.fpExact w (Num.minmax true (v32 (f32 s w.a)) (v32 (f32 s w.b)))) := rfl
theorem exec_fabs : exec (.fabs w) s = .next (s.fpExact w (v32 (f32 s w.a)).abs) := rfl
theorem exec_fneg : exec (.fneg w) s = .next (s.fpExact w (v32 (f32 s w.a)).neg) := rfl
theorem exec_fcmp : exec (.fcmp w) s = .next (gives s (resP s 2 w.d.toNat (Num.test w.fn.toNat (v32 (f32 s w.a)) (v32 (f32 s w.b))))) := by
  rw [← Laws.postP_gives]; rfl
end

end Sys2Proof.Machine

namespace Sys2Proof.Proofs
open Sys2Proof.Machine Sys2Proof.Claims

theorem scalarFloatRounding : ScalarFloatRounding :=
  fun w s => ⟨exec_fadd w s, exec_fsub w s, exec_fmul w s, exec_ffma w s, exec_fdiv w s, exec_fsqrt w s, exec_icvtf w s, exec_fcvti w s⟩

theorem scalarFloatExact : ScalarFloatExact := by
  intro w s a b
  have ha : a < 2 ^ 32 := f32_lt s w.a
  have hb : b < 2 ^ 32 := f32_lt s w.b
  refine ⟨?fmin, ?fmax, ?fabs, ?fneg, _, test_v32 ha hb _, exec_fcmp w s⟩
  case fmin =>
    obtain ⟨r, hr, he⟩ := isMinmax_minmax ha hb false
    exact ⟨r, hr, by rw [exec_fmin, State.fpExact_of_encoding he]⟩
  case fmax =>
    obtain ⟨r, hr, he⟩ := isMinmax_minmax ha hb true
    exact ⟨r, hr, by rw [exec_fmax, State.fpExact_of_encoding he]⟩
  case fabs =>
    obtain ⟨r, hn, hr, he⟩ := s.fpExact_of_sign w (fun h => by rw [v32_nan h]; rfl) (rne32_abs (x := a))
    exact ⟨r, hn, hr, (exec_fabs w s).trans (congrArg _ he)⟩
  case fneg =>
    obtain ⟨r, hn, hr, he⟩ := s.fpExact_of_sign w (fun h => by rw [v32_nan h]; rfl) (rne32_neg ha)
    exact ⟨r, hn, hr, (exec_fneg w s).trans (congrArg _ he)⟩

/-- Settles O5: the rounding instructions, and the exact operations on encodings. -/
theorem scalarFloat : Obligations.ScalarFloat := by
  unfold Obligations.ScalarFloat
  exact ⟨scalarFloatRounding, scalarFloatExact⟩

end Sys2Proof.Proofs
end

section
/-! The special cases of scalar floating point: NaN, infinities, zeros and invalid operations (04 R120; 03 R89, R92). -/

namespace Sys2Proof.Machine
open Sys2Proof.Claims

/-! ### Exact values -/

section
variable {x y z : Num}

theorem Num.add_of_nan (h : x = .nan ∨ y = .nan) (rm : Nat) : Num.add rm x y = (.nan, 0) := by
  rcases h with rfl | rfl
  · cases y <;> rfl
  · cases x <;> rfl
theorem Num.mul_of_nan (h : x = .nan ∨ y = .nan) : Num.mul x y = (.nan, 0) := by
  rcases h with rfl | rfl
  · cases y <;> rfl
  · cases x <;> rfl
theorem Num.div_of_nan (h : x = .nan ∨ y = .nan) : Num.div x y = (.nan, 0) := by
  rcases h with rfl | rfl
  · cases y <;> rfl
  · cases x <;> rfl
theorem Num.fma_of_nan (h : x = .nan ∨ y = .nan ∨ z = .nan) (rm : Nat) : Num.fma rm x y z = (.nan, 0) := by
  have hp : (x.mul y).1 = .nan ∨ z = .nan := by
    rcases h with h | h | h
    · exact .inl (by rw [Num.mul_of_nan (.inl h)])
    · exact .inl (by rw [Num.mul_of_nan (.inr h)])
    · exact .inr h
  have hn : (x.isNan || y.isNan || z.isNan) = true := by
    rcases h with rfl | rfl | rfl <;> simp [Num.isNan]
  rw [Num.fma, Num.add_of_nan hp, hn]; rfl
/-- An invalid product makes the whole operation invalid, unless an operand is NaN. -/
theorem Num.fma_of_invalid (hp : x.mul y = (.nan, fIV)) (hn : (x.isNan || y.isNan || z.isNan) = false) (rm : Nat) :
    Num.fma rm x y z = (.nan, fIV) := by
  rw [Num.fma, hp, Num.add_of_nan (.inl rfl), hn]; rfl
theorem Num.add_opposite_inf {n k : Bool} (h : n ≠ k) (rm : Nat) : Num.add rm (.inf n) (.inf k) = (.nan, fIV) := if_neg h
end

/-- Of two infinities with one sign there is one encoding. -/
theorem signBit_ne_of_inf {a b : Nat} (ha : a < 2 ^ 32) (hb : b < 2 ^ 32) (ia : inf32 a) (ib : inf32 b) (h : a ≠ b) : signBit a ≠ signBit b := by
  intro hs
  apply h
  rw [← enc_signBit ha, ← enc_signBit hb, hs, ia, ib]
theorem div_eq_signBit {x : Nat} (h : x < 2 ^ 32) : x / 2 ^ 31 = (signBit x).toNat := by
  rw [signBit_of_lt h]
  by_cases hx : 2 ^ 31 ≤ x <;> simp only [hx, decide_true, decide_false, Bool.toNat_true, Bool.toNat_false] <;> omega
theorem xsign_eq {a b : Nat} (ha : a < 2 ^ 32) (hb : b < 2 ^ 32) : xsign a b = if (signBit a != signBit b) = true then 2 ^ 31 else 0 := by
  rw [xsign, div_eq_signBit ha, div_eq_signBit hb]
  cases signBit a <;> cases signBit b <;> rfl

/-! ### Their one rounding -/

section
variable (s : State) (w : FA) (lat : Nat) (n : Bool) (f : Fp)
theorem fpResult_nan : fpResult s w lat (.nan, f) = givesFp s w lat 0x7FC00000 f := by
  have h : rounded s w (.nan, f) = (0x7FC00000, f) := Prod.ext rfl BitVec.or_zero
  rw [fpResult, h]; rfl
theorem fpResult_inf : fpResult s w lat (.inf n, f) = givesFp s w lat (BitVec.ofNat 64 (0x7F800000 + if n = true then 2 ^ 31 else 0)) f := by
  have h : rounded s w (.inf n, f) = (0x7F800000 + if n = true then 2 ^ 31 else 0, f) := Prod.ext rfl BitVec.or_zero
  rw [fpResult, h]
theorem fpResult_zero : fpResult s w lat (.zero n, f) = givesFp s w lat (BitVec.ofNat 64 (if n = true then 2 ^ 31 else 0)) f := by
  have h : rounded s w (.zero n, f) = (if n = true then 2 ^ 31 else 0, f) := Prod.ext (Nat.zero_add _) BitVec.or_zero
  rw [fpResult, h]
end

/-! ### Quotients and roots of encodings -/

section
variable {a b : Nat}

theorem mul_zero_inf (h : zero32 a ∧ inf32 b ∨ inf32 a ∧ zero32 b) : Num.mul (v32 a) (v32 b) = (.nan, fIV) := by
  obtain ⟨ha, hb⟩ | ⟨ha, hb⟩ := h
  · rw [v32_zero ha, v32_inf hb]; rfl
  · rw [v32_inf ha, v32_zero hb]; rfl
theorem div_invalid (h : zero32 a ∧ zero32 b ∨ inf32 a ∧ inf32 b) : Num.div (v32 a) (v32 b) = (.nan, fIV) := by
  obtain ⟨ha, hb⟩ | ⟨ha, hb⟩ := h
  · rw [v32_zero ha, v32_zero hb]; rfl
  · rw [v32_inf ha, v32_inf hb]; rfl
theorem div_by_zero (na : ¬nan32 a) (ia : ¬inf32 a) (za : ¬zero32 a) (hb : zero32 b) :
    Num.div (v32 a) (v32 b) = (.inf (signBit a != signBit b), fDZ) := by
  rw [v32_fin ((fin_or_inf na).resolve_right ia), v32_zero hb]
  simp only [Num.div, if_true, if_neg (mt mant32_eq_zero.1 za)]
theorem zero_div (ha : zero32 a) (nb : ¬nan32 b) (zb : ¬zero32 b) : Num.div (v32 a) (v32 b) = (.zero (signBit a != signBit b), 0) := by
  rw [v32_zero ha]
  rcases fin_or_inf nb with hb | hb
  · rw [v32_fin hb]
    simp only [Num.div, if_true, if_neg (mt mant32_eq_zero.1 zb)]
  · rw [v32_inf hb]; rfl
theorem div_by_inf (na : ¬nan32 a) (ia : ¬inf32 a) (hb : inf32 b) : Num.div (v32 a) (v32 b) = (.zero (signBit a != signBit b), 0) := by
  rw [v32_fin ((fin_or_inf na).resolve_right ia), v32_inf hb]; rfl
theorem sqrt_of_neg (ha : a < 2 ^ 32) (na : ¬nan32 a) (h : 2 ^ 31 < a) : Num.sqrt (v32 a) = (.nan, fIV) := by
  have hs : signBit a = true := by rw [signBit_of_lt ha]; simp; omega
  rcases fin_or_inf na with hf | hi
  · have hm : mant32 (a % 2 ^ 31) ≠ 0 := mt mant32_eq_zero.1 (by omega)
    rw [v32_fin hf, hs]
    exact if_neg hm
  · rw [v32_inf hi, hs]; rfl
end

end Sys2Proof.Machine

namespace Sys2Proof.Proofs
open Sys2Proof.Machine Sys2Proof.Claims

/-- Settles O6: the exact value of each special case, and what one rounding makes of it. -/
theorem scalarFloatSpecialCases : Obligations.ScalarFloatSpecialCases := by
  unfold Obligations.ScalarFloatSpecialCases
  intro w s a b d nan
  have ha : a < 2 ^ 32 := f32_lt s w.a
  have hb : b < 2 ^ 32 := f32_lt s w.b
  refine ⟨fun h => ?nanOperand, fun h => ?nanFma, fun h => ?nanSqrt, fun h => ⟨?zeroInf, fun nd => ?zeroInfFma⟩, fun ia ib h => ?addInf,
    fun ia ib h => ?subInf, fun h => ?divInvalid, fun na h => ?sqrtNeg, fun na ia za zb => ?divZero, fun za nb zb => ?zeroDiv,
    fun na ia ib => ?divInf, fun h => ?sqrtZero, fun h => ?sqrtInf⟩
  case nanOperand =>
    have h' : v32 a = .nan ∨ v32 b = .nan := h.imp v32_nan v32_nan
    have hs : v32 a = .nan ∨ (v32 b).neg = .nan := h'.imp_right fun e => by rw [e]; rfl
    exact ⟨by rw [exec_fadd, Num.add_of_nan h', fpResult_nan], by rw [exec_fsub, Num.add_of_nan hs, fpResult_nan],
      by rw [exec_fmul, Num.mul_of_nan h', fpResult_nan], by rw [exec_fdiv, Num.div_of_nan h', fpResult_nan]⟩
  case nanFma => rw [exec_ffma, Num.fma_of_nan (h.imp v32_nan (Or.imp v32_nan v32_nan)), fpResult_nan]
  case nanSqrt => rw [exec_fsqrt, v32_nan h]; exact congrArg _ (fpResult_nan ..)
  case zeroInf => rw [exec_fmul, mul_zero_inf h, fpResult_nan]
  case zeroInfFma =>
    obtain ⟨na, nb⟩ : ¬nan32 a ∧ ¬nan32 b := by unfold zero32 inf32 at h; unfold nan32; omega
    have hn : ((v32 a).isNan || (v32 b).isNan || (v32 d).isNan) = false := by
      rw [isNan_v32_of_not na, isNan_v32_of_not nb, isNan_v32_of_not nd]; rfl
    rw [exec_ffma, Num.fma_of_invalid (mul_zero_inf h) hn, fpResult_nan]
  case addInf => rw [exec_fadd, v32_inf ia, v32_inf ib, Num.add_opposite_inf (signBit_ne_of_inf ha hb ia ib h), fpResult_nan]
  case subInf =>
    have hx : (v32 b).neg = .inf (!signBit a) := by rw [← h, v32_inf ia]; rfl
    rw [exec_fsub, v32_inf ia, hx, Num.add_opposite_inf (by simp), fpResult_nan]
  case divInvalid => rw [exec_fdiv, div_invalid h, fpResult_nan]
  case sqrtNeg => rw [exec_fsqrt, sqrt_of_neg ha na h, fpResult_nan]
  case divZero => rw [exec_fdiv, div_by_zero na ia za zb, fpResult_inf, xsign_eq ha hb]
  case zeroDiv => rw [exec_fdiv, zero_div za nb zb, fpResult_zero, xsign_eq ha hb]
  case divInf => rw [exec_fdiv, div_by_inf na ia ib, fpResult_zero, xsign_eq ha hb]
  case sqrtZero =>
    have hx : Num.sqrt (v32 a) = (.zero true, 0) := by rw [h]; rfl
    rw [exec_fsqrt, hx, fpResult_zero]; rfl
  case sqrtInf =>
    have hx : Num.sqrt (v32 a) = (.inf false, 0) := by rw [h]; rfl
    rw [exec_fsqrt, hx, fpResult_inf]; rfl

end Sys2Proof.Proofs
end

section
/-! Issue of a vector instruction that leaves writes pending: what stands once it is done (02 R52; 05 R156; 06 R183, R189). -/

namespace Sys2Proof.Machine
open Sys2Proof.Claims

/-! ### Issue -/

section
variable {s : State} {v : VW} {cons lat occ : Nat} {ps : List Pend} {body : State → State}

/-- An instruction that can issue runs its body, and takes its tokens where that is done. -/
theorem State.issue_of_done (hg : goes s v cons) (hd : (body s).core.out = .done) :
    s.issue v.tok cons body = (body s).mapCore fun c => c.tokTake s.core.cur.stream (tokWaits v.tok) := by
  obtain ⟨hw, hf, hgate⟩ := hg
  have hfull : (cons != 7 && s.core.tokFull s.core.cur.stream cons) = false := by rcases hf with h | h <;> simp [h]
  simp only [State.issue, hw, hfull, hgate, hd, Bool.not_true, Bool.false_eq_true, if_false]

theorem issued_eq (s : State) (v : VW) (cons lat occ : Nat) (ps : List Pend) :
    ((((s.posted ps).signalAt cons lat).occupy occ).done).mapCore (fun c => c.tokTake s.core.cur.stream (tokWaits v.tok))
      = issued s v cons lat occ ps := by
  by_cases h : cons = 7
  · subst h; rfl
  · simp only [State.posted, State.signalAt, State.occupy, State.done, State.setOut, State.mapCore, issued, Core.signalAt, h, if_false]; rfl

/-- An instruction that posts its writes, signals its consumer and takes its cycles. -/
theorem State.issue_posted (hg : goes s v cons) (hb : body s = (((s.posted ps).signalAt cons lat).occupy occ).done) :
    s.issue v.tok cons body = issued s v cons lat occ ps := by
  rw [State.issue_of_done hg (by rw [hb]; rfl), hb, issued_eq]

end

theorem sigOf_eq (v : VW) : sigOf v = consumer v := tokField_zero v.tok

/-! ### Operands in groups of registers -/

theorem firstFault_none {fs : List (Option Trap)} (h : ∀ t ∈ fs, t = none) : firstFault fs = none := by
  induction fs with
  | nil => rfl
  | cons t r ih =>
    obtain ⟨rfl, hr⟩ := List.forall_mem_cons.1 h
    exact ih hr

theorem usable_mono {s : State} {y : Bool} {rd wr rd' wr' : List Nat} (h : usable s y rd wr) (hr : ∀ o ∈ rd', o ∈ rd) (hw : ∀ o ∈ wr', o ∈ wr) :
    usable s y rd' wr' := by
  obtain ⟨hin, hsound⟩ := h
  refine ⟨fun o ho => hin o ?_, fun o ho => hsound o (hr o ho)⟩
  rw [List.mem_append] at ho ⊢
  exact ho.imp (hr o) (hw o)

theorem grpFault_grouped {r : BitVec 6} {k : Nat} (h : grouped r k) (c : Core) (y : Bool) : c.grpFault y r.toNat k = none := by
  obtain ⟨h0, h1⟩ := h
  exact if_neg (by omega)
theorem grouped_one (r : BitVec 6) : grouped r 1 := ⟨Nat.mod_one _, r.isLt⟩

theorem touch_eq (x : Cluster) (r k bits n : Nat) (act : Nat → Bool) :
    x.touch r k bits n act = ((List.range n).filter act).flatMap fun i => elemOffs (x.regOff (r + i % k)) bits (i / k) := by
  rw [Cluster.touch]
  induction List.range n with
  | nil => rfl
  | cons i r ih =>
    rw [List.flatMap_cons, List.filter_cons, ih]
    split <;> rfl
theorem touch_group (s : State) (v : VW) (r : BitVec 6) (k bits n : Nat) : s.cl.touch r.toNat k bits n (vAct s.cl v) = gbytes s v r k bits n :=
  touch_eq ..
theorem gbytes_one (s : State) (v : VW) (r : BitVec 6) (bits n : Nat) : gbytes s v r 1 bits n = bytesOf s v r bits n := by
  rw [← touch_group, Laws.touch_alone]

theorem gelt_toNat (s : State) (r : BitVec 6) {k : Nat} (hk : 0 < k) (bits i : Nat) : (gelt s r k bits i).toNat = s.cl.gvals r.toNat k bits i := by
  have hi := Nat.mod_lt i hk
  simp only [gelt, Cluster.vals, Cluster.gvals, elem, BitVec.toNat_ofNat, Nat.mod_mod, List.getD_eq_getElem?_getD, List.getElem?_map,
    List.getElem?_range hi, Option.map_some, Option.getD_some]

/-! ### The common forms of a body -/

section
variable {s : State} {v : VW} {lat occ : Nat}

theorem State.vbody_posted {fs : List (Option Trap)} (h : firstFault fs = none) (bs : LBytes) (fl : Fp) :
    s.vbody (tokField v.tok 0) lat occ fs bs fl
      = (((s.posted ([res s lat 0 (.reg s.isY bs)] ++ resF s lat fl)).signalAt (consumer v) lat).occupy occ).done := by
  have hF (t : State) : (t.mapCore fun c => c.postF lat fl) = t.posted (resF t lat fl) := State.postF_eq_posted ..
  rw [State.vbody, h, tokField_zero]
  simp only [hF, State.post_eq_posted, State.posted_posted, resF_posted]
  rfl

/-- An elementwise result in a group of registers: the active elements written, with the flags of them all. -/
theorem State.vmap_posted {vd : BitVec 6} {n k b : Nat} {rd : List (Nat × Nat × Nat)} {pre : List (Option Trap)} (hp : ∀ t ∈ pre, t = none)
    (hk : grouped vd k) (hu : usable s s.isY (rd.flatMap fun r => s.cl.touch r.1 r.2.1 r.2.2 n (vAct s.cl v)) (gbytes s v vd k b n))
    (f : Nat → Nat × Fp) :
    s.vmap vd.toNat v n k b lat occ rd pre f
      = (((s.posted ([res s lat 0 (.reg s.isY ((active s v n).flatMap fun j => elemPut (s.cl.regOff (vd.toNat + j % k)) b (j / k) (f j).1))]
          ++ resF s lat ((active s v n).foldl (fun a j => a ||| (f j).2) 0))).signalAt (consumer v) lat).occupy occ).done := by
  rw [← touch_group] at hu
  refine (State.vbody_posted (firstFault_none ?noFault) _ _).trans ?sameResult
  case noFault =>
    rw [List.forall_mem_append, List.forall_mem_cons, List.forall_mem_singleton]
    exact ⟨hp, grpFault_grouped hk _ _, Laws.regFault_none hu⟩
  case sameResult => rw [List.flatMap_map, orFlags, List.foldl_map]; rfl

/-- No flags are set where no element raises one. -/
theorem resF_foldl_zero (s : State) (lat : Nat) (l : List Nat) : resF s lat (l.foldl (fun a _ => a ||| 0) 0) = [] := by
  have : l.foldl (fun (a : Fp) _ => a ||| 0) 0 = 0 := List.foldlRecOn (motive := fun a : Fp => a = 0) _ _ rfl fun a h _ _ => by rw [h]; rfl
  rw [this]; rfl
end

/-! ### The sources of an instruction of one, two or three operands -/

theorem map_sources {k : Nat} (hk : 1 ≤ k ∧ k ≤ 3) (w : FV) (v : VW) (b : Nat) :
    [(w.va.toNat, 1, b)] ++ (if 2 ≤ k then [(w.vb.toNat, 1, b)] else []) ++ (if k = 3 then [(v.vc.toNat, 1, b)] else [])
      = (sources w v k).map fun r => (r.toNat, 1, b) := by
  obtain rfl | rfl | rfl : k = 1 ∨ k = 2 ∨ k = 3 := by omega
  all_goals rfl

theorem exec_of_mem_long {f64 : FV → VW → Instr} {f : FV → VW → State → State} (h64 : ∀ w v s, exec (f64 w v) s = .next (f w v s))
    {w : FV} {v : VW} {i : Instr} (hi : i ∈ long f64 w v) (s : State) : exec i s = .next (f w v s) := by
  rw [List.mem_singleton.1 hi, h64]
/-- What the 64-bit form's operation answers is what both forms do. -/
theorem next_of_mem_both {f32 : FV → Instr} {f64 : FV → VW → Instr} {f : FV → VW → State → State} (h64 : ∀ w v s, exec (f64 w v) s = .next (f w v s))
    (h32 : ∀ w s, exec (f32 w) s = .next (f w VW.plain s)) {w : FV} {v : VW} {i : Instr} (hi : i ∈ both f32 f64 w v) {s t : State}
    (h : f w v s = t) : exec i s = .next t := by
  rw [exec_of_mem_both h64 h32 hi, h]

end Sys2Proof.Machine
end

section
/-! Vector integer instructions: the model's exact results, wrapped or clamped, are the operations of 06 Table 6.6 on bit vectors
(03 R80; 06 R187, R189, R196). -/

namespace Sys2Proof.Machine
open Sys2Proof.Claims

/-- A model's operation, from signedness and SAT: the exact result at a width, of the operands' values. -/
abbrev ExactOp := (sg sat : Bool) → Nat → Int → Int → Int → Int
/-- An operation of 06 Table 6.6. -/
abbrev LaneOp := (n : Nat) → (sg sat : Bool) → BitVec n → BitVec n → BitVec n → BitVec n

/-- What the model writes of the result of `k` operands is `op`; `clamp` tells from SAT whether it is clamped. -/
def LaneComputes (k : Nat) (clamp : Bool → Bool) (f : ExactOp) (op : LaneOp) : Prop :=
  ∀ (sg sat : Bool) (n : Nat) (a b c : BitVec n), 0 < n →
    let r := f sg sat n (val sg a) (if 2 ≤ k then val sg b else 0) (if k = 3 then val sg c else 0)
    intBits n (if clamp sat then clampInt n sg r else r) = (op n sg sat a b c).toNat

/-- Whatever SAT says, the result wraps, or it is clamped. -/
def wraps (_ : Bool) : Bool := false
def clamps (_ : Bool) : Bool := true

/-! ### Values and encodings -/

section
variable {n : Nat} (sg : Bool) (a : BitVec n)

@[simp] theorem ofInt_val : BitVec.ofInt n (val sg a) = a :=
  BitVec.eq_of_toNat_eq (by rw [← Laws.intBits_eq, Laws.intBits_val])

/-- A number in the range of the type is the value of its encoding. -/
theorem val_ofInt (hn : 0 < n) {x : Int} (hlo : val sg (smallest n sg) ≤ x) (hhi : x ≤ val sg (largest n sg)) : val sg (BitVec.ofInt n x) = x := by
  rw [val_smallest sg hn] at hlo
  rw [val_largest] at hhi
  cases sg with
  | false =>
    simp only [Bool.false_eq_true, if_false] at hlo hhi
    have hm : x % (2 ^ n : Nat) = x := Int.emod_eq_of_lt hlo (by omega)
    rw [val, if_neg Bool.false_ne_true, BitVec.toNat_ofInt, hm, Int.toNat_of_nonneg hlo]
  | true =>
    simp only [if_true] at hlo hhi
    push_cast at hlo hhi
    exact BitVec.toInt_ofInt_eq_self hn hlo (by omega)

theorem clampInt_bounds (hn : 0 < n) (x : Int) : val sg (smallest n sg) ≤ clampInt n sg x ∧ clampInt n sg x ≤ val sg (largest n sg) := by
  have h : val sg (smallest n sg) ≤ val sg (largest n sg) := val_le_largest sg _
  rw [val_smallest sg hn, val_largest] at h ⊢
  simp only [clampInt]
  grind

/-- The sum of VADDMIN and VADDMAX after sat or wrap (06 Table 6.7). -/
theorem iSum_val (hn : 0 < n) (sat : Bool) (b : BitVec n) : iSum sg sat n (val sg a) (val sg b) = val sg (fit n sg sat (val sg a + val sg b)) := by
  have hf : fit n sg sat (val sg a + val sg b)
      = BitVec.ofInt n (if sat then clampInt n sg (val sg a + val sg b) else val sg a + val sg b) :=
    BitVec.eq_of_toNat_eq (by rw [← Laws.intBits_eq, Laws.fit_toNat])
  rw [hf]
  cases sat with
  | true =>
    obtain ⟨hlo, hhi⟩ := clampInt_bounds sg hn (val sg a + val sg b)
    exact (val_ofInt sg hn hlo hhi).symm
  | false =>
    simp only [iSum, Bool.false_eq_true, if_false]
    rw [Laws.intBits_eq, intVal_toNat _ _ hn]

/-- A shift by more than the width is one by the width. -/
theorem sshiftRight_min (m : Nat) : a.sshiftRight (min n m) = a.sshiftRight m := by
  ext i hi
  rw [BitVec.getElem_sshiftRight, BitVec.getElem_sshiftRight]
  grind
theorem shiftRight_min (m : Nat) : a.toNat / 2 ^ min n m = (a >>> m).toNat := by
  rw [BitVec.toNat_ushiftRight, Nat.shiftRight_eq_div_pow]
  rcases Nat.le_total m n with h | h
  · rw [Nat.min_eq_right h]
  · have hlt := a.isLt
    rw [Nat.min_eq_left h, Nat.div_eq_of_lt hlt, Nat.div_eq_of_lt (hlt.trans_le (Nat.pow_le_pow_right (by decide) h))]
end

/-! ### The operations of 06 Table 6.6 -/

section
variable {k : Nat} {f : ExactOp} {op : LaneOp}

/-- A result that wraps. -/
theorem LaneComputes.of_ofInt
    (h : ∀ (sg sat : Bool) (n : Nat) (a b c : BitVec n), 0 < n →
      BitVec.ofInt n (f sg sat n (val sg a) (if 2 ≤ k then val sg b else 0) (if k = 3 then val sg c else 0)) = op n sg sat a b c) :
    LaneComputes k wraps f op := fun sg sat n a b c hn => by
  rw [← h sg sat n a b c hn, ← Laws.intBits_eq]; rfl
/-- A result that is clamped where `clamp` says so. -/
theorem LaneComputes.of_fit {clamp : Bool → Bool}
    (h : ∀ (sg sat : Bool) (n : Nat) (a b c : BitVec n), 0 < n →
      fit n sg (clamp sat) (f sg sat n (val sg a) (if 2 ≤ k then val sg b else 0) (if k = 3 then val sg c else 0)) = op n sg sat a b c) :
    LaneComputes k clamp f op := fun sg sat n a b c hn => by
  rw [← h sg sat n a b c hn, ← Laws.fit_toNat]
/-- A result that is a number of the model. -/
theorem LaneComputes.of_nat {g : Nat → Int → Int → Int → Nat}
    (h : ∀ (sg sat : Bool) (n : Nat) (a b c : BitVec n), 0 < n →
      g n (val sg a) (if 2 ≤ k then val sg b else 0) (if k = 3 then val sg c else 0) % 2 ^ n = (op n sg sat a b c).toNat) :
    LaneComputes k wraps (fun _ _ n x y z => (g n x y z : Nat)) op := fun sg sat n a b c hn =>
  h sg sat n a b c hn
end

theorem vadd_computes : LaneComputes 2 wraps (fun _ _ _ a b _ => a + b) fun _ _ _ a b _ => a + b :=
  .of_ofInt fun sg _ n a b _ _ => (BitVec.ofInt_add ..).trans (by rw [ofInt_val, if_pos (by decide), ofInt_val])
theorem vsub_computes : LaneComputes 2 wraps (fun _ _ _ a b _ => a - b) fun _ _ _ a b _ => a - b :=
  .of_ofInt fun sg _ n a b _ _ => by
    have h := BitVec.ofInt_add (n := n) (val sg a - val sg b) (val sg b)
    rw [Int.sub_add_cancel, ofInt_val, ofInt_val] at h
    exact eq_sub_of_add_eq h.symm
theorem vadds_computes : LaneComputes 2 clamps (fun _ _ _ a b _ => a + b) fun n sg _ a b _ => fit n sg true (val sg a + val sg b) :=
  .of_fit fun _ _ _ _ _ _ _ => rfl
theorem vsubs_computes : LaneComputes 2 clamps (fun _ _ _ a b _ => a - b) fun n sg _ a b _ => fit n sg true (val sg a - val sg b) :=
  .of_fit fun _ _ _ _ _ _ _ => rfl
theorem vmul_computes : LaneComputes 2 id (fun _ _ _ a b _ => a * b) fun n sg sat a b _ => fit n sg sat (val sg a * val sg b) :=
  .of_fit fun _ _ _ _ _ _ _ => rfl
theorem vmulh_computes : LaneComputes 2 wraps (fun _ _ => iMulh) fun n sg _ a b _ => BitVec.ofInt n (val sg a * val sg b / (2 ^ n : Nat)) :=
  .of_ofInt fun _ _ _ _ _ _ _ => rfl
theorem vmac_computes : LaneComputes 3 id (fun _ _ _ a b c => c + a * b) fun n sg sat a b c => fit n sg sat (val sg c + val sg a * val sg b) :=
  .of_fit fun _ _ _ _ _ _ _ => rfl

/-- An operation on the bits of both operands. -/
theorem ofRaw_computes {g : Nat → Nat → Nat → Nat} {op : LaneOp} 
    (h : ∀ (sg sat : Bool) (n : Nat) (a b c : BitVec n), g n a.toNat b.toNat = (op n sg sat a b c).toNat) :
    LaneComputes 2 wraps (fun _ _ => ofRaw g) op :=
  .of_nat fun sg sat n a b c _ => by
    rw [if_pos (by decide), Laws.intBits_val, Laws.intBits_val, h sg sat n a b c, Nat.mod_eq_of_lt (BitVec.isLt _)]
theorem vand_computes : LaneComputes 2 wraps (fun _ _ => ofRaw fun _ a b => a &&& b) fun _ _ _ a b _ => a &&& b :=
  ofRaw_computes fun _ _ _ a b _ => (BitVec.toNat_and a b).symm
theorem vor_computes : LaneComputes 2 wraps (fun _ _ => ofRaw fun _ a b => a ||| b) fun _ _ _ a b _ => a ||| b :=
  ofRaw_computes fun _ _ _ a b _ => (BitVec.toNat_or a b).symm
theorem vxor_computes : LaneComputes 2 wraps (fun _ _ => ofRaw fun _ a b => a ^^^ b) fun _ _ _ a b _ => a ^^^ b :=
  ofRaw_computes fun _ _ _ a b _ => (BitVec.toNat_xor a b).symm

theorem vshl_computes : LaneComputes 2 id (fun _ _ => iShl) fun n sg sat a b _ => fit n sg sat (val sg a * (2 ^ min n b.toNat : Nat)) :=
  .of_fit fun sg _ n a b _ _ => by rw [if_pos (by decide), iShl, Laws.intBits_val]; rfl
theorem vshr_computes : LaneComputes 2 wraps (fun _ _ => iShr) fun _ _ _ a b _ => a >>> b.toNat :=
  .of_nat fun sg _ n a b _ _ => by
    rw [if_pos (by decide), Laws.intBits_val, Laws.intBits_val, shiftRight_min, Nat.mod_eq_of_lt (BitVec.isLt _)]
theorem vsha_computes : LaneComputes 2 wraps (fun _ _ => iSha) fun _ _ _ a b _ => a.sshiftRight b.toNat :=
  .of_ofInt fun sg _ n a b _ hn => by
    rw [if_pos (by decide), iSha, Laws.intBits_val, Laws.intBits_val, intVal_toNat _ _ hn, ← sshiftRight_min, BitVec.sshiftRight_eq,
      Int.shiftRight_eq_div_pow]
    rfl
theorem vmin_computes : LaneComputes 2 wraps (fun _ _ _ a b _ => min a b) fun _ sg _ a b _ => if val sg a ≤ val sg b then a else b :=
  .of_ofInt fun sg _ n a b _ _ => by
    rw [if_pos (by decide), min_def, apply_ite (BitVec.ofInt n), ofInt_val, ofInt_val]
theorem vmax_computes : LaneComputes 2 wraps (fun _ _ _ a b _ => max a b) fun _ sg _ a b _ => if val sg a ≤ val sg b then b else a :=
  .of_ofInt fun sg _ n a b _ _ => by
    rw [if_pos (by decide), max_def, apply_ite (BitVec.ofInt n), ofInt_val, ofInt_val]
theorem vabs_computes : LaneComputes 1 id (fun _ _ _ a _ _ => (a.natAbs : Int)) fun n sg sat a _ _ => fit n sg sat ((val sg a).natAbs : Int) :=
  .of_fit fun _ _ _ _ _ _ _ => rfl
theorem vneg_computes : LaneComputes 1 id (fun _ _ _ a _ _ => -a) fun n sg sat a _ _ => fit n sg sat (-val sg a) :=
  .of_fit fun _ _ _ _ _ _ _ => rfl
theorem vclz_computes : LaneComputes 1 wraps (fun _ _ => iClz) fun n _ _ a _ _ =>
    BitVec.ofNat n ((List.range n).takeWhile fun i => !a.getMsbD i).length :=
  .of_nat fun sg _ n a _ _ hn => by rw [Laws.intBits_val]; exact opClz_computes n a a 0 hn
theorem vpopc_computes : LaneComputes 1 wraps (fun _ _ => iPopc) fun n _ _ a _ _ =>
    BitVec.ofNat n ((List.range n).filter fun i => a.getLsbD i).length :=
  .of_nat fun sg _ n a _ _ hn => by rw [Laws.intBits_val]; exact opPopc_computes n a a 0 hn
theorem vaddmin_computes : LaneComputes 3 wraps (fun sg sat b x y z => min (iSum sg sat b x y) z)
    fun n sg sat a b c => let t := fit n sg sat (val sg a + val sg b); if val sg c ≤ val sg t then c else t :=
  .of_ofInt fun sg sat n a b c hn => by
    rw [if_pos (by decide), if_pos rfl, iSum_val sg a hn, min_comm, min_def, apply_ite (BitVec.ofInt n), ofInt_val, ofInt_val]
theorem vaddmax_computes : LaneComputes 3 wraps (fun sg sat b x y z => max (iSum sg sat b x y) z)
    fun n sg sat a b c => let t := fit n sg sat (val sg a + val sg b); if val sg c ≤ val sg t then t else c :=
  .of_ofInt fun sg sat n a b c hn => by
    rw [if_pos (by decide), if_pos rfl, iSum_val sg a hn, max_comm, max_def, apply_ite (BitVec.ofInt n), ofInt_val, ofInt_val]

/-! ### Rows -/

/-- Every form of the row runs `vInt` with the row's operation. -/
def VRow.Runs (e : VRow) : Prop :=
  (1 ≤ e.2.1 ∧ e.2.1 ≤ 3) ∧ ∃ clamp f, LaneComputes e.2.1 clamp f e.2.2
    ∧ ∀ w v s, ∀ i ∈ e.1 w v, exec i s = .next (vInt (clamp (isSat v)) e.2.1 (f (tySigned w.ty.toNat) (isSat v)) w v s)

section
variable {k : Nat} {clamp : Bool → Bool} {f : ExactOp} {op : LaneOp} {f32 : FV → Instr} {f64 : FV → VW → Instr}

theorem VRow.Runs.of_both (hk : 1 ≤ k ∧ k ≤ 3) (hg : LaneComputes k clamp f op)
    (h64 : ∀ w v s, exec (f64 w v) s = .next (vInt (clamp (isSat v)) k (f (tySigned w.ty.toNat) (isSat v)) w v s))
    (h32 : ∀ w s, exec (f32 w) s = .next (vInt (clamp (isSat .plain)) k (f (tySigned w.ty.toNat) (isSat .plain)) w .plain s)) :
    VRow.Runs (both f32 f64, k, op) :=
  ⟨hk, clamp, f, hg, fun _ _ s _ hi =>
    exec_of_mem_both (f := fun w v => vInt (clamp (isSat v)) k (f (tySigned w.ty.toNat) (isSat v)) w v) h64 h32 hi s⟩
theorem VRow.Runs.of_long (hk : 1 ≤ k ∧ k ≤ 3) (hg : LaneComputes k clamp f op)
    (h64 : ∀ w v s, exec (f64 w v) s = .next (vInt (clamp (isSat v)) k (f (tySigned w.ty.toNat) (isSat v)) w v s)) :
    VRow.Runs (long f64, k, op) :=
  ⟨hk, clamp, f, hg, fun _ _ s _ hi =>
    exec_of_mem_long (f := fun w v => vInt (clamp (isSat v)) k (f (tySigned w.ty.toNat) (isSat v)) w v) h64 hi s⟩
end

theorem vecInts1_run : ∀ e ∈ vecInts1, VRow.Runs e := by
  unfold vecInts1
  simp only [List.forall_mem_cons]
  exact ⟨.of_both (by decide) vadd_computes (fun _ _ _ => rfl) fun _ _ => rfl,
    .of_both (by decide) vsub_computes (fun _ _ _ => rfl) fun _ _ => rfl,
    .of_both (by decide) vadds_computes (fun _ _ _ => rfl) fun _ _ => rfl,
    .of_both (by decide) vsubs_computes (fun _ _ _ => rfl) fun _ _ => rfl,
    .of_both (by decide) vmul_computes (fun _ _ _ => rfl) fun _ _ => rfl,
    .of_both (by decide) vmulh_computes (fun _ _ _ => rfl) fun _ _ => rfl,
    .of_long (by decide) vmac_computes fun _ _ _ => rfl,
    .of_both (by decide) vand_computes (fun _ _ _ => rfl) fun _ _ => rfl,
    .of_both (by decide) vor_computes (fun _ _ _ => rfl) fun _ _ => rfl,
    .of_both (by decide) vxor_computes (fun _ _ _ => rfl) fun _ _ => rfl, List.forall_mem_nil _⟩
theorem vecInts2_run : ∀ e ∈ vecInts2, VRow.Runs e := by
  unfold vecInts2
  simp only [List.forall_mem_cons]
  exact ⟨.of_both (by decide) vshl_computes (fun _ _ _ => rfl) fun _ _ => rfl,
    .of_both (by decide) vshr_computes (fun _ _ _ => rfl) fun _ _ => rfl,
    .of_both (by decide) vsha_computes (fun _ _ _ => rfl) fun _ _ => rfl,
    .of_both (by decide) vmin_computes (fun _ _ _ => rfl) fun _ _ => rfl,
    .of_both (by decide) vmax_computes (fun _ _ _ => rfl) fun _ _ => rfl,
    .of_both (by decide) vabs_computes (fun _ _ _ => rfl) fun _ _ => rfl,
    .of_both (by decide) vneg_computes (fun _ _ _ => rfl) fun _ _ => rfl,
    .of_both (by decide) vclz_computes (fun _ _ _ => rfl) fun _ _ => rfl,
    .of_both (by decide) vpopc_computes (fun _ _ _ => rfl) fun _ _ => rfl,
    .of_long (by decide) vaddmin_computes fun _ _ _ => rfl,
    .of_long (by decide) vaddmax_computes fun _ _ _ => rfl, List.forall_mem_nil _⟩

/-- An elementwise integer instruction writes its operation on every active element. -/
theorem vInt_issued {w : FV} {v : VW} {s : State} {n k : Nat} {clamp : Bool → Bool} {f : ExactOp} {op : LaneOp} (hn : n = tyBits w.ty.toNat)
    (hk : 1 ≤ k ∧ k ≤ 3) (hop : LaneComputes k clamp f op) (hg : goes s v (consumer v))
    (hu : usable s s.isY ((sources w v k).flatMap fun r => bytesOf s v r n (4096 / n)) (bytesOf s v w.vd n (4096 / n))) :
    vInt (clamp (isSat v)) k (f (tySigned w.ty.toNat) (isSat v)) w v s
      = issued s v (consumer v) 2 1 [res s 2 0 (writes s w.vd n (active s v (4096 / n)) fun j =>
          op n (tySigned w.ty.toNat) (v.sat == 1) (elt s w.va n j) (elt s w.vb n j) (elt s v.vc n j))] := by
  subst hn
  have hb := Laws.tyBits_pos w.ty.toNat
  refine (Laws.issue_vmap (rd := sources w v k) hg hu (by rw [← map_sources hk]; rfl)).trans ?_
  simp only [Laws.intVal_elt s _ _ _ _ hb, hop _ _ _ _ _ _ hb, resF_foldl_zero, List.append_nil]
  rfl

end Sys2Proof.Machine

namespace Sys2Proof.Proofs
open Sys2Proof.Machine Sys2Proof.Claims

/-- Settles O22: every form runs `vInt`, with an exact operation that gives the row's on bit vectors. -/
theorem vectorIntegers : Obligations.VectorIntegers := by
  unfold Obligations.VectorIntegers
  intro e he w v s i hi n hg hu
  obtain ⟨hk, clamp, f, hop, hrun⟩ : VRow.Runs e := (List.mem_append.1 he).elim (vecInts1_run e) (vecInts2_run e)
  rw [hrun w v s i hi, vInt_issued rfl hk hop hg hu]

end Sys2Proof.Proofs
end

section
/-! Vector float instructions: one rounding of each active element's exact result, and the stochastic counter (03 R95; 06 R200, R201). -/

namespace Sys2Proof.Machine
open Sys2Proof.Claims

/-! ### The stochastic counter, beside tokens and signals -/

/-- The given tokens that remain when those of `ws` are consumed. -/
def tokensLeft (given : Store Nat) (q : Nat) (ws : List Nat) : Store Nat :=
  ws.foldl (fun g p => if p = 7 then g else g.set (tokKey p q) (g.get (tokKey p q) - 1)) given
theorem Core.tokTake_eq (c : Core) (q : Nat) (ws : List Nat) : c.tokTake q ws = { c with given := tokensLeft c.given q ws } := by
  induction ws generalizing c with
  | nil => rfl
  | cons p r ih =>
    rw [Core.tokTake, tokensLeft, List.foldl_cons, List.foldl_cons]
    split
    · exact ih c
    · exact ih { c with given := c.given.set (tokKey p q) (c.given.get (tokKey p q) - 1) }

theorem Core.srBump_tokTake (c : Core) (st rm q : Nat) (ws : List Nat) : (c.srBump st rm).tokTake q ws = (c.tokTake q ws).srBump st rm := by
  rw [Core.tokTake_eq, Core.tokTake_eq, Core.srBump, Core.srBump]
  split <;> rfl
theorem Core.srBump_out (c : Core) (st rm : Nat) : (c.srBump st rm).out = c.out := by
  rw [Core.srBump]; split <;> rfl
theorem counted_eq (s : State) (rm : Nat) : counted s rm = s.srBump s.core.cur.stream rm := by
  by_cases h : rm = 5
  · rw [h]; rfl
  · rw [counted, if_neg h, State.srBump, State.mapCore, Core.srBump, if_neg h]
theorem issued_cur (s : State) (v : VW) (cons lat occ : Nat) (ps : List Pend) : (issued s v cons lat occ ps).core.cur = s.core.cur := by
  rw [issued, Core.tokTake_eq, Core.signalAt]
  split <;> rfl

/-- An instruction that rounds moves its stream's counter on where it rounds with SR (03 R95). -/
theorem State.issue_counted {s : State} {v : VW} {cons lat occ rm : Nat} {ps : List Pend} {body : State → State} (hg : goes s v cons)
    (hb : body s = ((((s.posted ps).signalAt cons lat).occupy occ).done).srBump s.core.cur.stream rm) :
    s.issue v.tok cons body = counted (issued s v cons lat occ ps) rm := by
  rw [State.issue_of_done hg (by rw [hb]; exact Core.srBump_out ..), hb, counted_eq, issued_cur, ← issued_eq]
  exact congrArg (fun c => ({ s with core := c } : State)) (Core.srBump_tokTake ..)

/-! ### Elements and rows -/

theorem vround_eq_vecRound (s : State) (w : FV) (v : VW) (j : Nat) (x : Num × Fp) :
    vround (fmtOr w.ty.toNat) v.rm.toNat (isSat v) (srKey s.core s.core.cur.stream j) x = vecRound s w v j x := by
  simp only [vround, vecRound, isSat, Bool.and_eq_true, beq_iff_eq, bne_iff_ne]

/-- Every form of the row runs `vFp` with the row's latency and exact value. -/
def VFRow.Runs (e : VFRow) : Prop :=
  (1 ≤ e.2.2.1 ∧ e.2.2.1 ≤ 3) ∧ ∀ w v s, ∀ i ∈ e.1 w v, exec i s = .next (vFp e.2.1 e.2.2.1 e.2.2.2 w v s)

section
variable {lat k : Nat} {f : Nat → Num → Num → Num → Num × Fp} {f32 : FV → Instr} {f64 : FV → VW → Instr}

theorem VFRow.Runs.of_both (hk : 1 ≤ k ∧ k ≤ 3) (h64 : ∀ w v s, exec (f64 w v) s = .next (vFp lat k f w v s))
    (h32 : ∀ w s, exec (f32 w) s = .next (vFp lat k f w .plain s)) : VFRow.Runs (both f32 f64, lat, k, f) :=
  ⟨hk, fun _ _ s _ hi => exec_of_mem_both h64 h32 hi s⟩
theorem VFRow.Runs.of_long (hk : 1 ≤ k ∧ k ≤ 3) (h64 : ∀ w v s, exec (f64 w v) s = .next (vFp lat k f w v s)) :
    VFRow.Runs (long f64, lat, k, f) :=
  ⟨hk, fun _ _ s _ hi => exec_of_mem_long h64 hi s⟩
end

theorem vecFloats_run : ∀ e ∈ vecFloats, VFRow.Runs e := by
  unfold vecFloats
  simp only [List.forall_mem_cons]
  exact ⟨.of_both (by decide) (fun _ _ _ => rfl) fun _ _ => rfl, .of_both (by decide) (fun _ _ _ => rfl) fun _ _ => rfl,
    .of_both (by decide) (fun _ _ _ => rfl) fun _ _ => rfl, .of_long (by decide) fun _ _ _ => rfl,
    .of_long (by decide) fun _ _ _ => rfl, .of_long (by decide) fun _ _ _ => rfl,
    .of_both (by decide) (fun _ _ _ => rfl) fun _ _ => rfl, .of_both (by decide) (fun _ _ _ => rfl) fun _ _ => rfl,
    .of_both (by decide) (fun _ _ _ => rfl) fun _ _ => rfl, .of_both (by decide) (fun _ _ _ => rfl) fun _ _ => rfl,
    .of_both (by decide) (fun _ _ _ => rfl) fun _ _ => rfl, .of_both (by decide) (fun _ _ _ => rfl) fun _ _ => rfl, List.forall_mem_nil _⟩

/-- An element's result: its exact value from the values of its operands, rounded once. -/
def laneRound (s : State) (w : FV) (v : VW) (k : Nat) (f : Nat → Num → Num → Num → Num × Fp) (j : Nat) : Nat × Fp :=
  let fm := fmtOr w.ty.toNat
  let n := tyBits w.ty.toNat
  vecRound s w v j (f v.rm.toNat (fm.value (elt s w.va n j).toNat) (if 2 ≤ k then fm.value (elt s w.vb n j).toNat else .nan)
    (if k = 3 then fm.value (elt s v.vc n j).toNat else .nan))

theorem vFp_issued {w : FV} {v : VW} {s : State} {n lat k : Nat} {f : Nat → Num → Num → Num → Num × Fp} (hn : n = tyBits w.ty.toNat)
    (hk : 1 ≤ k ∧ k ≤ 3) (hg : goes s v (consumer v))
    (hu : usable s s.isY ((sources w v k).flatMap fun r => bytesOf s v r n (4096 / n)) (bytesOf s v w.vd n (4096 / n))) :
    vFp lat k f w v s = counted (issued s v (consumer v) lat 1
      ([res s lat 0 (.reg s.isY ((active s v (4096 / n)).flatMap fun j => elemPut (s.cl.regOff w.vd.toNat) n j (laneRound s w v k f j).1))]
        ++ resF s lat ((active s v (4096 / n)).foldl (fun a j => a ||| (laneRound s w v k f j).2) 0))) v.rm.toNat := by
  have hreads : usable s s.isY (((sources w v k).map fun r => (r.toNat, 1, n)).flatMap fun r =>
      s.cl.touch r.1 r.2.1 r.2.2 (4096 / n) (vAct s.cl v)) (gbytes s v w.vd 1 n (4096 / n)) := by
    rw [List.flatMap_map, gbytes_one]
    simpa only [Laws.touch_alone] using hu
  subst hn
  rw [vFp, sigOf_eq]
  refine State.issue_counted hg ?_
  dsimp only
  rw [map_sources hk, vN, State.vmap_posted (List.forall_mem_nil _) (grouped_one w.vd) hreads]
  simp only [vround_eq_vecRound, ← Laws.elt_toNat, Nat.mod_one, Nat.div_one, Nat.add_zero]
  rfl

end Sys2Proof.Machine

namespace Sys2Proof.Proofs
open Sys2Proof.Machine Sys2Proof.Claims

/-- Settles O23: every form runs `vFp`, with the row's latency and exact value. -/
theorem vectorFloats : Obligations.VectorFloats := by
  unfold Obligations.VectorFloats
  intro e he w v s i hi n f r hg hu
  obtain ⟨hk, hrun⟩ := vecFloats_run e he
  rw [hrun w v s i hi, vFp_issued rfl hk hg hu]
  rfl

end Sys2Proof.Proofs
end

section
/-! Widening and dot products, compares into a mask, and selection (06 R183, R197 to R199). -/

namespace Sys2Proof.Machine
open Sys2Proof.Claims

/-! ### Results in a group of registers -/

theorem gwrites_one (s : State) (v : VW) (r : BitVec 6) (bits n : Nat) (f : Nat → BitVec bits) :
    gwrites s v r 1 bits n f = writes s r bits (active s v n) f := by
  simp only [gwrites, writes, Nat.mod_one, Nat.div_one, Nat.add_zero]

/-- One product of VDOT4: each source has a signedness of its own (06 R198). -/
def dotTerm (s : State) (w : FV) (v : VW) (n i : Nat) : Int :=
  val (tySigned w.ty.toNat) (elt s w.va n i) * val (tySigned v.ty2.toNat) (elt s w.vb n i)

section
variable {w : FV} {v : VW} {s : State} (hg : goes s v (consumer v))
include hg

/-- An elementwise result without flags. -/
theorem issue_vmap_group {n k b lat occ : Nat} {rd : List (Nat × Nat × Nat)} {pre : List (Option Trap)} {f : Nat → Nat} {g : Nat → BitVec b}
    (hp : ∀ t ∈ pre, t = none) (hk : grouped w.vd k)
    (hu : usable s s.isY (rd.flatMap fun r => s.cl.touch r.1 r.2.1 r.2.2 n (vAct s.cl v)) (gbytes s v w.vd k b n)) (hf : ∀ j, f j = (g j).toNat)
    {body : State → State} (hb : body s = s.vmap w.vd.toNat v n k b lat occ rd pre fun j => (f j, 0)) :
    s.issue v.tok (sigOf v) body = issued s v (consumer v) lat occ [res s lat 0 (gwrites s v w.vd k b n g)] := by
  rw [sigOf_eq]
  refine State.issue_posted hg (hb.trans ?_)
  rw [State.vmap_posted hp hk hu]
  simp only [hf, resF_foldl_zero, List.append_nil]
  rfl

/-- The products of VMULW, and with `acc` the sums of VMACW. -/
theorem vWide_issued (acc : Bool) {n : Nat} (hn : n = tyBits w.ty.toNat) (hd : grouped w.vd 2) (hc : acc = true → grouped v.vc 2)
    (hu : usable s s.isY (bytesOf s v w.va n (4096 / n) ++ bytesOf s v w.vb n (4096 / n)
        ++ (if acc then gbytes s v v.vc 2 (2 * n) (4096 / n) else []))
      (gbytes s v w.vd 2 (2 * n) (4096 / n))) :
    vWide acc w v s = issued s v (consumer v) 2 2 [res s 2 0 (gwrites s v w.vd 2 (2 * n) (4096 / n) fun j =>
      fit (2 * n) (tySigned w.ty.toNat) (v.sat == 1) ((if acc then val (tySigned w.ty.toNat) (gelt s v.vc 2 (2 * n) j) else 0)
        + val (tySigned w.ty.toNat) (elt s w.va n j) * val (tySigned w.ty.toNat) (elt s w.vb n j)))] := by
  subst hn
  have hb := Laws.tyBits_pos w.ty.toNat
  refine issue_vmap_group hg (pre := if acc then [s.core.grpFault s.isY v.vc.toNat 2] else []) ?noFault hd ?reads (fun j => ?value) rfl
  case noFault =>
    cases acc with
    | false => exact List.forall_mem_nil _
    | true => exact List.forall_mem_singleton.2 (grpFault_grouped (hc rfl) _ _)
  case reads =>
    cases acc <;> simpa [touch_group, gbytes_one, vN] using hu
  case value =>
    rw [← Laws.fit_toNat, Laws.intVal_elt s w.va _ _ _ hb, Laws.intVal_elt s w.vb _ _ _ hb, ← gelt_toNat s v.vc (by decide),
      intVal_toNat _ _ (by omega), isSat]
    cases acc
    · simp
    · simp [Int.add_comm]

/-- The sums of VDOT4: a result's mask bit governs its four products (06 R198). -/
theorem vDot4_issued {n : Nat} (hn : n = tyBits w.ty.toNat)
    (hu : usable s s.isY ([w.va, w.vb, v.vc].flatMap fun r => bytesOf s v r (4 * n) (4096 / n / 4)) (bytesOf s v w.vd (4 * n) (4096 / n / 4))) :
    vDot4 w v s = issued s v (consumer v) 2 1 [res s 2 0 (writes s w.vd (4 * n) (active s v (4096 / n / 4)) fun j =>
      fit (4 * n) (tySigned w.ty.toNat || tySigned v.ty2.toNat) (v.sat == 1) (val (tySigned w.ty.toNat || tySigned v.ty2.toNat) (elt s v.vc (4 * n) j)
        + (dotTerm s w v n (4 * j) + dotTerm s w v n (4 * j + 1) + dotTerm s w v n (4 * j + 2) + dotTerm s w v n (4 * j + 3))))] := by
  subst hn
  have hb := Laws.tyBits_pos w.ty.toNat
  have hsum (p : Nat → Int) (c : Int) : (List.range 4).foldl (fun a m => a + p m) c = c + (p 0 + p 1 + p 2 + p 3) := by
    simp only [List.range_succ, List.range_zero, List.nil_append, List.cons_append, List.foldl_cons, List.foldl_nil, Int.add_assoc]
  have hfault : s.core.regFault s.isY ([w.va.toNat, w.vb.toNat, v.vc.toNat].flatMap fun r =>
      s.cl.touch r 1 (4 * tyBits w.ty.toNat) (4096 / tyBits w.ty.toNat / 4) (vAct s.cl v))
      (s.cl.touch w.vd.toNat 1 (4 * tyBits w.ty.toNat) (4096 / tyBits w.ty.toNat / 4) (vAct s.cl v)) = none :=
    Laws.regFault_none (by simpa only [List.flatMap_cons, List.flatMap_nil, Laws.touch_alone] using hu)
  refine (Laws.issue_vbody (fs := [none]) (fl := 0) rfl hg (by rw [← hfault]; rfl)).trans ?_
  simp only [vN, List.flatMap_map, hsum, Laws.intVal_elt s _ _ _ _ hb, Laws.intVal_elt s v.vc _ _ _ (Nat.mul_pos four_pos hb), isSat, Laws.fit_toNat]
  rfl

/-! ### Selection -/

/-- VSEL reads the elements that its selector picks (06 R199). -/
theorem vSel_issued {n : Nat} (hn : n = tyBits w.ty.toNat)
    (hu : usable s s.isY ((active s v (4096 / n)).flatMap fun j =>
        elemOffs (s.cl.regOff (if (s.cl.masks.get v.vc.toNat).getLsbD j then w.va else w.vb).toNat) n j) (bytesOf s v w.vd n (4096 / n))) :
    vSel w v s = issued s v (consumer v) 2 1 [res s 2 0 (writes s w.vd n (active s v (4096 / n)) fun j =>
      if (s.cl.masks.get v.vc.toNat).getLsbD j = true then elt s w.va n j else elt s w.vb n j)] := by
  subst hn
  rw [← gwrites_one]
  refine issue_vmap_group (v := v) hg (List.forall_mem_singleton.2 ?picked) (grouped_one w.vd) ?dest (fun j => ?value) rfl
  case picked =>
    refine Laws.regFault_none (usable_mono hu (fun o ho => ?_) (List.forall_mem_nil _))
    simp only [touch_eq, List.mem_append, List.mem_flatMap, List.mem_filter, Bool.and_eq_true, Nat.mod_one, Nat.div_one, Nat.add_zero,
      Bool.not_eq_true'] at ho
    rcases ho with ⟨j, ⟨hj, ha, hm⟩, ho⟩ | ⟨j, ⟨hj, ha, hm⟩, ho⟩
    · exact List.mem_flatMap.2 ⟨j, List.mem_filter.2 ⟨hj, ha⟩, by rw [hm]; exact ho⟩
    · exact List.mem_flatMap.2 ⟨j, List.mem_filter.2 ⟨hj, ha⟩, by rw [hm]; exact ho⟩
  case dest =>
    rw [gbytes_one]
    exact usable_mono hu (List.forall_mem_nil _) fun o ho => ho
  case value => split <;> rw [Laws.elt_toNat]

end

/-! ### Masks as results -/

/-- A mask result, its signal and its cycle. -/
theorem State.vMask_posted (s : State) (sig lat r : Nat) (care bits : BitVec 1024) :
    s.vMask sig lat r care bits = (((s.posted [res s lat 0 (.mask s.isY r care bits)]).signalAt sig lat).occupy 1).done := rfl

section
variable (f : Nat → Bool) {m n j : Nat}
theorem getLsbD_lowBits (hj : j < m) : (BitVec.ofNat m (lowBits f n)).getLsbD j = (decide (j < n) && f j) := by
  rw [BitVec.getLsbD_ofNat, testBit_lowBits, decide_eq_true hj, Bool.true_and]
/-- The bits of `f` below `n`, and every bit from there. -/
theorem getLsbD_lowBits_add (hn : n ≤ m) (hj : j < m) :
    (BitVec.ofNat m (lowBits f n + (2 ^ m - 2 ^ n))).getLsbD j = (decide (n ≤ j) || f j) := by
  have htop : 2 ^ m - 2 ^ n = 2 ^ n * (2 ^ (m - n) - 1) := by
    rw [Nat.mul_sub_one, ← Nat.pow_add, Nat.add_sub_cancel' hn]
  rw [BitVec.getLsbD_ofNat, htop, Nat.add_comm, Nat.testBit_two_pow_mul_add _ (lowBits_lt f n), Nat.testBit_two_pow_sub_one, testBit_lowBits]
  grind
end

theorem elements_le (t : Nat) : 4096 / tyBits t ≤ 1024 := by
  unfold tyBits; split <;> decide

/-- What a compare writes at bit `j`: its condition on an active element, 0 elsewhere. -/
def compareBit (f : Nat → Nat → Nat → Bool) (w : FV) (v : VW) (s : State) (j : Nat) : Bool :=
  vAct s.cl v j && f (w.vd.toNat / 16) (s.cl.vals w.va.toNat (tyBits w.ty.toNat) j) (s.cl.vals w.vb.toNat (tyBits w.ty.toNat) j)

/-- A compare writes the mask of vd bits 3:0; `g` is its condition, which two bits of vd name (06 R199). -/
theorem vCompare_issued {w : FV} {v : VW} {s : State} {n : Nat} (hg : goes s v (consumer v)) (hn : n = tyBits w.ty.toNat)
    (hu : usable s s.isY (bytesOf s v w.va n (4096 / n) ++ bytesOf s v w.vb n (4096 / n)) []) {f g : Nat → Nat → Nat → Bool}
    (hf : ∀ c < 4, ∀ x y, f c x y = g c x y) :
    ∃ x, isMask s (w.vd.toNat % 16) (fun j => decide (4096 / n ≤ j) || vAct s.cl v j)
        (fun j => decide (j < 4096 / n) && g (w.vd.toNat / 16) (elt s w.va n j).toNat (elt s w.vb n j).toNat) x
      ∧ vCompare f w v s = issued s v (consumer v) 2 1 [res s 2 0 x] := by
  have hfault : s.core.regFault s.isY ([w.va.toNat, w.vb.toNat].flatMap fun r => s.cl.touch r 1 n (4096 / n) (vAct s.cl v)) [] = none :=
    Laws.regFault_none (by simpa only [List.flatMap_cons, List.flatMap_nil, List.append_nil, Laws.touch_alone] using hu)
  have hissue : vCompare f w v s = issued s v (consumer v) 2 1 [res s 2 0 (.mask s.isY (w.vd.toNat % 16)
      (BitVec.ofNat 1024 (lowBits (vAct s.cl v) (4096 / n) + (2 ^ 1024 - 2 ^ (4096 / n))))
      (BitVec.ofNat 1024 (lowBits (compareBit f w v s) (4096 / n))))] := by
    rw [vCompare, sigOf_eq]
    refine State.issue_posted hg ?_
    dsimp only [vN]
    rw [← hn, hfault]
    exact (State.vMask_posted ..).trans (by rw [hn]; rfl)
  have hn4 : 4096 / n ≤ 1024 := hn ▸ elements_le w.ty.toNat
  refine ⟨_, ⟨_, _, rfl, fun j hj => getLsbD_lowBits_add _ hn4 hj, fun j hj hcare => ?_⟩, hissue⟩
  rw [getLsbD_lowBits _ hj]
  by_cases h : j < 4096 / n
  · have ha : vAct s.cl v j = true := by simpa [Nat.not_le.2 h] using hcare
    have hc : w.vd.toNat / 16 < 4 := by have := w.vd.isLt; omega
    simp only [Laws.elt_toNat, ← hf _ hc, compareBit, ha, hn, Bool.true_and]
  · simp only [decide_eq_false h, Bool.false_and]

theorem vCmp_eq (w : FV) (v : VW) (s : State) : ∃ f, (∀ c < 4, ∀ x y, f c x y
      = vcond c (intVal (tyBits w.ty.toNat) (tySigned w.ty.toNat) x) (intVal (tyBits w.ty.toNat) (tySigned w.ty.toNat) y))
    ∧ vCmp w v s = vCompare f w v s :=
  ⟨_, fun _ _ _ _ => rfl, rfl⟩
/-- VFCMP has the first four conditions of FCMP, which are all that two bits can name. -/
theorem vFcmp_eq (w : FV) (v : VW) (s : State) : ∃ f,
    (∀ c < 4, ∀ x y, f c x y = Num.test c ((fmtOr w.ty.toNat).value x) ((fmtOr w.ty.toNat).value y))
    ∧ vFcmp w v s = vCompare f w v s := by
  unfold vFcmp
  refine ⟨_, fun c hc x y => ?_, rfl⟩
  match c, hc with
  | 0, _ | 1, _ | 2, _ | 3, _ => rfl

end Sys2Proof.Machine

namespace Sys2Proof.Proofs
open Sys2Proof.Machine Sys2Proof.Claims

theorem vectorWideProducts : VectorWideProducts := by
  intro w v s hg n sg
  refine ⟨fun hd i hi hu => ?product, fun hd hc hu => ?accumulated, fun hu => ?dot⟩
  case product =>
    rw [exec_of_mem_both (fun _ _ _ => rfl) (fun _ _ => rfl) hi s,
      vWide_issued hg false rfl hd (fun h => nomatch h) (by rwa [if_neg Bool.false_ne_true, List.append_nil])]
    simp only [Bool.false_eq_true, if_false, Int.zero_add]
    rfl
  case accumulated => exact congrArg _ (vWide_issued hg true rfl hd (fun _ => hc) hu)
  case dot => exact congrArg _ (vDot4_issued hg rfl hu)

theorem vectorCompares : VectorCompares := by
  intro w v s hg n care
  refine ⟨fun hu => ⟨?integers, ?floats⟩, fun hu => ?select⟩
  case integers =>
    obtain ⟨f, hf, hrun⟩ := vCmp_eq w v s
    obtain ⟨x, hx, hissued⟩ := vCompare_issued hg rfl hu hf
    simp only [intVal_toNat _ _ (Laws.tyBits_pos _)] at hx
    exact ⟨x, hx, fun i hi => next_of_mem_both (fun _ _ _ => rfl) (fun _ _ => rfl) hi (hrun.trans hissued)⟩
  case floats =>
    obtain ⟨f, hf, hrun⟩ := vFcmp_eq w v s
    obtain ⟨x, hx, hissued⟩ := vCompare_issued hg rfl hu hf
    exact ⟨x, hx, fun i hi => next_of_mem_both (fun _ _ _ => rfl) (fun _ _ => rfl) hi (hrun.trans hissued)⟩
  case select => exact congrArg _ (vSel_issued hg rfl hu)

/-- Settles O24: the common end of a vector instruction, with the values that each one writes. -/
theorem vectorProductsAndCompares : Obligations.VectorProductsAndCompares := by
  unfold Obligations.VectorProductsAndCompares
  exact ⟨vectorWideProducts, vectorCompares⟩

end Sys2Proof.Proofs
end

section
/-! Masks, scalar results, moves, views and tokens of the vector streams (06 R182 to R195). -/

namespace Sys2Proof.Machine
open Sys2Proof.Claims

/-! ### Mask instructions -/

theorem getLsbD_ones (n : Nat) {j : Nat} (hj : j < 1024) : (ones n).getLsbD j = decide (j < n) := by
  rw [ones, BitVec.getLsbD_ofNat, Nat.testBit_two_pow_sub_one, decide_eq_true hj, Bool.true_and]

/-- An instruction that writes a whole mask. -/
theorem wholeMask_issued {v : VW} {s : State} (hg : goes s v (consumer v)) {r : Nat} {bits : BitVec 1024} {f : Nat → Bool} {body : State → State}
    (hb : body s = s.vMask (sigOf v) 2 r (ones 1024) bits) (hf : ∀ j < 1024, bits.getLsbD j = f j) :
    ∃ x, isMask s r (fun _ => true) f x ∧ s.issue v.tok (sigOf v) body = issued s v (consumer v) 2 1 [res s 2 0 x] := by
  refine ⟨_, ⟨_, _, rfl, fun j hj => (getLsbD_ones 1024 hj).trans (decide_eq_true hj), fun j hj _ => hf j hj⟩, ?_⟩
  rw [sigOf_eq] at hb ⊢
  exact State.issue_posted hg (hb.trans (State.vMask_posted ..))

/-- A logical instruction combines two masks bit by bit. -/
theorem vMlog_issued {w : FV} {v : VW} {s : State} (hg : goes s v (consumer v)) {op : BitVec 1024 → BitVec 1024 → BitVec 1024}
    {f : Bool → Bool → Bool}
    (hop : ∀ a b j, (op a b).getLsbD j = f (a.getLsbD j) (b.getLsbD j)) {i : Instr} (hi : exec i s = .next (vMlog op w v s)) :
    ∃ x, isMask s w.vd.toNat (fun _ => true) (fun j => f ((s.cl.masks.get w.va.toNat).getLsbD j) ((s.cl.masks.get w.vb.toNat).getLsbD j)) x
      ∧ exec i s = .next (issued s v (consumer v) 2 1 [res s 2 0 x]) := by
  obtain ⟨x, hx, hrun⟩ := wholeMask_issued hg (r := w.vd.toNat) (body := fun s =>
    s.vMask (sigOf v) 2 w.vd.toNat (ones 1024) (op (s.cl.masks.get w.va.toNat) (s.cl.masks.get w.vb.toNat))) rfl fun j _ => hop _ _ j
  exact ⟨x, hx, hi.trans (congrArg _ hrun)⟩
/-- VMSET fills a mask up to s[a]. -/
theorem vMset_issued {w : FV} {v : VW} {s : State} (hg : goes s v (consumer v)) {i : Instr} (hi : exec i s = .next (vMset w v s)) :
    ∃ x, isMask s w.vd.toNat (fun _ => true) (fun j => decide (j < s.core.cur.a.toNat)) x
      ∧ exec i s = .next (issued s v (consumer v) 2 1 [res s 2 0 x]) := by
  have hbits (j : Nat) (hj : j < 1024) : (ones (min s.core.cur.a.toNat 1024)).getLsbD j = decide (j < s.core.cur.a.toNat) := by
    rw [getLsbD_ones _ hj, decide_eq_decide]; omega
  obtain ⟨x, hx, hrun⟩ := wholeMask_issued hg (r := w.vd.toNat) (body := fun s =>
    s.vMask (sigOf v) 2 w.vd.toNat (ones 1024) (ones (min s.core.cur.a.toNat 1024))) rfl hbits
  exact ⟨x, hx, hi.trans (congrArg _ hrun)⟩

/-! ### Scalar results -/

section
variable {s : State} {v : VW}

theorem State.vToScalar_posted (s : State) (d : Nat) (x : Word) :
    s.vToScalar d x = (((s.posted (if d = 0 then [] else [res s 6 0 (.s d x)])).signalAt 0 6).occupy 1).done := by
  rw [State.vToScalar]
  split
  · rw [State.posted_nil]
  · rfl
theorem issue_toS (hg : goes s v 0) {d : Nat} {x : Word} {body : State → State} (hb : body s = s.vToScalar d x) :
    s.issue v.tok 0 body = toS s v d x :=
  State.issue_posted hg (hb.trans (State.vToScalar_posted ..))

theorem vMpop_eq (hg : goes s v 0) (w : FV) : vMpop w v s
    = toS s v w.vd.toNat (BitVec.ofNat 64 ((List.range (4096 / tyBits w.ty.toNat)).filter fun j => (s.cl.masks.get w.va.toNat).getLsbD j).length) :=
  issue_toS hg (by rw [popFrom_eq]; rfl)

/-- VTOS extends its element as the type says; of fp6 it takes six bits (03 R79; 06 R190). -/
theorem vTos_eq (hg : goes s v 0) {w : FV} (hj : s.core.cur.b.toNat < 4096 / tyBits w.ty.toNat)
    (hu : usable s s.isY (elemOffs (s.cl.regOff w.va.toNat) (tyBits w.ty.toNat) s.core.cur.b.toNat) []) :
    vTos w v s = toS s v w.vd.toNat
      (let e := elt s w.va (tyBits w.ty.toNat) s.core.cur.b.toNat
      if tySigned w.ty.toNat then e.signExtend 64 else if w.ty = 14 then (e.setWidth 6).setWidth 64 else e.setWidth 64) := by
  refine issue_toS hg ?_
  have h6 {n : Nat} (e : BitVec n) : BitVec.ofNat 64 (e.toNat % 64) = (e.setWidth 6).setWidth 64 := BitVec.eq_of_toNat_eq (by simp)
  have hin : ¬vN (tyBits w.ty.toNat) ≤ s.core.cur.b.toNat := Nat.not_le.2 hj
  dsimp only
  rw [if_neg hin, Laws.regFault_none hu]
  simp only [← Laws.elt_toNat, BitVec.ofNat_toNat, BitVec.setWidth_eq, apply_ite (BitVec.ofNat 64), h6]
end

/-! ### Moves and views -/

section
variable {w : FV} {v : VW} {s : State} (hg : goes s v (consumer v))
include hg

theorem vMov_issued {n : Nat} (hn : n = tyBits w.ty.toNat) (hu : usable s s.isY (bytesOf s v w.va n (4096 / n)) (bytesOf s v w.vd n (4096 / n))) :
    vMov w v s = issued s v (consumer v) 2 1 [res s 2 0 (writes s w.vd n (active s v (4096 / n)) (elt s w.va n))] := by
  subst hn
  rw [← gwrites_one]
  refine issue_vmap_group hg (List.forall_mem_nil _) (grouped_one w.vd) ?operands (fun j => (Laws.elt_toNat ..).symm) rfl
  rw [gbytes_one]
  simpa only [List.flatMap_cons, List.flatMap_nil, List.append_nil, Laws.touch_alone] using hu

theorem vBcast_issued {n : Nat} (hn : n = tyBits w.ty.toNat) (hu : usable s s.isY [] (bytesOf s v w.vd n (4096 / n))) :
    vBcast w v s = issued s v (consumer v) 2 1 [res s 2 0 (writes s w.vd n (active s v (4096 / n)) fun _ =>
      if w.ty = 14 then (s.core.cur.a.setWidth 6).setWidth n else s.core.cur.a.setWidth n)] := by
  subst hn
  rw [← gwrites_one]
  refine issue_vmap_group hg (List.forall_mem_nil _) (grouped_one w.vd) (by rwa [gbytes_one]) (fun j => ?value) rfl
  split
  · next h =>
    have h8 : tyBits w.ty.toNat = 8 := by rw [h]; rfl
    rw [h8, BitVec.toNat_setWidth, BitVec.toNat_setWidth, Nat.mod_eq_of_lt (Nat.mod_lt _ (by decide) |>.trans (by decide))]
  · rw [BitVec.toNat_setWidth]

/-- VXMOV writes in the other cluster what it reads in its own (06 R193). -/
theorem vXmov_issued {n : Nat} (hn : n = tyBits w.ty.toNat) (hr : usable s s.isY (bytesOf s v w.va n (4096 / n)) [])
    (hw : usable s (!s.isY) [] ((active s v (4096 / n)).flatMap fun j => elemOffs ((s.core.cluster (!s.isY)).regOff w.vd.toNat) n j)) :
    vXmov w v s = issued s v (consumer v) 4 1 [res s 4 0 (.reg (!s.isY)
      ((active s v (4096 / n)).flatMap fun j => elemPut ((s.core.cluster (!s.isY)).regOff w.vd.toNat) n j (elt s w.va n j).toNat))] := by
  subst hn
  have hsource := Laws.regFault_none hr
  have hdest := Laws.regFault_none hw
  rw [← Laws.touch_alone] at hsource
  have ht : (s.core.cluster (!s.isY)).touch w.vd.toNat 1 (tyBits w.ty.toNat) (4096 / tyBits w.ty.toNat) (vAct s.cl v)
      = (active s v (4096 / tyBits w.ty.toNat)).flatMap fun j => elemOffs ((s.core.cluster (!s.isY)).regOff w.vd.toNat) (tyBits w.ty.toNat) j := by
    simp only [touch_eq, Nat.mod_one, Nat.div_one, Nat.add_zero]; rfl
  rw [← ht] at hdest
  rw [vXmov, sigOf_eq]
  refine State.issue_posted hg ?_
  dsimp only [vN]
  rw [hsource, hdest]
  simp only [Laws.elt_toNat]
  rfl

theorem vView_issued (l : BitVec 32) : vView l v s = issued s v (consumer v) 1 1 [res s 1 0 (.vbase s.isY l.toNat)] := by
  rw [vView, sigOf_eq]
  exact State.issue_posted hg rfl
theorem tView_issued (l : BitVec 32) : tView w v l s = issued s v (consumer v) 1 1 [res s 1 0 (.tile s.isY (w.vd.toNat % 8)
    { base := 32 * (l.toNat % 2 ^ 12), rows := l.toNat / 2 ^ 12 % 2 ^ 10 + 1, cols := l.toNat / 2 ^ 22 + 1, ty := w.ty.toNat })] := by
  rw [tView, sigOf_eq, Nat.mul_comm]
  exact State.issue_posted hg rfl
end

/-! ### Tokens -/

/-- The last due cycle of a stream's results is no earlier than any of theirs, nor than now. -/
theorem Core.lastDue_spec (c : Core) (st : Nat) :
    c.now ≤ c.lastDue st ∧ ∀ p ∈ c.pend, p.hand = false → p.stream = st → p.due ≤ c.lastDue st := by
  rw [Core.lastDue]
  generalize c.now = m
  induction c.pend generalizing m with
  | nil => exact ⟨le_refl m, List.forall_mem_nil _⟩
  | cons x r ih =>
    rw [List.foldl_cons, List.forall_mem_cons]
    split
    · next hx =>
      obtain ⟨hm, hr⟩ := ih m
      exact ⟨hm, fun hh hs => by simp [hh, hs] at hx, hr⟩
    · obtain ⟨hm, hr⟩ := ih (max m x.due)
      exact ⟨(le_max_left ..).trans hm, fun _ _ => (le_max_right ..).trans hm, hr⟩

theorem exec_vtkw (w : FV) (s : State) : exec (.vtkw w) s =
    .next (if s.core.tokReady s.core.cur.stream [w.vd.toNat % 8, w.va.toNat % 8, w.vb.toNat % 8] = true
      then ((s.mapCore fun c => c.tokTake c.cur.stream [w.vd.toNat % 8, w.va.toNat % 8, w.vb.toNat % 8]).occupy 1).done else s.hold) := rfl
/-- Taking tokens moves neither the clock nor the stream's next issue. -/
theorem State.tokTake_occupy (s : State) (q n : Nat) (ws : List Nat) :
    ((s.mapCore fun c => c.tokTake q ws).occupy n).done = { s with core := { s.core.tokTake q ws with
      flow := { (s.core.tokTake q ws).flow with occ := (s.core.tokTake q ws).flow.occ.set s.core.cur.stream (s.core.now + n) }
      out := .done } } := by
  simp only [State.mapCore, State.occupy, State.done, State.setOut, Core.tokTake_eq]
  rfl

theorem exec_vtks_full {w : FV} {s : State} (h : s.core.tokFull s.core.cur.stream (w.vd.toNat % 8) = true) :
    exec (.vtks w) s = .next (raises s 0x10 (BitVec.ofNat 64 (s.core.cur.stream * 8 + w.vd.toNat % 8)) 0 0) := by
  change execVtks w s = _
  rw [execVtks, if_pos h]; rfl

/-- The signal of VTKS. -/
def vtksSig (w : FV) (s : State) : Sig :=
  let st := s.core.cur.stream
  { prod := st, cons := w.vd.toNat % 8, hand := false, cyc := s.core.now + (s.core.lastDue st - s.core.now)
    perf := s.openOf st (vtksMask w).getLsbD (w.vd.toNat / 8)
    lands := (s.core.lands.filter fun l => l.stream == st && !l.hand).map (·.id), ended := none }
theorem exec_vtks {w : FV} {s : State} (h : s.core.tokFull s.core.cur.stream (w.vd.toNat % 8) = false) (h7 : w.vd.toNat % 8 ≠ 7) :
    exec (.vtks w) s = .next ((s.mapCore fun c => c.addSig (vtksSig w s)).occupy 1).done := by
  change execVtks w s = _
  simp only [execVtks, h, Bool.false_eq_true, if_false, State.signalWhen, if_neg h7]
  rfl

end Sys2Proof.Machine

namespace Sys2Proof.Proofs
open Sys2Proof.Machine Sys2Proof.Claims

theorem masksAndScalars : MasksAndScalars := by
  intro w v s n a b sets
  refine ⟨fun hg => ⟨fun i hi => vMset_issued hg ?set, fun i hi => vMlog_issued hg (fun _ _ _ => BitVec.getLsbD_and) ?and,
    fun i hi => vMlog_issued hg (fun _ _ _ => BitVec.getLsbD_or) ?or, fun i hi => vMlog_issued hg (fun _ _ _ => BitVec.getLsbD_xor) ?xor⟩,
    fun hg => ⟨fun i hi => ?count, fun hj hu i hi => ?element⟩⟩
  case set | and | or | xor => exact exec_of_mem_both (fun _ _ _ => rfl) (fun _ _ => rfl) hi s
  case count => exact next_of_mem_both (fun _ _ _ => rfl) (fun _ _ => rfl) hi (vMpop_eq hg w)
  case element => exact next_of_mem_both (fun _ _ _ => rfl) (fun _ _ => rfl) hi (vTos_eq hg hj hu)

theorem vectorMoves : VectorMoves := by
  intro w v s hg n
  refine ⟨fun hu i hi => ?move, fun hu i hi => ?broadcast, fun hr hw i hi => ?cross,
    fun l => ⟨congrArg _ (vView_issued hg l), congrArg _ (tView_issued hg l)⟩⟩
  case move => exact next_of_mem_both (fun _ _ _ => rfl) (fun _ _ => rfl) hi (vMov_issued hg rfl hu)
  case broadcast => exact next_of_mem_both (fun _ _ _ => rfl) (fun _ _ => rfl) hi (vBcast_issued hg rfl hu)
  case cross => exact next_of_mem_both (fun _ _ _ => rfl) (fun _ _ => rfl) hi (vXmov_issued hg rfl hr hw)

theorem vectorTokens : VectorTokens := by
  intro w s st busy ws
  refine ⟨rfl, fun h => ?take, fun h => ?wait, exec_vtks_full, fun h h7 => ⟨vtksSig w s, rfl, rfl, fun p hp hh hs => ?due, Nat.le_add_right .., rfl,
    fun l hl hs hh => ?land, exec_vtks h h7⟩⟩
  case take => rw [exec_vtkw, if_pos h]; exact congrArg _ (s.tokTake_occupy ..)
  case wait => rw [exec_vtkw, if_neg (Bool.eq_false_iff.1 h)]
  case due =>
    obtain ⟨-, hall⟩ := s.core.lastDue_spec st
    have : (vtksSig w s).cyc = s.core.now + (s.core.lastDue st - s.core.now) := rfl
    have := hall p hp hh hs
    omega
  case land =>
    refine List.mem_map_of_mem (List.mem_filter.2 ⟨hl, ?_⟩)
    rw [hh, hs]; simp [st]

/-- Settles O25: what each instruction leaves pending as it issues, and the tokens that VTKW takes and VTKS gives. -/
theorem vectorMasksMovesAndTokens : Obligations.VectorMasksMovesAndTokens := by
  unfold Obligations.VectorMasksMovesAndTokens
  exact ⟨masksAndScalars, vectorMoves, vectorTokens⟩

end Sys2Proof.Proofs
end

section
/-! Movement across lanes: what each destination element reads, register pairs, packing, spreading and counting (07 R203 to R210). -/

namespace Sys2Proof.Machine
open Sys2Proof.Claims

/-- A vector instruction that writes register bytes and sets no flag. -/
theorem issue_written {s : State} {v : VW} {lat occ : Nat} {fs : List (Option Trap)} {bs : LBytes} {body : State → State}
    (hg : goes s v (consumer v)) (hf : ∀ t ∈ fs, t = none) (hb : body s = s.vbody (sigOf v) lat occ fs bs 0) :
    s.issue v.tok (sigOf v) body = issued s v (consumer v) lat occ [res s lat 0 (.reg s.isY bs)] :=
  Laws.issue_vbody (fl := 0) (firstFault_none hf) hg hb

/-! ### Sources of a movement (07 R204, R205) -/

/-- A place that a movement does not read: past the last element, or inactive. -/
def idleAt (s : State) (v : VW) (b p : Nat) : Bool := decide (4096 / b ≤ p) || !vAct s.cl v p
/-- The register bytes that are read at a source. -/
def Src.reads (s : State) (v : VW) (b : Nat) : Src → List Nat
  | .fill _ => []
  | .at_ r p _ => if idleAt s v b p then [] else elemOffs (s.cl.regOff r) b p
/-- What a source gives; it lies in va or in vb. -/
def Src.value (s : State) (w : FV) (v : VW) (b : Nat) : Src → Nat
  | .fill f => f
  | .at_ r p _ => if idleAt s v b p then 0 else elem (if r = w.va.toNat then s.cl.regNat w.va.toNat else s.cl.regNat w.vb.toNat) b p
/-- The lane that faults where destination element `i` reads an idle place, with the position that it names. -/
def Src.laneFault (s : State) (v : VW) (b i : Nat) : Src → Option (Nat × Nat)
  | .fill _ => none
  | .at_ _ p named => if idleAt s v b p then some (i, named) else none
/-- The source that the statements name, as the model names it. -/
def Src.ofPlace (fill named : Nat) : Option (BitVec 6 × Nat) → Src
  | none => .fill fill
  | some p => .at_ p.1.toNat p.2 named

theorem State.vmove_eq (s : State) (w : FV) (v : VW) (pre : List (Option Trap)) (extra : List Nat) (src : Nat → Src) :
    s.vmove w v pre extra src =
      let b := tyBits w.ty.toNat
      let dst := active s v (4096 / b)
      s.vbody (sigOf v) 3 1
        (pre ++ [s.core.regFault s.isY (extra ++ dst.flatMap fun i => (src i).reads s v b) (bytesOf s v w.vd b (4096 / b)),
          if v.perm = 1 then none else Machine.laneFault s.core v s.isY (dst.filterMap fun i => (src i).laneFault s v b i)])
        (dst.flatMap fun i => elemPut (s.cl.regOff w.vd.toNat) b i ((src i).value s w v b)) 0 := rfl

theorem idleAt_eq_false {s : State} {v : VW} {b p : Nat} : idleAt s v b p = false ↔ p < 4096 / b ∧ vAct s.cl v p = true := by
  simp only [idleAt, Bool.or_eq_false_iff, decide_eq_false_iff_not, Nat.not_le, Bool.not_eq_false']

section
variable {s : State} {w : FV} {v : VW} {b : Nat}

theorem Src.mem_reads_ofPlace {fill named o : Nat} {p : Option (BitVec 6 × Nat)} :
    o ∈ (Src.ofPlace fill named p).reads s v b
      ↔ ∃ q, p = some q ∧ (q.2 < 4096 / b ∧ vAct s.cl v q.2 = true) ∧ o ∈ elemOffs (s.cl.regOff q.1.toNat) b q.2 := by
  cases p with
  | none => simp [Src.ofPlace, Src.reads]
  | some q => simp [Src.ofPlace, Src.reads, ← idleAt_eq_false]

theorem Src.value_ofPlace {fill : Word} {named : Nat} {p : Option (BitVec 6 × Nat)} (hp : ∀ q, p = some q → q.1 = w.va ∨ q.1 = w.vb) :
    (Src.ofPlace (fill.setWidth b).toNat named p).value s w v b = (Claims.laneOf s v b fill p).toNat := by
  cases p with
  | none => rfl
  | some q =>
    have hreg : (if q.1.toNat = w.va.toNat then s.cl.regNat w.va.toNat else s.cl.regNat w.vb.toNat) = s.cl.regNat q.1.toNat := by
      split
      · next h => rw [h]
      · next h => rw [(hp q rfl).resolve_left fun hq => h (by rw [hq])]
    simp only [Src.ofPlace, Src.value, hreg, Claims.laneOf, Claims.lane]
    cases h : idleAt s v b q.2 with
    | true => rw [if_neg fun hq => Bool.false_ne_true ((idleAt_eq_false.2 hq).symm.trans h)]; rfl
    | false => rw [if_pos (idleAt_eq_false.1 h), Laws.elt_toNat]; rfl

/-- No lane faults where every place that is read is an active element. -/
theorem Src.laneFault_ofPlace {fill named i : Nat} {p : Option (BitVec 6 × Nat)}
    (hp : ∀ q, p = some q → q.2 < 4096 / b ∧ vAct s.cl v q.2 = true) : (Src.ofPlace fill named p).laneFault s v b i = none := by
  cases p with
  | none => rfl
  | some q => simp only [Src.ofPlace, Src.laneFault, idleAt_eq_false.2 (hp q rfl), Bool.false_eq_true, if_false]

/-- A movement that may run writes the elements that its sources name. -/
theorem vmove_issued {n : Nat} (hn : n = tyBits w.ty.toNat) (hg : goes s v (consumer v)) {pre : List (Option Trap)} {extra : List Nat}
    {fill : Word} {named : Nat → Nat} {src : Nat → Option (BitVec 6 × Nat)} (hpre : ∀ t ∈ pre, t = none)
    (hreg : ∀ i q, src i = some q → q.1 = w.va ∨ q.1 = w.vb) (hm : movable s w v extra src) {body : State → State}
    (hb : body s = s.vmove w v pre extra fun i => .ofPlace (fill.setWidth n).toNat (named i) (src i)) :
    s.issue v.tok (sigOf v) body = moved s w v fill src := by
  subst hn
  obtain ⟨hlive, huse⟩ := hm
  rw [State.vmove_eq] at hb
  refine (issue_written hg ?faults hb).trans ?result
  case faults =>
    rw [List.forall_mem_append, List.forall_mem_cons, List.forall_mem_singleton]
    refine ⟨hpre, Laws.regFault_none (huse _ fun o => ?_), ?_⟩
    · simp only [List.mem_append, List.mem_flatMap, Src.mem_reads_ofPlace]
    · rcases hlive with hperm | hlive
      · exact if_pos hperm
      · have hnone : ((active s v (4096 / tyBits w.ty.toNat)).filterMap fun i =>
            (Src.ofPlace (fill.setWidth (tyBits w.ty.toNat)).toNat (named i) (src i)).laneFault s v (tyBits w.ty.toNat) i) = [] :=
          List.filterMap_eq_nil_iff.2 fun i hi => Src.laneFault_ofPlace (hlive i hi)
        rw [hnone]; exact ite_self _
  case result => simp only [Src.value_ofPlace (hreg _)]; rfl
end

/-! ### The movements of 07 Table 7.1 -/

/-- What a shift fills with. -/
def shiftFill (w : FV) (s : State) : Word := if w.ty = 14 then (s.core.cur.c.setWidth 6).setWidth 64 else s.core.cur.c
theorem fillOf_eq (w : FV) (s : State) : fillOf w.ty s.core.cur.c = ((shiftFill w s).setWidth (tyBits w.ty.toNat)).toNat := by
  unfold fillOf shiftFill
  split
  · next h =>
    have h8 : tyBits w.ty.toNat = 8 := by rw [h]; rfl
    simp only [h8, BitVec.toNat_setWidth]; omega
  · rw [BitVec.toNat_setWidth]

section
variable {w : FV} {v : VW} {s : State} {src : Nat → Option (BitVec 6 × Nat)} (hg : goes s v (consumer v))
include hg

theorem vShup_issued (hsrc : src = fun j => if s.core.cur.b.toNat ≤ j then some (w.va, j - s.core.cur.b.toNat) else none)
    (hm : movable s w v [] src) : vShup w v s = moved s w v (shiftFill w s) src := by
  subst hsrc
  refine vmove_issued rfl hg (named := fun j => j - s.core.cur.b.toNat) (List.forall_mem_nil _) (by grind) hm ?_
  rw [← fillOf_eq]
  exact congrArg (s.vmove w v [] []) (funext fun j => by rw [apply_ite (Src.ofPlace _ _)]; rfl)

theorem vShdn_issued (hsrc : src = fun j => if j + s.core.cur.b.toNat < 4096 / tyBits w.ty.toNat then some (w.va, j + s.core.cur.b.toNat) else none)
    (hm : movable s w v [] src) : vShdn w v s = moved s w v (shiftFill w s) src := by
  subst hsrc
  refine vmove_issued rfl hg (named := fun j => j + s.core.cur.b.toNat) (List.forall_mem_nil _) (by grind) hm ?_
  rw [← fillOf_eq]
  exact congrArg (s.vmove w v [] []) (funext fun j => by rw [apply_ite (Src.ofPlace _ _)]; rfl)

theorem vRot_issued {n : Nat} (hn : n = 4096 / tyBits w.ty.toNat)
    (hsrc : src = fun j => some (w.va, (j + n - s.core.cur.b.toNat % n) % n)) (hm : movable s w v [] src) (fill : Word) :
    vRot w v s = moved s w v fill src := by
  subst hn hsrc
  exact vmove_issued rfl hg (List.forall_mem_nil _) (by grind) hm rfl

theorem vExt_issued {n m : Nat} (hn : n = 4096 / tyBits w.ty.toNat) (hc : m = s.core.cur.c.toNat) (hle : m ≤ n)
    (hsrc : src = fun j => if j + m < n then some (w.va, j + m) else some (w.vb, j + m - n)) (hm : movable s w v [] src) (fill : Word) :
    vExt w v s = moved s w v fill src := by
  subst hn hc hsrc
  refine vmove_issued rfl hg (fill := fill) (named := fun j => j + s.core.cur.c.toNat) (List.forall_mem_nil _) (by grind) hm ?_
  dsimp only [vN]
  rw [if_neg (Nat.not_lt.2 hle)]
  exact congrArg (s.vmove w v [] []) (funext fun j => by rw [apply_ite (Src.ofPlace _ _)]; rfl)

/-- VPERM reads its indices from a group of registers (07 R207). -/
theorem vPerm_issued {k : Nat} (hk : k = max 1 (tyBits v.ty2.toNat / tyBits w.ty.toNat)) (hgrp : grouped w.vb k)
    (hsrc : src = fun j => some (w.va, (gelt s w.vb k (tyBits v.ty2.toNat) j).toNat))
    (hm : movable s w v (gbytes s v w.vb k (tyBits v.ty2.toNat) (4096 / tyBits w.ty.toNat)) src) (fill : Word) :
    vPerm w v s = moved s w v fill src := by
  subst hk hsrc
  have hpos : 0 < max 1 (tyBits v.ty2.toNat / tyBits w.ty.toNat) := Nat.lt_of_lt_of_le Nat.one_pos (Nat.le_max_left ..)
  simp only [gelt_toNat s w.vb hpos, ← touch_group] at hm ⊢
  exact vmove_issued rfl hg (List.forall_mem_singleton.2 (grpFault_grouped hgrp s.core s.isY)) (by grind) hm rfl
end

/-! ### Register pairs (07 R208) -/

/-- The places of the two destination registers, element by element. -/
theorem flatMap_pairs {β : Type} (l : List Nat) (f : Nat × Nat → List β) :
    (l.flatMap fun i => [(0, i), (1, i)]).flatMap f = l.flatMap fun i => [0, 1].flatMap fun h => f (h, i) := by
  rw [List.flatMap_assoc]; rfl

/-- A register found among those that were read. -/
theorem find_register (f : Nat → Nat) {r : Nat} {rs : List Nat} (hr : r ∈ rs) :
    (((rs.map fun r => (r, f r)).find? fun q => q.1 == r).map (·.2)).getD 0 = f r := by
  induction rs with
  | nil => cases hr
  | cons a t ih =>
    rw [List.map_cons, List.find?_cons]
    by_cases h : a = r
    · subst h; simp
    · rw [show (a == r) = false from beq_false_of_ne h]
      exact ih ((List.mem_cons.1 hr).resolve_left (Ne.symm h))

theorem vpair_issued {w : FV} {v : VW} {s : State} (hg : goes s v (consumer v)) {odd : Bool} {src : Nat → Nat → Nat × Nat}
    (hodd : odd = true → grouped w.va 2) (hp : pairable s w v src)
    (hsrc : ∀ h < 2, ∀ i < 4096 / tyBits w.ty.toNat, (src h i).1 ∈ [w.va.toNat, w.va.toNat + 1, w.vb.toNat]) {body : State → State}
    (hb : body s = s.vpair w v odd src) : s.issue v.tok (sigOf v) body = paired s w v src := by
  obtain ⟨hd, hu⟩ := hp
  refine (issue_written hg ?faults hb).trans ?result
  case faults =>
    rw [flatMap_pairs, flatMap_pairs, List.forall_mem_cons, List.forall_mem_cons, List.forall_mem_singleton]
    refine ⟨grpFault_grouped hd _ _, ?_, Laws.regFault_none hu⟩
    cases odd with
    | false => rfl
    | true => exact grpFault_grouped (hodd rfl) _ _
  case result =>
    rw [flatMap_pairs, paired]
    refine congrArg (fun bs => issued s v (consumer v) 3 1 [res s 3 0 (.reg s.isY bs)]) ?_
    refine List.flatMap_congr fun i hi => List.flatMap_congr fun h hh => ?_
    have hi : i < 4096 / tyBits w.ty.toNat := List.mem_range.1 (List.mem_filter.1 hi).1
    have hh : h < 2 := by simp only [List.mem_cons, List.not_mem_nil, or_false] at hh; omega
    dsimp only
    rw [find_register _ (hsrc h hh i hi)]
    rfl

/-! ### Packing, spreading and counting (07 R209, R210) -/

/-- In an ascending list an element stands at the number of elements below it. -/
theorem zipIdx_ascending {l : List Nat} (hl : l.Pairwise (· < ·)) (k : Nat) :
    l.zipIdx k = l.map fun j => (j, k + (l.filter (· < j)).length) := by
  induction l generalizing k with
  | nil => rfl
  | cons a r ih =>
    obtain ⟨ha, hr⟩ := List.pairwise_cons.1 hl
    have hhead : (a :: r).filter (· < a) = [] := List.filter_eq_nil_iff.2 fun j hj => by
      rcases List.mem_cons.1 hj with rfl | hj
      · simp
      · simpa using (ha j hj).le
    rw [List.zipIdx_cons, List.map_cons, hhead, ih hr]
    refine congrArg _ (List.map_congr_left fun j hj => ?_)
    rw [List.filter_cons_of_pos (by simpa using ha j hj), List.length_cons, Nat.add_assoc, Nat.add_comm 1]

theorem zipIdx_active (s : State) (v : VW) (n : Nat) :
    (active s v n).zipIdx = (active s v n).map fun j => (j, ((active s v n).filter (· < j)).length) := by
  simpa only [Nat.zero_add] using zipIdx_ascending (l := active s v n) (List.pairwise_lt_range.filter _) 0

theorem touch_all (x : Cluster) (r : BitVec 6) (b n : Nat) :
    x.touch r.toNat 1 b n (fun _ => true) = (List.range n).flatMap fun i => elemOffs (x.regOff r.toNat) b i := by
  rw [touch_eq, List.filter_true]
  simp only [Nat.mod_one, Nat.div_one, Nat.add_zero]

section
variable {w : FV} {v : VW} {s : State} {b n : Nat} (hb : b = tyBits w.ty.toNat) (hn : n = 4096 / b) (hg : goes s v (consumer v))
include hb hn hg

theorem vCompr_issued (hu : usable s s.isY (bytesOf s v w.va b n) ((List.range n).flatMap fun i => elemOffs (s.cl.regOff w.vd.toNat) b i)) :
    vCompr w v s = issued s v (consumer v) 3 1 [res s 3 0 (writes s w.vd b (List.range n) fun j =>
      match (active s v n)[j]? with
      | some k => elt s w.va b k
      | none => 0)] := by
  subst hb hn
  rw [← touch_all] at hu
  refine (issue_written hg (List.forall_mem_singleton.2 (Laws.regFault_none hu)) rfl).trans ?_
  refine congrArg (fun bs => issued s v (consumer v) 3 1 [res s 3 0 (.reg s.isY bs)]) ?_
  refine List.flatMap_congr fun j _ => congrArg (elemPut (s.cl.regOff w.vd.toNat) (tyBits w.ty.toNat) j) ?_
  change (match (active s v (4096 / tyBits w.ty.toNat))[j]? with
    | some k => s.cl.vals w.va.toNat (tyBits w.ty.toNat) k
    | none => 0) = _
  dsimp only
  cases (active s v (4096 / tyBits w.ty.toNat))[j]? with
  | none => rfl
  | some k => exact (Laws.elt_toNat ..).symm

theorem vExpd_issued (hu : usable s s.isY ((List.range (active s v n).length).flatMap fun i => elemOffs (s.cl.regOff w.va.toNat) b i)
      (bytesOf s v w.vd b n)) :
    vExpd w v s = issued s v (consumer v) 3 1 [res s 3 0 (writes s w.vd b (active s v n) fun j =>
      elt s w.va b ((active s v n).filter (· < j)).length)] := by
  subst hb hn
  rw [← touch_all] at hu
  refine (issue_written hg (List.forall_mem_singleton.2 (Laws.regFault_none hu)) rfl).trans ?_
  simp only [writes, Laws.elt_toNat]
  rw [← List.flatMap_map (f := fun j => (j, ((active s v (4096 / tyBits w.ty.toNat)).filter (· < j)).length))
    (g := fun p => elemPut (s.cl.regOff w.vd.toNat) (tyBits w.ty.toNat) p.1 (s.cl.vals w.va.toNat (tyBits w.ty.toNat) p.2)), ← zipIdx_active]
  rfl

theorem vIota_issued (hu : usable s s.isY [] (bytesOf s v w.vd b n)) :
    vIota w v s = issued s v (consumer v) 3 1 [res s 3 0 (writes s w.vd b (active s v n) fun j =>
      BitVec.ofNat b (s.core.cur.a.toNat + ((active s v n).filter (· < j)).length))] := by
  subst hb hn
  refine (issue_written hg (List.forall_mem_singleton.2 (Laws.regFault_none hu)) rfl).trans ?_
  simp only [writes, BitVec.toNat_ofNat]
  rw [← List.flatMap_map (f := fun j => (j, ((active s v (4096 / tyBits w.ty.toNat)).filter (· < j)).length))
    (g := fun p => elemPut (s.cl.regOff w.vd.toNat) (tyBits w.ty.toNat) p.1 ((s.core.cur.a.toNat + p.2) % 2 ^ tyBits w.ty.toNat)), ← zipIdx_active]
  rfl
end

end Sys2Proof.Machine

namespace Sys2Proof.Proofs
open Sys2Proof.Machine Sys2Proof.Claims

theorem laneMovement : LaneMovement := by
  intro w v s hg n fill m runs
  refine ⟨fun i hi hm => ?up, fun i hi hm => ?down, fun i hi hm => ?rotate, fun hc i hi hm => ?extract, fun hk hm => ?permute⟩
  case up => exact next_of_mem_both (fun _ _ _ => rfl) (fun _ _ => rfl) hi (vShup_issued hg rfl hm)
  case down => exact next_of_mem_both (fun _ _ _ => rfl) (fun _ _ => rfl) hi (vShdn_issued hg rfl hm)
  case rotate => exact next_of_mem_both (fun _ _ _ => rfl) (fun _ _ => rfl) hi (vRot_issued hg rfl rfl hm fill)
  case extract => exact next_of_mem_both (fun _ _ _ => rfl) (fun _ _ => rfl) hi (vExt_issued hg rfl rfl hc rfl hm fill)
  case permute => exact congrArg _ (vPerm_issued hg rfl hk rfl hm fill)

theorem lanePacking : LanePacking := by
  intro w v s hg b n zip uzp trn
  refine ⟨fun hp i hi => ?interleave, fun hp ha i hi => ?separate, fun hp i hi => ?transpose, fun hu i hi => ?pack, fun hu i hi => ?spread,
    fun hu i hi => ?count⟩
  case interleave =>
    refine next_of_mem_both (f := vZip) (fun _ _ _ => rfl) (fun _ _ => rfl) hi
      (vpair_issued hg (odd := false) (fun h => nomatch h) hp (fun h _ i _ => ?_) rfl)
    dsimp only [zip]; split <;> simp
  case separate =>
    refine next_of_mem_both (f := vUzp) (fun _ _ _ => rfl) (fun _ _ => rfl) hi
      (vpair_issued hg (fun _ => ha) hp (fun h hh i hin => ?_) rfl)
    have : (2 * i + h) / n < 2 := Nat.div_lt_of_lt_mul (by change i < n at hin; omega)
    obtain h0 | h1 : (2 * i + h) / n = 0 ∨ (2 * i + h) / n = 1 := Nat.le_one_iff_eq_zero_or_eq_one.1 (Nat.le_of_lt_succ this)
    · simp [uzp, h0]
    · simp [uzp, h1]
  case transpose =>
    refine next_of_mem_both (f := vTrn) (fun _ _ _ => rfl) (fun _ _ => rfl) hi
      (vpair_issued hg (odd := false) (fun h => nomatch h) hp (fun h _ i _ => ?_) rfl)
    dsimp only [trn]; split <;> simp
  case pack => exact next_of_mem_both (fun _ _ _ => rfl) (fun _ _ => rfl) hi (vCompr_issued rfl rfl hg hu)
  case spread => exact next_of_mem_both (fun _ _ _ => rfl) (fun _ _ => rfl) hi (vExpd_issued rfl rfl hg hu)
  case count => exact next_of_mem_both (fun _ _ _ => rfl) (fun _ _ => rfl) hi (vIota_issued rfl rfl hg hu)

/-- Settles O26: each movement by the places that its destination elements read, the rest by their common end. -/
theorem laneMovements : Obligations.LaneMovements := by
  unfold Obligations.LaneMovements
  exact ⟨laneMovement, lanePacking⟩

end Sys2Proof.Proofs
end

section
/-! Conversion, special functions and block quantisation: each element's result, its scale and its flags (07 R215 to R218). -/

namespace Sys2Proof.Machine
open Sys2Proof.Claims

/-! ### Instructions that round (03 R95) -/

/-- The stochastic counter moves on where the instruction is done. -/
def State.countRounds (s : State) (st rm : Nat) : State := match s.core.out with
  | .done => s.srBump st rm
  | _ => s

section
variable {w : FV} {v : VW} {s : State} {lat occ : Nat} {body : State → State} (hg : goes s v (consumer v))
include hg

theorem issue_rounds {fs : List (Option Trap)} {bs : LBytes} {fl : Fp} (hf : ∀ t ∈ fs, t = none)
    (hb : body s = (s.vbody (sigOf v) lat occ fs bs fl).countRounds s.core.cur.stream v.rm.toNat) :
    s.issue v.tok (sigOf v) body = rounds s v lat occ bs fl := by
  rw [sigOf_eq]
  refine State.issue_counted hg (hb.trans ?_)
  rw [sigOf, State.vbody_posted (firstFault_none hf)]
  rfl

/-- An elementwise result that is rounded, in a group of registers. -/
theorem issue_vmap_rounds {n k b : Nat} {rd : List (Nat × Nat × Nat)} {pre : List (Option Trap)} {f : Nat → Nat × Fp}
    (hp : ∀ t ∈ pre, t = none) (hk : grouped w.vd k)
    (hu : usable s s.isY (rd.flatMap fun r => s.cl.touch r.1 r.2.1 r.2.2 n (vAct s.cl v)) (gbytes s v w.vd k b n))
    (hb : body s = (s.vmap w.vd.toNat v n k b lat occ rd pre f).countRounds s.core.cur.stream v.rm.toNat) :
    s.issue v.tok (sigOf v) body
      = rounds s v lat occ ((active s v n).flatMap fun i => elemPut (s.cl.regOff (w.vd.toNat + i % k)) b (i / k) (f i).1)
        ((active s v n).foldl (fun a i => a ||| (f i).2) 0) := by
  rw [sigOf_eq]
  refine State.issue_counted hg (hb.trans ?_)
  rw [State.vmap_posted hp hk hu]
  rfl
end

/-! ### VCVT and VSFN (07 R215, R218) -/

/-- VCVT of element `i`, of the group of `k` registers at va. -/
def cvtElem (s : State) (w : FV) (v : VW) (k i : Nat) : Nat × Fp :=
  convert v.ty2.toNat w.ty.toNat v.rm.toNat (v.sat == 1 || s.core.sc.satcvt) (srKey s.core s.core.cur.stream i)
    (gelt s w.va k (tyBits v.ty2.toNat) i).toNat
/-- VSFN of element `i`: through fp32, and rounded once more to a narrower type. -/
def sfnElem (s : State) (w : FV) (i : Nat) : Nat × Fp :=
  let x := roundTo fp32 ((fmtOr w.ty.toNat).value (elt s w.va (tyBits w.ty.toNat) i).toNat) 0 false 0
  let y := sfn w.vb.toNat x.1
  let z := roundTo (fmtOr w.ty.toNat) (v32 y.1) 0 false 0
  if w.ty.toNat = 8 then y else (z.1, y.2 ||| z.2)

section
variable {w : FV} {v : VW} {s : State} (hg : goes s v (consumer v))
include hg

theorem vCvt_issued {db sb dk sk : Nat} (hdb : db = tyBits w.ty.toNat) (hsb : sb = tyBits v.ty2.toNat) (hdk : dk = max 1 (db / sb))
    (hsk : sk = max 1 (sb / db)) (hd : grouped w.vd dk) (ha : grouped w.va sk)
    (hu : usable s s.isY (gbytes s v w.va sk sb (4096 / sb)) (gbytes s v w.vd dk db (4096 / sb))) :
    vCvt w v s = rounds s v 4 dk
      ((active s v (4096 / sb)).flatMap fun i => elemPut (s.cl.regOff (w.vd.toNat + i % dk)) db (i / dk) (cvtElem s w v sk i).1)
      ((active s v (4096 / sb)).foldl (fun a i => a ||| (cvtElem s w v sk i).2) 0) := by
  have hpos : 0 < sk := by omega
  simp only [cvtElem, gelt_toNat s w.va hpos]
  subst hdb hsb hdk hsk
  refine issue_vmap_rounds hg (List.forall_mem_singleton.2 (grpFault_grouped ha s.core s.isY)) hd (rd := [(w.va.toNat, _, _)]) ?reads rfl
  rwa [List.flatMap_cons, List.flatMap_nil, List.append_nil, touch_group]

theorem vSfn_issued {n : Nat} (hn : n = tyBits w.ty.toNat) (hu : usable s s.isY (bytesOf s v w.va n (4096 / n)) (bytesOf s v w.vd n (4096 / n))) :
    vSfn w v s = issued s v (consumer v) 10 1
      ([res s 10 0 (.reg s.isY ((active s v (4096 / n)).flatMap fun j => elemPut (s.cl.regOff w.vd.toNat) n j (sfnElem s w j).1))]
        ++ resF s 10 ((active s v (4096 / n)).foldl (fun a j => a ||| (sfnElem s w j).2) 0)) := by
  subst hn
  have hty : w.ty.toNat = 8 ↔ w.ty = 8 := BitVec.toNat_inj (y := (8 : BitVec 4))
  simp only [sfnElem, Laws.elt_toNat, hty]
  exact Laws.issue_vmap (rd := [w.va]) hg (by rwa [List.flatMap_cons, List.flatMap_nil, List.append_nil]) rfl
end

/-! ### VDQNT and VQNT (07 R216, R217) -/

/-- The offset of a block instruction is legal. -/
theorem qntBad_false {o n m : Nat} (ho : o % n = 0) (hm : o + n ≤ m) : ¬qntBad o n m = true := by
  simp only [qntBad, ho, bne_self_eq_false, Bool.false_or, decide_eq_true_eq]; omega

/-- VDQNT of element `i`, which the block element `i` places past the offset gives. -/
def dqntElem (s : State) (w : FV) (v : VW) (i : Nat) : Nat × Fp :=
  let o := s.core.cur.b.toNat
  roundTo (fmtOr w.ty.toNat) (dqVal v.ty2.toNat (elt s v.vc 8 ((o + i) / 32)).toNat (elt s w.va (tyBits v.ty2.toNat) (o + i)).toNat)
    v.rm.toNat false (srKey s.core s.core.cur.stream i)

theorem dqntElem_eq (s : State) (w : FV) (v : VW) : dqntElem s w v = fun i => roundTo (fmtOr w.ty.toNat)
    (dqVal v.ty2.toNat (s.cl.vals v.vc.toNat 8 ((s.core.cur.b.toNat + i) / 32)) (s.cl.vals w.va.toNat (tyBits v.ty2.toNat) (s.core.cur.b.toNat + i)))
    v.rm.toNat false (srKey s.core s.core.cur.stream i) :=
  funext fun i => by simp only [dqntElem, Laws.elt_toNat]

theorem vDqnt_issued {w : FV} {v : VW} {s : State} (hg : goes s v (consumer v)) {db sb o n : Nat} (hdb : db = tyBits w.ty.toNat)
    (hsb : sb = tyBits v.ty2.toNat) (hob : o = s.core.cur.b.toNat) (hn : n = 4096 / db) (ho : o % n = 0) (hm : o + n ≤ 4096 / sb)
    (hu : usable s s.isY ((active s v n).flatMap fun i => elemOffs (s.cl.regOff w.va.toNat) sb (o + i) ++ [s.cl.regOff v.vc.toNat + (o + i) / 32])
      (bytesOf s v w.vd db n)) :
    vDqnt w v s = rounds s v 6 1 ((active s v n).flatMap fun i => elemPut (s.cl.regOff w.vd.toNat) db i (dqntElem s w v i).1)
      ((active s v n).foldl (fun a i => a ||| (dqntElem s w v i).2) 0) := by
  subst hdb hsb hob hn
  have hread := Laws.regFault_none (usable_mono hu (fun _ h => h) (List.forall_mem_nil _))
  have hdest : usable s s.isY [] (gbytes s v w.vd 1 (tyBits w.ty.toNat) (4096 / tyBits w.ty.toNat)) := by
    rw [gbytes_one]; exact usable_mono hu (List.forall_mem_nil _) fun _ h => h
  refine (issue_vmap_rounds (lat := 6) (occ := 1) (rd := []) (f := dqntElem s w v) hg (List.forall_mem_singleton.2 hread) (grouped_one w.vd)
    hdest ?body).trans ?oneRegister
  case body =>
    refine (if_neg (qntBad_false ho hm)).trans ?_
    rw [dqntElem_eq]
    rfl
  case oneRegister => simp only [Nat.mod_one, Nat.div_one, Nat.add_zero]

section
variable (s : State) (w : FV) (v : VW)

/-- The value of float element `i`. -/
def qntValue (i : Nat) : Machine.Num := tyValue v.ty2.toNat (elt s w.va (tyBits v.ty2.toNat) i).toNat
/-- The active elements of block `k`. -/
def qntBlock (k : Nat) : List Nat := (active s v (4096 / tyBits v.ty2.toNat)).filter fun i => i / 32 == k
/-- The scale of block `k`, none where an element of it has no finite value. -/
def qntScale (k : Nat) : Option Nat := qScale w.ty.toNat ((qntBlock s v k).map (qntValue s w v))
/-- VQNT of element `i` at its block's scale. -/
def qntElem (i : Nat) : Nat × Fp := match qntScale s w v (i / 32) with
  | none => (0, fIV)
  | some e => qElem w.ty.toNat v.rm.toNat (srKey s.core s.core.cur.stream (s.core.cur.b.toNat + i)) e (qntValue s w v i)
/-- The blocks that have an active element. -/
def qntBlocks : List Nat := (List.range (4096 / tyBits v.ty2.toNat / 32)).filter fun k => !(qntBlock s v k).isEmpty
/-- Element `i` quantised at a scale, with its place. -/
def qntAt (sc : Option Nat) (i : Nat) (x : Machine.Num) : Nat × Nat × Fp := match sc with
  | none => (i, 0, fIV)
  | some e => (i, qElem w.ty.toNat v.rm.toNat (srKey s.core s.core.cur.stream (s.core.cur.b.toNat + i)) e x)
/-- The results of a block of active elements with these values: its scale, and each element with its flags. -/
def qntRun (value : Nat → Machine.Num) (l : List Nat) : List Nat × Option Nat × List (Nat × Nat × Fp) :=
  (l, qScale w.ty.toNat (l.map value), l.map fun i => qntAt s w v (qScale w.ty.toNat (l.map value)) i (value i))
/-- The bytes that a block's results are written to: its elements, and its scale behind them. -/
def qntBytes (r : List Nat × Option Nat × List (Nat × Nat × Fp)) : LBytes :=
  (r.2.2.flatMap fun e => elemPut (s.cl.regOff w.vd.toNat) (tyBits w.ty.toNat) (s.core.cur.b.toNat + e.1) e.2.1)
    ++ [⟨s.cl.regOff v.vc.toNat + (s.core.cur.b.toNat + r.1.headD 0) / 32, 0xFF, BitVec.ofNat 8 (r.2.1.getD 255), false, false⟩]
/-- The results of the blocks as VQNT lists them. -/
def qntRuns : List (List Nat × Option Nat × List (Nat × Nat × Fp)) :=
  (((List.range (4096 / tyBits v.ty2.toNat / 32)).map fun k =>
      ((List.range 32).map (fun j => 32 * k + j)).filter (vAct s.cl v)).filter fun l => !l.isEmpty).map (qntRun s w v (qntValue s w v))

theorem qntValue_eq : qntValue s w v = fun i => tyValue v.ty2.toNat (s.cl.vals w.va.toNat (tyBits v.ty2.toNat) i) :=
  funext fun i => by rw [qntValue, Laws.elt_toNat]
theorem vQnt_eq : vQnt w v s = s.issue v.tok (sigOf v) fun s =>
    let n := 4096 / tyBits v.ty2.toNat
    if qntBad s.core.cur.b.toNat n (4096 / tyBits w.ty.toNat) then s.raise 0x02 s.core.cur.b else
    let puts := (qntRuns s w v).flatMap (qntBytes s w v)
    (s.vbody (sigOf v) 6 1 [s.core.regFault s.isY (bytesOf s v w.va (tyBits v.ty2.toNat) n) (puts.map (·.at_))] puts
      (orFlags ((qntRuns s w v).flatMap (·.2.2)))).countRounds s.core.cur.stream v.rm.toNat := by
  simp only [qntRuns, qntValue_eq, ← Laws.touch_alone]
  rfl

/-- The places of a block are the elements whose number is its own (07 R216). -/
theorem filter_block_range {n k : Nat} (hk : k < n / 32) :
    (List.range n).filter (fun i => i / 32 == k) = (List.range 32).map fun j => 32 * k + j := by
  obtain ⟨r, rfl⟩ := Nat.exists_eq_add_of_le (show 32 * k + 32 ≤ n by omega)
  have hbelow : (List.range (32 * k)).filter (fun i => i / 32 == k) = [] := List.filter_eq_nil_iff.2 fun i hi => by
    have := List.mem_range.1 hi
    rw [beq_iff_eq]; omega
  have hwithin : ((List.range 32).map (32 * k + ·)).filter (fun i => i / 32 == k) = (List.range 32).map (32 * k + ·) :=
    List.filter_eq_self.2 fun i hi => by
      obtain ⟨j, hj, rfl⟩ := List.mem_map.1 hi
      have := List.mem_range.1 hj
      rw [beq_iff_eq]; omega
  have habove : ((List.range r).map (32 * k + 32 + ·)).filter (fun i => i / 32 == k) = [] := List.filter_eq_nil_iff.2 fun i hi => by
    obtain ⟨j, -, rfl⟩ := List.mem_map.1 hi
    rw [beq_iff_eq]; omega
  rw [List.range_add, List.range_add, List.filter_append, List.filter_append, hbelow, hwithin, habove, List.nil_append, List.append_nil]

theorem qntBlock_eq {k : Nat} (hk : k < 4096 / tyBits v.ty2.toNat / 32) :
    ((List.range 32).map (fun j => 32 * k + j)).filter (vAct s.cl v) = qntBlock s v k := by
  rw [qntBlock, active, List.filter_comm, filter_block_range hk]

theorem div_of_mem_qntBlock {k i : Nat} (h : i ∈ qntBlock s v k) : i / 32 = k := by
  simpa using (List.mem_filter.1 h).2

/-- The results of block `k`. -/
def qntResult (k : Nat) : List Nat × Option Nat × List (Nat × Nat × Fp) :=
  (qntBlock s v k, qntScale s w v k, (qntBlock s v k).map fun i => (i, qntElem s w v i))
theorem qntRuns_eq : qntRuns s w v = (qntBlocks s v).map (qntResult s w v) := by
  have hblocks : ((List.range (4096 / tyBits v.ty2.toNat / 32)).map fun k => ((List.range 32).map (fun j => 32 * k + j)).filter (vAct s.cl v))
      = (List.range (4096 / tyBits v.ty2.toNat / 32)).map (qntBlock s v) :=
    List.map_congr_left fun k hk => qntBlock_eq s v (List.mem_range.1 hk)
  rw [qntRuns, hblocks, List.filter_map, List.map_map]
  refine List.map_congr_left fun k _ => congrArg (fun l => (qntBlock s v k, qntScale s w v k, l)) (List.map_congr_left fun i hi => ?_)
  rw [qntElem, div_of_mem_qntBlock s v hi, ← qntScale]
  cases qntScale s w v k with
  | none => rfl
  | some e => rfl

/-- The writes of block `k`: its elements, and its scale behind them. -/
def qntPuts (k : Nat) : LBytes :=
  ((qntBlock s v k).flatMap fun i =>
      elemPut (s.cl.regOff w.vd.toNat) (tyBits w.ty.toNat) (s.core.cur.b.toNat + i) (qntElem s w v i).1)
    ++ [{ at_ := s.cl.regOff v.vc.toNat + (s.core.cur.b.toNat + 32 * k) / 32, mask := 0xFF,
          val := BitVec.ofNat 8 ((qntScale s w v k).getD 255), blot := false }]

/-- Every element of a block has its scale's place (07 R216). -/
theorem qntBytes_eq (ho : s.core.cur.b.toNat % 32 = 0) {k : Nat} (hk : k ∈ qntBlocks s v) :
    qntBytes s w v (qntResult s w v k) = qntPuts s w v k := by
  have hplace : (s.core.cur.b.toNat + (qntBlock s v k).headD 0) / 32 = (s.core.cur.b.toNat + 32 * k) / 32 := by
    have hne := (List.mem_filter.1 hk).2
    have hdiv := fun i => div_of_mem_qntBlock (i := i) s v (k := k)
    generalize qntBlock s v k = l at hne hdiv ⊢
    cases l with
    | nil => cases hne
    | cons i r => have := hdiv i List.mem_cons_self; rw [List.headD_cons]; omega
  simp only [qntBytes, qntResult, qntPuts, List.flatMap_map, hplace]

theorem blockSize_dvd : 32 ∣ 4096 / tyBits v.ty2.toNat := by
  unfold tyBits; split <;> decide
end

theorem vQnt_issued {w : FV} {v : VW} {s : State} {n o : Nat} {puts : LBytes} (hg : goes s v (consumer v)) (hn : n = 4096 / tyBits v.ty2.toNat)
    (hob : o = s.core.cur.b.toNat) (ho : o % n = 0) (hm : o + n ≤ 4096 / tyBits w.ty.toNat) (hputs : puts = (qntBlocks s v).flatMap (qntPuts s w v))
    (hu : usable s s.isY (bytesOf s v w.va (tyBits v.ty2.toNat) n) (puts.map (·.at_))) :
    vQnt w v s = rounds s v 6 1 puts ((qntBlocks s v).foldl (fun a k => (qntBlock s v k).foldl (fun a i => a ||| (qntElem s w v i).2) a) 0) := by
  subst hn hob
  have h32 : s.core.cur.b.toNat % 32 = 0 := Nat.mod_eq_zero_of_dvd ((blockSize_dvd v).trans (Nat.dvd_of_mod_eq_zero ho))
  have hwrites : (qntRuns s w v).flatMap (qntBytes s w v) = puts := by
    rw [hputs, qntRuns_eq, List.flatMap_map]
    exact List.flatMap_congr fun k hk => qntBytes_eq s w v h32 hk
  have hflags : orFlags ((qntRuns s w v).flatMap (·.2.2))
      = (qntBlocks s v).foldl (fun a k => (qntBlock s v k).foldl (fun a i => a ||| (qntElem s w v i).2) a) 0 := by
    rw [orFlags, List.foldl_flatMap, qntRuns_eq, List.foldl_map]
    simp only [qntResult, List.foldl_map]
  rw [vQnt_eq]
  refine issue_rounds hg (List.forall_mem_singleton.2 (Laws.regFault_none hu)) ((if_neg (qntBad_false ho hm)).trans ?_)
  rw [hwrites, hflags]

end Sys2Proof.Machine

namespace Sys2Proof.Proofs
open Sys2Proof.Machine Sys2Proof.Claims

/-- Settles O28: each instruction issues through the common end of the vector instructions; VQNT's writes and flags are those of its
blocks, one by one. -/
theorem vectorConversion : Obligations.VectorConversion := by
  unfold Obligations.VectorConversion
  intro w v s hg d t db sb key o
  refine ⟨?convert, ?function, ?dequantise, ?quantise⟩
  case convert =>
    intro dk sk n r hd ha hu
    exact congrArg _ (vCvt_issued hg rfl rfl rfl rfl hd ha hu)
  case function =>
    intro r hu i hi
    exact next_of_mem_both (fun _ _ _ => rfl) (fun _ _ => rfl) hi (vSfn_issued hg rfl hu)
  case dequantise =>
    intro n r ho hm hu
    exact congrArg _ (vDqnt_issued hg rfl rfl rfl rfl ho hm hu)
  case quantise =>
    intro n value block scale r puts ho hm hu
    exact congrArg _ (vQnt_issued hg rfl rfl ho hm rfl hu)

end Sys2Proof.Proofs
end

section
/-! Issue of an engine instruction: what stands once its body is done, and of one that waits or faults (02 R52, R61; 05 R156). -/

namespace Sys2Proof.Machine
open Sys2Proof.Claims

theorem sigOfE_eq (e : EW) : sigOfE e = e.tok.toNat % 8 := tokField_zero e.tok

/-! ### What a signal leaves of the core -/

section
variable (c : Core) (cons lat : Nat)
@[simp] theorem Core.signalAt_cur : (c.signalAt cons lat).cur = c.cur := by rw [Core.signalAt]; split <;> rfl
@[simp] theorem Core.signalAt_now : (c.signalAt cons lat).now = c.now := by rw [Core.signalAt]; split <;> rfl
variable (e : EW) (prod : Nat) (outs : Bool)
@[simp] theorem opSignal_cur : (opSignal e prod outs c).cur = c.cur := by rw [opSignal]; split <;> rfl
@[simp] theorem opSignal_now : (opSignal e prod outs c).now = c.now := by rw [opSignal]; split <;> rfl
variable (st rm : Nat)
@[simp] theorem Core.srBump_cur : (c.srBump st rm).cur = c.cur := by rw [Core.srBump]; split <;> rfl
@[simp] theorem Core.srBump_now : (c.srBump st rm).now = c.now := by rw [Core.srBump]; split <;> rfl
end

/-! ### Issue -/

section
variable {s t : State} {e : EW} {body : State → State} (hg : goesE s e)
include hg

/-- An instruction that is done takes its tokens, and its stream issues again one cycle on. -/
theorem State.issue_ran (hb : body s = (t.occupy 1).done) (hcur : t.core.cur = s.core.cur) (hnow : t.core.now = s.core.now) :
    s.issue e.tok (sigOfE e) body = { t with core := ran s e t.core } := by
  rw [sigOfE_eq, State.issue_of_done (v := { VW.plain with tok := e.tok }) hg (by rw [hb]; rfl), hb, ran, ← hcur, ← hnow]
  rfl

/-- One whose body leaves the core `c` and signals at `lat`. -/
theorem State.issue_signals {c : Core} {lat : Nat} (hb : body s = (((withCore s c).signalAt (sigOfE e) lat).occupy 1).done)
    (hcur : c.cur = s.core.cur) (hnow : c.now = s.core.now) :
    s.issue e.tok (sigOfE e) body = ranWith s e (c.signalAt (e.tok.toNat % 8) lat) := by
  rw [State.issue_ran hg hb ((Core.signalAt_cur ..).trans hcur) ((Core.signalAt_now ..).trans hnow), sigOfE_eq]
  rfl

/-- One whose body begins an operation at whose end it signals. -/
theorem State.issue_begins {prod : Nat} {outs : Bool} (hb : body s = ((t.mapCore (opSignal e prod outs)).occupy 1).done)
    (hcur : t.core.cur = s.core.cur) (hnow : t.core.now = s.core.now) :
    s.issue e.tok (sigOfE e) body = { t with core := ran s e (opSignal e prod outs t.core) } :=
  State.issue_ran hg hb ((opSignal_cur ..).trans hcur) ((opSignal_now ..).trans hnow)

/-- One whose body comes to anything else than an end leaves what its body leaves. -/
theorem State.issue_of_not_done (hd : (body s).core.out ≠ .done) : s.issue e.tok (sigOfE e) body = body s := by
  obtain ⟨hw, hf, hgate⟩ := hg
  rw [← sigOfE_eq] at hf
  have hfull : (sigOfE e != 7 && s.core.tokFull s.core.cur.stream (sigOfE e)) = false := by rcases hf with h | h <;> simp [h]
  simp only [State.issue, hw, hfull, hgate, Bool.not_true, Bool.false_eq_true, if_false]
theorem State.issue_holds (hb : body s = s.hold) : s.issue e.tok (sigOfE e) body = s.hold :=
  (State.issue_of_not_done hg (by rw [hb]; exact Out.noConfusion)).trans hb
theorem State.issue_raises {cause : Nat} {i0 i1 i2 : Word} (hb : body s = s.raise cause i0 i1 i2) :
    s.issue e.tok (sigOfE e) body = raises s cause i0 i1 i2 :=
  (State.issue_of_not_done hg (by rw [hb]; exact Out.noConfusion)).trans hb
end

end Sys2Proof.Machine
end

section
/-! The M stream beside its operations: configuration, pins, status, fence, and what waits (08 R219, R234, R238 to R246). -/

namespace Sys2Proof.Machine
open Sys2Proof.Claims

/-! ### Bytes -/

theorem natLe_eq_map (n v : Nat) : natLe n v = (List.range n).map fun i => BitVec.ofNat 8 (v / 2 ^ (8 * i)) := by
  induction n generalizing v with
  | zero => rfl
  | succ n ih =>
    have hshift (i : Nat) : v / 256 / 2 ^ (8 * i) = v / 2 ^ (8 * (i + 1)) := by
      rw [Nat.div_div_eq_div_mul, Nat.mul_succ, Nat.pow_add, Nat.mul_comm (2 ^ (8 * i))]
    rw [natLe, ih, List.range_succ_eq_map, List.map_cons, List.map_map]
    simp only [Function.comp_def, hshift, Nat.mul_zero, Nat.pow_zero, Nat.div_one]
theorem natLe_eq_leBytes (n : Nat) (x : Word) : natLe n x.toNat = leBytes n x := by
  simp only [natLe_eq_map, leBytes, BitVec.extractLsb', Nat.shiftRight_eq_div_pow]

/-! ### Reads of the scratchpad that raise no fault (05 Table 5.8, R477) -/

theorem State.scrSpan_none (s : State) {a : Word} {al n : Nat} (ha : a.toNat % al = 0) (hin : a.toNat + n ≤ 2 ^ 21) : s.scrSpan a al n = none := by
  rw [State.scrSpan, if_neg (not_not_intro ha), if_neg (Nat.not_lt.2 hin)]
theorem State.scrBlot_none {s : State} {a n : Nat} (h : ∀ i < n, s.core.scr.blots.get ((a + i) / 64) = false) : s.scrBlot a n = none := by
  rw [State.scrBlot, List.find?_eq_none.2 fun i hi => Bool.eq_false_iff.1 (h i (List.mem_range.1 hi)), Option.map_none]

/-- The eight words that MCFGV reads. -/
theorem mcfgvWords_getD (s : State) (a : Nat) {j : Nat} (hj : j < 8) :
    ((List.range 8).map fun j => BitVec.ofNat 32 (leNat (s.core.scr.bytes.readRun (a + 4 * j) 4))).getD j 0 = scrWord s a j := by
  rw [List.getD_eq_getElem?_getD, List.getElem?_map, List.getElem?_range hj]; rfl

/-! ### Conditions on the matrix context -/

theorem MatCtx.idle_iff (m : MatCtx) : m.idle = true ↔ m.nest = none ∧ m.drains = [] ∧ m.xfers = [] := by
  simp only [MatCtx.idle, Bool.and_eq_true, Option.isNone_iff_eq_none, List.isEmpty_iff, and_assoc]
/-- What holds back an instruction that takes a slot (08 R219, R234). -/
theorem clearing_or_busy_iff (n : Nat) (b : Bool) : (decide (n ≠ 0) || b) = true ↔ n ≠ 0 ∨ b = true := by
  rw [Bool.or_eq_true, decide_eq_true_iff]
/-- What holds back MGO (08 R234, R241). -/
theorem goWaits_iff {α : Type} (o : Option α) (n : Nat) (l k : List Nat) :
    (o.isSome || n != 0 || l.any k.contains) = true ↔ n ≠ 0 ∨ o ≠ none ∨ ∃ p ∈ l, p ∈ k := by
  simp only [Bool.or_eq_true, Option.isSome_iff_ne_none, bne_iff_ne, List.any_eq_true, List.contains_iff_mem]
  tauto

/-! ### What each instruction does where it can run -/

section
variable {s : State} {e : EW} (hg : goesE s e)
include hg

theorem exec_mcfg (w : FC) (l : BitVec 32) : exec (.mcfg w e l) s = .next (ranWith s e
    (({ s.core with pend := s.core.pend ++ [res s 1 0 (.nest w.d.toNat l)] } : Core).signalAt (e.tok.toNat % 8) 1)) :=
  congrArg Host.Outcome.next (State.issue_signals hg rfl rfl rfl)

/-- MCFGV of eight legal values from sound granules (08 R239). -/
theorem exec_mcfgv {w : FB} {a : Word} (hA : a = s.core.cur.a + 4 * w.imm.signExtend 64) (hal : a.toNat % 4 = 0) (hin : a.toNat + 32 ≤ 2 ^ 21)
    (hleg : ∀ j < 8, nestLegal (w.d.toNat + j) (scrWord s a.toNat j) = true) (hbl : ∀ i < 32, s.core.scr.blots.get ((a.toNat + i) / 64) = false) :
    exec (.mcfgv w e) s = .next (ranWith s e (({ s.core with
      pend := s.core.pend ++ [0, 1, 2, 3, 4, 5, 6, 7].map fun j => res s 1 0 (.nest (w.d.toNat + j) (scrWord s a.toNat j)) } : Core).signalAt
        (e.tok.toNat % 8) 1)) := by
  have hlegal : (List.range 8).find? (fun j => !nestLegal (w.d.toNat + j)
      (((List.range 8).map fun j => BitVec.ofNat 32 (leNat (s.core.scr.bytes.readRun (a.toNat + 4 * j) 4))).getD j 0)) = none := by
    refine List.find?_eq_none.2 fun j hj => ?_
    rw [mcfgvWords_getD s _ (List.mem_range.1 hj), hleg j (List.mem_range.1 hj)]
    decide
  refine congrArg Host.Outcome.next (State.issue_signals hg ?_ rfl rfl)
  simp only [← hA, hlegal, State.scrSpan_none s hal hin, State.scrBlot_none hbl, Option.map_none, firstFault, State.foldl_post]
  rfl

theorem exec_mpin {w : FE} (hc : s.core.mat.clear = 0) (hr : s.core.mat.sized.resize = none) (hp : s.core.mat.sized.size ≤ w.misc.toNat % 16) :
    exec (.mpin w e) s = .next (ranWith s e (({ s.core with
      mat := s.core.mat.sized
      pend := s.core.pend ++ [res s 1 0 (.pin (w.misc.toNat % 16) true (w.misc.getLsbD 4))] } : Core).signalAt (e.tok.toNat % 8) 1)) := by
  refine congrArg Host.Outcome.next (State.issue_signals hg ?_ rfl rfl)
  simp only [hc, hr, Nat.not_lt.2 hp, ne_eq, not_true_eq_false, Option.isSome_none, Bool.false_eq_true, if_false]
  rfl

theorem exec_munpin {w : FE} (hc : s.core.mat.clear = 0) (hb : s.core.mat.busy (w.misc.toNat % 16) = false) :
    exec (.munpin w e) s = .next (ranWith s e (({ s.core with
      pend := s.core.pend ++ [res s 1 0 (.pin (w.misc.toNat % 16) false false)] } : Core).signalAt (e.tok.toNat % 8) 1)) := by
  refine congrArg Host.Outcome.next (State.issue_signals hg ?_ rfl rfl)
  simp only [hc, hb, ne_eq, not_true_eq_false, decide_false, Bool.or_self, Bool.false_eq_true, if_false]
  rfl

/-- What MSTAT leaves of the matrix context: with CLR, no flag (08 R245). -/
theorem exec_mstat {w : FE} (hal : s.core.cur.a.toNat % 16 = 0) (hin : s.core.cur.a.toNat + 16 ≤ 2 ^ 21) :
    exec (.mstat w e) s = .next (ranWith s e (({ s.core with
      scrNext := s.core.scrNext ++ [(leBytes 8 s.core.mat.status ++ leBytes 8 s.core.mat.mprog).mapIdx fun i b =>
        { at_ := s.core.cur.a.toNat + i, mask := 0xFF, val := b, blot := false }]
      mat := if w.misc.getLsbD 6 then { s.core.mat with flags := 0 } else s.core.mat } : Core).signalAt (e.tok.toNat % 8) 0)) := by
  refine congrArg Host.Outcome.next (State.issue_signals hg ?_ rfl rfl)
  simp only [State.scrSpan_none s hal hin, natLe_eq_leBytes]
  split <;> rfl

theorem exec_mfence (w : FE) : exec (.mfence w e) s =
    if s.core.mat.nest = none ∧ s.core.mat.drains = [] ∧ s.core.mat.xfers = [] ∧ s.performed (s.openOf 3 (fun _ => true) e.scope.toNat) = true
    then .next (ranWith s e (s.core.signalAt (e.tok.toNat % 8) 0)) else .next s.hold := by
  have hcond : (s.core.mat.idle && s.performed (s.openOf 3 (fun _ => true) e.scope.toNat)) = true ↔ s.core.mat.nest = none ∧ s.core.mat.drains = []
      ∧ s.core.mat.xfers = [] ∧ s.performed (s.openOf 3 (fun _ => true) e.scope.toNat) = true := by
    rw [Bool.and_eq_true, MatCtx.idle_iff, and_assoc, and_assoc]
  rw [← if_congr hcond rfl rfl]
  split
  case isTrue h => exact congrArg Host.Outcome.next (State.issue_signals (c := s.core) hg (if_pos h) rfl rfl)
  case isFalse h => exact congrArg Host.Outcome.next (State.issue_holds hg (if_neg h))

/-! ### What each instruction waits for -/

theorem exec_mpin_waits (w : FE) (hc : s.core.mat.clear ≠ 0) : exec (.mpin w e) s = .next s.hold :=
  congrArg Host.Outcome.next (State.issue_holds hg (if_pos hc))
theorem exec_munpin_waits (w : FE) (h : s.core.mat.clear ≠ 0 ∨ s.core.mat.busy (w.misc.toNat % 16) = true) : exec (.munpin w e) s = .next s.hold :=
  congrArg Host.Outcome.next (State.issue_holds hg (if_pos ((clearing_or_busy_iff ..).2 h)))
theorem exec_mdrain_waits (w : FE) (h : s.core.mat.clear ≠ 0
    ∨ s.core.mat.busy (if w.misc.getLsbD 12 then w.misc.toNat / 2 ^ 13 % 16 else s.core.mat.t) = true) : exec (.mdrain w e) s = .next s.hold :=
  congrArg Host.Outcome.next (State.issue_holds hg (if_pos ((clearing_or_busy_iff ..).2 h)))
theorem State.slotXfer_waits (save : Bool) (w : FB) (h : s.core.mat.clear ≠ 0 ∨ s.core.mat.busy (w.d.toNat % 16) = true) :
    s.slotXfer save w e = s.hold := State.issue_holds hg (if_pos ((clearing_or_busy_iff ..).2 h))

section
variable (w : FE)
theorem exec_mgo_waits (hr : s.running (24 + s.id / 32) = true) (h : s.core.mat.clear ≠ 0 ∨ s.core.mat.nest ≠ none
    ∨ ∃ q ∈ (s.core.mat.sized.goMode w.misc.toNat).2.slots s.core.mat.sized.size, q ∈ s.core.mat.sized.inUse) : exec (.mgo w e) s = .next s.hold := by
  refine congrArg Host.Outcome.next (State.issue_holds hg ?_)
  simp only [hr, Bool.not_true, Bool.false_eq_true, if_false, if_pos ((goWaits_iff ..).2 h)]
/-- MGO on a core whose engine is out of service (14 R444). -/
theorem exec_mgo_lost (hr : s.running (24 + s.id / 32) = false) :
    exec (.mgo w e) s = .next (raises s 0x0E 0 (BitVec.ofNat 64 (24 + s.id / 32)) 0) :=
  congrArg Host.Outcome.next (State.issue_raises hg (if_pos (by rw [hr]; rfl)))
end
end

end Sys2Proof.Machine

namespace Sys2Proof.Proofs
open Sys2Proof.Machine Sys2Proof.Claims

theorem matrixSetup : MatrixSetup := by
  intro e s
  refine ⟨fun _ => rfl, fun hg => ⟨exec_mcfg hg, ?mcfgv, ?mpin, ?munpin, ?mstat, exec_mfence hg⟩⟩
  case mcfgv => exact fun w hal hin hleg hbl => exec_mcfgv hg rfl hal hin hleg hbl
  case mpin => exact fun w hc hr hp => exec_mpin hg hc hr hp
  case munpin => exact fun w hc hb => exec_munpin hg hc hb
  case mstat => exact fun w hal hin => exec_mstat hg hal hin

theorem matrixWaits : MatrixWaits := by
  intro e w v s hg m p
  exact ⟨exec_mpin_waits hg w, exec_mdrain_waits hg w,
    fun h => ⟨congrArg Host.Outcome.next (State.slotXfer_waits hg true v h), congrArg Host.Outcome.next (State.slotXfer_waits hg false v h)⟩,
    exec_munpin_waits hg w, exec_mgo_waits hg w, exec_mgo_lost hg w⟩

/-- Settles O32: what each instruction leaves where it can run, and what it waits for. -/
theorem matrixSetupAndWaits : Obligations.MatrixSetupAndWaits := by
  unfold Obligations.MatrixSetupAndWaits
  exact ⟨matrixSetup, matrixWaits⟩

end Sys2Proof.Proofs
end

section
/-! The operations of the M stream: MGO starts a nest, MDRAIN a drain, MSAVE and MLOAD a slot transfer (08 R231 to R236, R241 to R244). -/

namespace Sys2Proof.Machine
open Sys2Proof.Claims

/-! ### The state that each operation leaves -/

/-- The nest that MGO starts. -/
def Core.newNest (c : Core) (e : EW) (zero : Bool) (mode : NestMode) : Nest :=
  { seq := c.cur.seq, cls := e.cls.toNat, scope := e.scope.toNat, mode := mode, zero := zero, count := Table.steps c.mat.sized.shadow,
    folio := c.cur.folio, slot := c.cur.slot }
/-- The matrix context with that nest on its slots (08 R231, R232). -/
def MatCtx.started (m : MatCtx) (n : Nest) : MatCtx :=
  { m with
    active := m.shadow
    step := 0
    rb := 0
    valid := true
    nest := some n
    h := (match n.mode with
      | .head h0 f => (h0 + f) % m.size
      | _ => m.h)
    res := (match n.mode with
      | .head _ f => f
      | _ => m.res) }
/-- The drain that MDRAIN issues. -/
def State.newDrain (s : State) (e : EW) (p : Nat) (pinned : Bool) : Drain :=
  { seq := s.core.cur.seq, slot := p, pinned := pinned, o := s.core.cur.a, v := s.core.cur.b, fields := s.core.mat.shadow, issued := s.eng.cyc,
    cls := e.cls.toNat, scope := e.scope.toNat, key := srKey s.core 3 0, folio := s.core.cur.folio, qslot := s.core.cur.slot }
/-- The matrix context with that drain: one of the ring takes its tail (08 R243). -/
def MatCtx.drained (m : MatCtx) (d : Drain) : MatCtx :=
  { m with
    drains := m.drains ++ [d]
    t := if d.pinned then m.t else (m.t + 1) % m.size
    bnd := if d.pinned then m.bnd else m.bnd + 1 }
/-- The transfer that MSAVE or MLOAD begins. -/
def State.newXfer (s : State) (e : EW) (save : Bool) (p : Nat) (a : Word) : Xfer :=
  { ent := some s.core.cur.ent, seq := s.core.cur.seq, save := save, slot := p, addr := a, readyAt := s.wall + Config.delay s.freeCtr,
    cls := e.cls.toNat, scope := e.scope.toNat, folio := s.core.cur.folio, qslot := s.core.cur.slot }

/-! ### The operations -/

/-- A drain in the epilogue unit's order: the engine differs from its reset state. -/
theorem State.mapEng_order (s : State) (x : Nat × Nat) :
    s.mapEng (fun q => { q with epi := q.epi ++ [x] }) = { s with quads := quadOrder s x } := by
  have hne : { s.eng with epi := s.eng.epi ++ [x] } ≠ ({} : Quad) := fun h => List.append_ne_nil_of_right_ne_nil _ (List.cons_ne_nil _ _) (congrArg Quad.epi h)
  simp only [State.mapEng, State.setQuad, if_neg hne]
  rfl

/-- The signal of an operation that accesses memory: with a scope, it waits for its effects too (05 R157). -/
theorem State.mapCore_opSignal (t : State) (e : EW) {n : Nat} (hn : n = t.core.cur.seq) :
    (t.mapCore fun k => if sigOfE e = 7 then k else
      k.addSig { prod := 3, cons := sigOfE e, hand := false, cyc := k.now, perf := [], lands := [], ended := some n, outs := e.scope != 0 })
      = t.mapCore (opSignal e 3 (decide (e.scope ≠ 0))) := by
  have hscope : (e.scope != 0) = decide (e.scope ≠ 0) := by rw [Bool.eq_iff_iff, bne_iff_ne, decide_eq_true_iff]
  rw [sigOfE_eq, hn, hscope]
  rfl

section
variable {s : State} {e : EW} (hg : goesE s e)
include hg

theorem exec_mgo {w : FE} (hr : s.running (24 + s.id / 32) = true) (hn : s.core.mat.nest = none) (hc : s.core.mat.clear = 0)
    (hfree : ∀ p ∈ (s.core.mat.sized.goMode w.misc.toNat).2.slots s.core.mat.sized.size, p ∉ s.core.mat.sized.inUse)
    (hok : s.core.mat.sized.goFault (s.core.mat.sized.goMode w.misc.toNat).2 = none) :
    exec (.mgo w e) s = .next (ranWith s e (opSignal e s.core.cur.stream false { s.core with
      mat := s.core.mat.sized.started (s.core.newNest e (s.core.mat.sized.goMode w.misc.toNat).1 (s.core.mat.sized.goMode w.misc.toNat).2) })) := by
  have hgo : ¬(s.core.mat.nest.isSome || s.core.mat.clear != 0
      || ((s.core.mat.sized.goMode w.misc.toNat).2.slots s.core.mat.sized.size).any s.core.mat.sized.inUse.contains) = true := by
    rw [goWaits_iff]
    rintro (h | h | ⟨p, hp, hu⟩)
    exacts [h hc, h hn, hfree p hp hu]
  refine congrArg Host.Outcome.next (State.issue_begins (t := withMat s (s.core.mat.sized.started (s.core.newNest e _ _))) hg ?_ rfl rfl)
  simp only [hr, Bool.not_true, Bool.false_eq_true, if_false, if_neg hgo, hok, sigOfE_eq]
  cases (s.core.mat.sized.goMode w.misc.toNat).2 <;> rfl

/-- MDRAIN of the ring's tail or of a pinned slot, `p` (08 R243). -/
theorem exec_mdrain {w : FE} {p : Nat} (hp : p = if w.misc.getLsbD 12 then w.misc.toNat / 2 ^ 13 % 16 else s.core.mat.t) {t : Table}
    (ht : t = s.core.mat.shadow) (hc : s.core.mat.clear = 0) (hb : s.core.mat.busy p = false) (hal : t.drainAlign s.core.cur.a s.core.cur.b = none)
    (hty : t.bits 37 4 4 ≠ 0) (h4 : t.bits 37 4 4 = 13 → t.en % 2 = 1)
    (hheld : if w.misc.getLsbD 12 then s.core.mat.pinMask.getLsbD p = true else s.core.mat.res + s.core.mat.occ ≠ s.core.mat.bnd) :
    exec (.mdrain w e) s = .next { s with
      quads := quadOrder s (s.id, s.core.cur.seq)
      core := ran s e (opSignal e 3 (decide (e.scope ≠ 0))
        ({ s.core with mat := s.core.mat.drained (s.newDrain e p (w.misc.getLsbD 12)) }.srBump 3 (t.bits 37 8 3))) } := by
  have hgo : ¬(decide (s.core.mat.clear ≠ 0) || s.core.mat.busy p) = true := by simp [hc, hb]
  have hlegal : ¬(t.bits 37 4 4 = 0 ∨ (t.bits 37 4 4 = 13 ∧ t.en % 2 = 0)) := by omega
  have hslot : ¬(if w.misc.getLsbD 12 then !s.core.mat.pinMask.getLsbD p else s.core.mat.res + s.core.mat.occ == s.core.mat.bnd) = true := by
    split at hheld
    case isTrue h => rw [if_pos h, hheld]; decide
    case isFalse h => rw [if_neg h, beq_iff_eq]; exact hheld
  refine congrArg Host.Outcome.next ((State.issue_begins (prod := 3) (outs := decide (e.scope ≠ 0))
    (t := ((withMat s (s.core.mat.drained (s.newDrain e p (w.misc.getLsbD 12)))).mapEng fun q =>
      { q with epi := q.epi ++ [(s.id, s.core.cur.seq)] }).mapCore (·.srBump 3 (t.bits 37 8 3)))
    hg ?body (Core.srBump_cur ..) (Core.srBump_now ..)).trans ?state)
  case body =>
    rw [← State.mapCore_opSignal _ e (n := s.core.cur.seq) (by rw [State.mapCore_core, Core.srBump_cur]; rfl)]
    simp only [← hp, ← ht, if_neg hgo, hal, if_neg hlegal, if_neg hslot]
    subst ht
    rfl
  case state => rw [State.mapEng_order]; rfl

theorem State.slotXfer_begins (save : Bool) {w : FB} {a : Word} (hA : a = s.core.cur.a + 64 * w.imm.signExtend 64) (hc : s.core.mat.clear = 0)
    (hb : s.core.mat.busy (w.d.toNat % 16) = false) (hal : a.toNat % 64 = 0) :
    s.slotXfer save w e = { s with
      freeCtr := s.freeCtr + 1
      core := ran s e (opSignal e 3 (decide (e.scope ≠ 0)) { s.core with mat := { s.core.mat with
        xfers := s.core.mat.xfers ++ [s.newXfer e save (w.d.toNat % 16) a] } }) } := by
  have hgo : ¬(decide (s.core.mat.clear ≠ 0) || s.core.mat.busy (w.d.toNat % 16)) = true := by simp [hc, hb]
  refine State.issue_begins (t := (withMat s { s.core.mat with xfers := s.core.mat.xfers ++ [s.newXfer e save (w.d.toNat % 16) a] }).bump) hg ?_ rfl rfl
  rw [← State.mapCore_opSignal _ e rfl]
  simp only [if_neg hgo, ← hA, hal, ne_eq, not_true_eq_false, if_false]
  rfl

end

end Sys2Proof.Machine

namespace Sys2Proof.Proofs
open Sys2Proof.Machine Sys2Proof.Claims

/-- Settles O33: the state that each operation leaves, with the nest, the drain and the transfer that it starts. -/
theorem matrixOperations : Obligations.MatrixOperations := by
  unfold Obligations.MatrixOperations
  intro e s hg
  refine ⟨?mgo, ?mdrain, ?transfers⟩
  case mgo =>
    intro w m g hr hn hc hfree hok
    exact ⟨s.core.newNest e g.1 g.2, rfl, rfl, rfl, rfl, rfl, rfl, exec_mgo hg hr hn hc hfree hok⟩
  case mdrain =>
    intro w m t pinned p hc hb hal hty h4 hheld
    exact ⟨s.newDrain e p pinned, rfl, rfl, rfl, rfl, rfl, rfl, rfl, rfl, rfl, rfl, rfl, exec_mdrain hg rfl rfl hc hb hal hty h4 hheld⟩
  case transfers =>
    intro w p a hc hb hal i hi
    refine ⟨s.newXfer e i.2 p a, rfl, rfl, rfl, rfl, rfl, rfl, rfl, Eq.trans ?_ (congrArg Host.Outcome.next (State.slotXfer_begins hg i.2 rfl hc hb hal))⟩
    obtain rfl | rfl := List.mem_pair.1 hi <;> rfl

end Sys2Proof.Proofs
end

section
/-! Operations of the matrix, copy and bank engines that stop with a fault: STALL after 16,384 cycles of waiting for one access (08 R251,
R252; 09 R292; 10 R326, R331; 14 R478). -/

namespace Sys2Proof.Machine
open Sys2Proof.Claims

theorem runFaultOf_opTrap (stream cause slot seq : Nat) (folio i0 i1 i2 i3 : Word) :
    runFaultOf (opTrap stream cause folio slot seq i0 i1 i2 i3) cause stream slot folio i0 seq := ⟨rfl, rfl, rfl, rfl, rfl, rfl, rfl⟩

/-! ### What a fault leaves -/

section
variable {s : State} (ha : s.core.trap.active = false)
include ha

theorem State.nestFault_eq (n : Nest) (cause : Nat) (va i3 : Word) (src : Nat) : s.nestFault n cause va i3 src =
    withCore (s.mapEng fun q => { q with cur := none }) { s.core with
      mat := { s.core.mat with nest := some { n with faulted := true, wait := {} } }
      wfaults := []
      recs := s.core.recs ++ [opTrap 3 cause n.folio n.slot n.seq va s.core.mat.mprog (BitVec.ofNat 64 src) i3] } :=
  Laws.record_gives _ _ ha
theorem State.drainFault_eq (d : Drain) (cause : Nat) (va i3 : Word) (src : Nat) : s.drainFault d cause va i3 src =
    withCore (s.mapEng fun q => { q with epi := q.epi.drop 1, epiEnd := q.cyc }) { s.core with
      mat := { s.core.mat with drains := s.core.mat.drains.map fun x => if x.seq = d.seq then { d with faulted := true, started := false, wait := {} } else x }
      wfaults := []
      recs := s.core.recs ++ [opTrap 3 cause d.folio d.qslot d.seq va (BitVec.ofNat 64 d.row) (BitVec.ofNat 64 src) i3] } :=
  Laws.record_gives _ _ ha
theorem State.copyFault_eq (k : Copy) (cause : Nat) (va i2 i3 : Word) : s.copyFault k cause va i2 i3 =
    withCore s { s.core with
      cpy := { s.core.cpy with copies := s.core.cpy.copies.map fun j => if j.seq = k.seq then { k with faulted := true, wait := {} } else j }
      wfaults := []
      recs := s.core.recs ++ [opTrap 4 cause k.folio k.slot k.seq va (BitVec.ofNat 64 (k.prog * k.unit)) i2 i3] } :=
  Laws.record_gives _ _ ha
end

section
variable {s : State} {x : Strand} (hs : s.core.strand = some x)
include hs

theorem State.macroOf_own {n : Nat} {m : Macro} (hm : (s.core.macros.find? fun j => j.seq == n) = some m) :
    s.macroOf (s.core.owner, n) = some (s.id, m) := by
  have hcore : s.coreFor? s.core.owner = some s.id := by rw [State.coreFor?, hs, beq_self_eq_true]; rfl
  simp only [State.macroOf, hcore, State.coreAt_self rfl, hm, Option.map_some]
/-- A change of the strand on the current core. -/
theorem State.mapOwner_core {o : Nat} (ho : o = s.core.owner) (f : Core → Core) : (s.mapOwner o f).core = f s.core :=
  if_pos (by rw [hs, ho, beq_self_eq_true]; rfl)
end

theorem State.faultJoins_none {s : State} {k : Nat} (hk : k = s.id) (h : s.core.queues.get 5 = []) (head : Bool) (prog : Nat) :
    s.faultJoins k head prog = s := by
  rw [State.faultJoins, State.coreAt_self hk, h, List.drop_nil]; rfl

/-- The macros of a core once those of number `n` have stopped. -/
def Core.stopMacros (c : Core) (n : Nat) : Core :=
  { c with macros := c.macros.map fun j => if j.seq = n then { j with faulted := true, wait := {} } else j }
/-- A fault of a bank operation of the current core whose B queue is empty (09 R292). -/
theorem State.macroFault_core {s : State} {x : Strand} {m : Macro} (ha : s.core.trap.active = false) (hs : s.core.strand = some x)
    (hm : (s.core.macros.find? fun j => j.seq == m.seq) = some m) (hq : s.core.queues.get 5 = []) (cause : Nat) (va : Word) (p : Nat) (i3 : Word) :
    (s.macroFault (s.core.owner, m.seq) cause va p i3).mem = s.mem ∧ (s.macroFault (s.core.owner, m.seq) cause va p i3).core
      = { s.core.stopMacros m.seq with
          recs := s.core.recs ++ [opTrap 5 cause m.folio m.slot m.seq va (BitVec.ofNat 64 m.prog) (BitVec.ofNat 64 p) i3] } := by
  have hstop : (s.mapMacro (s.core.owner, m.seq) fun m => { m with faulted := true, wait := {} }).core = s.core.stopMacros m.seq :=
    State.mapOwner_core hs rfl _
  have hrecord (t : Trap) : ((s.mapMacro (s.core.owner, m.seq) fun m => { m with faulted := true, wait := {} }).mapOwner s.core.owner (·.record t)).core
      = { s.core.stopMacros m.seq with recs := s.core.recs ++ [t] } := by
    rw [State.mapOwner_core (x := x) (by rw [hstop]; exact hs) (by rw [hstop]; rfl), hstop]
    exact if_neg (by rw [Core.stopMacros, ha]; decide)
  simp only [State.macroFault, State.macroOf_own hs hm]
  rw [State.faultJoins_none (k := s.id)]
  · exact ⟨rfl, hrecord _⟩
  · rfl
  · rw [hrecord]; exact hq

/-! ### Which operation stalls -/

theorem exec_mStall_nest {s : State} {n : Nest} (hn : s.core.mat.nest = some n) (hf : n.faulted = false) (hw : 16384 ≤ n.wait.n) :
    exec .mStall s = .next (s.nestFault n 0x0C n.wait.va 0 n.wait.src) := by
  have hstall : (s.core.mat.nest.bind fun n => if 16384 ≤ n.wait.n ∧ !n.faulted then some n else none) = some n := by
    rw [hn, Option.bind_some, if_pos ⟨hw, by rw [hf]; rfl⟩]
  change Host.Outcome.next _ = _
  simp only [hstall]
theorem exec_mStall_drain {s : State} {d : Drain} (hn : ∀ n, s.core.mat.nest = some n → n.faulted = true ∨ n.wait.n < 16384)
    (hd : s.headDrain = some d) (hw : 16384 ≤ d.wait.n) : exec .mStall s = .next (s.drainFault d 0x0C d.wait.va 0 d.wait.src) := by
  have hnest : (s.core.mat.nest.bind fun n => if 16384 ≤ n.wait.n ∧ !n.faulted then some n else none) = none := by
    refine Option.bind_eq_none_iff.2 fun n h => if_neg ?_
    rintro ⟨hlong, hgoes⟩
    rcases hn n h with hf | hs
    · rw [hf] at hgoes; exact Bool.noConfusion hgoes
    · omega
  have hdrain : (s.headDrain.bind fun d => if 16384 ≤ d.wait.n then some d else none) = some d := by rw [hd, Option.bind_some, if_pos hw]
  change Host.Outcome.next _ = _
  simp only [hnest, hdrain]
theorem exec_cStall_of_find {s : State} {k : Copy} (hk : (s.core.cpy.copies.find? fun k => !k.faulted && decide (16384 ≤ k.wait.n)) = some k)
    (hw : k.wait.src ≠ 0) : exec .cStall s = .next (s.copyFault k 0x0C k.wait.va (BitVec.ofNat 64 k.wait.src) 0) := by
  change Host.Outcome.next _ = _
  simp only [hk, State.copyWaits, if_pos hw]
/-- The position of the stack whose hydration a BLOAD waits for. -/
def State.stallPosition (s : State) (m : Macro) : Nat :=
  ((List.range m.g).find? fun p => (stackOf s (m.g0 + p)).hydrate.any fun h => h.origin == some (s.core.owner, m.seq)).getD 0
theorem exec_bStall_of_find {s : State} {m : Macro} (hm : (s.core.macros.find? fun m => !m.faulted && decide (16384 ≤ m.wait.n)) = some m) :
    exec .bStall s = .next (s.macroFault (s.core.owner, m.seq) 0x0C m.wait.va (s.stallPosition m) 0) := by
  change Host.Outcome.next _ = _
  simp only [hm]
  rfl

end Sys2Proof.Machine

namespace Sys2Proof.Proofs
open Sys2Proof.Machine Sys2Proof.Claims

/-- Settles O43: which operation of the engine stalls, and what its fault leaves. -/
theorem engineStalls : Obligations.EngineStalls := by
  unfold Obligations.EngineStalls
  intro s ha
  refine ⟨?nest, ?copy, ?drain, ?bank⟩
  case nest =>
    intro n hn hf hw
    exact ⟨_, _, (exec_mStall_nest hn hf hw).trans (congrArg _ (State.nestFault_eq ha ..)), rfl, runFaultOf_opTrap .., rfl, rfl⟩
  case copy =>
    intro k hk hw
    exact ⟨_, _, (exec_cStall_of_find hk hw).trans (congrArg _ (State.copyFault_eq ha ..)), rfl, runFaultOf_opTrap .., rfl, rfl⟩
  case drain =>
    intro d hn hd hw
    exact ⟨_, _, (exec_mStall_drain hn hd hw).trans (congrArg _ (State.drainFault_eq ha ..)), rfl, runFaultOf_opTrap .., rfl, rfl, rfl⟩
  case bank =>
    intro m x hs hstall hm hq
    obtain ⟨hmem, hcore⟩ := State.macroFault_core ha hs hm hq 0x0C m.wait.va (s.stallPosition m) 0
    exact ⟨_, _, exec_bStall_of_find hstall, congrArg Core.recs hcore, runFaultOf_opTrap .., congrArg Core.macros hcore, hmem⟩

end Sys2Proof.Proofs
end

section
/-! The slots that a row block begins on (08 R222, R229, R233), in canonical form and out of it. -/

namespace Sys2Proof.Machine
open Sys2Proof.Claims

/-! ### A row block that begins -/

theorem State.injectAll_core (s : State) (ps : List (Nat × Nat)) : (s.injectAll ps).core = s.core :=
  List.foldlRecOn (motive := fun t : State => t.core = s.core) _ _ rfl fun _ h _ _ => (State.inject_core ..).trans h

theorem State.clearedIf_mat (s : State) (b : Bool) (p : Nat) :
    (if b then s.mapMat fun m => m.clearSlot p else s).core.mat = if b then s.core.mat.clearSlot p else s.core.mat := by
  cases b <;> rfl

section
variable {s : State} {n : Nest} {st : QStep}

theorem exec_matrixStep_begins (hcur : s.eng.cur = some st) (hid : st.core = s.id) (hb : st.begun = false) (hready : st.readyAt ≤ s.wall)
    (hn : s.core.mat.nest = some n) (hseq : n.seq = st.seq) (hf : n.faulted = false) : exec .matrixStep s = .next (s.beginBlock n st) := by
  have hgo : ¬(decide (st.core ≠ s.id) || st.begun || decide (s.wall < st.readyAt)) = true := by simp [hid, hb, hready]
  have hmine : (n.seq = st.seq && !n.faulted) = true := by rw [hseq, hf]; simp
  change Host.Outcome.next _ = _
  simp only [hcur, hn, if_neg hgo, if_pos hmine]

/-- It begins on the slots as they stand, its own cleared where the block opens a tile of a nest that zeroes (08 R233). -/
theorem State.beginBlock_mat {pss : List (List (Nat × Nat))} (hr : s.runAll .read (blockReads s.core.mat) = .ok pss)
    (ho : s.mOrder n.seq n.cls n.scope pss.flatten = false) (hl : s.lateReq (blockReads s.core.mat) pss = none) :
    (s.beginBlock n st).core.mat
      = { (if opens s.core.mat n then s.core.mat.clearSlot (s.core.mat.stepSlot n) else s.core.mat) with nest := some { n with wait := {} } } := by
  rw [blockReads] at hr hl
  simp only [State.beginBlock, hr, ho, hl, Bool.false_eq_true, if_false]
  change { (if opens s.core.mat n then (s.injectAll pss.flatten).mapMat fun m => m.clearSlot (s.core.mat.stepSlot n)
    else s.injectAll pss.flatten).core.mat with nest := some { n with wait := {} } } = _
  rw [State.clearedIf_mat, s.injectAll_core]
end

/-! ### Slots in canonical form -/

theorem Store.get_filter_div_ne {α : Type} [Inhabited α] [DecidableEq α] {m : Store α} (w : m.wf = true) (d p i : Nat) :
    Store.get (m.filter fun e => e.1 / d != p) i = if i / d = p then default else m.get i := by
  rw [Store.get_filter_key w fun j => j / d != p]
  by_cases h : i / d = p <;> simp [h]

/-- Of a context in canonical form, the block begins on slots and poison that read as before but for 0 in a slot that it clears. -/
theorem State.beginBlock_reads {s : State} {n : Nest} {pss : List (List (Nat × Nat))} (hr : s.runAll .read (blockReads s.core.mat) = .ok pss)
    (ho : s.mOrder n.seq n.cls n.scope pss.flatten = false) (hl : s.lateReq (blockReads s.core.mat) pss = none)
    (hs : s.core.mat.slots.wf = true) (hp : s.core.mat.poison.wf = true) (st : QStep) (i : Nat) :
    (s.beginBlock n st).core.mat.slots.get i
      = (if opens s.core.mat n = true ∧ i / 16384 = s.core.mat.stepSlot n then 0 else s.core.mat.slots.get i)
    ∧ (s.beginBlock n st).core.mat.poison.get i
      = (if opens s.core.mat n = true ∧ i / 1024 = s.core.mat.stepSlot n then false else s.core.mat.poison.get i) := by
  rw [State.beginBlock_mat hr ho hl]
  cases opens s.core.mat n with
  | false => simp only [Bool.false_eq_true, if_false, false_and, and_self]
  | true =>
    simp only [if_true, true_and]
    exact ⟨Store.get_filter_div_ne hs .., Store.get_filter_div_ne hp ..⟩

/-! ### Slots out of canonical form -/

/-- A nest at the first row block of a step that zeroes slot 1. -/
def zeroingNest : Nest := { seq := 0, cls := 0, scope := 0, mode := .pin 1, zero := true, count := 1, folio := 0, slot := 0 }
/-- Slots whose entry of slot 1 stands before one of slot 0, which it hides from reads; both operands at address 0. -/
def hiddenSlots : State :=
  { core := {
      mat := { slots := [(16384, 1), (0, 1)], nest := some zeroingNest }
      tlb := [{ dom := 0, va := 0, size := 4096, pa := 0, w := true, x := true, app := true, cache := 0, key := 0, owner := 0 }] }
    quads := [(0, some { cur := some { core := 0, seq := 0 } })] }

theorem hiddenSlots_reads : hiddenSlots.runAll .read (blockReads hiddenSlots.core.mat) = .ok [[(0, 1)], [(0, 1)]] := rfl

end Sys2Proof.Machine

namespace Sys2Proof.Proofs
open Sys2Proof.Machine Sys2Proof.Claims

/-- Refutes O41: the statement takes slots in any form. Where an entry of slot 1 hides one of slot 0, clearing slot 1 for a tile lets slot 0
read it, and the block does not begin on the slots as they read before; of canonical slots it does (`State.beginBlock_reads`). -/
theorem not_matrixEngine : ¬ Obligations.MatrixEngine := by
  unfold Obligations.MatrixEngine
  intro h
  obtain ⟨-, -, hblock, -⟩ := h hiddenSlots
  obtain ⟨t, -, ht, -, -, -, -, hslots, -⟩ := hblock { core := 0, seq := 0 } zeroingNest _ rfl rfl rfl (Nat.le_refl 0) rfl rfl rfl hiddenSlots_reads rfl rfl
  have hmodel := exec_matrixStep_begins (s := hiddenSlots) (st := { core := 0, seq := 0 }) rfl rfl rfl (Nat.le_refl 0) rfl rfl rfl
  obtain rfl : t = hiddenSlots.beginBlock zeroingNest { core := 0, seq := 0 } := Host.Outcome.next.inj (ht.symm.trans hmodel)
  have hread := hslots 0
  rw [State.beginBlock_mat hiddenSlots_reads rfl rfl] at hread
  exact absurd hread (by decide)

end Sys2Proof.Proofs
end

section
/-! The B stream at its queue head: operand checks that find nothing, the replica that a KEY names, and what each instruction sends to
its group (09 R260, R267, R276 to R291). -/

namespace Sys2Proof.Machine
open Sys2Proof.Claims

/-! ### Operand checks that find no fault (05 Table 5.8, 09 R292, 10 R299) -/

theorem Core.alignFault_none (c : Core) {l : List (Word × Nat)} (h : ∀ a ∈ l, a.1.toNat % a.2 = 0) : c.alignFault l = none := by
  rw [Core.alignFault, List.find?_eq_none.2 fun a ha => by rw [h a ha]; decide, Option.map_none]
theorem Core.sideFault_none {s : State} {m : EMap} {e : Nat} (h : inside s m e) : s.core.sideFault m e = none := by
  rw [Core.sideFault]
  split
  case isTrue => rfl
  case isFalse hsp =>
    rw [List.find?_eq_none.2 fun r hr => by rw [decide_eq_true_iff, Nat.not_lt]; exact h hsp r hr, Option.map_none]
/-- One row of `n` bytes at `a` (10 R305). -/
theorem inside_line {s : State} {sp n : Nat} {a : Word} (h : a.toNat + n ≤ s.core.spaceSize sp) :
    inside s { space := sp, base := a, dims := [(n, 1)] } 1 := by
  intro _ r hr
  simp only [EMap.rows, Nat.cast_one, if_true, Nat.mul_one] at hr
  split at hr
  case isTrue => exact absurd hr List.not_mem_nil
  case isFalse =>
    obtain rfl : r = (a, n) := List.mem_singleton.1 hr
    exact h

theorem worstTrap_none {fs : List (Option Trap)} (h : ∀ t ∈ fs, t = none) : worstTrap fs = none := by
  induction fs with
  | nil => rfl
  | cons t r ih =>
    obtain rfl := h t List.mem_cons_self
    exact ih fun t ht => h t (List.mem_cons_of_mem _ ht)
theorem State.orFault_none (s : State) {fs : List (Option Trap)} (h : ∀ t ∈ fs, t = none) (u : Use) (go : State → State) :
    s.orFault fs none u go = go s := by
  simp only [State.orFault, worstTrap_none h]
theorem State.afterLookup_ok (s : State) {en : Entry} {fs : List (Option Trap)} (h : ∀ t ∈ fs, t = none) (go : State → State) :
    s.afterLookup s (.ok en) fs none go = go s := by
  rw [State.afterLookup, ite_self, State.orFault_none s]
  intro t ht
  rcases List.mem_append.1 ht with ht | ht
  · exact h t ht
  · exact List.mem_singleton.1 ht

/-! ### Addresses of runs that all resolve (05 R139) -/

/-- One more run is resolved after those before it. -/
def State.runsStep (s : State) (u : Use) (a : List (List (Nat × Nat)) × Option Word × List (Option Trap)) (r : Word × Nat) :
    List (List (Nat × Nat)) × Option Word × List (Option Trap) :=
  match s.run u r.1 r.2 with
  | .ok ps => (a.1 ++ [ps], a.2)
  | .miss va => (a.1 ++ [[]], a.2.1.orElse fun _ => some va, a.2.2)
  | .bad _ va _ => (a.1 ++ [[]], a.2.1, a.2.2 ++ [s.locTrap u va])
theorem State.runsOf_eq (s : State) (u : Use) (rs : List (Word × Nat)) : s.runsOf u rs = rs.foldl (s.runsStep u) ([], none, []) := rfl
/-- Runs that leave neither a walk nor a fault have each resolved, and none stood before them. -/
theorem State.foldl_runsStep_clear {s : State} {u : Use} {rs : List (Word × Nat)} {a : List (List (Nat × Nat)) × Option Word × List (Option Trap)}
    {l : List (List (Nat × Nat))} (h : rs.foldl (s.runsStep u) a = (l, none, [])) :
    a.2 = (none, []) ∧ ∃ ls, l = a.1 ++ ls ∧ ls.map Fetch.ok = rs.map fun r => s.run u r.1 r.2 := by
  induction rs generalizing a with
  | nil => obtain rfl := h; exact ⟨rfl, [], (List.append_nil l).symm, rfl⟩
  | cons r rs ih =>
    obtain ⟨ha, ls, rfl, hls⟩ := ih h
    simp only [State.runsStep] at ha ⊢
    split at ha
    case h_1 ps hr =>
      exact ⟨ha, ps :: ls, List.append_assoc .., by rw [List.map_cons, List.map_cons, hls, hr]⟩
    case h_2 => cases hw : a.2.1 <;> rw [hw] at ha <;> exact absurd (congrArg Prod.fst ha) (Option.some_ne_none _)
    case h_3 => exact absurd (congrArg Prod.snd ha) (List.append_ne_nil_of_right_ne_nil _ (List.cons_ne_nil _ _))
/-- Each of them has its pieces. -/
theorem State.runsOf_clear {s : State} {u : Use} {rs : List (Word × Nat)} {l : List (List (Nat × Nat))} (h : s.runsOf u rs = (l, none, [])) :
    l.map Fetch.ok = rs.map fun r => s.run u r.1 r.2 := by
  rw [State.runsOf_eq] at h
  obtain ⟨-, ls, rfl, hls⟩ := State.foldl_runsStep_clear h
  exact hls
/-- A run of bytes has a first piece. -/
theorem State.run_ne_nil {s : State} {u : Use} {va : Word} {n : Nat} (hn : n ≠ 0) : s.run u va n ≠ .ok [] := by
  rw [State.run, State.pieces, if_neg hn]
  dsimp only
  split
  case h_3 =>
    split
    · exact Fetch.noConfusion
    · split
      · exact fun h => List.cons_ne_nil _ _ (Fetch.ok.inj h)
      · rename_i f hf; exact fun h => hf _ h
  all_goals exact Fetch.noConfusion
/-- The first location of each of `n` runs that have resolved. -/
theorem State.runsOf_first {s : State} {u : Use} {n k : Nat} {f : Nat → Word} {l : List (List (Nat × Nat))} (hk : k ≠ 0)
    (h : s.runsOf u ((List.range n).map fun i => (f i, k)) = (l, none, [])) {i : Nat} (hi : i < n) : ∃ loc, ((l.getD i []).head?).map (·.1) = some loc := by
  have hrun : (l.map Fetch.ok)[i]? = some (s.run u (f i) k) := by
    rw [State.runsOf_clear h, List.getElem?_map, List.getElem?_map, List.getElem?_range hi]; rfl
  rw [List.getElem?_map, Option.map_eq_some_iff] at hrun
  obtain ⟨ps, hps, hok⟩ := hrun
  rw [List.getD_eq_getElem?_getD, hps, Option.getD_some]
  cases ps with
  | nil => exact absurd hok.symm (State.run_ne_nil hk)
  | cons p r => exact ⟨p.1, rfl⟩

/-! ### Bytes of a core-local space -/

theorem Store.getRun_eq_map {α : Type} [Inhabited α] (m : Store α) (a n : Nat) : m.getRun a n = (List.range n).map fun i => m.get (a + i) := by
  induction n generalizing a with
  | zero => rfl
  | succ n ih =>
    rw [Store.getRun, ih, List.range_succ_eq_map, List.map_cons, List.map_map]
    exact congrArg _ (List.map_congr_left fun i _ => congrArg m.get (by omega))
theorem mapIdx_map_range {α β : Type} (f : Nat → α) (g : Nat → α → β) (n : Nat) :
    ((List.range n).map f).mapIdx g = (List.range n).map fun i => g i (f i) := by
  refine List.ext_getElem? fun i => ?_
  rcases Nat.lt_or_ge i n with hi | hi
  · simp [hi]
  · simp [hi]
theorem Core.spaceRead_eq (s : State) (sp a n : Nat) : s.core.spaceRead sp a n = localBytes s sp a n := by
  simp only [Core.spaceRead, localBytes, Memory.readRun, Store.getRun_eq_map, mapIdx_map_range]
  by_cases h : sp = 1 <;> simp only [h, if_true, if_false] <;> rfl

/-! ### Sending work to the group (09 R260, R276) -/

/-- What the instruction at hand sends. -/
def State.newMacro (s : State) (e : EW) (f g : Nat) (k : MacroKind) : Macro :=
  { ent := some s.core.cur.ent, seq := s.core.cur.seq, kind := k, cls := e.cls.toNat, scope := e.scope.toNat, g0 := f, g := g, issue := s.core.flow.run,
    at_ := s.wall, born := s.nextId, pos := List.replicate g {}, folio := s.core.cur.folio, slot := s.core.cur.slot }
theorem leaves_newMacro (s : State) (e : EW) (f g : Nat) (k : MacroKind) : leaves s e f g k (s.newMacro e f g k) :=
  ⟨rfl, rfl, rfl, rfl, rfl, rfl, rfl, rfl, rfl, rfl, rfl, rfl, rfl⟩
theorem State.sendMacro_eq (s : State) (e : EW) (f g : Nat) (outs : Bool) (k : MacroKind) :
    s.sendMacro e f g outs k = ((withCore s (sending s e outs (s.newMacro e f g k))).occupy 1).done := by
  rw [State.sendMacro, tokField_zero]
  rfl

theorem State.srBump_done (s : State) (st rm : Nat) : ((s.occupy 1).done).srBump st rm = ((s.srBump st rm).occupy 1).done := by
  by_cases h : rm = 5
  · subst h; rfl
  · simp only [State.srBump, State.mapCore, Core.srBump, if_neg h]
theorem ran_srBump (s : State) (e : EW) (c : Core) (st rm : Nat) : ran s e (c.srBump st rm) = (ran s e c).srBump st rm := by
  rw [ran, ran, ← Core.srBump_tokTake, Core.srBump, Core.srBump]
  split <;> rfl

section
variable {s : State} {e : EW} (hg : goesE s e) {f g : Nat} (hgroup : s.core.group? = some (f, g)) {body : Nat → Nat → State → State}
include hg hgroup

/-- An instruction that is done, on the strand's group. -/
theorem State.bank_ran {t : State} (hb : body f g s = (t.occupy 1).done) (hcur : t.core.cur = s.core.cur) (hnow : t.core.now = s.core.now) :
    s.bank e body = { t with core := ran s e t.core } :=
  State.issue_ran hg (by simp only [hgroup, hb]) hcur hnow
theorem State.bank_signals {lat : Nat} (hb : body f g s = ((s.signalAt (sigOfE e) lat).occupy 1).done) :
    s.bank e body = ranWith s e (s.core.signalAt (e.tok.toNat % 8) lat) :=
  State.issue_signals (c := s.core) hg (by simp only [hgroup, hb]; rfl) rfl rfl
theorem State.bank_holds (hb : body f g s = s.hold) : s.bank e body = s.hold := State.issue_holds hg (by simp only [hgroup, hb])
theorem State.bank_raises {cause : Nat} {i0 i1 i2 : Word} (hb : body f g s = s.raise cause i0 i1 i2) : s.bank e body = raises s cause i0 i1 i2 :=
  State.issue_raises hg (by simp only [hgroup, hb])
/-- An instruction whose checks find nothing goes to the group. -/
theorem sends_of_body {i : Instr} (hi : exec i s = .next (s.bank e body)) {outs : Bool} {k : MacroKind} (hb : body f g s = s.sendMacro e f g outs k) :
    sends s e i f g outs k :=
  ⟨_, leaves_newMacro s e f g k, hi.trans (congrArg _ (State.bank_ran hg hgroup (hb.trans (State.sendMacro_eq ..)) (opSignal_cur ..) (opSignal_now ..)))⟩
/-- One that counts a stochastic rounding besides (03 R95). -/
theorem State.bank_sends_counted {outs : Bool} {k : MacroKind} {rm : Nat} (hb : body f g s = (s.sendMacro e f g outs k).srBump 5 rm) :
    s.bank e body = (ranWith s e (sending s e outs (s.newMacro e f g k))).srBump 5 rm := by
  rw [State.bank_ran (t := (withCore s (sending s e outs (s.newMacro e f g k))).srBump 5 rm) hg hgroup
    (by rw [hb, State.sendMacro_eq, State.srBump_done]) ((Core.srBump_cur ..).trans (opSignal_cur ..)) ((Core.srBump_now ..).trans (opSignal_now ..))]
  exact congrArg (withCore s) (ran_srBump ..)
end
/-- Without a group the strand has no bank instructions. -/
theorem State.bank_ungrouped {s : State} {e : EW} (hg : goesE s e) (hgroup : s.core.group? = none) (body : Nat → Nat → State → State) :
    s.bank e body = raises s 0x02 0 0 0 :=
  State.issue_raises hg (by simp only [hgroup])

/-! ### The replica that a KEY names (09 R267) -/

/-- A resident replica of the strand's domain is found, and nothing is hydrated. -/
theorem State.lookup_resident {s : State} {f g : Nat} {key : Word} {en : Entry} (h : Claims.resident s f g key en) (cols : Bool) :
    s.lookup f g key cols = (s, .ok en) := by
  obtain ⟨hin, hdom, hready⟩ := h
  have hstate {o : Option Nat} (ho : o ∈ (List.range g).map fun p => (((stackOf s (f + p)).table.map (·.2)).find? fun x =>
      Entry.valid x && Entry.key x == key && 2 ^ Entry.glog x == g).map Entry.state) : o = some 2 := by
    obtain ⟨p, hp, rfl⟩ := List.mem_map.1 ho
    obtain ⟨x, hx, h2⟩ := hready p (List.mem_range.1 hp)
    rw [hx, Option.map_some, h2]
  have hlost : (((List.range g).map fun p => (((stackOf s (f + p)).table.map (·.2)).find? fun x =>
      Entry.valid x && Entry.key x == key && 2 ^ Entry.glog x == g).map Entry.state).contains (some 3)) = false := by
    rw [Bool.eq_false_iff, ne_eq, List.contains_iff_mem]
    exact fun hm => absurd (hstate hm) (by decide)
  simp only [State.lookup, hin, hdom, ne_eq, not_true_eq_false, if_false, hlost, Bool.and_false, Bool.false_eq_true]
  exact if_pos (List.all_eq_true.2 fun o ho => beq_iff_eq.2 (hstate ho))

/-! ### Products and appends (09 R276 to R282) -/

section
variable {s : State} {e : EW} (hg : goesE s e) {f g : Nat} (hgroup : s.core.group? = some (f, g)) (w : FA)
include hg hgroup

/-- BACT of a legal length from inside its space (09 R276, R277). -/
theorem bact_sends {a n d : Nat} (ha : a = s.core.cur.a.toNat) (hn : n = s.core.cur.b.toNat) (hd : d = s.core.cur.d.toNat) (hal : a % 32 = 0)
    (hn32 : n % 32 = 0) (hin : a + n ≤ s.core.spaceSize (xb e 0 2))
    (hlen : if w.fn.getLsbD 3 then d % 32 = 0 ∧ 32 ≤ d ∧ d ≤ 4096 ∧ d ≤ n ∧ n ≤ d * 256 * g else 32 ≤ n ∧ n ≤ 4096) :
    sends s e (.bact w e) f g false (.bact (w.fn.toNat % 8) (if w.fn.getLsbD 3 then d else 0) (localBytes s (xb e 0 2) a n)) := by
  subst ha hn hd
  have hside := Core.sideFault_none (inside_line hin)
  have halign : s.core.alignFault [(s.core.cur.a, 32)] = none := s.core.alignFault_none (by simpa using hal)
  refine sends_of_body hg hgroup rfl ((State.orFault_none s ?_ .read _).trans (by rw [Core.spaceRead_eq]))
  cases hs : w.fn.getLsbD 3
  case false =>
    rw [hs] at hlen
    have hlen : 32 ≤ s.core.cur.b.toNat ∧ s.core.cur.b.toNat ≤ 4096 := hlen
    simp only [halign, hside, hn32]
    simp; omega
  case true =>
    rw [hs] at hlen
    obtain ⟨hd32, hd1, hd2, hlo, hhi⟩ : s.core.cur.d.toNat % 32 = 0 ∧ 32 ≤ s.core.cur.d.toNat ∧ _ ∧ _ ∧ _ := hlen
    simp only [halign, hside, hn32, hd32]
    simp; omega

section
variable {en : Entry} (hres : Claims.resident s f g s.core.cur.a en) {c : Ctl} (hc : c = s.core.cur.b)
include hres hc

section
variable {which : Nat} (hbad : c.bad which = false) (hfit : c.misfit which en = false) (hal : s.core.cur.d.toNat % 64 = 0)
include hbad hfit hal

/-- A product whose outputs go to a core-local space (09 R278 to R281). -/
theorem State.product_sends_inCore (hsp : xb e 0 2 ≠ 0)
    (hin : inside s { space := xb e 0 2, base := s.core.cur.d, dims := [(outCount which en c * c.ob, 1), (c.nb, (c.stride : Int))] } 1) :
    s.product which e = (ranWith s e (sending s e true (s.newMacro e f g
      (.product which s.core.cur.a c (xb e 0 2) s.core.cur.d [] (srKey s.core 5 0))))).srBump 5 c.orm := by
  subst hc
  have halign : s.core.alignFault [(s.core.cur.d, 64)] = none := s.core.alignFault_none (by simpa using hal)
  refine State.bank_sends_counted hg hgroup ?_
  simp only [State.lookup_resident hres, Look.entry, hbad, hfit, Option.map_some, Option.getD_some, Core.sideFault_none hin, halign]
  simp only [bne_iff_ne.2 hsp, Bool.or_self, Bool.or_true, Bool.false_eq_true, if_false, if_true]
  exact State.afterLookup_ok s (by simp) _
/-- One whose outputs go to memory (09 R278 to R281). -/
theorem State.product_sends_memory (hsp : xb e 0 2 = 0) {parts : List (List (Nat × Nat))} (hparts : s.runsOf .write ((List.range c.nb).map fun j =>
      (s.core.cur.d + BitVec.ofNat 64 (j * c.stride), outCount which en c * c.ob)) = (parts, none, [])) :
    s.product which e = (ranWith s e (sending s e (decide (e.scope ≠ 0)) (s.newMacro e f g
      (.product which s.core.cur.a c 0 s.core.cur.d parts (srKey s.core 5 0))))).srBump 5 c.orm := by
  subst hc
  have halign : s.core.alignFault [(s.core.cur.d, 64)] = none := s.core.alignFault_none (by simpa using hal)
  have hscope : (e.scope != 0 || (0 : Nat) != 0) = decide (e.scope ≠ 0) := by rw [Bool.eq_iff_iff]; simp
  have hside (ds : List (Nat × Int)) : s.core.sideFault { space := 0, base := s.core.cur.d, dims := ds } 1 = none := if_pos rfl
  refine State.bank_sends_counted hg hgroup ?_
  simp only [State.lookup_resident hres, Look.entry, hbad, hfit, Option.map_some, Option.getD_some, halign, hsp, hside, hparts, hscope]
  exact State.afterLookup_ok s (by simp) _
end

/-- BAPP of rows that stand in a core-local space (09 R282). -/
theorem bapp_sends {n : Nat} (hn : n = wBytes en.wtype (kept en.smode en.k)) (hz : c.f 0 20 = 0) (hmx : en.mx = false) (hrows : c.row0 + c.rows ≤ en.o)
    (hns : n ≤ c.stride) (hs0 : c.stride ≠ 0)
    (hin : inside s { space := xb e 0 2, base := s.core.cur.d, dims := [(n, 1), (c.rows, (c.stride : Int))] } 1) {parts : List (List (Nat × Nat))}
    (hparts : s.runsOf .write (if en.isLocal then [] else (List.range c.rows).map fun i => (en.key + BitVec.ofNat 64 ((c.row0 + i) * en.rstride), n))
      = (parts, none, [])) :
    sends s e (.bapp w e) f g (decide (e.scope ≠ 0)) (.bapp s.core.cur.a c.row0
      ((List.range c.rows).map fun i => (parts.getD i [], localBytes s (xb e 0 2) (s.core.cur.d.toNat + i * c.stride) n))) := by
  subst hc hn
  have ho : en.o ≤ 65536 := Nat.succ_le_of_lt (BitVec.isLt _)
  have hscope : (e.scope != 0) = decide (e.scope ≠ 0) := by rw [Bool.eq_iff_iff]; simp
  have hlegal : (Ctl.f s.core.cur.b 0 20 != 0 || Ctl.stride s.core.cur.b == 0 || decide (65536 < Ctl.row0 s.core.cur.b + Ctl.rows s.core.cur.b)
      || (en.mx || decide (en.o < Ctl.row0 s.core.cur.b + Ctl.rows s.core.cur.b)
        || decide (Ctl.stride s.core.cur.b < wBytes en.wtype (kept en.smode en.k)))) = false := by
    simp [hz, hmx, hs0]; omega
  refine sends_of_body hg hgroup rfl ?_
  simp only [State.lookup_resident hres, Look.entry, hlegal, Core.sideFault_none hin, Bool.or_false, hparts, hscope, ← Core.spaceRead_eq]
  exact State.afterLookup_ok s (by simp) _
end
end

end Sys2Proof.Machine

namespace Sys2Proof.Proofs
open Sys2Proof.Machine Sys2Proof.Claims

/-- Settles O36: BACT, the products on both kinds of space, and BAPP. -/
theorem bankProducts : Obligations.BankProducts := by
  unfold Obligations.BankProducts
  intro w e s f g hg hgroup sp
  refine ⟨?bact, ?products, ?bapp⟩
  case bact =>
    intro n d a hal hn32 _ hin hlen
    exact bact_sends hg hgroup w rfl rfl rfl hal hn32 hin hlen
  case products =>
    intro en hres p hp c dst n hbad hfit hal
    have hexec : exec (p.1 w e) s = .next (s.product p.2 e) := by
      simp only [products, List.mem_cons, List.not_mem_nil, or_false] at hp
      obtain rfl | rfl | rfl := hp <;> rfl
    rw [hexec]
    refine ⟨fun hsp hin => ⟨_, leaves_newMacro .., ?inCore⟩, fun hsp parts hparts => ⟨_, leaves_newMacro .., ?memory⟩⟩
    case inCore => exact congrArg _ (State.product_sends_inCore hg hgroup hres rfl hbad hfit hal hsp hin)
    case memory => exact congrArg _ (State.product_sends_memory hg hgroup hres rfl hbad hfit hal hsp hparts)
  case bapp =>
    intro en hres c src n hz hmx hrows hns hs0 hin parts hparts _
    exact bapp_sends hg hgroup w hres rfl rfl hz hmx hrows hns hs0 hin hparts

end Sys2Proof.Proofs
end

section
/-! Residency, in-DRAM copies, joins and fences of the B stream at its queue head (09 R283 to R286, R289 to R291). -/

namespace Sys2Proof.Machine
open Sys2Proof.Claims

/-! ### Units of an in-DRAM copy (09 R285) -/

/-- A unit that raises no fault has its destination in the group. -/
theorem State.stackPart_of_unitBad {s : State} {which f g i : Nat} {d a : Word} {loc : Nat} {la : Option Nat}
    (h : s.unitBad which f g d a i (some loc) la = none) : ∃ x, stackPart loc = some x ∧ f ≤ x.1 ∧ x.1 < f + g := by
  cases hx : stackPart loc with
  | none => simp [State.unitBad, hx] at h
  | some x =>
    refine ⟨x, rfl, ?_⟩
    by_contra hout
    have haway : (!(decide (f ≤ x.1) && decide (x.1 < f + g))) = true := by
      rw [← Bool.decide_and, decide_eq_false hout]; rfl
    simp only [State.unitBad, hx, haway, if_true] at h
    exact Option.some_ne_none _ h
theorem exec_unitCopies (w : FA) (e : EW) (s : State) {p : (FA → EW → Instr) × Nat} (hp : p ∈ unitCopies) :
    exec (p.1 w e) s = .next (s.unitCopy p.2 e) := by
  simp only [unitCopies, List.mem_cons, List.not_mem_nil, or_false] at hp
  obtain rfl | rfl | rfl := hp <;> rfl
/-- Where every element has an image, each image stands at its element's place. -/
theorem filterMap_map_some {α β : Type} {h : α → Option β} {l : List α} (hs : ∀ x ∈ l, ∃ y, h x = some y) :
    (l.filterMap h).map some = l.map h := by
  induction l with
  | nil => rfl
  | cons x l ih =>
    obtain ⟨y, hy⟩ := hs x List.mem_cons_self
    rw [List.filterMap_cons_some hy, List.map_cons, List.map_cons, ih fun x hx => hs x (List.mem_cons_of_mem _ hx), hy]

/-- The first location of run `i`. -/
def firstAt (l : List (List (Nat × Nat))) (i : Nat) : Option Nat := ((l.getD i []).head?).map (·.1)
/-- What unit `i` of an in-DRAM copy names: its stack's position, and the offsets of its destination and source there. -/
def unitAt (which f : Nat) (dl al : List (List (Nat × Nat))) (i : Nat) : Option (Nat × Nat × Nat) :=
  ((firstAt dl i).bind stackPart).map fun x => (x.1 - f, x.2, if which = 1 then 0 else (((firstAt al i).bind stackPart).map (·.2)).getD 0)

/-! ### The token of a join (05 R157) -/

/-- A token pending until the effect numbered `id` is performed. -/
def Core.signalOnce (c : Core) (e : EW) (id : Nat) : Core :=
  if e.tok.toNat % 8 = 7 then c else
  c.addSig { prod := c.cur.stream, cons := e.tok.toNat % 8, hand := false, cyc := c.now, perf := [id], lands := [], ended := none }
theorem Core.signalOnce_cur (c : Core) (e : EW) (id : Nat) : (c.signalOnce e id).cur = c.cur := by rw [Core.signalOnce]; split <;> rfl
theorem Core.signalOnce_now (c : Core) (e : EW) (id : Nat) : (c.signalOnce e id).now = c.now := by rw [Core.signalOnce]; split <;> rfl

section
variable {s : State} {e : EW} (hg : goesE s e) {f g : Nat} (hgroup : s.core.group? = some (f, g))
include hg hgroup

/-! ### Replicas (09 R283, R284) -/

/-- BLOAD of a legal record to a free footprint. -/
theorem bload_sends (w : FA) {en : Entry} (hen : en = makeEntry s.core.cur.la s.core.dom (Nat.log2 g) s.core.cur.a.toNat
      (if w.fn.toNat % 4 = 0 then 0 else s.core.cur.d.toNat) (w.fn.toNat % 4) s.core.cur.b.toNat (w.fn.getLsbD 2) (w.fn.getLsbD 3))
    (hal : s.core.cur.a.toNat % 2 ^ 20 = 0) (hbad : bloadBad s.core.cur.la en s.core.cur.b.toNat g = false)
    (hfits : s.core.cur.a.toNat + 2 ^ 20 * en.units ≤ 2 ^ 37) (hspace : s.spaceFree f g s.core.cur.a.toNat en.units = true)
    (hnew : s.replicaIn f g en.key = none) (hfree : s.entryFree f g = true) : sends s e (.bload w e) f g false (.bload en) := by
  subst hen
  have halign : s.core.alignFault [(s.core.cur.a, 2 ^ 20)] = none := s.core.alignFault_none (by simpa using hal)
  refine sends_of_body hg hgroup rfl (State.orFault_none s ?_ .read _)
  simp only [hbad, hspace, hnew, hfree, halign, Nat.not_lt.2 hfits]
  simp

theorem bdrop_sends (w : FA) (h : ∀ en, s.replicaIn f g s.core.cur.a = some en → en.dom = s.core.dom) :
    sends s e (.bdrop w e) f g false (.bdrop s.core.cur.a) := by
  refine sends_of_body hg hgroup rfl ?_
  dsimp only
  split
  case h_1 en hen => exact if_neg (not_not_intro (h en hen))
  case h_2 => rfl
/-- A replica of another domain is not dropped. -/
theorem exec_bdrop_foreign (w : FA) {en : Entry} (hen : s.replicaIn f g s.core.cur.a = some en) (hdom : en.dom ≠ s.core.dom) :
    exec (.bdrop w e) s = .next (raises s 0x08 s.core.cur.a (BitVec.ofNat 64 en.dom) 0) :=
  congrArg Host.Outcome.next (State.bank_raises hg hgroup (by simp only [hen]; exact if_pos hdom))

/-! ### In-DRAM copies (09 R285, R286) -/

theorem State.unitCopy_none (which : Nat) (hb : s.core.cur.b = 0) : s.unitCopy which e = copiedNone s e :=
  State.bank_signals hg hgroup (by simp only [hb]; rfl)

/-- One of legal units whose addresses resolve. -/
theorem unitCopy_sends {which : Nat} {i : Instr} (hi : exec i s = .next (s.unitCopy which e)) {n : Nat} (hn : n = s.core.cur.b.toNat) (hpos : 0 < n)
    (hmax : n ≤ 65536) (hd : s.core.cur.d.toNat % 2048 = 0) (ha : which = 1 ∨ s.core.cur.a.toNat % 2048 = 0) {dl al : List (List (Nat × Nat))}
    (hdl : s.runsOf .write ((List.range n).map fun i => (s.core.cur.d + BitVec.ofNat 64 (2048 * i), 2048)) = (dl, none, []))
    (hal : if which = 1 then al = dl else s.runsOf .read ((List.range n).map fun i => (s.core.cur.a + BitVec.ofNat 64 (2048 * i), 2048)) = (al, none, []))
    (hok : ∀ i < n, s.unitBad which f g s.core.cur.d s.core.cur.a i (firstAt dl i) (firstAt al i) = none) :
    sends s e i f g false (.units which s.core.cur.d ((List.range n).filterMap (unitAt which f dl al))) := by
  subst hn
  have halign : s.core.alignFault ((s.core.cur.d, 2048) :: if which = 1 then [] else [(s.core.cur.a, 2048)]) = none := by
    refine s.core.alignFault_none (List.forall_mem_cons.2 ⟨hd, ?_⟩)
    split
    case isTrue => exact List.forall_mem_nil _
    case isFalse h => exact List.forall_mem_singleton.2 (ha.resolve_left h)
  have hsrc : (if which = 1 then (dl, none, []) else s.runsOf .read ((List.range s.core.cur.b.toNat).map fun i =>
      (s.core.cur.a + BitVec.ofNat 64 (2048 * i), 2048))) = (al, (none : Option Word), ([] : List (Option Trap))) := by
    split at hal
    case isTrue h => rw [if_pos h, hal]
    case isFalse h => rw [if_neg h, hal]
  have hunits : (List.range s.core.cur.b.toNat).findSome? (fun i =>
      s.unitBad which f g s.core.cur.d s.core.cur.a i (firstAt dl i) (firstAt al i)) = none :=
    List.findSome?_eq_none_iff.2 fun i hi => hok i (List.mem_range.1 hi)
  refine sends_of_body hg hgroup hi ?_
  simp only [Nat.pos_iff_ne_zero.1 hpos, if_false, halign, Nat.not_lt.2 hmax, worstTrap, hdl, hsrc]
  exact State.orFault_none s (List.forall_mem_singleton.2 hunits) ..

/-! ### Joins and fences (09 R289 to R291) -/

theorem exec_bjoin_waits (w : FA) (h : s.bDone e.scope.toNat = false) : exec (.bjoin w e) s = .next s.hold :=
  congrArg Host.Outcome.next (State.bank_holds hg hgroup (if_pos (by rw [h]; rfl)))
theorem exec_bfence_waits (w : FE) (h : s.bDone e.scope.toNat = false) : exec (.bfence w e) s = .next s.hold :=
  congrArg Host.Outcome.next (State.bank_holds hg hgroup (if_pos (by rw [h]; rfl)))

section
variable (hdone : s.bDone e.scope.toNat = true)
include hdone

theorem exec_bfence_done {w : FE} (hm : w.misc.getLsbD 6 = false) :
    exec (.bfence w e) s = .next (ranWith s e (s.core.signalAt (e.tok.toNat % 8) 0)) :=
  congrArg Host.Outcome.next (State.bank_signals hg hgroup (by simp only [hdone, hm]; rfl))
/-- BFENCE with its report. -/
theorem bfence_sends {w : FE} (hm : w.misc.getLsbD 6 = true) (hal : s.core.cur.a.toNat % 8 = 0) (hin : s.core.cur.a.toNat + 8 * g ≤ 2 ^ 21) :
    sends s e (.bfence w e) f g true (.bfence s.core.cur.a.toNat) := by
  have halign : s.core.alignFault [(s.core.cur.a, 8)] = none := s.core.alignFault_none (List.forall_mem_singleton.2 hal)
  have hside := Core.sideFault_none (inside_line (s := s) (sp := 1) hin)
  refine sends_of_body hg hgroup rfl ?_
  simp only [hdone, hm, halign, hside]
  rfl

section
variable (w : FA) {loc : Nat} (hloc : s.syncLoc s.core.cur.a 16 .write s.core.sc.priv.toNat = .ok loc)
include hloc
/-- A join whose engine takes no arrival yet (11 R335, R337). -/
theorem exec_bjoin_full (hfull : s.joinFull f (homeQuad loc) = true) : exec (.bjoin w e) s = .next s.hold :=
  congrArg Host.Outcome.next (State.bank_holds hg hgroup (by simp only [hdone, hloc, hfull]; rfl))
/-- The arrival of a BJOIN, which leaves 328 of the core's running cycles after its issue. -/
def State.joinArrival (s : State) (e : EW) (f loc : Nat) : Eff :=
  { id := s.nextId, owner := s.core.owner, src := s.core.agent, clk := 18 + f, leave := s.core.flow.run + 328, stream := s.core.cur.stream, cls := 0,
    scope := e.scope.toNat, seq := s.core.cur.seq, after := [], unc := s.uncSpans (.join loc false 0), kind := .join loc false 0 }
theorem exec_bjoin (hfree : s.joinFull f (homeQuad loc) = false) : exec (.bjoin w e) s = .next (joined s e (s.joinArrival e f loc)) := by
  let c : Core := { s.core with hold := s.core.hold ++ [s.joinArrival e f loc] }
  refine congrArg Host.Outcome.next (State.bank_ran hg hgroup (t := { withCore s (c.signalOnce e s.nextId) with nextId := s.nextId + 1 })
    ?body (Core.signalOnce_cur ..) (Core.signalOnce_now ..))
  simp only [hdone, hloc, hfree, tokField_zero]
  rfl
end
end
end

end Sys2Proof.Machine

namespace Sys2Proof.Proofs
open Sys2Proof.Machine Sys2Proof.Claims

theorem bankResidency : BankResidency := by
  intro w e s f g hg hgroup
  refine ⟨?bload, ?dropNone, ?dropOwn, ?dropForeign, ?noUnits, ?units⟩
  case bload =>
    intro r base ks smode en hal hbad hfits hspace hnew hfree
    exact bload_sends hg hgroup w rfl hal hbad hfits hspace hnew hfree
  case dropNone =>
    intro hnone
    exact bdrop_sends hg hgroup w fun en hen => absurd (hnone.symm.trans hen) (Option.some_ne_none en).symm
  case dropOwn =>
    intro en hen hdom
    exact bdrop_sends hg hgroup w fun en' hen' => by rw [← Option.some.inj (hen.symm.trans hen'), hdom]
  case dropForeign => exact fun en hen hdom => exec_bdrop_foreign hg hgroup w hen hdom
  case noUnits => exact fun p hp hb => (exec_unitCopies w e s hp).trans (congrArg _ (State.unitCopy_none hg hgroup p.2 hb))
  case units =>
    intro p hp dl al n d a runs first hpos hmax hd ha hdl hal hok
    have hpart (i : Nat) (hi : i < n) : ∃ x, (first dl i).bind stackPart = some x ∧ f ≤ x.1 ∧ x.1 < f + g := by
      obtain ⟨loc, hloc⟩ := State.runsOf_first (by decide) hdl hi
      have hbad := hok i hi
      simp only [first, hloc] at hbad ⊢
      exact State.stackPart_of_unitBad hbad
    have hus : ((List.range n).filterMap (unitAt p.2 f dl al)).map some = (List.range n).map (unitAt p.2 f dl al) := by
      refine filterMap_map_some fun i hi => ?_
      obtain ⟨x, hx, -⟩ := hpart i (List.mem_range.1 hi)
      exact ⟨_, congrArg (Option.map _) hx⟩
    refine ⟨(List.range n).filterMap (unitAt p.2 f dl al), ?length, ?each,
      unitCopy_sends hg hgroup (exec_unitCopies w e s hp) rfl hpos hmax hd ha hdl hal hok⟩
    case length => simpa using congrArg List.length hus
    case each =>
      intro i hi
      obtain ⟨x, hx, hlo, hhi⟩ := hpart i hi
      have hat := congrArg (·[i]?) hus
      simp only [List.getElem?_map, List.getElem?_range hi, Option.map_some] at hat
      obtain ⟨u, hu, hunit⟩ := Option.map_eq_some_iff.1 hat
      exact ⟨x, hx, hlo, hhi, hu.trans (hunit.trans (congrArg (Option.map _) hx))⟩

theorem bankControl : BankControl := by
  intro e s
  refine ⟨fun _ => rfl, fun f g hg hgroup => ⟨?waits, fun hdone => ⟨?fence, ?report, ?full, ?arrival⟩⟩, ?ungrouped⟩
  case waits => exact fun h w v => ⟨exec_bjoin_waits hg hgroup w h, exec_bfence_waits hg hgroup v h⟩
  case fence => exact fun w hm => exec_bfence_done hg hgroup hdone hm
  case report => exact fun w hm hal hin => bfence_sends hg hgroup hdone hm hal hin
  case full => exact fun w loc hloc hfull => exec_bjoin_full hg hgroup hdone w hloc hfull
  case arrival =>
    intro w loc hloc hfree
    exact ⟨s.joinArrival e f loc, rfl, rfl, rfl, rfl, rfl, rfl, rfl, rfl, rfl, rfl, rfl, exec_bjoin hg hgroup hdone w hloc hfree⟩
  case ungrouped =>
    exact fun w hg hgroup => ⟨congrArg _ (State.bank_ungrouped hg hgroup _), congrArg _ (State.bank_ungrouped hg hgroup _)⟩

/-- Settles O37: residency and in-DRAM copies, and the joins and fences. -/
theorem bankResidencyAndControl : Obligations.BankResidencyAndControl := by
  unfold Obligations.BankResidencyAndControl
  exact ⟨bankResidency, bankControl⟩

end Sys2Proof.Proofs
end

section
/-! The bank stacks' own events: macros that arrive, are confirmed and leave outputs; what stands in a stack after its refreshes and strikes
(09 R270 to R274, R291, R293). -/

namespace Sys2Proof.Machine
open Sys2Proof.Claims

/-! ### One stack of several -/

theorem State.setStack_wf {s : State} (w : Store.wf s.bstacks = true) (n : Nat) (k : Stack) : Store.wf (s.setStack n k).bstacks = true :=
  Store.set_wf w ..
theorem stackOf_mapStack {s : State} (w : Store.wf s.bstacks = true) (n : Nat) (f : Stack → Stack) : stackOf (s.mapStack n f) n = f (stackOf s n) :=
  stackOf_setStack w n _
theorem stackOf_congr {s t : State} (h : t.bstacks = s.bstacks) (n : Nat) : stackOf t n = stackOf s n := by rw [stackOf, h]; rfl

/-! ### Macros of the strand on the current core -/

/-- What an event of a bank operation leaves alone: memory, the stacks and the strand; of the macros it changes progress words alone, and effects
only join the hold. -/
structure State.Emits (s t : State) : Prop where
  mem : t.mem = s.mem
  bstacks : t.bstacks = s.bstacks
  strand : t.core.strand = s.core.strand
  hold : ∃ hs, t.core.hold = s.core.hold ++ hs
  macros : t.core.macros.map (fun j => { j with prog := 0 }) = s.core.macros.map (fun j => { j with prog := 0 })

theorem State.Emits.refl (s : State) : s.Emits s := ⟨rfl, rfl, rfl, ⟨[], (List.append_nil _).symm⟩, rfl⟩
theorem State.Emits.trans {s t u : State} (h : s.Emits t) (k : t.Emits u) : s.Emits u := by
  obtain ⟨hs, hh⟩ := h.hold
  obtain ⟨ks, hk⟩ := k.hold
  exact ⟨k.mem.trans h.mem, k.bstacks.trans h.bstacks, k.strand.trans h.strand, ⟨hs ++ ks, by rw [hk, hh, List.append_assoc]⟩, k.macros.trans h.macros⟩

/-- The effect that an operation of the strand on the current core puts into the hold. -/
def State.macroEff (s : State) (o : Nat) (m : Macro) (clk leave : Nat) (k : EffKind) : Eff :=
  let t := { s with core := { s.core with cur := { s.core.cur with stream := 5, seq := m.seq } } }
  { id := s.nextId, owner := o, src := { level := s.core.sc.priv, domain := BitVec.ofNat 6 s.core.dom, host := false }, clk := clk, leave := leave
    stream := 5, cls := m.cls, scope := m.scope, seq := m.seq
    after := match k with
      | .inCore .. => []
      | _ => t.before m.cls m.scope false k.spans
    unc := t.uncSpans k, kind := k }

section
variable {s : State} {x : Strand} (hs : s.core.strand = some x) {o : Nat} (ho : o = s.core.owner)
include hs ho

theorem State.macroEmit_core (m : Macro) (clk leave : Nat) (k : EffKind) :
    (s.macroEmit o m clk leave k).core = { s.core with hold := s.core.hold ++ [s.macroEff o m clk leave k] } := by
  simp only [State.macroEmit, State.mapOwner_core hs ho]
  rfl
theorem State.mapMacro_core (q : Nat) (f : Macro → Macro) :
    (s.mapMacro (o, q) f).core = { s.core with macros := s.core.macros.map fun m => if m.seq = q then f m else m } := State.mapOwner_core hs ho _
theorem State.mapPos_core (q p : Nat) (f : MPos → MPos) : (s.mapPos (o, q) p f).core = { s.core with macros := mapPart s.core.macros q p f } :=
  State.mapOwner_core hs ho _
theorem State.dropMacro_core (q : Nat) : (s.dropMacro (o, q)).core = { s.core with macros := s.core.macros.filter fun m => m.seq != q } :=
  State.mapOwner_core hs ho _
theorem State.macroEmit_emits (m : Macro) (clk leave : Nat) (k : EffKind) : s.Emits (s.macroEmit o m clk leave k) := by
  have hcore := State.macroEmit_core hs ho m clk leave k
  exact ⟨rfl, rfl, by rw [hcore], ⟨_, by rw [hcore]⟩, by rw [hcore]⟩
/-- The progress word of an operation is set (09 R292). -/
theorem State.setProg_emits (q r : Nat) : s.Emits (s.mapMacro (o, q) fun m => { m with prog := r }) := by
  have hcore := State.mapMacro_core hs ho q fun m => { m with prog := r }
  refine ⟨rfl, rfl, by rw [hcore], ⟨[], by rw [hcore, List.append_nil]⟩, ?_⟩
  rw [hcore, List.map_map]
  refine List.map_congr_left fun m _ => ?_
  rw [Function.comp_apply]
  split <;> rfl
/-- The rows that an append sends (09 R282). -/
theorem State.sendRows_emits (q k : Nat) (m : Macro) : s.Emits (s.sendRows (o, q) k m) := by
  have howner {t : State} (h : s.Emits t) : t.core.strand = some x ∧ o = t.core.owner :=
    ⟨h.strand.trans hs, ho.trans (by rw [Core.owner, Core.owner, h.strand])⟩
  rw [State.sendRows]
  split
  case h_2 => exact .refl s
  case h_1 rs _ =>
    split
    case isTrue => exact .refl s
    case isFalse =>
      have hrows : s.Emits (rs.foldl (fun s r => s.macroEmit o m 0 (s.coreAt k).flow.conf
          (.cells (cellsOf r.1 (r.2.map (·.1)) fun i => (r.2.getD i (0, false)).2))) s) :=
        List.foldlRecOn (motive := s.Emits) _ _ (.refl s) fun t h r _ => h.trans (State.macroEmit_emits (howner h).1 (howner h).2 ..)
      exact hrows.trans (State.setProg_emits (howner hrows).1 (howner hrows).2 ..)
end
theorem State.sendRows_of_not_bapp {s : State} {m : Macro} (h : ∀ key r rs, m.kind ≠ .bapp key r rs) (x : Nat × Nat) (k : Nat) : s.sendRows x k m = s := by
  rw [State.sendRows]
  split
  case h_1 hk => exact absurd hk (h _ _ _)
  case h_2 => rfl

/-! ### MACRO_ARRIVAL and MACRO_COMMIT (09 R271, R291) -/

section
variable {n : BitVec 4} {s : State} {m : Macro} {x : Strand} (hs : s.core.strand = some x)
include hs

/-- Any operation but a BFENCE takes its place in the stack's order. -/
theorem exec_macroArrival (w : Store.wf s.bstacks = true) (ha : s.arriving n.toNat = [(s.id, s.core.owner, m)]) (hk : ∀ a, m.kind ≠ .bfence a) :
    ∃ t, exec (.macroArrival n) s = .next t ∧ t.mem = s.mem
      ∧ stackOf t n.toNat = { stackOf s n.toNat with
          order := (stackOf s n.toNat).order.filter (· != (s.core.owner, m.seq)) ++ [(s.core.owner, m.seq)] }
      ∧ t.core.macros = mapPart s.core.macros m.seq (n.toNat - m.g0) fun q => { q with arrived := true } := by
  have hexec : exec (.macroArrival n) s = .next ((s.mapPos (s.core.owner, m.seq) (n.toNat - m.g0) fun q => { q with arrived := true }).mapStack n.toNat
      fun t => { t with order := (t.order.filter (· != (s.core.owner, m.seq))) ++ [(s.core.owner, m.seq)] }) := by
    change Host.Outcome.next _ = _
    rw [ha, List.foldl_cons, List.foldl_nil]
    cases hkind : m.kind
    case bfence a => exact absurd hkind (hk a)
    all_goals rfl
  exact ⟨_, hexec, rfl, stackOf_mapStack (s := s.mapPos _ _ _) w .., congrArg Core.macros (State.mapPos_core hs rfl ..)⟩

/-- The report of a BFENCE goes to the scratchpad of its core (09 R291). -/
theorem exec_macroArrival_bfence {addr : Nat} (ha : s.arriving n.toNat = [(s.id, s.core.owner, m)]) (hk : m.kind = .bfence addr) :
    ∃ t, exec (.macroArrival n) s = .next t ∧ t.mem = s.mem ∧ t.bstacks = s.bstacks
      ∧ t.core.hold = s.core.hold ++ [s.macroEff s.core.owner m (18 + n.toNat) (m.issue + 16)
          (.inCore 1 (plainBytes (addr + 8 * (n.toNat - m.g0)) (natLe 8 (stackOf s n.toNat).snapshot.toNat) false))] := by
  let u := s.macroEmit s.core.owner m (18 + n.toNat) (m.issue + 16)
    (.inCore 1 (plainBytes (addr + 8 * (n.toNat - m.g0)) (natLe 8 (stackOf s n.toNat).snapshot.toNat) false))
  let v := u.mapPos (s.core.owner, m.seq) (n.toNat - m.g0) fun q => { q with arrived := true, started := true, ended := true }
  have hu : u.core = _ := State.macroEmit_core hs rfl ..
  have hv : v.core = _ := State.mapPos_core (s := u) (by rw [hu]; exact hs) (by rw [hu]; rfl) ..
  have hexec : exec (.macroArrival n) s = .next (if ((v.macroOf (s.core.owner, m.seq)).map fun m => m.2.pos.all (·.ended)).getD false
      then v.dropMacro (s.core.owner, m.seq) else v) := by
    change Host.Outcome.next _ = _
    rw [ha, List.foldl_cons, List.foldl_nil]
    simp only [hk]
    rfl
  refine ⟨_, hexec, ?_⟩
  split
  case isTrue =>
    refine ⟨rfl, rfl, ?_⟩
    rw [State.dropMacro_core (s := v) (by rw [hv, hu]; exact hs) (by rw [hv, hu]; rfl), hv, hu]
  case isFalse => exact ⟨rfl, rfl, by rw [hv, hu]⟩

/-- The issue of an operation is confirmed; an append may send its rows then (09 R271, R282). -/
theorem exec_macroCommit (hc : s.committing n.toNat = [(s.id, s.core.owner, m)]) :
    ∃ t, exec (.macroCommit n) s = .next t
      ∧ (s.mapPos (s.core.owner, m.seq) (n.toNat - m.g0) fun q => { q with committed := true }).Emits t
      ∧ ((∀ key r rs, m.kind ≠ .bapp key r rs) → t = s.mapPos (s.core.owner, m.seq) (n.toNat - m.g0) fun q => { q with committed := true }) := by
  let u := s.mapPos (s.core.owner, m.seq) (n.toNat - m.g0) fun q => { q with committed := true }
  have hu : u.core = _ := State.mapPos_core hs rfl ..
  have hexec : exec (.macroCommit n) s = .next (if n.toNat ≠ m.g0
        ∨ ((s.coreAt s.id).macros.any fun j => decide (j.seq ≤ m.seq) && j.faulted) ∨ u.awaits s.id m
      then u else u.sendRows (s.core.owner, m.seq) s.id m) := by
    change Host.Outcome.next _ = _
    rw [hc, List.foldl_cons, List.foldl_nil]
  refine ⟨_, hexec, ?_⟩
  split
  case isTrue => exact ⟨.refl u, fun _ => rfl⟩
  case isFalse =>
    exact ⟨State.sendRows_emits (s := u) (by rw [hu]; exact hs) (by rw [hu]; rfl) .., fun hk => State.sendRows_of_not_bapp hk ..⟩
end

/-! ### PRODUCT_OUTPUT (09 R274) -/

/-- Outputs come from a strand on the core alone. -/
theorem State.strand_of_producing {s : State} {m : Macro} (h : m ∈ s.producing) : ∃ x, s.core.strand = some x := by
  have hlive := (List.mem_filter.1 h).2
  cases hs : s.core.strand with
  | some x => exact ⟨x, rfl⟩
  | none => rw [hs] at hlive; simp at hlive

/-- Outputs to memory are seen 320 cycles after Pr, those to a core-local space 328. -/
theorem exec_productOutput_emits {s : State} {m : Macro} {which sp : Nat} {key ctl dst sr : Word} {parts : List (List (Nat × Nat))}
    (hp : s.producing = [m]) (hk : m.kind = .product which key ctl sp dst parts sr) :
    ∃ k, exec .productOutput s = .next ((s.macroEmit s.core.owner m (2 + m.g0) (m.outAt.getD 0 + if sp = 0 then 320 else 328) k).mapMacro
      (s.core.owner, m.seq) fun m => { m with produced := true }) := by
  change ∃ k, Host.Outcome.next _ = _
  rw [hp, List.foldl_cons, List.foldl_nil]
  simp only [hk]
  split
  · exact ⟨_, rfl⟩
  · exact ⟨_, rfl⟩
theorem exec_productOutput {s : State} {m : Macro} {which sp : Nat} {key ctl dst sr : Word} {parts : List (List (Nat × Nat))} (hp : s.producing = [m])
    (hk : m.kind = .product which key ctl sp dst parts sr) :
    ∃ t k, exec .productOutput s = .next t ∧ t.mem = s.mem
      ∧ t.core.hold = s.core.hold ++ [s.macroEff s.core.owner m (2 + m.g0) (m.outAt.getD 0 + if sp = 0 then 320 else 328) k]
      ∧ t.core.macros = s.core.macros.map fun j => if j.seq = m.seq then { j with produced := true } else j := by
  obtain ⟨x, hs⟩ := State.strand_of_producing (by rw [hp]; exact List.mem_singleton_self m)
  obtain ⟨k, hexec⟩ := exec_productOutput_emits hp hk
  have hu := State.macroEmit_core hs rfl m (2 + m.g0) (m.outAt.getD 0 + if sp = 0 then 320 else 328) k
  have ht := State.mapMacro_core (x := x) (o := s.core.owner) (by rw [hu]; exact hs) (by rw [hu]; rfl) m.seq fun m => { m with produced := true }
  exact ⟨_, k, hexec, rfl, by rw [ht, hu], by rw [ht, hu]⟩

end Sys2Proof.Machine
end

section
/-! The end of an operation in a stack: what it does to the stack, to memory and to the homes (09 R271, R272, R277, R282, R284, R287). -/

namespace Sys2Proof.Machine
open Sys2Proof.Claims

/-! ### Bytes of an in-DRAM copy that loads may not see yet (09 R287) -/

/-- Showing what a condition picks leaves none that meets it. -/
theorem Mem.showAll_ahead (m : Mem) (p : Ahead → Bool) : (m.showAll p).ahead = m.ahead.diff (m.ahead.filter p) := by
  rw [Mem.showAll]
  generalize m.ahead.filter p = l
  induction l generalizing m with
  | nil => rfl
  | cons a l ih => rw [List.foldl_cons, ih, List.diff_cons]; rfl
theorem Mem.not_of_mem_showAll {m : Mem} {p : Ahead → Bool} {a : Ahead} (h : a ∈ (m.showAll p).ahead) : p a = false := by
  rw [Mem.showAll_ahead, ← List.count_pos_iff, List.count_diff] at h
  by_contra hp
  rw [List.count_filter (by simpa using hp)] at h
  omega

/-! ### Reads from a stack's arrays (14 R446) -/

theorem State.strikeRead_bstacks (s : State) (loc n : Nat) (walk : Bool) : (s.strikeRead loc n walk).bstacks = s.bstacks := by
  unfold State.strikeRead; dsimp only; split <;> rfl
theorem State.arrayReads_bstacks (s : State) (ps : List (Nat × Nat)) : (s.arrayReads ps).bstacks = s.bstacks := by
  rw [State.arrayReads]
  split
  · exact List.foldlRecOn (motive := fun t : State => t.bstacks = s.bstacks) _ _ rfl fun _ h _ _ => (State.strikeRead_bstacks ..).trans h
  · rfl
theorem State.arrayReads_unarmed {s : State} (h : s.pkg.injCtl.getLsbD 0 = false) (ps : List (Nat × Nat)) : s.arrayReads ps = s :=
  if_neg (by rw [h]; decide)

/-! ### What is over -/

/-- Events of cores alone: memory, the homes and the stacks stand. -/
def State.coresOnly (s t : State) : Prop := t.mem = s.mem ∧ t.homes = s.homes ∧ t.bstacks = s.bstacks

theorem State.allEnded_coresOnly (s : State) (x : Nat × Nat) (m : Macro) : s.coresOnly (s.allEnded x m) := by
  rw [State.allEnded]
  split <;> exact ⟨rfl, rfl, rfl⟩

section
variable {n : BitVec 4} {s : State} {x : Nat × Nat} {c : Nat} {m : Macro} (he : s.ending n.toNat = some x) (hm : s.macroOf x = some (c, m))
include he hm

/-- What ends leaves its effect, and its place in the stack's order is free (09 R271). -/
theorem exec_macroEnd (w : Store.wf (s.endEffect n.toNat x m).bstacks = true) :
    ∃ t, exec (.macroEnd n) s = .next t ∧ t.mem = (s.endEffect n.toNat x m).mem ∧ t.homes = (s.endEffect n.toNat x m).homes
      ∧ stackOf t n.toNat = { stackOf (s.endEffect n.toNat x m) n.toNat with
          order := (stackOf (s.endEffect n.toNat x m) n.toNat).order.filter (· != x) } := by
  let u := ((s.endEffect n.toNat x m).mapPos x (n.toNat - m.g0) fun q => { q with ended := true }).mapStack n.toNat fun k =>
    { k with order := k.order.filter fun y => y != x }
  have hu : stackOf u n.toNat = _ := stackOf_mapStack (s := (s.endEffect n.toNat x m).mapPos ..) w n.toNat _
  have hover (t : State) (h : u.coresOnly t) : t.mem = (s.endEffect n.toNat x m).mem ∧ t.homes = (s.endEffect n.toNat x m).homes
      ∧ stackOf t n.toNat = { stackOf (s.endEffect n.toNat x m) n.toNat with
          order := (stackOf (s.endEffect n.toNat x m) n.toNat).order.filter (· != x) } := by
    obtain ⟨hmem, hhomes, hstacks⟩ := h
    exact ⟨hmem, hhomes, (stackOf_congr hstacks _).trans hu⟩
  have hexec : exec (.macroEnd n) s = .next (match u.macroOf x with
      | none => u
      | some (_, m) => if m.over then u.allEnded x m else u) := by
    change Host.Outcome.next _ = _
    simp only [he, hm]
    rfl
  refine ⟨_, hexec, hover _ ?_⟩
  split
  case h_1 => exact ⟨rfl, rfl, rfl⟩
  case h_2 m' _ =>
    split
    · exact u.allEnded_coresOnly x m'
    · exact ⟨rfl, rfl, rfl⟩
end

/-! ### What each kind does as it ends -/

section
variable {s : State} (w : Store.wf s.bstacks = true) (n : Nat) (x : Nat × Nat) {m : Macro}
include w

theorem State.endEffect_wf (m : Macro) : Store.wf (s.endEffect n x m).bstacks = true := by
  rw [State.endEffect]
  split
  case h_2 =>
    split
    · exact w
    · exact State.setStack_wf (by rw [State.arrayReads_bstacks]; exact w) ..
  case h_1 => exact State.setStack_wf (s := s.mapOwner ..) w ..
  case h_4 => exact State.setStack_wf w ..
  all_goals exact w

/-- A BACT writes its lanes' slots (09 R277). -/
theorem State.endEffect_bact {slot slice : Nat} {data : List (Byte × Bool)} (hk : m.kind = .bact slot slice data) :
    (s.endEffect n x m).mem = s.mem
      ∧ stackOf (s.endEffect n x m) n = { stackOf s n with
          act := setBytes (stackOf s n).act (actCells n m slot slice data)
          actBlot := setBlots (stackOf s n).actBlot (actCells n m slot slice data) } := by
  simp only [State.endEffect, hk]
  exact ⟨rfl, stackOf_setStack (s := s.mapOwner ..) w ..⟩

/-- A product writes its sums into the accumulators (09 R272, R280). -/
theorem State.endEffect_product {which sp : Nat} {key ctl dst sr : Word} {parts : List (List (Nat × Nat))} {e : Entry}
    (hk : m.kind = .product which key ctl sp dst parts sr) (he : s.entryFor n m key = some e) :
    let u := s.arrayReads (e.reads n (n - m.g0) (Ctl.row0 ctl) (Ctl.rows ctl))
    (s.endEffect n x m).mem = u.mem
      ∧ stackOf (s.endEffect n x m) n = { stackOf s n with
          acc := (productSums (u.mem.array n) ((m.at n).inputs (stackOf s n)) e which n (n - m.g0) ctl).2.foldl
            (fun a y => Store.set a y.1 (BitVec.ofNat 32 y.2)) (stackOf s n).acc
          undo := (stackOf s n).undo ++ [(x, e.lefts (n - m.g0) (Ctl.row0 ctl) (Ctl.rows ctl))] } := by
  intro u
  simp only [State.endEffect, hk, he]
  exact ⟨rfl, stackOf_setStack (s := u) (by rw [State.arrayReads_bstacks]; exact w) ..⟩

/-- A BDROP takes the replica's entry out of the table (09 R284). -/
theorem State.endEffect_bdrop {key : Word} (hk : m.kind = .bdrop key) {gone : Entry → Bool}
    (hgone : gone = fun e => e.valid && e.key == key && 2 ^ e.glog == m.g && e.gpos == n - m.g0) :
    (s.endEffect n x m).mem = s.mem
      ∧ (stackOf (s.endEffect n x m) n).order = (stackOf s n).order
      ∧ (stackOf (s.endEffect n x m) n).table = (stackOf s n).table.filter (fun e => !gone e.2)
      ∧ (s.endEffect n x m).homes = s.homes.filter fun h =>
          !(h.stack == n && (((stackOf s n).table.filter fun e => gone e.2).map fun e => Entry.base e.2).contains h.base) := by
  subst hgone
  have hstack (k : Stack) (hs : List HomeRun) : stackOf { s.setStack n k with homes := hs } n = k := stackOf_setStack w n k
  simp only [State.endEffect, hk, hstack]
  trivial
end
/-- An in-DRAM copy shows what it wrote (09 R287). -/
theorem State.endEffect_units (s : State) (n : Nat) (x : Nat × Nat) {m : Macro} {which : Nat} {d : Word} {us : List (Nat × Nat × Nat)}
    (hk : m.kind = .units which d us) : s.endEffect n x m
      = { s with mem := s.mem.showAll fun a => us.any fun u => u.1 == n - m.g0 && a.meets (stackLoc n u.2.1) 2048 } := by
  simp only [State.endEffect, hk]
/-- A LOCAL append has written its rows already (09 R282). -/
theorem State.endEffect_bapp (s : State) (n : Nat) (x : Nat × Nat) {m : Macro} {key : Word} {r0 : Nat}
    {rs : List (List (Nat × Nat) × List (Byte × Bool))} (hk : m.kind = .bapp key r0 rs) : s.endEffect n x m = s := by
  simp only [State.endEffect, hk]

end Sys2Proof.Machine
end

section
/-! Windows of in-DRAM copies and LOCAL appends, replicas that become resident, refreshes and strikes (09 R265, R266, R270, R282, R286, R287,
R293). -/

namespace Sys2Proof.Machine
open Sys2Proof.Claims

/-! ### A unit of an in-DRAM copy is written (09 R286, R287) -/

theorem State.unitRead_bytes (s : State) (n off : Nat) : (s.unitRead n off).map (·.1) = (s.mem.array n).bytes (stackLoc n off) 2048 := by
  refine List.ext_getElem (by simp [State.unitRead]) fun i h1 h2 => ?_
  simp [State.unitRead]
theorem State.unitRead_length (s : State) (n off : Nat) : (s.unitRead n off).length = 2048 := by
  simp only [State.unitRead, Mem.bytes, List.length_mapIdx, List.length_map, List.length_range]
theorem Mem.forward_nil (m : Mem) (loc : Nat) (bs : List Byte) (blot part : Bool) : m.forward [] loc bs blot part = m := rfl

/-- The unit's bytes, location by location, as loads may still miss them. -/
def aheadUnit (a : Nat) (bs : List (Byte × Bool)) : List Ahead := (List.range 256).map fun i =>
  { loc := a + 8 * i, bs := ((bs.drop (8 * i)).take 8).map (·.1), blot := ((bs.drop (8 * i / 64 * 64)).take 64).any (·.2), clear := true }
theorem State.unitWrite_ahead {s : State} (h : s.homes = []) (n off : Nat) (bs : List (Byte × Bool)) :
    (s.unitWrite n off bs).mem.ahead = (s.mem.overtake (stackLoc n off) 2048 false).ahead ++ aheadUnit (stackLoc n off) bs := by
  simp only [State.unitWrite, h, Mem.forward_nil]
  rfl
/-- Pieces of `k` from a list that holds `c` of them. -/
theorem flatMap_pieces {α : Type} (k c : Nat) {l : List α} (h : l.length = k * c) : ((List.range c).flatMap fun i => (l.drop (k * i)).take k) = l := by
  induction c generalizing l with
  | zero => rw [List.length_eq_zero_iff.1 h]; rfl
  | succ c ih =>
    have hrest : (l.drop k).length = k * c := by rw [List.length_drop, h, Nat.mul_succ]; omega
    have hshift (i : Nat) : (l.drop (k * (i + 1))).take k = ((l.drop k).drop (k * i)).take k := by rw [List.drop_drop, Nat.mul_succ, Nat.add_comm]
    rw [List.range_succ_eq_map, List.flatMap_cons, List.flatMap_map]
    simp only [Nat.mul_zero, List.drop_zero, hshift, ih hrest]
    exact List.take_append_drop k l
theorem aheadUnit_spans (a : Nat) {bs : List (Byte × Bool)} (h : bs.length = 2048) :
    (aheadUnit a bs).map (fun x => (x.loc, x.bs.length)) = (List.range 256).map fun i => (a + 8 * i, 8) := by
  rw [aheadUnit, List.map_map]
  refine List.map_congr_left fun i hi => ?_
  have := List.mem_range.1 hi
  simp only [Function.comp_apply, List.length_map, List.length_take, List.length_drop, h]
  rw [Nat.min_eq_left (by omega)]
theorem aheadUnit_bytes (a : Nat) {bs : List (Byte × Bool)} (h : bs.length = 2048) : (aheadUnit a bs).flatMap (fun x => x.bs) = bs.map (·.1) := by
  rw [aheadUnit, List.flatMap_map]
  refine Eq.trans ?_ (flatMap_pieces 8 256 (l := bs.map (·.1)) (by rw [List.length_map, h]))
  simp only [List.map_take, List.map_drop]

/-- A copy's last unit in a stack ends its second window (09 R286). -/
theorem State.unitWindow_last {s : State} {n which c : Nat} {x : Nat × Nat} {q : MPos} {m : Macro} {u : Nat × Nat × Nat} (hm : s.macroOf x = some (c, m))
    (h2 : which ≠ 2) (href : (stackOf s n).refreshing = []) (htodo : q.todo = [u]) (hhalf : q.half = [bankIx u.2.1])
    (hinj : which ≠ 1 → s.pkg.injCtl.getLsbD 0 = false) :
    (s.unitWindow n x which false q).mem = (s.unitWrite n u.2.1 (if which = 1 then List.replicate 2048 (0, false) else s.unitRead n u.2.2)).mem := by
  have hread : (if which = 1 then s else s.arrayReads [(stackLoc n u.2.2, 2048)]) = s := by
    split
    case isTrue => rfl
    case isFalse h => exact State.arrayReads_unarmed (hinj h) _
  have hfront : frontUnits (fun l => !(stackOf s n).refreshing.contains l) [] q.todo = [u] := by rw [htodo, href]; rfl
  have hdone : ([u].filter fun u => !false || q.half.contains (bankIx u.2.1)).filter (fun u => q.half.contains (bankIx u.2.1)) = [u] := by
    simp [hhalf]
  simp only [State.unitWindow, hm, if_neg h2, hfront, hdone, List.foldl_cons, List.foldl_nil, hread]
  rfl

/-! ### A window of a LOCAL append (09 R282) -/

theorem State.appendRow_mem (s : State) (n p : Nat) (e : Entry) (l o : Nat) (bs : List (Byte × Bool)) :
    (s.appendRow n p e l o bs).mem = (e.parts p l o).foldl (fun w z =>
      let b := (bs.drop z.2.1).take z.2.2.1
      w.putLane n e.base l (b.any (·.2)) false (b.length / 4096 + 2) z.2.2.2 (b.map (·.1))) s.mem :=
  (List.foldl_hom State.mem fun _ _ => rfl).symm
/-- A fold that does something for chosen pairs alone is the fold over those pairs. -/
theorem foldl_chosen_pairs {α β γ : Type} (f : γ → α → β → γ) (p : α → β → Bool) (as : List α) (bs : List β) (init : γ) :
    as.foldl (fun s a => bs.foldl (fun s b => if p a b then f s a b else s) s) init
      = (as.flatMap fun a => (bs.filter (p a)).map fun b => (a, b)).foldl (fun s y => f s y.1 y.2) init := by
  rw [List.foldl_flatMap]
  simp only [List.foldl_map, List.foldl_filter]

theorem State.appendWindow_mem {s : State} {n : Nat} (x : Nat × Nat) {m : Macro} {key : Word} {e : Entry} (he : s.entryFor n m key = some e)
    (href : (stackOf s n).refreshing = []) (r0 : Nat) (rs : List (List (Byte × Bool))) {before after : Store Nat} (hb : before = (m.at n).left)
    (ha : after = before.foldl (fun st y => st.set y.1 (y.2 - 1)) before) :
    (s.appendWindow n x m key r0 rs false).mem = ((List.range rs.length).flatMap fun i => ((List.range 256).filter fun l =>
        e.holds (n - m.g0) l (r0 + i) && e.rowDone (n - m.g0) l r0 rs.length i (after.get l)
          && !e.rowDone (n - m.g0) l r0 rs.length i (before.get l)).map fun l => (i, l)).foldl
      (fun w y => (e.parts (n - m.g0) y.2 (r0 + y.1)).foldl (fun w z =>
        let b := ((rs.getD y.1 []).drop z.2.1).take z.2.2.1
        w.putLane n e.base y.2 (b.any (·.2)) false (b.length / 4096 + 2) z.2.2.2 (b.map (·.1))) w) s.mem := by
  subst ha hb
  refine Eq.trans ?_ (List.foldl_hom State.mem (g₁ := fun (s : State) (y : Nat × Nat) => s.appendRow n (n - m.g0) e y.2 (r0 + y.1) (rs.getD y.1 []))
    fun t y => (State.appendRow_mem ..).symm).symm
  rw [← foldl_chosen_pairs (fun (s : State) i l => s.appendRow n (n - m.g0) e l (r0 + i) (rs.getD i []))]
  simp only [State.appendWindow, he, href, List.contains_nil, Bool.false_and, Bool.or_self, Bool.false_eq_true, if_false]
  split <;> rfl

end Sys2Proof.Machine
end

section
/-! Replicas that become resident, refreshes and strikes of the bank stacks (09 R265, R266, R270, R293). -/

namespace Sys2Proof.Machine
open Sys2Proof.Claims

/-! ### Refreshes (09 R270) -/

theorem exec_refreshPeriodChange {n : BitVec 4} {s : State} (w : Store.wf s.bstacks = true) :
    ∃ t, exec (.refreshPeriodChange n) s = .next t ∧ stackOf t n.toNat = { stackOf s n.toNat with fast := (stackOf s n.toNat).hot }
      ∧ t.core = s.core ∧ t.mem = s.mem :=
  ⟨_, rfl, stackOf_mapStack w .., rfl, rfl⟩
theorem exec_refresh {n : BitVec 4} {s : State} (w : Store.wf s.bstacks = true) (l : BitVec 8) :
    ∃ t, exec (.refresh n l) s = .next t ∧ stackOf t n.toNat = { stackOf s n.toNat with refreshing := (stackOf s n.toNat).refreshing ++ [l.toNat] }
      ∧ t.core = s.core ∧ t.mem = s.mem :=
  ⟨_, rfl, stackOf_mapStack w .., rfl, rfl⟩

/-! ### STATE 2 (09 R265, Table 9.2) -/

theorem Entry.state_setState_two (e : Entry) : (e.setState 2).state = 2 := by
  have hbits : (e.setState 2).extractLsb' 65 2 = 2#2 := by
    refine BitVec.eq_of_getLsbD_eq fun i hi => ?_
    obtain rfl | rfl : i = 0 ∨ i = 1 := by omega
    all_goals simp [Entry.setState]
  exact congrArg BitVec.toNat hbits
theorem State.resident_state (s : State) (n : Nat) (h : Hyd) : Entry.state ((stackOf (s.resident n h) n).table.get h.entry) = 2 := by
  have hne : Entry.setState ((stackOf s n).table.get h.entry) 2 ≠ default :=
    fun h0 => absurd (Entry.state_setState_two ((stackOf s n).table.get h.entry)) (by rw [h0]; decide)
  have hget := Store.get_set_of_ne_default (stackOf s n).table h.entry h.entry hne
  rw [if_pos rfl] at hget
  have hstack : stackOf (s.resident n h) n = _ := stackOf_setStack_of_ne s n (k := { stackOf s n with
    hydrate := (stackOf s n).hydrate.filter (· != h)
    table := (stackOf s n).table.set h.entry (Entry.setState ((stackOf s n).table.get h.entry) 2) }) fun h0 =>
      hne (hget.symm.trans (congrArg (fun k : Stack => k.table.get h.entry) h0))
  rw [hstack, hget, Entry.state_setState_two]

/-! ### The footprint of a LOCAL replica becomes 0 (09 R266) -/

theorem State.send_mem (s : State) (core owner t : Nat) (src : Agent) (k : EffKind) (source : Nat) (back : Option Nat) :
    (s.send core owner t src k source back).mem = s.mem := by
  rw [State.send, State.takeTxn]
  split <;> rfl
theorem State.wake_mem (s : State) (x : Waiter) : (s.wake x).mem = s.mem := by
  rw [State.wake]
  split
  · rfl
  · exact State.send_mem ..
theorem State.wakeAll_mem (s : State) (loc n : Nat) : (s.wakeAll loc n).mem = s.mem :=
  List.foldlRecOn (motive := fun t : State => t.mem = s.mem) _ _ rfl fun _ h _ _ => (State.wake_mem ..).trans h
theorem State.fireAll_mem (s : State) (loc n : Nat) : (s.fireAll loc n).mem = s.mem := by
  unfold State.fireAll
  extract_lets at_ t
  have ht : t.mem = s.mem := List.foldlRecOn (motive := fun t : State => t.mem = s.mem) _ _ rfl fun u h e _ => by
    dsimp only
    split
    · exact h
    · rw [apply_ite State.mem, State.send_mem]
      exact (ite_self _).trans h
  split <;> exact ht
theorem Store.get_of_forall_ne {α : Type} [Inhabited α] [DecidableEq α] {m : Store α} {k : Nat} (h : ∀ e ∈ m, e.1 ≠ k) : m.get k = default := by
  by_contra hne
  exact h _ (Store.mem_of_get_ne_default hne) rfl
theorem State.zeroFill_byte {s : State} {n a : Nat} {e : Entry} (ha : a < 2 ^ 20 * e.units) (hd : s.mem.dirty.get (stackLoc n e.base + a) = none)
    (hk : s.mem.keyed.get (paOf (stackLoc n e.base + a) / 64) = none) : (s.zeroFill n e).mem.byte (stackLoc n e.base + a) = 0 := by
  rw [State.zeroFill, State.fireAll_mem, State.wakeAll_mem]
  simp only [Mem.byte, hd, hk]
  refine Store.get_of_forall_ne fun c hc => ?_
  have hout := (List.mem_filter.1 hc).2
  rw [Bool.or_eq_true, decide_eq_true_iff, decide_eq_true_iff] at hout
  omega

/-! ### HYDRATION_COMPLETE (09 R265, R266) -/

section
variable {n : BitVec 4} {entry : BitVec 8} {s : State} {h : Hyd} (hdue : s.dueHyd n.toNat = some h) (hentry : h.entry = entry.toNat)
  {e : Entry} (he : e = (stackOf s n.toNat).table.get h.entry) (horigin : h.origin = none)
include hdue hentry he horigin

theorem exec_hydrationComplete_local (hlocal : e.isLocal = true) :
    exec (.hydrationComplete n entry) s = .next ((s.zeroFill n.toNat e).resident n.toNat h) := by
  change Host.Outcome.next _ = _
  simp only [hdue, if_neg (not_not_intro hentry), horigin, ← he, hlocal]
  rfl
/-- A replica whose remaining rows are all through. -/
theorem exec_hydrationComplete_home (hlocal : e.isLocal = false) {u : State} {c : Nat}
    (hrows : State.hydRows n.toNat e 1 (((List.range e.o).filter fun o => (List.range 256).any fun l => e.holds e.gpos l o).drop h.rows)
      (s.registerGroup n.toNat e 1) = (u, .done, c)) :
    ∃ t, exec (.hydrationComplete n entry) s = .next t ∧ t.mem = u.mem ∧ Entry.state ((stackOf t n.toNat).table.get h.entry) = 2 := by
  let h' : Hyd := { h with
    rows := h.rows + c
    due := s.wall + 1
    origin := none }
  let v := u.mapStack n.toNat fun k => { k with hydrate := k.hydrate.map fun y => if y = h then h' else y }
  have hexec : exec (.hydrationComplete n entry) s = .next (v.resident n.toNat h') := by
    change Host.Outcome.next _ = _
    simp only [hdue, if_neg (not_not_intro hentry), horigin, ← he, hlocal]
    simp only [Option.bind_none, Option.isSome_none, Bool.false_and, Bool.false_eq_true, if_false, hrows]
    rfl
  exact ⟨_, hexec, rfl, State.resident_state v n.toNat h'⟩
end

/-! ### STRIKE_LANE (09 R293) -/

theorem exec_strikeLane {n : BitVec 4} {s : State} (w : Store.wf s.bstacks = true) :
    ∃ t l, exec (.strikeLane n) s = .next t ∧ t.mem = s.mem ∧ stackOf t n.toNat = { stackOf s n.toNat with again := l }
      ∧ ((stackOf s n.toNat).undo ≠ [] →
        l = (if (stackOf s n.toNat).cyc % 64 = 0 then [] else [(none, [])]) ++ (stackOf s n.toNat).undo.map fun u => (some u.1, u.2)) := by
  change ∃ t l, execStrikeLane n s = .next t ∧ _
  unfold execStrikeLane
  extract_lets st k running count mine u rest src v
  clear_value running
  have hu : s.coresOnly u := by
    dsimp only [u]
    split
    · split
      · split <;> exact ⟨rfl, rfl, rfl⟩
      · exact ⟨rfl, rfl, rfl⟩
    · exact ⟨rfl, rfl, rfl⟩
  obtain ⟨hmem, -, hstacks⟩ := hu
  have hv : stackOf v st = _ := stackOf_setStack (by rw [hstacks]; exact w) ..
  have hsrc : src = stackOf s st := stackOf_congr hstacks st
  refine ⟨_, if count = 0 then k.again else rest ++ k.undo.map fun u => (some u.1, u.2), rfl, hmem, hv.trans (by rw [hsrc]), fun hundo => if_neg ?_⟩
  have hlen : 0 < k.undo.length := List.length_pos_iff.2 hundo
  have hcount : k.undo.length ≤ count := Nat.le_add_right ..
  omega

end Sys2Proof.Machine

namespace Sys2Proof.Proofs
open Sys2Proof.Machine Sys2Proof.Claims

/-- Settles O44: each event of the stacks, with what it leaves of the stack, of memory and of the core. -/
theorem bankStacks : Obligations.BankStacks := by
  unfold Obligations.BankStacks
  intro n s w k
  refine ⟨?period, ?refresh, ?arrival, ?commit, ?bact, ?product, ?units, ?bapp, ?bdrop, ?bfence, ?unitWindow, ?appendWindow, ?output, ?hydration, ?strike⟩
  case period => exact exec_refreshPeriodChange w
  case refresh => exact exec_refresh w
  case arrival => exact fun m x hs ha hk => exec_macroArrival hs w ha hk
  case commit =>
    intro m x hs hc
    obtain ⟨t, hexec, hemits, hsame⟩ := exec_macroCommit hs hc
    have hcore := State.mapPos_core hs rfl m.seq (n.toNat - m.g0) fun q => { q with committed := true }
    refine ⟨t, hexec, hemits.mem, hemits.bstacks, ?hold, ?macros, fun hk => ?unchanged⟩
    case hold => obtain ⟨es, h⟩ := hemits.hold; exact ⟨es, by rw [h, hcore]⟩
    case macros => rw [hemits.macros, hcore]
    case unchanged => rw [hsame hk, hcore]; exact ⟨rfl, rfl⟩
  case bact =>
    intro x c m slot slice data he hm hk
    obtain ⟨t, hexec, hmem, -, hstack⟩ := exec_macroEnd he hm (State.endEffect_wf w ..)
    obtain ⟨hmem', hstack'⟩ := State.endEffect_bact w n.toNat x hk
    rw [hstack'] at hstack
    exact ⟨t, hexec, hmem.trans hmem', by rw [hstack], by rw [hstack], by rw [hstack]⟩
  case product =>
    intro x c m which key ctl sp dst parts sr e he hm hk hentry u
    obtain ⟨t, hexec, hmem, -, hstack⟩ := exec_macroEnd he hm (State.endEffect_wf w ..)
    obtain ⟨hmem', hstack'⟩ := State.endEffect_product w n.toNat x hk hentry
    rw [hstack'] at hstack
    refine ⟨t, hexec, hmem.trans hmem', fun hinj => ?_, by rw [hstack], by rw [hstack]⟩
    rw [hmem, hmem', State.arrayReads_unarmed hinj]
  case units =>
    intro x c m which d us he hm hk
    obtain ⟨t, hexec, hmem, -, hstack⟩ := exec_macroEnd he hm (State.endEffect_wf w ..)
    rw [State.endEffect_units s n.toNat x hk] at hmem hstack
    refine ⟨t, hexec, (congrArg Stack.table hstack :), (congrArg Stack.order hstack :), hmem, fun a ha u hu hpos => ?_⟩
    rw [hmem] at ha
    have hshown := List.any_eq_false.1 (Mem.not_of_mem_showAll ha) u hu
    simpa [hpos] using hshown
  case bapp =>
    intro x c m key r0 rs he hm hk
    obtain ⟨t, hexec, hmem, -, hstack⟩ := exec_macroEnd he hm (State.endEffect_wf w ..)
    rw [State.endEffect_bapp s n.toNat x hk] at hmem hstack
    exact ⟨t, hexec, hmem, (congrArg Stack.table hstack :), (congrArg Stack.act hstack :), (congrArg Stack.order hstack :)⟩
  case bdrop =>
    intro x c m key he hm hk gone
    obtain ⟨t, hexec, hmem, hhomes, hstack⟩ := exec_macroEnd he hm (State.endEffect_wf w ..)
    obtain ⟨hmem', horder, htable, hhomes'⟩ := State.endEffect_bdrop w n.toNat x hk rfl
    exact ⟨t, hexec, hmem.trans hmem', by rw [hstack, horder], by rw [hstack, htable], hhomes.trans hhomes'⟩
  case bfence =>
    intro m x addr hs ha hk
    obtain ⟨t, hexec, hmem, hstacks, hhold⟩ := exec_macroArrival_bfence hs ha hk
    refine ⟨t, _, hexec, hmem, hstacks, hhold, rfl, rfl, rfl, rfl, rfl, congrArg (EffKind.inCore 1) ?_⟩
    rw [plainBytes, natLe_eq_map, mapIdx_map_range]
    simp only [Nat.pow_mul]
    rfl
  case unitWindow =>
    intro x which d us c m u hm hk h2 href htodo hhalf hhomes hinj
    have hlen : (if which = 1 then List.replicate 2048 (0, false) else s.unitRead n.toNat u.2.2).length = 2048 := by
      split
      · exact List.length_replicate
      · exact s.unitRead_length ..
    refine ⟨aheadUnit (stackLoc n.toNat u.2.1) (if which = 1 then List.replicate 2048 (0, false) else s.unitRead n.toNat u.2.2), ?_,
      aheadUnit_spans _ hlen, (aheadUnit_bytes _ hlen).trans ?_⟩
    · rw [State.unitWindow_last hm h2 href htodo hhalf hinj, State.unitWrite_ahead hhomes]
    · rw [apply_ite (List.map _), State.unitRead_bytes, List.map_replicate]
  case appendWindow =>
    intro x m key r0 rs e he href p before after
    exact State.appendWindow_mem x he href r0 rs rfl rfl
  case output =>
    intro m which key ctl sp dst parts sr hp hk
    obtain ⟨t, kind, hexec, hmem, hhold, hmacros⟩ := exec_productOutput hp hk
    exact ⟨t, _, hexec, hmem, hhold, rfl, rfl, rfl, rfl, rfl, hmacros⟩
  case hydration =>
    intro h entry e hdue hentry he horigin
    refine ⟨fun hlocal => ⟨_, exec_hydrationComplete_local hdue hentry he horigin hlocal, State.resident_state .., ?zero⟩,
      fun u c hlocal hrows => exec_hydrationComplete_home hdue hentry he horigin hlocal hrows⟩
    case zero => exact fun a ha hd hkey => State.zeroFill_byte ha hd hkey
  case strike =>
    obtain ⟨t, l, hexec, hmem, hstack, hagain⟩ := exec_strikeLane (n := n) w
    exact ⟨t, hexec, hmem, (congrArg Stack.acc hstack :), (congrArg Stack.act hstack :), fun hundo => (congrArg Stack.again hstack :).trans (hagain hundo)⟩

end Sys2Proof.Proofs
end
